-- ==== Sys2Proof/Word.lean ====
section
/-! DEFINITION. The plain words of the model: bytes, byte strings and the little-endian and
big-endian number codings of R15. -/

namespace Sys2Proof

/-- One octet. -/
abbrev Byte := BitVec 8

/-- An octet string, first byte first. -/
abbrev Bytes := List (BitVec 8)

/-- A 64-bit token or field-port identifier (R121, R156). -/
abbrev Ident := BitVec 64

/-- `k` bytes of `n`, least significant byte first (R15); bits beyond `8 * k` are dropped. -/
def leN : Nat → Nat → Bytes
  | 0, _ => []
  | k + 1, n => BitVec.ofNat 8 n :: leN k (n / 256)

/-- `k` bytes of `n`, most significant byte first (R15, elliptic-curve data and air frames). -/
def beN (k n : Nat) : Bytes := (leN k n).reverse

/-- The number a little-endian byte string spells. -/
def ofLe : Bytes → Nat
  | [] => 0
  | b :: r => b.toNat + 256 * ofLe r

/-- The number a big-endian byte string spells. -/
def ofBe (b : Bytes) : Nat := b.foldl (fun n x => n * 256 + x.toNat) 0

/-- `n` zero bytes. -/
abbrev zeros (n : Nat) : Bytes := List.replicate n 0#8

/-- Bytes `[off, off + len)` of `b`, short when `b` is short. -/
abbrev slice (b : Bytes) (off len : Nat) : Bytes := (b.drop off).take len

/-- Byte `i` of `b`, 0 past its end. -/
abbrev byteAt (b : Bytes) (i : Nat) : Byte := b.getD i 0#8

/-- `b` cut or filled with zero bytes to exactly `n` bytes. -/
def padTo (n : Nat) (b : Bytes) : Bytes := b.take n ++ zeros (n - b.length)

/-- Bytewise exclusive or, as long as the shorter operand. -/
def xorBytes (a b : Bytes) : Bytes := List.zipWith (· ^^^ ·) a b

/-- A signed number of `w` bits as its two's complement pattern. -/
def twos (w : Nat) (i : Int) : Nat := (BitVec.ofInt w i).toNat

/-- Two's complement reading of the low `w` bits of `n`. -/
def untwos (w n : Nat) : Int := (BitVec.ofNat w n).toInt

/-- A Boolean as the bit it stands for. -/
abbrev b2n (b : Bool) : Nat := if b then 1 else 0

/-- Serial-number comparison of 32-bit sequence numbers: `a` is newer than `b` (R331, R306). -/
def serialNewer (w a b : Nat) : Bool :=
  let d := (a + 2 ^ w - b % 2 ^ w) % 2 ^ w
  d != 0 && d < 2 ^ (w - 1)

end Sys2Proof
end

