-- ==== Sys2Proof/Syntax.lean ====
section
/-! DEFINITION. The commands of the block: one constructor of `Instr` for each row of
spec/opcode_table.json. A host clause carries its frame header and its arguments as bytes (where a row is one
operation of a verb, the arguments after the operation byte, which the row itself supplies); an event carries what
the outside world or an analogue part supplies at that instant. -/

namespace Sys2Proof

/-- The two host ports (R54). -/
inductive PortId where
  | a
  | b
deriving DecidableEq, Repr

/-- The two processing lanes (R16); also used for the two noise sources and the two release outputs. -/
inductive LaneId where
  | a
  | b
deriving DecidableEq, Repr

/-- How a clause frame is sealed (R70 to R73). `sealed` gives the counter and the GCM tag it carries (its
ciphertext is the inner arguments under the port's session key); `short` is FLAGS[0] = 1 with fewer than 24 bytes. -/
inductive Sealing where
  | openClause
  | sealed (counter : BitVec 64) (tag : BitVec 128)
  | short
deriving DecidableEq, Repr

/-- What a clause frame says beside its verb and arguments (Table 03.4). Bit 0 of `flags` is given by `sealing`. -/
structure Hdr where
  port : PortId
  flags : Byte
  seq : BitVec 16
  sealing : Sealing
deriving DecidableEq, Repr

/-- The outcome of writing both banks (R333). -/
inductive BankOutcome where
  | ok
  | firstFails
  | secondFails
  | lostInFirst
  | lostInSecond
deriving DecidableEq, Repr

/-- The two kinds of bank (R331). -/
inductive BankKind where
  | configuration
  | thallus
deriving DecidableEq, Repr

/-- Condition of one bank (R331, Table 14.12). -/
inductive BankCond where
  | valid
  | badHeader
  | badDigest
  | belowHighWater
deriving DecidableEq, Repr

/-- Results of the test elements of SELFTEST and KAT (Table 15.5): what failed; a word of a lane's private SRAM or of the shared
SRAM that ECC cannot correct; the bytes of a bank, with its kind (false is bank 0), that a margin read finds changed. -/
structure TestResult where
  failed : BitVec 16
  lanes : Byte
  aes : Byte
  ecc : Byte
  link : Byte
  sramCorrected : Nat
  nvmRefreshed : Nat
  sram : Option (Option LaneId) := none
  nvm : Option (BankKind × Bool × List (Nat × Byte)) := none
deriving DecidableEq, Repr

/-- An event of the MOTION domain in a MOTION cycle: an edge of a speed input that its filter passes, its change back, a count
edge of a timer, the linked actions that are due (R212, R235, R241). -/
inductive MotionEvent where
  | edge (n cycle held : Nat)
  | level (n : Nat) (level : Bool) (held : Nat)
  | count (n cycle : Nat)
  | linked (cycle : Nat)
deriving DecidableEq, Repr

/-- What a tick finds: whether the two lanes' results match (R16), the die temperature in thousandths of a degree
Celsius (R105), and the tamper conditions present (bit code − 1, Table 14.11). -/
structure TickIn where
  matched : Bool
  dieTemp : Int
  present : BitVec 16
  /-- What the MOTION domain sees between the write cycle of the tick that ends and the snapshot of the next one (R394). -/
  motion : List MotionEvent := []
deriving DecidableEq, Repr

/-- Measurements of one channel in the carrier lead (R98, R101): the gain-0 input in thousandths of full scale and
the phase error of its current in phase steps. -/
structure LeadMeasure where
  channel : Nat
  inputPermille : Nat
  phaseError : Int
deriving DecidableEq, Repr

/-- One channel's peak current in units of 0.978 mA (R88) and its conduction angle (R99). -/
structure LoopMeasure where
  channel : Nat
  current : Nat
  angle : Nat
deriving DecidableEq, Repr

/-- Which switches tripped (Table 04.10). -/
inductive ShortKind where
  | gnd
  | supply
  | bridge
deriving DecidableEq, Repr

/-- Class of an uplink cell (R124). -/
inductive CellClass where
  | zero
  | one
  | collided
  | void
deriving DecidableEq, Repr

/-- One uplink cell at one receiver (R122, R124, R182, R184): the demodulated raw I/Q of its two halves, and the offset of
its onset of load from the nominal one, in phase steps. -/
structure RxCell where
  first : Int × Int
  second : Int × Int
  onset : Int := 0
deriving DecidableEq, Repr

/-- One receiver over a reply window (R97, R108, R182, R184): the energy of a half in the quiet interval, whether it clipped,
its carrier input in thousandths of full scale, and the cells of the reply, preamble first. -/
structure Receiver where
  noise : Nat := 0
  clipped : Bool := false
  carrier : Nat := 1000
  cells : List RxCell
deriving DecidableEq, Repr

/-- A reply as the receivers AE0 to AE15 take it in (R124); none for one that returns no values (R87). -/
abbrev Uplink := List (Option Receiver)

/-- What FIELD_VECTOR and AERIAL_CAL measure (R114, R117), delivered at the end of their booking: for each channel its
current in 61.04 µA; for each receiver its raw I/Q; in a calibration, for each driven aerial, its current in its own step
and the raw I/Q of every receiver in that step. -/
structure Measurement where
  currents : List (Int × Int)
  receivers : List (Int × Int) := []
  coupling : List (List (Int × Int)) := []
deriving DecidableEq, Repr

/-- The inputs that the lanes qualify (R195, R423). A level is true when the input is active or the door open. -/
inductive InputPin where
  | ign
  | start
  | door (n : Fin 4)
  | wake
deriving DecidableEq, Repr

/-- What the field gives the responder for a mailbox frame (R254, R256 to R258): coil voltage at V_WR, and whether
the counter step and the page programming verify. -/
structure FieldEnv where
  atVWr : Bool
  stepOk : Bool
  slotOk : Bool
  entryOk : Bool
deriving DecidableEq, Repr

/-- The three private wires (Table 13.3). -/
inductive Wire where
  | link
  | key
  | cipher
deriving DecidableEq, Repr

/-- Tamper sources of Table 14.7. -/
inductive TamperSource where
  | mesh0
  | mesh1
  | sw0
  | sw1
  | voltage
  | clock
  | temp
  | shield
  | store
deriving DecidableEq, Repr

/-- What a tamper source sees (Table 14.7): the comparisons of a mesh line with the pattern driven, oldest first, or the line open
or shorted; the levels of a switch at the last MOSS samples, oldest first; a rail in thousandths of its nominal voltage for some
ns; a PLL output cycle in thousandths of its nominal length, or XIN in kHz; the last die temperatures in thousandths of a degree
Celsius; a die-shield line open or shorted. -/
inductive TamperCondition where
  | compared (pairs : List (Bool × Bool))
  | lineBroken
  | levels (l : List Bool)
  | rail (permille ns : Nat)
  | pllCycle (permille : Nat)
  | xin (kHz : Nat)
  | temperatures (l : List Int)
deriving DecidableEq, Repr

/-- What a tamper source sees, and the seconds since sleep entry when the device sleeps (R351, R361). -/
structure TamperSighting where
  cond : TamperCondition
  sleepSeconds : Nat
deriving DecidableEq, Repr

/-- The samples of an input at the last MOSS cycles, oldest first, and the present cycle (R418, R420). -/
structure PinSamples where
  samples : List Bool
  cycles : Nat
deriving DecidableEq, Repr

/-- A sample of VBAT asleep, and its MOSS cycle (R199). -/
structure VbatSample where
  millivolts : Nat
  cycles : Nat
deriving DecidableEq, Repr

/-- A level of a speed input asleep, and how many samples it holds (R222, R397). -/
structure SpeedSamples where
  level : Bool
  count : Nat
deriving DecidableEq, Repr

/-- The PLLs whose loss of lock resets the device (R376). -/
inductive PllId where
  | crypto
  | lf
  | motion
deriving DecidableEq, Repr

/-- Wake sources of Table 17.5. -/
inductive WakeSource where
  | ign
  | start
  | door (n : Fin 4)
  | wakePin
  | ping
  | sleepMotion
  | fieldWrite
  | tamper
  | timer
deriving DecidableEq, Repr

/-- What a boot finds (Table 17.3): the results of its tests and checks, the records beyond the end of the log, and
the ticks from the end of stage 1 to READY. -/
structure BootIn where
  laneAOk : Bool
  laneBOk : Bool
  rngKatOk : Bool
  anchorOk : Bool
  firmwareOk : Bool
  xinOk : Bool
  aesFailed : Byte
  eccFailed : Byte
  motionTagOk : Bool
  fieldTagOk : Bool
  /-- Bytes that the four banks no longer hold as they were programmed, each with the value now read: configuration 0 and 1,
  thallus 0 and 1. -/
  damage : List (List (Nat × Byte)) := []
  /-- Entries of the two copies of the generation table that no longer read as they were written: copy, place, the 8 bytes now
  read (R273). -/
  gens : List (Bool × Nat × Bytes) := []
  lostRecords : Nat
  mossCycles : Nat
  /-- Ticks from the end of stage 1 to that in which stage 6 ends, and from there to that in which stage 7 ends (R407). -/
  ticks : Nat
  stage7 : Nat := 0
  /-- The 1,024 samples of each noise window that ends by then, per source, the start-up window first (R314). -/
  windowsA : List (List Bool) := []
  windowsB : List (List Bool) := []
  /-- The levels at which the latch phases of those ticks see an input (R195). -/
  inputs : List (InputPin × List Bool) := []
  /-- What the MOTION domain sees in those ticks (R410). -/
  motion : List MotionEvent := []
  /-- The die temperature at the latch phase that ends those ticks, in thousandths of a degree (R105). -/
  dieTemp : Int := 25000
  /-- The rhizome cell passes its check of stage 5 (R355). -/
  rhizomeOk : Bool := true
  /-- The cause of a system reset that a fault of those ticks brings: two flagged lanes, an unresolved comparison, the PLL, the
  SRAM (codes 6 to 9 of Table 17.5); 0 for none. -/
  resetBy : Nat := 0
  /-- What the tamper sources see from the end of stage 1 to stage 4 (R410, Table 14.10). -/
  tamper : List (TamperSource × TamperCondition) := []
deriving DecidableEq, Repr

/-- Complex response of one pinged aerial (R112), or an overcurrent trip (R198). -/
structure PingResponse where
  aerial : Nat
  i : Int
  q : Int
  trip : Bool
deriving DecidableEq, Repr

/-- The commands of the block, one for each row of spec/opcode_table.json. -/
inductive Instr where
  /-- CLAUSE_WRITE (R60). -/
  | clauseWrite (p : PortId) (mosi : Bytes)
  /-- REPLY_READ (R63). -/
  | replyRead (p : PortId) (clocked : Nat)
  /-- REPLY_REREAD (R63). -/
  | replyReread (p : PortId) (clocked : Nat)
  /-- CAUSE_READ (R79). -/
  | causeRead (p : PortId) (clocked : Nat)
  /-- UNKNOWN_TRANSACTION (R55). -/
  | unknownTransaction (p : PortId) (first : Byte) (clocked : Nat)
  /-- ECHO (R81). -/
  | echo (h : Hdr) (args : Bytes)
  /-- STATUS (R82). -/
  | status (h : Hdr) (args : Bytes)
  /-- CLOCK (R83). -/
  | clock (h : Hdr) (args : Bytes)
  /-- CLOCK_SET (R84). -/
  | clockSet (h : Hdr) (args : Bytes)
  /-- SLEEP (R415). -/
  | sleep (h : Hdr) (args : Bytes)
  /-- LANE_STATUS (R379). -/
  | laneStatus (h : Hdr) (args : Bytes)
  /-- CONFIG_STAGE_BEGIN (R337). -/
  | configStageBegin (h : Hdr) (args : Bytes)
  /-- CONFIG_STAGE_WRITE (R337). -/
  | configStageWrite (h : Hdr) (args : Bytes)
  /-- CONFIG_STAGE_DISCARD (R337). -/
  | configStageDiscard (h : Hdr) (args : Bytes)
  /-- CONFIG_COMMIT (R338). -/
  | configCommit (h : Hdr) (args : Bytes) (nvm : BankOutcome)
  /-- CONFIG_READ (R339). -/
  | configRead (h : Hdr) (args : Bytes)
  /-- THALLUS_STAGE_BEGIN (R346). -/
  | thallusStageBegin (h : Hdr) (args : Bytes)
  /-- THALLUS_STAGE_WRITE (R346). -/
  | thallusStageWrite (h : Hdr) (args : Bytes)
  /-- THALLUS_STAGE_DISCARD (R346). -/
  | thallusStageDiscard (h : Hdr) (args : Bytes)
  /-- LICHEN_ENDORSE (R347). -/
  | lichenEndorse (h : Hdr) (args : Bytes)
  /-- THALLUS_COMMIT (R349). -/
  | thallusCommit (h : Hdr) (args : Bytes) (nvm : BankOutcome)
  /-- PERSONALISATION_RESET (R342). -/
  | personalisationReset
  /-- LICHEN_WINDOW_EXPIRY (R348). -/
  | lichenWindowExpiry
  /-- POLL_START (R196). -/
  | pollStart (h : Hdr) (args : Bytes)
  /-- POLL_STOP (R197). -/
  | pollStop (h : Hdr) (args : Bytes)
  /-- POLL_REPETITION (R196). -/
  | pollRepetition (index : Nat)
  /-- FIELD_VECTOR (R114). -/
  | fieldVector (h : Hdr) (args : Bytes)
  /-- AERIAL_CAL (R116). -/
  | aerialCal (h : Hdr) (args : Bytes)
  /-- ATLAS_LOAD_BEGIN (R190). -/
  | atlasLoadBegin (h : Hdr) (args : Bytes)
  /-- ATLAS_LOAD_POINTS (R190). -/
  | atlasLoadPoints (h : Hdr) (args : Bytes)
  /-- INVENTORY (R148). -/
  | inventory (h : Hdr) (args : Bytes)
  /-- AUTHENTICATE (R168). -/
  | authenticate (h : Hdr) (args : Bytes)
  /-- LOCATE (R191). -/
  | locate (h : Hdr) (args : Bytes)
  /-- SESSION_QUERY (R180). -/
  | sessionQuery (h : Hdr) (args : Bytes)
  /-- SESSION_END (R181). -/
  | sessionEnd (h : Hdr) (args : Bytes)
  /-- TOKEN_ENROL (R157). -/
  | tokenEnrol (h : Hdr) (args : Bytes)
  /-- TOKEN_REVOKE (R159). -/
  | tokenRevoke (h : Hdr) (args : Bytes)
  /-- TOKEN_QUERY (R160). -/
  | tokenQuery (h : Hdr) (args : Bytes)
  /-- RELEASE_STATE (R210). -/
  | releaseState (h : Hdr) (args : Bytes)
  /-- RELEASE_CLEAR (R211). -/
  | releaseClear (h : Hdr) (args : Bytes)
  /-- ODO_INTERVAL (R226). -/
  | odoInterval (h : Hdr) (args : Bytes)
  /-- ODO_INIT (R221). -/
  | odoInit (h : Hdr) (args : Bytes)
  /-- MOTION_READ (R227). -/
  | motionRead (h : Hdr) (args : Bytes)
  /-- TIMER_CFG (R249). -/
  | timerCfg (h : Hdr) (args : Bytes)
  /-- PEEK (R247). -/
  | peek (h : Hdr) (args : Bytes)
  /-- POKE (R248). -/
  | poke (h : Hdr) (args : Bytes)
  /-- SPORE_LOAD_NEEDED (R282). -/
  | sporeLoadNeeded (h : Hdr) (args : Bytes)
  /-- SPORE_LOAD_HOST (R282). -/
  | sporeLoadHost (h : Hdr) (args : Bytes)
  /-- SPORE_EVICT (R286). -/
  | sporeEvict (h : Hdr) (args : Bytes)
  /-- SPORE_WRAP (R281). -/
  | sporeWrap (h : Hdr) (args : Bytes)
  /-- FROND_DERIVE_DERIVE (R287). -/
  | frondDeriveDerive (h : Hdr) (args : Bytes)
  /-- FROND_DERIVE_PUBLIC (R287). -/
  | frondDerivePublic (h : Hdr) (args : Bytes)
  /-- FROND_DERIVE_NODE (R287). -/
  | frondDeriveNode (h : Hdr) (args : Bytes)
  /-- KEY_RETIRE (R288). -/
  | keyRetire (h : Hdr) (args : Bytes) (verified : Bool)
  /-- ENCRYPT_ONESHOT (R296). -/
  | encryptOneshot (h : Hdr) (args : Bytes)
  /-- ENCRYPT_BEGIN (R297). -/
  | encryptBegin (h : Hdr) (args : Bytes)
  /-- ENCRYPT_UPDATE (R296). -/
  | encryptUpdate (h : Hdr) (args : Bytes)
  /-- ENCRYPT_FINAL (R296). -/
  | encryptFinal (h : Hdr) (args : Bytes)
  /-- ENCRYPT_ABORT (R297). -/
  | encryptAbort (h : Hdr) (args : Bytes)
  /-- DECRYPT_ONESHOT (R300). -/
  | decryptOneshot (h : Hdr) (args : Bytes)
  /-- DECRYPT_BEGIN (R297). -/
  | decryptBegin (h : Hdr) (args : Bytes)
  /-- DECRYPT_UPDATE (R300). -/
  | decryptUpdate (h : Hdr) (args : Bytes)
  /-- DECRYPT_FINAL (R300). -/
  | decryptFinal (h : Hdr) (args : Bytes)
  /-- DECRYPT_READ (R300). -/
  | decryptRead (h : Hdr) (args : Bytes)
  /-- DECRYPT_ABORT (R297). -/
  | decryptAbort (h : Hdr) (args : Bytes)
  /-- MAC_ONESHOT (R296). -/
  | macOneshot (h : Hdr) (args : Bytes)
  /-- MAC_BEGIN (R297). -/
  | macBegin (h : Hdr) (args : Bytes)
  /-- MAC_UPDATE (R296). -/
  | macUpdate (h : Hdr) (args : Bytes)
  /-- MAC_FINAL (R296). -/
  | macFinal (h : Hdr) (args : Bytes)
  /-- MAC_ABORT (R297). -/
  | macAbort (h : Hdr) (args : Bytes)
  /-- CONTEXT_TIMEOUT (R297). -/
  | contextTimeout (p : PortId) (ctx : Nat)
  /-- EVIDENCE_SIGN (R312). -/
  | evidenceSign (h : Hdr) (args : Bytes)
  /-- EVIDENCE_READ (R313). -/
  | evidenceRead (h : Hdr) (args : Bytes)
  /-- RANDOM (R328). -/
  | random (h : Hdr) (args : Bytes)
  /-- RANDOM_PR (R329). -/
  | randomPr (h : Hdr) (args : Bytes)
  /-- FIELDPORT_CFG_PORT (R265). -/
  | fieldportCfgPort (h : Hdr) (args : Bytes) (nvmOk : Bool)
  /-- FIELDPORT_CFG_READER_KEY (R265). -/
  | fieldportCfgReaderKey (h : Hdr) (args : Bytes) (nvmOk : Bool)
  /-- FIELDPORT_CFG_QUERY (R265). -/
  | fieldportCfgQuery (h : Hdr) (args : Bytes)
  /-- MAILBOX_READ_LOCAL (R266). -/
  | mailboxReadLocal (h : Hdr) (args : Bytes)
  /-- MAILBOX_WRITE_LOCAL (R263). -/
  | mailboxWriteLocal (h : Hdr) (args : Bytes) (nvmOk : Bool)
  /-- MAILBOX_READ_READER (R267). -/
  | mailboxReadReader (h : Hdr) (args : Bytes)
  /-- MAILBOX_WRITE_READER (R267). -/
  | mailboxWriteReader (h : Hdr) (args : Bytes)
  /-- MAILBOX_READ_FETCH (R268). -/
  | mailboxReadFetch (h : Hdr) (args : Bytes)
  /-- SELFTEST (R381). -/
  | selftest (h : Hdr) (args : Bytes) (r : TestResult)
  /-- KAT (R381). -/
  | kat (h : Hdr) (args : Bytes) (r : TestResult)
  /-- TAMPER_STATUS (R358). -/
  | tamperStatus (h : Hdr) (args : Bytes)
  /-- TAMPER_ACK (R359). -/
  | tamperAck (h : Hdr) (args : Bytes)
  /-- TAMPER_ACK_RESET (R359). -/
  | tamperAckReset
  /-- HOST_PAIR (R75). -/
  | hostPair (h : Hdr) (args : Bytes)
  /-- TICK (R33). -/
  | tick (inp : TickIn)
  /-- DEFERRED_RECORD_APPEND (R39). -/
  | deferredRecordAppend
  /-- RECORD_PROGRAM (R308). -/
  | recordProgram
  /-- SIGNATURE_POINT (R310). -/
  | signaturePoint
  /-- SEAL_APPEND (R310). -/
  | sealAppend
  /-- ECC_SIGN_CHECK_FAIL (R303). -/
  | eccSignCheckFail (core : Nat) (second : Bool)
  /-- AES_PARITY_FAULT (R292). -/
  | aesParityFault (core attempt : Nat)
  /-- BOOKING_START (R146). -/
  | bookingStart (engine : Nat)
  /-- GAIN_AND_TRIM_SET (R101). -/
  | gainAndTrimSet (engine : Nat) (m : List LeadMeasure)
  /-- AMPLITUDE_LOOP_UPDATE (R99). -/
  | amplitudeLoopUpdate (m : List LoopMeasure)
  /-- OPEN_AERIAL_DETECT (R108). -/
  | openAerialDetect (engine channel current : Nat)
  /-- AERIAL_OVERCURRENT (R108). -/
  | aerialOvercurrent (engine channel : Nat) (k : ShortKind)
  /-- DOWNLINK_FRAME_SENT (R120). -/
  | downlinkFrameSent (engine : Nat) (currents : List (Int × Int))
  /-- IDENTIFIER_STREAM (R132). -/
  | identifierStream (engine : Nat) (r : Uplink)
  /-- SILENT_REPLY (R124). -/
  | silentReply (engine : Nat)
  /-- IDENTIFIER_COMPLETE (R153). -/
  | identifierComplete (engine : Nat)
  /-- RESPONSE_RECEIVED (R161). -/
  | responseReceived (engine : Nat) (r : Uplink)
  /-- SELECT_STATUS_REPLY (R267). -/
  | selectStatusReply (engine : Nat) (r : Uplink)
  /-- READER_REPLY_RECEIVED (R268). -/
  | readerReplyReceived (engine : Nat) (r : Uplink)
  /-- SPORE_TIMEOUT (R22). -/
  | sporeTimeout (engine : Nat)
  /-- HANDOVER_MISSED (R371). -/
  | handoverMissed (engine : Nat)
  /-- BOOKING_END (R46). -/
  | bookingEnd (engine : Nat) (m : Measurement)
  /-- LINK_ENGINE_FAULT (R378). -/
  | linkEngineFault (engine : Nat)
  /-- TRIGGER_INPUT (R195). -/
  | triggerInput (pin : InputPin) (level : Bool)
  /-- HELD_TRIGGER_START (R30). -/
  | heldTriggerStart
  /-- RECOVERY_POLL (R205). -/
  | recoveryPoll
  /-- SESSION_TIMER_EXPIRY (R178). -/
  | sessionTimerExpiry
  /-- LOCK_EXPIRY (R174). -/
  | lockExpiry
  /-- SPEED_EDGE: input `n` takes the level that EDGE selects at a MOTION cycle and holds it for `held` cycles (R212, R218). -/
  | speedEdge (n : Nat) (cycle : Nat) (held : Nat)
  /-- MOTION_MOVING (R215). -/
  | motionMoving
  /-- MOTION_STATIONARY (R215). -/
  | motionStationary
  /-- PLAUSIBILITY_EVALUATION (R216). -/
  | plausibilityEvaluation
  /-- RLS_FAULT_DETECT (R209). -/
  | rlsFaultDetect (out : LaneId) (level matches8 : Bool)
  /-- GT_COUNT_EDGE of GTn at a MOTION cycle (R235, R236). -/
  | gtCountEdge (n : Nat) (cycle : Nat)
  /-- LINKED_ACTION (R241). -/
  | linkedAction (cycle : Nat)
  /-- FIELD_PRESENT (R250). -/
  | fieldPresent
  /-- FIELD_WAKE (R130). -/
  | fieldWake (group : Nat)
  /-- FIELD_INVENTORY_BEGIN (R131). -/
  | fieldInventoryBegin (round : Nat)
  /-- FIELD_STOP_GAP (R149). -/
  | fieldStopGap
  /-- FIELD_TREE_BIT (R133). -/
  | fieldTreeBit (k : Nat) (v : Bool)
  /-- FIELD_SELECT (R253). -/
  | fieldSelect (ident : Ident)
  /-- FIELD_QUIET (R149). -/
  | fieldQuiet (scope : Bool)
  /-- FIELD_MAILBOX_READ (R256). -/
  | fieldMailboxRead (page flags : Nat) (challenge : BitVec 64) (env : FieldEnv)
  /-- FIELD_MAILBOX_WRITE (R257). -/
  | fieldMailboxWrite (page flags : Nat) (data tag : Bytes) (env : FieldEnv)
  /-- HARVEST_ON (R252). -/
  | harvestOn (duration flags : Nat) (atVHarv : Bool)
  /-- HARV_TIMEOUT (R252). -/
  | harvTimeout
  /-- FIELD_IDLE_TIMEOUT (R149). -/
  | fieldIdleTimeout
  /-- FIELD_CARRIER_LOSS (R149). -/
  | fieldCarrierLoss
  /-- HOST_MAILBOX_UNHELD (R260). -/
  | hostMailboxUnheld
  /-- NOISE_WINDOW_END (R315). -/
  | noiseWindowEnd (src : LaneId) (samples : List Bool)
  /-- ENTROPY_BLOCK_ENTRY (R318). -/
  | entropyBlockEntry
  /-- DRBG_INSTANTIATE (R321). -/
  | drbgInstantiate
  /-- DRBG_STARVED (R323). -/
  | drbgStarved
  /-- WIRE_REFILL (R325). -/
  | wireRefill (w : Wire)
  /-- RNG_CORE_FAULT (R324). -/
  | rngCoreFault (katFailure : Bool) (attempt : Nat)
  /-- BANK_REPAIR (R334). -/
  | bankRepair (k : BankKind)
  /-- NVM_PATROL (R50). -/
  | nvmPatrol (find : Option (BankKind × Bool × List (Nat × Byte)))
  /-- SRAM_SCRUB (R377). -/
  | sramScrub (corrected : Nat)
  /-- SRAM_UNCORRECTABLE (R377). -/
  | sramUncorrectable (lane : Option LaneId)
  /-- TAMPER_SOURCE_LATCH (R353). -/
  | tamperSourceLatch (src : TamperSource) (seen : TamperSighting)
  /-- LANE_FLAGGED (R366). -/
  | laneFlagged (lanes : Bool × Bool) (cause : Byte)
  /-- ARBITRATION (R367). -/
  | arbitration (aPasses bPasses : Bool)
  /-- TAKEOVER (R370). -/
  | takeover
  /-- LANE_PROBE (R380). -/
  | laneProbe (aPasses bPasses : Bool)
  /-- XTAL_FAILURE (R375). -/
  | xtalFailure (cause : Byte) (deviation : Int)
  /-- PLL_LOCK_LOSS (R376). -/
  | pllLockLoss (pll : PllId)
  /-- KEY_STORE_FAULT (R378). -/
  | keyStoreFault
  /-- VBAT_VALID (R403). -/
  | vbatValid
  /-- VBAT_LOW_DRIVE (R404). -/
  | vbatLowDrive
  /-- VBAT_RESET (R403). -/
  | vbatReset
  /-- VDRV_RANGE (R404). -/
  | vdrvRange
  /-- VBAT_HIGH (R404). -/
  | vbatHigh
  /-- SUPPLY_CEILING_RETURN (R404). -/
  | supplyCeilingReturn
  /-- BATTERY_CRITICAL (R106). -/
  | batteryCritical
  /-- BATTERY_CRITICAL_END (R106). -/
  | batteryCriticalEnd
  /-- VHOLD_LOW (R403). -/
  | vholdLow
  /-- VHOLD_STOP (R406). -/
  | vholdStop
  /-- SPI_SIDE_RESET (R400). -/
  | spiSideReset (p : PortId) (inFrame : Bool)
  /-- CROSSING_REOPEN (R398). -/
  | crossingReopen (p : PortId)
  /-- BOOT (R407). -/
  | boot (b : BootIn)
  /-- BOOT_RETRY (R408). -/
  | bootRetry
  /-- SLEEP_ENTRY (R416). -/
  | sleepEntry (inputs : List (InputPin × Bool))
  /-- WAKE_EVENT: for an input, the samples of the last MOSS cycles, oldest first (R418, R420). -/
  | wakeEvent (src : WakeSource) (pin : PinSamples)
  /-- WAKE_TIMER_EXPIRY (R414). -/
  | wakeTimerExpiry (cycles : Nat)
  /-- DETUNE_PING (R112). -/
  | detunePing (r : List PingResponse) (cycles : Nat)
  /-- PING_CONFIRM (R113). -/
  | pingConfirm (r : PingResponse) (cycles : Nat)
  /-- STANDBY_VBAT_SAMPLE (R199). -/
  | standbyVbatSample (v : VbatSample)
  /-- SLEEP_PULSE_EDGE: an input takes a level, for so many samples (R222, R397). -/
  | sleepPulseEdge (second : Bool) (cycle : Nat) (x : SpeedSamples)
  /-- EPISODE_END (R223). -/
  | episodeEnd (cycle : Nat)
  /-- SLEEP_MOTION_WAKE (R224). -/
  | sleepMotionWake (cycles : Nat)
  /-- TICK_HIGHWATER_WRITE (R413). -/
  | tickHighwaterWrite
  /-- FIELD_FRAME_IGNORED (R129). -/
  | fieldFrameIgnored (opcode : Nat)
  /-- SPEED_INPUT_LEVEL_CHANGE: input `n` takes a level and holds it for `held` MOTION cycles (R212, R244). -/
  | speedInputLevelChange (n : Nat) (level : Bool) (held : Nat)
  /-- X32_CRYSTAL_FAILURE (R375). -/
  | x32CrystalFailure
  /-- HASH_PARITY_FAULT (R304). -/
  | hashParityFault (attempt : Nat)
  /-- VHOLD_RECOVERED (R355). -/
  | vholdRecovered
deriving DecidableEq, Repr

end Sys2Proof
end

