-- ==== Sys2Proof/Machine/Crypto.lean ====
section
/-! DEFINITION. The published algorithms the spec names: CRC-32C (R59), CRC-16/CCITT (R126),
AES (FIPS 197), CMAC, GCM, CCM, the SP 800-108 key derivation (R76, R270), SHA-256 and SHA-384
(FIPS 180-4, R304), CTR_DRBG with a derivation function (R320) and ECDSA over the four curves
of R302. The constants of the standards are PRESUMED: the spec names the standards and does not print
them (log entry 10). Everything here is a total function of its inputs. -/

namespace Sys2Proof.Crypto

open Sys2Proof

/-! ### Cyclic redundancy checks -/

/-- One bit of the reflected CRC-32C (R59). -/
def crc32cBit (c : BitVec 32) : BitVec 32 :=
  if c.getLsbD 0 then (c >>> 1) ^^^ 0x82F63B78#32 else c >>> 1

/-- One byte of CRC-32C. -/
def crc32cByte (c : BitVec 32) (b : Byte) : BitVec 32 :=
  Nat.repeat crc32cBit 8 (c ^^^ b.zeroExtend 32)

/-- CRC-32C of R59: initial value and final exclusive or all ones, reflected both ways. -/
def crc32c (b : Bytes) : BitVec 32 := ~~~ (b.foldl crc32cByte 0xFFFFFFFF#32)

/-- The CRC as it is sent: little-endian (R59). -/
def crc32cBytes (b : Bytes) : Bytes := leN 4 (crc32c b).toNat

/-- One bit of the CRC-16/CCITT of R126. -/
def crc16Bit (c : BitVec 16) (x : Bool) : BitVec 16 :=
  let top := Bool.xor (c.getLsbD 15) x
  if top then (c <<< 1) ^^^ 0x1021#16 else c <<< 1

/-- The eight bits of a byte, most significant first (R15, R121). -/
def bitsOf (b : Byte) : List Bool := (List.range 8).map fun i => b.getLsbD (7 - i)

/-- CRC-16/CCITT over a byte string: polynomial 0x1021, initial value all ones, nothing reflected. -/
def crc16 (b : Bytes) : BitVec 16 := (b.flatMap bitsOf).foldl crc16Bit 0xFFFF#16

/-! ### AES -/

/-- Multiplication by x in the field of AES. -/
def xtime (a : Byte) : Byte := if a.getLsbD 7 then (a <<< 1) ^^^ 0x1B#8 else a <<< 1

/-- The product of `n` bits of `b` with `a` in the field of AES, both as numbers. -/
def gmulN : Nat → Nat → Nat → Nat
  | 0, _, _ => 0
  | n + 1, a, b =>
    Nat.xor (if b % 2 = 1 then a else 0) (gmulN n (if 128 ≤ a then Nat.xor (2 * a) 0x11B else 2 * a) (b / 2))

/-- Multiplication in the field of AES. -/
def gmul (a b : Byte) : Byte := BitVec.ofNat 8 (gmulN 8 a.toNat b.toNat)

/-- Inverse in the field of AES (0 to 0): the power 254. -/
def ginv (a : Byte) : Byte :=
  let a2 := gmul a a
  let a4 := gmul a2 a2
  let a8 := gmul a4 a4
  let a16 := gmul a8 a8
  let a32 := gmul a16 a16
  let a64 := gmul a32 a32
  let a128 := gmul a64 a64
  gmul a128 (gmul a64 (gmul a32 (gmul a16 (gmul a8 (gmul a4 a2)))))

/-- The AES substitution of one byte. -/
def sbox (a : Byte) : Byte :=
  let i := ginv a
  i ^^^ i.rotateLeft 1 ^^^ i.rotateLeft 2 ^^^ i.rotateLeft 3 ^^^ i.rotateLeft 4 ^^^ 0x63#8

/-- The inverse AES substitution. -/
def invSbox (a : Byte) : Byte :=
  ginv (a.rotateLeft 1 ^^^ a.rotateLeft 3 ^^^ a.rotateLeft 6 ^^^ 0x05#8)

/-- Next word of the key schedule: `i` is its index, `nk` the key length in words. -/
def keyWord (nk i : Nat) (ws : List Bytes) (rcon : Byte) : Bytes :=
  let prev := ws.getD (i - 1) []
  let back := ws.getD (i - nk) []
  let t :=
    if i % nk = 0 then
      let r := (prev.drop 1 ++ prev.take 1).map sbox
      match r with
      | x :: rest => (x ^^^ rcon) :: rest
      | [] => []
    else if nk = 8 ∧ i % nk = 4 then prev.map sbox else prev
  xorBytes back t

/-- `n` further words of the key schedule from index `i`. -/
def keyWords (nk : Nat) : Nat → Nat → Byte → List Bytes → List Bytes
  | 0, _, _, ws => ws
  | n + 1, i, rcon, ws =>
    let w := keyWord nk i ws rcon
    keyWords nk n (i + 1) (if i % nk = 0 then xtime rcon else rcon) (ws ++ [w])

/-- Round keys of 16 bytes each, for a key of 16 or 32 bytes. -/
def roundKeys (key : Bytes) : List Bytes :=
  let nk := key.length / 4
  let ws0 := (List.range nk).map fun i => slice key (4 * i) 4
  let ws := keyWords nk (4 * (nk + 7) - nk) nk 1#8 ws0
  (List.range (nk + 7)).map fun r => ((ws.drop (4 * r)).take 4).flatten

/-- Row shift of the state, column by column; `d` is 1 to encipher and 3 to decipher. -/
def shiftRows (d : Nat) (s : Bytes) : Bytes :=
  (List.range 16).map fun i => byteAt s ((4 * (i / 4) + d * 4 * (i % 4) + i % 4) % 16)

/-- One column times the circulant matrix of coefficients `k`. -/
def mixColumn (k : List Byte) (c : Bytes) : Bytes :=
  (List.range 4).map fun i => (List.range 4).foldl
    (fun a j => a ^^^ gmul (k.getD ((j + 4 - i) % 4) 0#8) (byteAt c j)) 0#8

/-- The column mixing of the state with coefficients `k`. -/
def mixColumns (k : List Byte) (s : Bytes) : Bytes :=
  (List.range 4).flatMap fun c => mixColumn k (slice s (4 * c) 4)

/-- AES encipherment of one block under a 16- or 32-byte key. -/
def aesEnc (key blk : Bytes) : Bytes :=
  match roundKeys key with
  | [] => blk
  | k0 :: ks =>
    let mid := ks.dropLast.foldl
      (fun s k => xorBytes (mixColumns [2#8, 3#8, 1#8, 1#8] (shiftRows 1 (s.map sbox))) k)
      (xorBytes blk k0)
    xorBytes (shiftRows 1 (mid.map sbox)) (ks.getLastD [])

/-- AES decipherment of one block. -/
def aesDec (key blk : Bytes) : Bytes :=
  match (roundKeys key).reverse with
  | [] => blk
  | k0 :: ks =>
    let mid := ks.dropLast.foldl
      (fun s k => mixColumns [14#8, 11#8, 13#8, 9#8] (xorBytes ((shiftRows 3 s).map invSbox) k))
      (xorBytes blk k0)
    xorBytes ((shiftRows 3 mid).map invSbox) (ks.getLastD [])

/-- The first 8 bytes of the encipherment of a zero block: the key check value of R154, R287. -/
def keyCheck (key : Bytes) : Bytes := (aesEnc key (zeros 16)).take 8

/-! ### Modes -/

/-- A byte string cut into blocks of 16 bytes, the last one possibly short. -/
def blocksAux : Nat → Bytes → List Bytes
  | 0, _ => []
  | _ + 1, [] => []
  | n + 1, b => b.take 16 :: blocksAux n (b.drop 16)

/-- The blocks of a byte string. -/
def blocks (b : Bytes) : List Bytes := blocksAux (b.length / 16 + 1) b

/-- Doubling of a block in the field of CMAC. -/
def cmacDouble (b : Bytes) : Bytes :=
  let n := ofBe b * 2
  let m := if n / 2 ^ 128 = 1 then Nat.xor (n % 2 ^ 128) 0x87 else n
  beN 16 m

/-- The chaining value of CMAC after whole blocks. -/
def cmacChain (key : Bytes) (bs : List Bytes) : Bytes :=
  bs.foldl (fun x b => aesEnc key (xorBytes x b)) (zeros 16)

/-- AES-CMAC (SP 800-38B). -/
def cmac (key m : Bytes) : Bytes :=
  let k1 := cmacDouble (aesEnc key (zeros 16))
  let k2 := cmacDouble k1
  let bs := blocks m
  let last := bs.getLastD []
  let fin := if last.length = 16 then xorBytes last k1
    else xorBytes (padTo 16 (last ++ [0x80#8])) k2
  aesEnc key (xorBytes (cmacChain key bs.dropLast) fin)

/-- Multiplication in the field of GHASH, operands as big-endian numbers. -/
def ghashMul (x y : Nat) : Nat :=
  ((List.range 128).foldl (fun (p : Nat × Nat) i =>
    (if x.testBit (127 - i) then Nat.xor p.1 p.2 else p.1,
     if p.2.testBit 0 then Nat.xor (p.2 / 2) (0xE1 * 2 ^ 120) else p.2 / 2)) (0, y)).1

/-- GHASH of zero-padded blocks. -/
def ghash (h : Nat) (bs : List Bytes) : Nat :=
  bs.foldl (fun y b => ghashMul (Nat.xor y (ofBe (padTo 16 b))) h) 0

/-- Counter-mode keystream applied to `b`, counter blocks `pre ‖ c, c + 1, …` with a 32-bit counter. A keystream block
has 16 bytes under every key of 16 or 32 bytes; `padTo` says so for any other byte string. -/
def ctr32 (key pre : Bytes) (c : Nat) (b : Bytes) : Bytes :=
  ((blocks b).zipIdx.map fun (x, i) => xorBytes x (padTo 16 (aesEnc key (pre ++ beN 4 (c + i))))).flatten

/-- GCM encryption or decryption of the text with a 96-bit IV (SP 800-38D). -/
def gcmCrypt (key iv b : Bytes) : Bytes := ctr32 key iv 2 b

/-- GCM tag of ciphertext `c` with additional data `a` (SP 800-38D). -/
def gcmTag (key iv a c : Bytes) : Bytes :=
  let h := ofBe (aesEnc key (zeros 16))
  let g := ghash h (blocks a ++ blocks c ++ [beN 8 (8 * a.length) ++ beN 8 (8 * c.length)])
  xorBytes (beN 16 g) (aesEnc key (iv ++ beN 4 1))

/-- CCM authentication value before masking (SP 800-38C), 13-byte nonce, two-byte length field. -/
def ccmMac (key nonce a p : Bytes) (tlen : Nat) : Bytes :=
  let flags := 64 * b2n (a ≠ []) + 8 * ((tlen - 2) / 2) + 1
  let b0 := BitVec.ofNat 8 flags :: (nonce ++ beN 2 p.length)
  let ab := if a = [] then [] else blocks (beN 2 a.length ++ a)
  (cmacChain key (b0 :: (ab ++ blocks p).map (padTo 16)))

/-- CCM encryption or decryption of the text. -/
def ccmCrypt (key nonce b : Bytes) : Bytes :=
  ((blocks b).zipIdx.map fun (x, i) =>
    xorBytes x (aesEnc key (1#8 :: (nonce ++ beN 2 (i + 1))))).flatten

/-- CCM tag of plaintext `p`, `tlen` bytes. -/
def ccmTag (key nonce a p : Bytes) (tlen : Nat) : Bytes :=
  (xorBytes (ccmMac key nonce a p tlen) (aesEnc key (1#8 :: (nonce ++ beN 2 0)))).take tlen

/-! ### Key derivation -/

/-- SP 800-108 in counter mode with CMAC-AES-256 (R76, R270): `blks` blocks of output. -/
def kdf (key label ctx : Bytes) (lbits blks : Nat) : Bytes :=
  (List.range blks).flatMap fun i =>
    cmac key (beN 4 (i + 1) ++ label ++ [0#8] ++ ctx ++ beN 4 lbits)

/-- An ASCII string as bytes. -/
def ascii (s : String) : Bytes := s.toList.map fun c => BitVec.ofNat 8 c.toNat

/-! ### SHA-2 -/

/-- The integer `k`-th root of `n`, by `f` halvings starting from the bit `2 ^ f`. -/
def iroot (k n : Nat) : Nat → Nat → Nat
  | 0, r => r
  | f + 1, r => iroot k n f (if (r + 2 ^ f) ^ k ≤ n then r + 2 ^ f else r)

/-- Is `n` prime (by trial division; used for `n` below 512 only). -/
def isPrime (n : Nat) : Bool := n ≥ 2 && (List.range n).all fun d => d < 2 || n % d != 0

/-- The first `k` primes (`k` at most 80). -/
def primes (k : Nat) : List Nat := ((List.range 420).filter isPrime).take k

/-- Parameters of one SHA-2 word size. -/
structure Sha where
  w : Nat
  iv : List Nat
  k : List Nat
  rounds : Nat
  s0 : Nat × Nat × Nat
  s1 : Nat × Nat × Nat
  e0 : Nat × Nat × Nat
  e1 : Nat × Nat × Nat

/-- Fractional bits of the `r`-th root of `p`, `w` of them (FIPS 180-4). -/
def fracRoot (w r p : Nat) : Nat := iroot r (p * 2 ^ (r * w)) (w + 6) 0 % 2 ^ w

/-- SHA-256. -/
def sha256P : Sha :=
  ⟨32, (primes 8).map (fracRoot 32 2), (primes 64).map (fracRoot 32 3), 64,
    (7, 18, 3), (17, 19, 10), (2, 13, 22), (6, 11, 25)⟩

/-- SHA-384. -/
def sha384P : Sha :=
  ⟨64, ((primes 16).drop 8).map (fracRoot 64 2), (primes 80).map (fracRoot 64 3), 80,
    (1, 8, 7), (19, 61, 6), (28, 34, 39), (14, 18, 41)⟩

/-- Rotation right of a word of `w` bits held as a number. -/
def rotr (w x r : Nat) : Nat := x / 2 ^ r + x % 2 ^ r * 2 ^ (w - r)

/-- Exclusive or of two rotations and a third term. -/
def sigmaR (w : Nat) (t : Nat × Nat × Nat) (shift : Bool) (x : Nat) : Nat :=
  Nat.xor (Nat.xor (rotr w x t.1) (rotr w x t.2.1))
    (if shift then x / 2 ^ t.2.2 else rotr w x t.2.2)

/-- The message schedule, newest word first. -/
def schedule (p : Sha) : Nat → List Nat → List Nat
  | 0, ws => ws
  | n + 1, ws =>
    let g i := ws.getD (i - 1) 0
    let x := (sigmaR p.w p.s1 true (g 2) + g 7 + sigmaR p.w p.s0 true (g 15) + g 16) % 2 ^ p.w
    schedule p n (x :: ws)

/-- One block of the compression function on the eight words `hs`. -/
def shaBlock (p : Sha) (hs : List Nat) (blk : Bytes) : List Nat :=
  let bpw := p.w / 8
  let w0 := (List.range 16).map fun i => ofBe (slice blk (bpw * i) bpw)
  let ws := (schedule p (p.rounds - 16) w0.reverse).reverse
  let m := 2 ^ p.w
  let step (s : List Nat) (kw : Nat × Nat) : List Nat :=
    match s with
    | [a, b, c, d, e, f, g, h] =>
      let ch := Nat.xor (Nat.land e f) (Nat.land (m - 1 - e) g)
      let maj := Nat.xor (Nat.xor (Nat.land a b) (Nat.land a c)) (Nat.land b c)
      let t1 := h + sigmaR p.w p.e1 false e + ch + kw.1 + kw.2
      let t2 := sigmaR p.w p.e0 false a + maj
      [(t1 + t2) % m, a, b, c, (d + t1) % m, e, f, g]
    | o => o
  List.zipWith (fun a b => (a + b) % m) hs ((p.k.zip ws).foldl step hs)

/-- `n` blocks of `sz` bytes. -/
def chunks (sz : Nat) : Nat → Bytes → List Bytes
  | 0, _ => []
  | n + 1, b => b.take sz :: chunks sz n (b.drop sz)

/-- A SHA-2 digest, all eight words. -/
def sha (p : Sha) (msg : Bytes) : Bytes :=
  let sz := 2 * p.w
  let lenB := p.w / 4
  let padN := (2 * sz - (msg.length + 1 + lenB) % sz) % sz
  let full := msg ++ [0x80#8] ++ zeros padN ++ beN lenB (8 * msg.length)
  ((chunks sz (full.length / sz) full).foldl (shaBlock p) p.iv).flatMap (beN (p.w / 8))

/-- SHA-256. -/
def sha256 (m : Bytes) : Bytes := sha sha256P m

/-- SHA-384: the first 48 bytes of the 64-bit construction. -/
def sha384 (m : Bytes) : Bytes := (sha sha384P m).take 48

/-! ### CTR_DRBG (SP 800-90A, AES-256, derivation function) -/

/-- `blks` counter blocks under `key` from `v + 1`. -/
def drbgStream (key : Bytes) (v blks : Nat) : Bytes :=
  (List.range blks).flatMap fun i => aesEnc key (beN 16 ((v + 1 + i) % 2 ^ 128))

/-- CTR_DRBG_Update: the new key and counter from 48 bytes of provided data. -/
def drbgUpdate (key : Bytes) (v : Nat) (data : Bytes) : Bytes × Nat :=
  let t := xorBytes (drbgStream key v 3) (padTo 48 data)
  (t.take 32, ofBe (t.drop 32))

/-- BCC of the derivation function. -/
def drbgBcc (key data : Bytes) : Bytes := cmacChain key ((blocks data).map (padTo 16))

/-- Block_Cipher_df to 48 bytes. -/
def drbgDf (inp : Bytes) : Bytes :=
  let s := beN 4 inp.length ++ beN 4 48 ++ inp ++ [0x80#8]
  let k0 := (List.range 32).map (BitVec.ofNat 8)
  let t := (List.range 3).flatMap fun i => drbgBcc k0 (beN 4 i ++ zeros 12 ++ s)
  let k := t.take 32
  let x := t.drop 32
  let x1 := aesEnc k x
  let x2 := aesEnc k x1
  x1 ++ x2 ++ aesEnc k x2

/-- Instantiation from entropy and a personalisation string. -/
def drbgInstantiate (entropy pers : Bytes) : Bytes × Nat :=
  drbgUpdate (zeros 32) 0 (drbgDf (entropy ++ pers))

/-- Reseed with entropy and additional input. -/
def drbgReseed (key : Bytes) (v : Nat) (entropy addin : Bytes) : Bytes × Nat :=
  drbgUpdate key v (drbgDf (entropy ++ addin))

/-- Generate `n` bytes with additional input: the output, then the new key and counter. -/
def drbgGenerate (key : Bytes) (v n : Nat) (addin : Bytes) : Bytes × Bytes × Nat :=
  let ad := if addin = [] then zeros 48 else drbgDf addin
  let (k1, v1) := if addin = [] then (key, v) else drbgUpdate key v ad
  let blks := (n + 15) / 16
  let out := (drbgStream k1 v1 blks).take n
  (out, drbgUpdate k1 ((v1 + blks) % 2 ^ 128) ad)

/-! ### Elliptic curves -/

/-- A short Weierstrass curve with base point and order; `c` is the coordinate size in bytes. -/
structure Curve where
  c : Nat
  p : Nat
  a : Nat
  b : Nat
  gx : Nat
  gy : Nat
  n : Nat

/-- P-256 (SP 800-186). -/
def p256 : Curve :=
  ⟨32, 0xffffffff00000001000000000000000000000000ffffffffffffffffffffffff,
   0xffffffff00000001000000000000000000000000fffffffffffffffffffffffc,
   0x5ac635d8aa3a93e7b3ebbd55769886bc651d06b0cc53b0f63bce3c3e27d2604b,
   0x6b17d1f2e12c4247f8bce6e563a440f277037d812deb33a0f4a13945d898c296,
   0x4fe342e2fe1a7f9b8ee7eb4a7c0f9e162bce33576b315ececbb6406837bf51f5,
   0xffffffff00000000ffffffffffffffffbce6faada7179e84f3b9cac2fc632551⟩

/-- brainpoolP256r1 (RFC 5639). -/
def bp256 : Curve :=
  ⟨32, 0xa9fb57dba1eea9bc3e660a909d838d726e3bf623d52620282013481d1f6e5377,
   0x7d5a0975fc2c3057eef67530417affe7fb8055c126dc5c6ce94a4b44f330b5d9,
   0x26dc5c6ce94a4b44f330b5d9bbd77cbf958416295cf7e1ce6bccdc18ff8c07b6,
   0x8bd2aeb9cb7e57cb2c4b482ffc81b7afb9de27e1e3bd23c23a4453bd9ace3262,
   0x547ef835c3dac4fd97f8461a14611dc9c27745132ded8e545c1d54c72f046997,
   0xa9fb57dba1eea9bc3e660a909d838d718c397aa3b561a6f7901e0e82974856a7⟩

/-- P-384 (SP 800-186). -/
def p384 : Curve :=
  ⟨48, 0xfffffffffffffffffffffffffffffffffffffffffffffffffffffffffffffffeffffffff0000000000000000ffffffff,
   0xfffffffffffffffffffffffffffffffffffffffffffffffffffffffffffffffeffffffff0000000000000000fffffffc,
   0xb3312fa7e23ee7e4988e056be3f82d19181d9c6efe8141120314088f5013875ac656398d8a2ed19d2a85c8edd3ec2aef,
   0xaa87ca22be8b05378eb1c71ef320ad746e1d3b628ba79b9859f741e082542a385502f25dbf55296c3a545e3872760ab7,
   0x3617de4a96262c6f5d9e98bf9292dc29f8f41dbd289a147ce9da3113b5f0b8c00a60b1ce1d7e819d7a431d7c90ea0e5f,
   0xffffffffffffffffffffffffffffffffffffffffffffffffc7634d81f4372ddf581a0db248b0a77aecec196accc52973⟩

/-- brainpoolP384r1 (RFC 5639). -/
def bp384 : Curve :=
  ⟨48, 0x8cb91e82a3386d280f5d6f7e50e641df152f7109ed5456b412b1da197fb71123acd3a729901d1a71874700133107ec53,
   0x7bc382c63d8c150c3c72080ace05afa0c2bea28e4fb22787139165efba91f90f8aa5814a503ad4eb04a8c7dd22ce2826,
   0x04a8c7dd22ce28268b39b55416f0447c2fb77de107dcd2a62e880ea53eeb62d57cb4390295dbc9943ab78696fa504c11,
   0x1d1c64f068cf45ffa2a63a81b7c13f6b8847a3e77ef14fe3db7fcafe0cbd10e8e826e03436d646aaef87b2e247d4af1e,
   0x8abe1d7520f9c2a45cb1eb8e95cfd55262b70b29feec5864e19c054ff99129280e4646217791811142820341263c5315,
   0x8cb91e82a3386d280f5d6f7e50e641df152f7109ed5456b31f166e6cac0425a7cf3ab6af6b7fc3103b883202e9046565⟩

/-- The curve of a curve code: 1 P-256, 2 brainpoolP256r1, 3 P-384, 4 brainpoolP384r1 (Table 03.11). -/
def curveOf : Nat → Option Curve
  | 1 => some p256
  | 2 => some bp256
  | 3 => some p384
  | 4 => some bp384
  | _ => none

/-- `b ^ e mod m`, by the `f` low bits of `e`. -/
def powMod (m : Nat) : Nat → Nat → Nat → Nat → Nat
  | 0, _, _, r => r
  | f + 1, b, e, r => powMod m f (b * b % m) (e / 2) (if e % 2 = 1 then r * b % m else r)

/-- Inverse modulo a prime of at most 384 bits. -/
def invMod (m a : Nat) : Nat := powMod m 384 (a % m) (m - 2) 1

/-- A point of the curve; none is the point at infinity. -/
abbrev Pt := Option (Nat × Nat)

/-- Point addition, doubling included. -/
def ptAdd (cv : Curve) : Pt → Pt → Pt
  | none, q => q
  | p, none => p
  | some (x1, y1), some (x2, y2) =>
    if x1 = x2 ∧ (y1 + y2) % cv.p = 0 then none
    else
      let l := if x1 = x2
        then (3 * x1 * x1 + cv.a) % cv.p * invMod cv.p (2 * y1) % cv.p
        else (y2 + cv.p - y1) % cv.p * invMod cv.p (x2 + cv.p - x1) % cv.p
      let x3 := (l * l + 2 * cv.p - x1 - x2) % cv.p
      some (x3, (l * (x1 + cv.p - x3) % cv.p + cv.p - y1) % cv.p)

/-- Scalar multiplication by the `f` low bits of `k`. -/
def ptMulAux (cv : Curve) : Nat → Nat → Pt → Pt → Pt
  | 0, _, _, r => r
  | f + 1, k, q, r => ptMulAux cv f (k / 2) (ptAdd cv q q) (if k % 2 = 1 then ptAdd cv r q else r)

/-- `k` times a point. -/
def ptMul (cv : Curve) (k : Nat) (q : Pt) : Pt := ptMulAux cv 400 k q none

/-- The base point. -/
def ptG (cv : Curve) : Pt := some (cv.gx, cv.gy)

/-- Is `(x, y)` a point of the curve, both coordinates reduced (R302). -/
def onCurve (cv : Curve) (x y : Nat) : Bool :=
  x < cv.p && y < cv.p && y * y % cv.p == (x * x * x + cv.a * x + cv.b) % cv.p

/-- Message hash of a curve: SHA-256 on 256-bit curves, SHA-384 on 384-bit ones. -/
def hashFor (cv : Curve) (m : Bytes) : Bytes := if cv.c = 32 then sha256 m else sha384 m

/-- ECDSA verification (FIPS 186-5); a point off the curve does not verify (R302). -/
def ecdsaVerify (cv : Curve) (x y : Nat) (msg : Bytes) (r s : Nat) : Bool :=
  onCurve cv x y && 0 < r && r < cv.n && 0 < s && s < cv.n &&
    (let w := invMod cv.n s
     let z := ofBe (hashFor cv msg)
     match ptAdd cv (ptMul cv (z * w % cv.n) (ptG cv)) (ptMul cv (r * w % cv.n) (some (x, y))) with
     | none => false
     | some (px, _) => px % cv.n == r)

/-- ECDSA signature with the per-message secret `k` (FIPS 186-5). -/
def ecdsaSign (cv : Curve) (d : Nat) (msg : Bytes) (k : Nat) : Nat × Nat :=
  match ptMul cv k (ptG cv) with
  | none => (0, 0)
  | some (px, _) =>
    let r := px % cv.n
    (r, invMod cv.n k * ((ofBe (hashFor cv msg) + r * d) % cv.n) % cv.n)

/-- Reduction of R272 and R326: `(c mod (n - 1)) + 1`. -/
def scalarOf (cv : Curve) (b : Bytes) : Nat := ofBe b % (cv.n - 1) + 1

/-- The two coordinates as octet strings (R15). -/
def ptBytes (cv : Curve) (x y : Nat) : Bytes := beN cv.c x ++ beN cv.c y

/-- First 8 bytes of SHA-256 over the coordinates: KEY_ID (R287, R340). -/
def keyId (cv : Curve) (x y : Nat) : Bytes := (sha256 (ptBytes cv x y)).take 8

end Sys2Proof.Crypto
end

