-- ==== Sys2Proof/Config.lean ====
section
/-! DEFINITION. What one unit or one implementation fixes and the spec does not give: opaque constants without a
value (guide: free values). No statement may rest on a value of theirs. -/

namespace Sys2Proof.Config

open Sys2Proof

/-- The 64-bit device serial number (R253, R307, R320, R345): fixed per unit, no value given (log entry 11). -/
opaque serial : BitVec 64

/-- The firmware version of the GENESIS record (Table 12.7): no value given (log entry 11). -/
opaque firmwareVersion : BitVec 32

/-- A value the spec leaves open. `tag` says which open point draws it, `ctr` is the state's counter of such draws
(log entry 12). -/
opaque free (tag ctr : Nat) : Nat

/-- Free rounding of a ratio the spec asks for as a whole number without saying how (log entry 13): true rounds up. -/
opaque roundUp (tag : Nat) (num den : Nat) : Bool

/-- A byte string of `n` bytes that the spec leaves open, drawn like `free` (log entry 14). -/
opaque freeBytes (tag ctr n : Nat) : Bytes

/-- The next value of the 16-bit mesh register (R351): the spec gives no taps (log entry 98). -/
opaque meshNext : BitVec 16 → BitVec 16

/-- The level that the register gives mesh output 0 or 1 (R351): the spec does not say (log entry 98). -/
opaque meshOut (line : Nat) (register : BitVec 16) : Bool

/-- Length of the mask that blinds one secret scalar (R302, R325): the spec gives none (log entry 65). -/
opaque maskLength : Nat

end Sys2Proof.Config
end

