-- ==== Sys2Proof/Machine/Mem.lean ====
section
/-! DEFINITION. Byte-addressed images: banks, stages, mailbox and timer window (R31, R228, R331). A list of
(address, byte) cells, addresses strictly rising, no zero byte listed; an unlisted address reads 0. -/

namespace Sys2Proof.Machine

open Sys2Proof

/-- A byte image in canonical form. -/
abbrev Mem := List Host.Cell

/-- Read one byte; 0 where nothing is listed. -/
def Mem.read : Mem → Nat → Byte
  | [], _ => 0#8
  | (k, v) :: r, a => if a = k then v else Mem.read r a

/-- Write one byte, keeping the canonical form. -/
def Mem.write : Mem → Nat → Byte → Mem
  | [], a, b => if b = 0#8 then [] else [(a, b)]
  | (k, v) :: r, a, b =>
    if a = k then (if b = 0#8 then r else (a, b) :: r)
    else if a < k then (if b = 0#8 then (k, v) :: r else (a, b) :: (k, v) :: r)
    else (k, v) :: Mem.write r a b

/-- Write consecutive bytes from address `a`. -/
def Mem.writeBytes : Mem → Nat → Bytes → Mem
  | m, _, [] => m
  | m, a, b :: r => Mem.writeBytes (m.write a b) (a + 1) r

/-- Read `n` consecutive bytes from address `a`. -/
def Mem.readBytes (m : Mem) (a n : Nat) : Bytes := (List.range n).map fun i => m.read (a + i)

/-- Read an `n`-byte little-endian number (R15). -/
def Mem.num (m : Mem) (a n : Nat) : Nat := ofLe (m.readBytes a n)

/-- Clear the bytes of addresses `[lo, hi)`. -/
def Mem.clear (m : Mem) (lo hi : Nat) : Mem := m.filter fun c => c.1 < lo || hi ≤ c.1

/-- The cells from address `a` on are strictly rising from `a` and none is zero. -/
def Mem.wfFrom : Nat → Mem → Bool
  | _, [] => true
  | lo, (k, v) :: r => decide (lo ≤ k) && decide (v ≠ 0#8) && Mem.wfFrom (k + 1) r

/-- The canonical form. -/
def Mem.wf (m : Mem) : Bool := Mem.wfFrom 0 m

end Sys2Proof.Machine
end

