-- ==== Sys2Proof/Machine/Defaults.lean ====
section
/-! DEFINITION. The configuration defaults of R93, R194, Tables 07.3, 07.9 and Table 14.2 and the factory thallus of R342
(Tables 06.13, 07.1, 08.5, 14.4, 14.5, 14.8), as bank images. -/

namespace Sys2Proof.Machine

open Sys2Proof

/-- One default aerial descriptor (R93). -/
def defaultAerial : Bytes :=
  [0, 0, 0xFF, 0x03, 0x00, 0x02, 0, 0, 0x00, 0x80, 0, 0, 0x00, 0x80, 0, 0]

/-- The default configuration image (R93, R194, R335, Tables 07.3, 14.2); its atlas has no points. -/
def defaultConfig : Mem :=
  let m : Mem := (List.range 16).foldl (fun (m : Mem) i => m.writeBytes (0x40 + 16 * i) defaultAerial) []
  let m : Mem := m.writeBytes 0x988 [0x70, 0x17, 2, 40, 0x00, 0x01, 20, 0]
  let m : Mem := m.writeBytes 0x998 [0x20, 0x01, 4, 0, 0, 0, 0, 0]
  let m : Mem := m.writeBytes 0x9A0 [0x20, 0x01, 4, 0, 0, 0, 0, 0]
  let m : Mem := m.writeBytes 0x9D0 ([16, 0x80] ++ leN 2 11600 ++ leN 2 10800)
  let m : Mem := m.writeBytes 0x9D8 (leN 2 0x807C ++ leN 2 0x807C ++ leN 2 30)
  let m : Mem := m.writeBytes 0x1000 (zeros 15 ++ [4] ++ leN 2 0x0CCD ++ leN 2 0x051F)
  m

/-- The factory thallus image (R342). -/
def factoryThallus : Mem :=
  let m : Mem := Mem.writeBytes [] 0x40 [0x08, 0, 1]
  let m : Mem := m.writeBytes 0x44 (leN 2 300)
  let m : Mem := m.writeBytes 0x48 ([5, 20] ++ leN 2 60 ++ leN 2 300 ++ leN 2 600 ++ leN 2 600)
  let m : Mem := m.writeBytes 0x58 ([6, 0] ++ leN 2 0x1000)
  let m : Mem := m.writeBytes 0x88 (((List.range 8).flatMap fun _ => leN 4 8000) ++ List.replicate 8 25#8 ++
    [0, 0x03, 0, 0xFF] ++ leN 2 7813 ++ [2, 160, 30, 90, 3, 6] ++ leN 2 512)
  let m : Mem := m.writeBytes 0xC8 (leN 2 0 ++ leN 2 0 ++ leN 2 0 ++ leN 2 0 ++ leN 2 0x8000 ++ leN 2 0x8000 ++
    leN 2 0x8000 ++ leN 2 0xA000 ++ leN 2 0x9000)
  m

/-- Reset values of the timer window (Table 09.1): PER and CMP 0xFFFF_FFFF, GTn_CTL 0x2000, all else 0. -/
def windowReset : Mem :=
  (List.range 8).foldl (fun (m : Mem) n =>
    (m.writeBytes (2 * (0x82 + 16 * n)) (List.replicate 8 0xFF#8)).writeBytes (2 * (0x86 + 16 * n)) [0x00, 0x20]) []

end Sys2Proof.Machine
end

