-- ==== Sys2Proof/Machine/State.lean ====
section
/-! DEFINITION. The state of the OTR9716 as plain data, the reasons a step can stop, and the state of a new,
unpersonalised device at its first moss power-on, before crozier stage 0 (R201, R342, R407; log entry 2). -/

namespace Sys2Proof.Machine

open Sys2Proof

/-- Faults of the block. None: the spec gives every command of the block an effect. -/
inductive Fault where
  /-- Raised by no command; kept so that the type of outcomes is the interface's. Safe. -/
  | none
deriving DecidableEq, Repr

/-- Refusals of the block. -/
inductive Refusal where
  /-- The command has no meaning in this model yet. Safe: nothing is claimed of it. -/
  | notModelled (mnemonic : String)
deriving DecidableEq, Repr

/-! ### Host ports -/

/-- A sealed session of a port (R70 to R77). -/
structure Sess where
  id : BitVec 32
  key : Bytes
  lastCounter : Nat := 0
  replyCounter : Nat := 0x8000000000000001
  accepted : Nat := 0
  /-- It has been replaced by a HOST_PAIR and is kept for its replies (R77). -/
  replaced : Bool := false
deriving DecidableEq, Repr

/-- A clause outstanding on a port (R60, R62, R65). -/
structure Outst where
  seq : BitVec 16
  verb : Nat
  admitted : Bool
  answered : Bool := false
  /-- The session that seals its reply (R77). -/
  sess : Option (BitVec 32) := none
  /-- The tick of its latch, when it was admitted with LANE_HINT set (R66, R373). -/
  hinted : Option Nat := none
  /-- Its number in the order of latching, over both ports (R18). -/
  order : Nat := 0
deriving DecidableEq, Repr

/-- A reply or notice whose frame is not yet formed: it waits for its commit phase (R35, R58). `sess` is the session
that seals it. -/
structure Staged where
  seq : BitVec 16
  verb : Nat
  status : Nat
  results : Bytes
  sess : Option Sess := none
  admitted : Bool := false
  duplicate : Bool := false
  unverified : Bool := false
  notice : Bool := false
  /-- A notice that takes its number at publication (R68); a FRAME_CRC notice carries a copied SEQ. -/
  numbered : Bool := false
  /-- The number of the clause it answers (R18, R64). -/
  order : Nat := 0
deriving DecidableEq, Repr

/-- A formed frame in a reply store (R58, R64). `clause` is the SEQ it answers, none for a notice. -/
structure Stored where
  bytes : Bytes
  clause : Option (BitVec 16) := none
  admitted : Bool := false
  /-- The number of the clause it answers (R18). -/
  order : Nat := 0
deriving DecidableEq, Repr

/-- An unread SPORE_NEEDED notice in a spore store (R60, R68, R69). -/
structure SporeStore where
  ident : Ident
  engine : Nat
  bytes : Bytes
deriving DecidableEq, Repr

/-- A cipher context (R297): verb, mode, slot and GEN of its BEGIN (R298), what it has taken in so far; `verified` once a
native DECRYPT may be read (R300). -/
structure Ctx where
  verb : Nat
  mode : Nat
  slot : Nat
  gen : Nat
  iv : Bytes
  aad : Bytes
  tagLen : Nat
  /-- Text taken in: plaintext of an ENCRYPT, ciphertext of a DECRYPT, data of a MAC. -/
  text : Bytes
  verified : Bool
  lastTick : Nat
  /-- The number of the clause that opened it. -/
  begun : Nat := 0
deriving DecidableEq, Repr

/-- A discarded frame between the SPI side and the next latch phase: its event bit and its FRAME_CRC notice, if it has one
(Table 03.8, R67, R392). -/
structure Held where
  bit : Nat
  notices : List Staged := []
deriving DecidableEq, Repr

/-- One host port (chapter 03, R231, R232, R297). -/
structure Port where
  /-- READY of the port status byte (R56, Table 03.3). -/
  ready : Bool := false
  /-- The SPI side holds its reset level; the crossing is closed (R398, R400). -/
  spiReset : Bool := false
  /-- VIO holds the SPI side in reset (R400). -/
  vioLow : Bool := false
  /-- Frames that resets of the SPI side have cut and no latch phase has counted (R61). -/
  cutFrames : Nat := 0
  /-- Discarded frames that no latch phase has seen yet, oldest first (R34, R392). -/
  held : List Held := []
  /-- Complete frames in the frame buffer, oldest first (R392). -/
  frames : List Bytes := []
  /-- Frames latched in an arbitration tick, each with that tick; they are admitted when the lanes run again (R53, R367). -/
  late : List (Nat × Bytes) := []
  /-- Free credits as the SPI side counts them (R60, R393). -/
  credits : Nat := 0
  /-- The port status byte as the lane side last wrote it (Table 03.3, R393). -/
  statusByte : Byte := 0
  /-- Outstanding clauses (R60, R65). -/
  outstanding : List Outst := []
  /-- Formed frames in the general stores, oldest first (R60, R64). -/
  general : List Stored := []
  /-- SPORE_NEEDED notices in the spore stores, oldest first (R64). -/
  spores : List SporeStore := []
  /-- Requests that have ended, by identifier and engine: their notices go at the next commit phase (R69). -/
  gone : List (Ident × Nat) := []
  /-- Replies of this tick, in admission order (R64). -/
  stagedReplies : List Staged := []
  /-- Notices of this tick (R64, R68). -/
  stagedNotices : List Staged := []
  /-- SPORE_NEEDED notices of this tick: token, deadline, engine (Table 03.9). -/
  stagedSpores : List (Ident × Nat × Nat) := []
  /-- The reply last consumed, for re-reads (R63). -/
  lastRead : Bytes := []
  /-- Next notice number (R68). -/
  noticeNo : BitVec 16 := 0
  /-- Event bits of this tick, published at the commit phase (R80). -/
  newEvents : BitVec 16 := 0
  /-- Event bits published and not yet cleared (R78, R80). -/
  events : BitVec 16 := 0
  /-- The cause word as published (R79). -/
  cause : BitVec 16 := 0
  /-- Discarded-frame count as published (R79). -/
  discards : Nat := 0
  /-- Discards of this tick. -/
  newDiscards : Nat := 0
  /-- Lost-notice count as published (R79). -/
  lost : Nat := 0
  /-- Notices lost in this tick (R69). -/
  newLost : Nat := 0
  /-- Event bits that a complete cause read returned, to be cleared at the next commit phase (R80). -/
  clearing : Option (BitVec 16) := none
  /-- The interrupt line is asserted (R78). -/
  irq : Bool := false
  /-- The bytes last shifted out on SDO (R55, R56). -/
  sdo : Bytes := []
  /-- The current sealed session (R77). -/
  session : Option Sess := none
  /-- The session that becomes current at the commit phase of its HOST_PAIR reply (R77). -/
  newSession : Option Sess := none
  /-- Sessions that were replaced or have ended, each kept until its replies are read (R77). -/
  oldSessions : List Sess := []
  /-- Read latches of the timer window: low-word address and upper words (R231). -/
  latches : List (Nat × Bytes) := []
  /-- Write buffers of the timer window: word address and value (R232). -/
  wbuf : List (Nat × Nat) := []
  /-- The two cipher contexts (R297). -/
  ctx0 : Option Ctx := none
  ctx1 : Option Ctx := none
deriving DecidableEq, Repr

/-- Who is to be answered: the clause, its session and its number in the order of latching (R18, R62, R77). -/
structure Ticket where
  port : PortId
  seq : BitVec 16
  verb : Nat
  sess : Option Sess
  order : Nat := 0
deriving DecidableEq, Repr

/-! ### Ledgers -/

/-- Remaining needs of one admitted piece of work (R42, R43). ECC and NVM are in half units. -/
structure Demand where
  last : Nat
  prio : Nat
  order : Nat
  lane : Nat
  maint : Nat
  ecc : Nat
  nvm : Nat
deriving DecidableEq, Repr

/-- A clause latched since the last published commit phase: its header, its opened arguments and session, its number, the tick
of its latch, and the rounds of the zones as it found them (R18, R131, R373). -/
structure Latched where
  port : PortId
  flags : Byte
  seq : BitVec 16
  verb : Nat
  args : Bytes
  sess : Option Sess
  order : Nat
  tick : Nat
  rounds : List Nat
deriving DecidableEq, Repr

/-- What the work of a clause takes from elsewhere: the outcome of programming, of a readback, of tests, as the outside world
supplies it (log entry 17); with that the stage as its commit was admitted, and who has endorsed it (R338, R349); or the window
snapshot of the tick of its latch, with the captures made up to it (R230, R234). -/
inductive Supplied where
  | nothing
  | nvm (o : BankOutcome)
  | flag (ok : Bool)
  | test (r : TestResult)
  | window (m : Mem) (captures : List Nat)
  | staged (o : BankOutcome) (img : Mem) (parties : List Nat)
deriving DecidableEq, Repr

/-- An admitted clause whose work has not run: it runs once its needs are spent, in the order of R43. -/
structure Queued where
  ticket : Ticket
  args : Bytes
  supplied : Supplied
  prio : Nat
  /-- The tick of its latch, and its last tick (R22, R42). -/
  latched : Nat
  last : Nat
  /-- The tick in which the first unit was spent on it; none before (Table 15.5). -/
  began : Option Nat := none
deriving DecidableEq, Repr

/-! ### Lanes and power -/

/-- Lane state (chapter 15). Causes are those of Table 15.6; 0 is in service. -/
structure Lanes where
  causeA : Nat := 0
  causeB : Nat := 0
  takeoverTick : Nat := 0
  transients : Nat := 0
  transientTicks : List Nat := []
  /-- The tick whose results differed and are to be run again (R17, R367). -/
  faultTick : Option Nat := none
  /-- A lane is to be taken over in this tick: fault tick, lost lane, cause (R366, R370). -/
  takeoverDue : Option (Nat × LaneId × Nat) := none
  /-- Lanes flagged while they run the arbitration probe, which they fail (R367). -/
  flagged : Bool × Bool := (false, false)
  /-- Replies published up to this tick carry DONE_DEGRADED (R369). -/
  degradedUntil : Nat := 0
  /-- Clauses whose work ran in those ticks and whose replies come later, by their numbers (R369). -/
  graded : List Nat := []
  /-- Engines whose exchanges ended under R371 in the fault (Table 15.6). -/
  handoverMask : Nat := 0
  /-- The number of the first clause latched in this tick; the latch tick of held frames while they are admitted (R53). -/
  tickOrder : Nat := 0
  lateTick : Option Nat := none
  lastTestTick : Nat := 0
  lastTestFailed : BitVec 16 := 0
  /-- Units that the short lane probe in progress still needs (R380). -/
  probeLeft : Nat := 0
  /-- The tick in which the last unit of a short lane probe was spent (R380). -/
  probeEnd : Option Nat := none
  sramCorrected : Nat := 0
deriving DecidableEq, Repr

/-- Where the device is in its two lives (chapter 17). -/
inductive Life where
  /-- Stages 0 to 7 have not been run since the last start. -/
  | starting
  /-- The boot is held: both lanes failed, or stage 3 or 4 failed; the retry is due (R408). -/
  | bootStopped
  | awake
  /-- SLEEP is published, the lanes still run (STATE 0x04, R415). -/
  | sleepPending
  | asleep
  /-- The moss domain has stopped (R406). -/
  | unpowered
deriving DecidableEq, Repr

/-- Power, boot and clock state (chapters 15, 16, 17). -/
structure Power where
  life : Life := .starting
  crozier : Nat := 0
  bootCause : Nat := 1
  bootCount : Nat := 0
  /-- Stage 6 is over, and stage 7 ends at the commit phase of this tick: READY sets (R407, R410). -/
  readyDue : Option Nat := none
  /-- No commit phase has been published since READY set. -/
  firstCommit : Bool := false
  /-- The reset cause that the next boot records. -/
  nextCause : Nat := 1
  vbatValid : Bool := false
  /-- Supply ceiling of R404 is 0 W. -/
  supplyOff : Bool := false
  /-- Battery-critical limit of R106. -/
  batteryCritical : Bool := false
  /-- Thermal ceiling in microwatts (R105). -/
  thermalCeiling : Nat := 3000000
  /-- The bridges are held off since 170 °C was reached (R105). -/
  thermalOff : Bool := false
  xtalFallback : Bool := false
  x32Failed : Bool := false
  vholdLow : Bool := false
  /-- CROSSING_FLUSHED and LOOP_CLAMPED of STATUS (R82, R104, R399). -/
  crossingFlushed : Bool := false
  loopClamped : Bool := false
  /-- STATUS fault flags as of the last commit phase (R78, FAULT). -/
  faultsPublished : BitVec 16 := 0
  /-- A flush or a clamp of this tick, published at its commit phase. -/
  newFlush : Bool := false
  newClamp : Bool := false
  /-- Ticks at which a held reset is due after its reply is read: cause and last tick (R342, R359). -/
  resetDue : Option (Nat × Nat) := none
  /-- Tick value kept in the monotonic region (R413). -/
  storedTick : Nat := 0
  /-- Tick of SLEEP's publication and of sleep entry (R413, R416). -/
  sleepTick : Nat := 0
  entryTick : Nat := 0
  /-- Wake timer in seconds, 0 for none (R414). -/
  wakeTimer : Nat := 0
  /-- Tick at which the cell was LOCKED for the sleep entry (R416). -/
  lockedAt : Nat := 0
  /-- The MOSS cycle in which a wake source qualified (R411). -/
  wakeCycle : Option Nat := none
  /-- Tick of the first latch phase of this boot. -/
  startTick : Nat := 0
  /-- The tick in which stage 6 of this boot ended: polls start in a later one (R410). -/
  servicesTick : Option Nat := none
  /-- The moss domain has powered on since the last boot began (R413). -/
  mossAnew : Bool := true
  /-- P_MAX, the override or the stop acted in the last sleep (R200). -/
  pingLimited : Bool := false
deriving DecidableEq, Repr

/-! ### Banks -/

/-- One bank's header fields and image (R331, Table 14.1). -/
structure Bank where
  cond : BankCond := .badHeader
  seq : Nat := 0
  tick : Nat := 0
  digest : Bytes := []
  img : Mem := []
  /-- A BANK record names its present condition (R334). -/
  noted : Bool := false
deriving DecidableEq, Repr

/-- The two banks of a kind and what is in force (R332, R335). -/
structure Banks where
  bank0 : Bank := {}
  bank1 : Bank := {}
  /-- The image in force and its SEQ, COMMIT_TICK and BODY_DIGEST; none of the three when no bank is valid. -/
  cur : Mem := []
  seq : Nat := 0
  tick : Nat := 0
  digest : Bytes := []
  current : Bool := false
  stage : Option Mem := none
deriving DecidableEq, Repr

/-- Protection state beside the banks (chapter 14). -/
structure Protect where
  personalised : Bool := false
  highWater : Nat := 0
  stageTick : Nat := 0
  /-- Parties that have endorsed the stage, in order of arrival (R344). -/
  endorsed : List Nat := []
  /-- w0 of the endorsement window (R348). -/
  window : Option Nat := none
  /-- A BEGIN of ATLAS_LOAD since the last commit, and the points loaded since (R189, R190). -/
  atlasBegun : Bool := false
  atlasLoaded : List Nat := []
  /-- No atlas is used because its digest does not match (R189). -/
  atlasBad : Bool := false
  /-- Isolation matrices and thresholds replaced while bookings placed under them run, each with the number of the
  first booking placed under its successor (R96). -/
  oldTables : List (Bytes × Nat × Nat) := []
deriving DecidableEq, Repr

/-! ### Tokens and lockout -/

/-- A directory entry (Table 06.1). -/
structure Entry where
  ident : Ident
  flags : Byte
  privileges : Byte
  phaseWin : Byte
  crownIndex : Byte
  phaseRef : Int
  hostTag : Nat
  keyField : Bytes
deriving DecidableEq, Repr

/-- Failures and lock of one identifier (R172). -/
structure IdLock where
  ident : Ident
  fails : List Nat
  expiry : Nat
deriving DecidableEq, Repr

/-- Lockout state (R172 to R177). -/
structure Lockout where
  ids : List IdLock := []
  devFails : List Nat := []
  devUntil : Nat := 0
deriving DecidableEq, Repr

/-- States of a cab session (R178). -/
inductive SesState where
  | closed
  | entry
  | released
  | doorCheck
deriving DecidableEq, Repr

/-- The cab session (R178, Table 06.15). -/
structure CabSession where
  state : SesState := .closed
  lastEnd : Nat := 0
  number : Nat := 0
  token : Ident := 0
  opened : Nat := 0
  /-- The tick at which the timer expires; none while it does not run. -/
  expires : Option Nat := none
  zone : Nat := 0
  location : Nat := 0
  /-- A door-check poll of the session is booked or running. -/
  checking : Bool := false
deriving DecidableEq, Repr

/-! ### Release and motion -/

/-- States of the release cell (Table 08.1). -/
inductive CellState where
  | locked
  | released
  | clearPending
deriving DecidableEq, Repr

/-- The release cell and its living outputs (R201 to R211). -/
structure Cell where
  state : CellState := .locked
  pendingReason : Nat := 0
  setTick : Nat := 0
  clearTick : Nat := 0
  pendingSince : Nat := 0
  token : Ident := 0
  singleLane : Bool := false
  hostReason : Byte := 0
  faultA : Bool := false
  faultB : Bool := false
  /-- A recovery poll is booked or running (R205). -/
  recovery : Bool := false
  /-- The recovery poll is still to be booked. -/
  recoveryDue : Bool := false
  /-- Living outputs running (R208). -/
  living : Bool := false
  /-- Bodies of the RLS_FAULT records that wait for a commit phase (R209, R225). -/
  notes : List Bytes := []
  /-- A zeroising tamper response ended a cab session: the body of its SESSION record. The record and the clear request of
  that end wait for the first commit phase of the hold (R204, R353, Table 06.14; log entry 63). -/
  tamperEnd : Option Bytes := none
deriving DecidableEq, Repr

/-- Motion states (Table 08.6). -/
inductive MotionState where
  | stationary
  | moving
  | settling
deriving DecidableEq, Repr

/-- One speed source of the plausibility engine (R212, R216, R217). Edge times are MOTION cycles since start. -/
structure SpeedSource where
  /-- Counted edges of the last 3,907 ticks, newest first: MOTION cycle and tick. -/
  edges : List (Nat × Nat) := []
  count : Nat := 0
  lastTick : Option Nat := none
  /-- The last 17 evaluated speeds in km/h, newest first, each as numerator and denominator (R216). -/
  speeds : List (Nat × Nat) := []
  /-- Consecutive evaluations in which it disagrees with each other source (Table 08.7). -/
  pairs : List Nat := List.replicate 8 0
  /-- Consecutive evaluations with the condition of each flag (over, accel, disagree, loss). -/
  runs : List Nat := [0, 0, 0, 0]
  /-- Consecutive evaluations without the condition. -/
  gaps : List Nat := [0, 0, 0, 0]
  /-- Flags OVERSPEED, ACCEL, DISAGREE, LOSS (Table 08.7). -/
  flags : BitVec 4 := 0
  /-- The source with which it last came to disagree, 0xFF for none (Table 08.8). -/
  mate : Nat := 0xFF
  level : Bool := false
deriving DecidableEq, Repr

/-- A sleep-motion episode (R223). -/
structure Episode where
  start : Nat
  fin : Nat
  count0 : Nat
  count1 : Nat
  merged : Bool := false
deriving DecidableEq, Repr

/-- Motion unit and odometer (R212 to R227). -/
structure Motion where
  state : MotionState := .settling
  src : List SpeedSource := List.replicate 8 {}
  odoM : Nat := 0
  odoR : Nat := 0
  onSecondary : Bool := false
  /-- Pulses of the secondary since the primary's last counted edge (R219). -/
  secondarySince : Nat := 0
  interval : Nat := 100
  initDone : Bool := false
  /-- Values held in the monotonic counter region (R220). -/
  storedM : Nat := 0
  storedR : Nat := 0
  /-- Tick of the last evaluation (R216). -/
  lastEval : Nat := 0
  lastEdgeTick : Nat := 0
  sleepCount0 : Nat := 0
  sleepCount1 : Nat := 0
  overrate : Bool := false
  /-- R was stored while the secondary counted (R220). -/
  storedSecondary : Bool := false
  /-- A sleep has begun whose counts are not yet in the odometer (R222, R224). -/
  wakeDue : Bool := false
  /-- The moss domain counts SPD0 and SPD1, from the levels that it holds of them (R222, R397). -/
  counting : Bool := false
  level0 : Bool := false
  level1 : Bool := false
  /-- Records of R224 that a system reset found waiting: they are made again (R398). -/
  owed : Nat := 0
  episodes : List Episode := []
  /-- An episode is open; MOSS cycle of its last edge and of the last edge of each input. -/
  openEpisode : Bool := false
  lastPulse : Option Nat := none
  lastPulse0 : Option Nat := none
  lastPulse1 : Option Nat := none
deriving DecidableEq, Repr

/-! ### Timer window -/

/-- A window write waiting for the write cycle of its commit phase, with the number of its clause (R229): words of a POKE from
an address, or one target of TIMER_CFG with CTL, ACT, PSC, PER, CMP and, where loaded, CNT (R249). -/
inductive WinWrite where
  | poke (order : Nat) (p : PortId) (addr : Nat) (words : List Nat)
  | cfg (order target ctl act psc per cmp : Nat) (cnt : Option Nat)
deriving DecidableEq, Repr

/-- A linked action (R241): the MOTION cycle in which it takes effect, its code, the timer it reaches, its sender. -/
structure Linked where
  due : Nat
  code : Nat
  target : Nat
  sender : Nat
deriving DecidableEq, Repr

/-- A capture that a PEEK returns (R234): its counter, the captures made up to the snapshot that shows it, and OVR in it. -/
structure CapRead where
  counter : Nat
  captures : Nat
  ovr : Bool
deriving DecidableEq, Repr

/-- The timer window (R228) as 16-bit words in byte image form (word w at bytes 2w, 2w + 1), with what its registers
do not show. -/
structure Window where
  regs : Mem := windowReset
  /-- The snapshot of the present tick (R230). -/
  snap : Mem := windowReset
  /-- PER and CMP still in force in each timer while the value written waits for its wrap (R237). -/
  forcePer : List (Option Nat) := List.replicate 8 none
  forceCmp : List (Option Nat) := List.replicate 8 none
  /-- The snapshot of the tick before, for a PEEK latched in an arbitration tick (R53, R230). -/
  prev : Mem := windowReset
  /-- Captures that each counter has made: by now, by the snapshot, by the one before (R234). -/
  captures : List Nat := List.replicate 8 0
  snapCaptures : List Nat := List.replicate 8 0
  prevCaptures : List Nat := List.replicate 8 0
  /-- The MOTION cycle at which the prescaler of each timer was last 0: its start, or its last count edge (R235). -/
  counted : List Nat := List.replicate 8 0
  /-- Linked actions that wait for their MOTION cycle (R241). -/
  linked : List Linked := []
  /-- Writes waiting for the write cycle of this tick's commit phase, in admission order (R229). -/
  writes : List WinWrite := []
  /-- Captures that PEEKs return, and read latches to load, at this tick's commit phase (R230, R231, R234). -/
  capRead : List CapRead := []
  latchLoads : List (PortId × Nat × Bytes) := []
  /-- Levels of SPO0 and SPO1 before INVERT (R244). -/
  spo0 : Bool := false
  spo1 : Bool := false
deriving DecidableEq, Repr

/-! ### Field port -/

/-- A reader key (Table 10.8). -/
structure ReaderKey where
  key : Bytes
  readMask : Byte
  writeMask : Byte
deriving DecidableEq, Repr

/-- A page flag entry (Table 10.6); erased entries are absent. -/
structure FlagEntry where
  gen : Nat
  slot : Bool
  dataCrc : BitVec 16
  ok : Bool := true
deriving DecidableEq, Repr

/-- A mailbox page: two data slots and two flag entries (R258). -/
structure Page where
  slot0 : Bytes
  slot1 : Bytes
  e0 : Option FlagEntry
  e1 : Option FlagEntry
deriving DecidableEq, Repr

/-- A journal entry (R264, Table 10.7). -/
structure JournalEntry where
  page : Nat
  key : Nat
  status : Nat
  lanesOff : Bool
  counter : Nat
  gen : Nat
  absorbed : Nat
  tick : Nat
deriving DecidableEq, Repr

/-- States of the field port as a key (Table 05.11; it never enters DONE, R152). -/
inductive TagState where
  | listen
  | awake
  | streaming (bit : Nat)
  | halted
  | lost
  | selected
  | quiet (round : Nat)
deriving DecidableEq, Repr

/-- A host mailbox clause held by a field lock (R260): the tick in which it executes, its last tick and priority. -/
structure HeldClause where
  ticket : Ticket
  page : Nat
  count : Nat
  data : Option Bytes
  nvmOk : Bool
  due : Nat
  last : Nat
  prio : Nat
deriving DecidableEq, Repr

/-- Host clauses of this tick that reach the field port at its commit phase (R262, R263, R265). -/
inductive PortWork where
  | read (tk : Ticket) (page count : Nat)
  | write (tk : Ticket) (page : Nat) (data : Bytes) (nvmOk : Bool)
  | port (tk : Ticket) (body : Bytes) (nvmOk : Bool)
  | key (tk : Ticket) (body : Bytes) (nvmOk : Bool)
  | query (tk : Ticket)
deriving DecidableEq, Repr

/-- The field-port record and the reader keys (R253, Table 10.8); the values at manufacture. -/
structure PortRecord where
  ident : Ident := Config.serial
  group : Nat := 0
  en : Bool := true
  harvEn : Bool := false
  wakeOnWrite : Bool := false
  openPages : Nat := 0
  keys : List (Option ReaderKey) := [none, none, none, none]
deriving DecidableEq, Repr

/-- One copy of them in the monotonic counter region: its generation, and whether its CRC checks (R258, R265). -/
structure PortCopy where
  gen : Nat
  body : PortRecord
  ok : Bool := true
deriving DecidableEq, Repr

/-- The field port (chapter 10). -/
structure FieldPort where
  /-- The two copies of the record; an erased one is absent (R265). -/
  copy0 : Option PortCopy := some ⟨0, {}, true⟩
  copy1 : Option PortCopy := none
  /-- The two cells of C; none where the CRC-16 of a cell does not check (R254). -/
  cell0 : Option Nat := some 0
  cell1 : Option Nat := none
  pages : List (Nat × Page) := []
  journal : List JournalEntry := []
  field : Bool := false
  state : TagState := .listen
  round : Nat := 0
  /-- Idle timer limit in force, in cc (R149). -/
  idleLimit : Nat := 256
  /-- HARV is driven; its remaining DURATION in seconds (R252). -/
  harv : Bool := false
  harvLeft : Nat := 0
  /-- The reply to the last frame, preamble first (R123, Table 05.5); empty when it was not answered. -/
  reply : List Bool := []
  /-- Field locks of pages: page, first and last tick of the run of locks (R260, R261). -/
  locks : List (Nat × Nat × Nat) := []
  /-- Host mailbox clauses held by a lock (R260). -/
  held : List HeldClause := []
  /-- Host clauses of this tick, in admission order (R262, R263, R265). -/
  work : List PortWork := []
  /-- A write was answered OK while the device sleeps and WAKE_ON_WRITE is set (R264). -/
  wrote : Bool := false
deriving DecidableEq, Repr

/-! ### Key storage -/

/-- Where a slot's key comes from (Table 11.3): a spore's domain or a tree node, with their NGENs. -/
inductive Origin where
  | spore (domain : Nat) (frond pinna pinnule : Nat)
  | node (f a b : Nat) (frond pinna pinnule : Nat)
deriving DecidableEq, Repr

/-- Content of a key-cache slot (R274). `owner` is the link engine holding it; none for host slots. -/
structure SlotKey where
  kind : Nat
  usage : Byte
  origin : Origin
  owner : Option Nat
  key : Bytes
  token : Ident := 0
deriving DecidableEq, Repr

/-- One slot: its generation and its key, with the GCM IVs drawn since it was written (R275, R299). -/
structure Slot where
  gen : Nat := 0
  content : Option SlotKey := none
  ivs : Nat := 0
deriving DecidableEq, Repr

/-- An entry of the generation table (R273). -/
structure NodeGen where
  level : Nat
  frond : Nat
  pinna : Nat
  pinnule : Nat
  ngen : Nat
  /-- CRC-16/CCITT over the first 6 bytes. -/
  crc : BitVec 16 := 0
deriving DecidableEq, Repr

/-- An outstanding SPORE_NEEDED request (R20 to R22). -/
structure SporeReq where
  ident : Ident
  engine : Nat
  deadline : Nat
deriving DecidableEq, Repr

/-- Work of key storage that takes effect at the commit phase of its tick (R276, R283 to R290). -/
inductive KeyWork where
  /-- A staged key: its spore, SLOT as named, the unwrapped key, and whether it was latched too late for its request (R21,
  R283). -/
  | load (tk : Ticket) (host : Bool) (spore : Bytes) (slot : Nat) (key : Bytes) (late : Bool)
  /-- A derived host key and the NGENs it reports (R287). -/
  | derive (tk : Ticket) (slot : Nat) (content : SlotKey)
  /-- An eviction of a slot, with the expected GEN (R286). -/
  | evict (tk : Ticket) (slot gen : Nat)
  /-- A retirement: node, and whether the new copy of the generation table verifies (R289). -/
  | retire (tk : Ticket) (level f a b : Nat) (verified : Bool)
deriving DecidableEq, Repr

/-- One copy of the generation table in the monotonic counter region: its sequence number, its entries, its CRC-16 (R273). -/
structure GenTable where
  seq : Nat
  entries : List NodeGen
  crc : BitVec 16
deriving DecidableEq, Repr

/-- Key storage (chapter 11). -/
structure KeyStore where
  rhizome : Option Bytes := none
  erased : Bool := false
  slots : List Slot := List.replicate 64 {}
  /-- The two copies of the generation table; an erased one is absent (R273). -/
  table0 : Option GenTable := some ⟨0, [], 0x84C0#16⟩
  table1 : Option GenTable := none
  /-- Nodes retired while clauses latched before wait: the number of the first clause latched afterwards, and the node
  (R290). -/
  retired : List (Nat × Nat × Nat × Nat × Nat) := []
  requests : List SporeReq := []
  /-- Work of this tick that takes effect at its commit phase, in admission order; a load holds its key in staging
  until then (R276, R283, R286, R289). -/
  work : List KeyWork := []
deriving DecidableEq, Repr

/-! ### Cipher cluster, evidence -/

/-- Who needs an AES operation (R291, R292): the MAC check of a link engine's exchange, a clause by its number, or the next
request that is made in the tick. -/
inductive AesUser where
  | mac (engine : Nat)
  /-- The derivation of a crown token's key for an exchange. -/
  | crown (engine : Nat)
  | clause (order : Nat)
  /-- The sealing of a clause's reply. -/
  | sealing (order : Nat)
  /-- The next request of the tick that is served at once: that of a clause command, a reader exchange, a seal. -/
  | next
deriving DecidableEq, Repr

/-- Health of the cipher cluster (R291 to R294, R303, R304). -/
structure Cipher where
  aesFenced : BitVec 6 := 0
  /-- Parity faults of each core, as ticks. -/
  aesFaults : List (Nat × Nat) := []
  eccOut : BitVec 2 := 0
  eccFaults : List (Nat × Nat) := []
  /-- Operations of this tick that run, each on its core, since the first parity fault in it; and those that have used up their
  attempts (R291, R292). -/
  aesRetry : List (AesUser × Nat) := []
  aesLost : List AesUser := []
  /-- The next signature or hash has used up its attempts in this tick (R303, R304). -/
  eccExhausted : Bool := false
  hashExhausted : Bool := false
deriving DecidableEq, Repr

/-- An evidence record (Table 12.6). -/
structure Record where
  seq : Nat
  tick : Nat
  typ : Nat
  degraded : Bool
  aux : Nat
  link : Bytes
  body : Bytes
deriving DecidableEq, Repr

/-- Precedence of a waiting record (R39). -/
inductive RecClass where
  | auth (engine : Nat)
  | reply
  | other
deriving DecidableEq, Repr

/-- A record waiting for a commit phase with room (R39). `deferred` is set once a commit phase had no room. -/
structure Waiting where
  cls : RecClass
  typ : Nat
  body : Bytes
  deferred : Bool := false
  /-- For a record that goes with a reply, the number of its clause (R39). -/
  order : Nat := 0
  /-- Its place in the order of R179: that of the change that made it, or of an event (R306). -/
  rank : Nat := 4
deriving DecidableEq, Repr

/-- A seal whose parts are still to be appended (R310). -/
structure Seal where
  curve : Nat
  first : Nat
  last : Nat
  keyId : Bytes
  challenge : Bytes
  sig : Bytes
  /-- The tick in which its signature was made, and the range of the seal before it (R6, R310). -/
  tick : Nat := 0
  prev : Option (Nat × Nat) := none
deriving DecidableEq, Repr

/-- The evidence log (R305 to R313). -/
structure Evidence where
  /-- Newest first, at most 16,384 (R306). -/
  records : List Record := []
  next : Nat := 0
  begun : Bool := false
  waiting : List Waiting := []
  seals : List Seal := []
  /-- FIRST_SEQ and LAST_SEQ of the previous seal (R310). -/
  prevSeal : Option (Nat × Nat) := none
  /-- Records appended in the last commit phase, and its tick (R39); 4 when it was not published. -/
  appended : Nat := 4
  commitTick : Nat := 0
  /-- Records appended and not yet programmed: SEQ and tick (R308). -/
  unprogrammed : List (Nat × Nat) := []
  /-- The automatic signature point is not made before this tick, since its signature has failed its check twice (R303). -/
  pointFrom : Nat := 0
  /-- Public keys of the eight signing scalars: frond, curve, x, y (R272). -/
  publics : List (Nat × Nat × Nat × Nat) := []
deriving DecidableEq, Repr

/-! ### Random numbers -/

/-- One noise source (R314, R315). -/
structure Noise where
  rep : Nat := 0
  last : Bool := false
  /-- Windows ended since the CRYPTO domain started. -/
  windows : Nat := 0
  passed : Bool := false
deriving DecidableEq, Repr

/-- The random-number block (chapter 13). -/
structure Rng where
  srcA : Noise := {}
  srcB : Noise := {}
  /-- Blocks produced by the conditioner, not yet in the store. -/
  conditioned : List Bytes := []
  /-- The blocks of the entropy store that no clause has reserved, oldest first; and the reserved ones, each with the number of
  its clause (R318, R319, R329). -/
  store : List Bytes := []
  reserved : List (Nat × Bytes) := []
  live : Bool := false
  key : Bytes := []
  v : Nat := 0
  count : Nat := 0
  seeded : Bool := false
  starved : Bool := false
  /-- Tick of the instantiation: seeded from its commit phase (R321). -/
  seedTick : Option Nat := none
  wireLink : Bytes := []
  wireKey : Bytes := []
  wireCipher : Bytes := []
  fails : Nat := 0
deriving DecidableEq, Repr

/-! ### Tamper -/

/-- The tamper block (R351 to R361). Codes are those of Table 14.7. -/
structure Tamper where
  latched : BitVec 16 := 0
  present : BitVec 16 := 0
  eventSeq : Nat := 0
  unacked : Nat := 0
  lastSource : Nat := 0
  lastLevel : Nat := 0
  lastFlags : Byte := 0
  eventTick : Nat := 0
  sleepSeconds : Nat := 0
  hold : Bool := false
  permanent : Bool := false
  holdTick : Nat := 0
  erased : Bool := false
  /-- The moss domain's copy of the tamper entries; none after it has started from no supply (R354). -/
  entries : Option (List Nat) := none
  /-- What of `latched` and `unacked` the last boot has written to the monotonic counter region (R356). -/
  written : BitVec 16 := 0
  writtenCount : Nat := 0
  /-- The hold flag that the boot writes with them (R356). -/
  holdWritten : Bool := false
  /-- Events whose record and notice are not yet published: source, level, flags, EVENT_SEQ, tick, seconds. -/
  due : List (Nat × Nat × Nat × Nat × Nat × Nat) := []
  /-- How many of them, the oldest, have their records among those that wait (R361). -/
  queued : Nat := 0
  /-- Those that the last boot has written with the latch (R356). -/
  dueWritten : List (Nat × Nat × Nat × Nat × Nat × Nat) := []
  /-- The register of the mesh pattern (R351). -/
  mesh : BitVec 16 := 1
deriving DecidableEq, Repr

/-! ### Field engine and exchanges -/

/-- One aerial channel (chapter 04). -/
structure Channel where
  /-- Channel status byte of Table 04.10. -/
  status : Byte := 0
  gain : Nat := 0
  trim : Int := 0
  angle : Nat := 0
  /-- Peak current last measured, in units of 0.978 mA. -/
  current : Nat := 0
  /-- The effective target of R102 in units of 0.978 mA / 2^24. -/
  target : Nat := 0
  driven : Bool := false
  /-- The phase code it is driven at, and the edge rate of its bridge (R88, R107). -/
  phase : Nat := 0
  slew : Nat := 2
  /-- Overcurrent trips of the present booking or calibration step (R108). -/
  trips : Nat := 0
  /-- Ping baseline (R113): I, Q and n of a value (I + jQ) / 16^n. -/
  base : Option (Int × Int × Nat) := none
  pingTripped : Bool := false
deriving DecidableEq, Repr

/-- One aerial driven alone: a sounding step, a calibration step or the burst of a ping (R102, R107, R112). -/
structure Burst where
  aerial : Nat
  /-- The effective target in the units of `Channel.target`; 0: not driven. -/
  target : Nat
  phase : Nat := 0
  trim : Int := 0
  slew : Nat := 2
deriving DecidableEq, Repr

/-- Downlink frames (Table 05.4), and the stop gap of R132. -/
inductive Frame where
  | wake (group : Nat)
  | inventoryBegin (round : Nat)
  | treeBit (k : Nat) (v : Bool)
  | select (ident : Ident)
  | sound (steps : Nat)
  | challenge (nonce : BitVec 64)
  | confirm (mac : Bytes)
  | quiet (scope : Bool)
  | mailboxRead (page flags : Nat) (challenge : BitVec 64)
  | mailboxWrite (page flags : Nat) (data tag : Bytes)
  | harvest (duration : Nat)
  | stopGap
deriving DecidableEq, Repr

/-- Lookup outcomes (Table 06.3), with HOST_SILENT of R165. -/
inductive Lookup where
  | unknown
  | revoked
  | locked
  | crown
  | ordinary
  | hostSilent
deriving DecidableEq, Repr

/-- A key record (Table 06.11), with what LOCATE adds (Table 07.7). -/
structure KeyRec where
  ident : Ident
  outcome : Nat
  location : Nat := 0
  phaseDev : Int := -32768
  recip : Nat := 0xFFFF
  slotGen : Nat := 0
  axis : Nat := 0xFF
  flags : Byte := 0
  level : Nat := 0
  /-- CAL of Table 07.7. -/
  cal : Nat := 0
  inDist : Nat := 0xFFFF
  inPoint : Nat := 0xFF
  outPoint : Nat := 0xFF
  outDist : Nat := 0xFFFF
  valid : Nat := 0
  uplink : List (Option (Int × Int)) := []
deriving DecidableEq, Repr

/-- A valid CHALLENGE response (Table 05.5) with what the solver forms of it: the two phases, absent when unmeasured, and the
normalised coupling vector v in units of 2^-24 LSB at g = 3, absent where invalid (R182, R184). -/
structure Response where
  axis : Nat
  keyNonce : BitVec 64
  vector : List (Nat × Nat)
  mac : Bytes
  phasePre : Option Int
  phaseBody : Option Int
  v : List (Option (Int × Int))
deriving DecidableEq, Repr

/-- The key that an exchange is handling (R161). -/
structure CurKey where
  ident : Ident
  lookup : Lookup
  entry : Option Entry
  slot : Option Nat
  gen : Nat := 0
  nonce : BitVec 64 := 0
  sounded : Bool := false
  repeated : Bool := false
  /-- Its token was revoked after the lookup (R159). -/
  revoked : Bool := false
  /-- The tick of its lookup, in which a crown token's key is derived (R155, R353). -/
  looked : Nat := 0
deriving DecidableEq, Repr

/-- What a booking is for. -/
inductive Kind where
  | inventory
  | authenticate
  | locate
  | fieldVector (mode aerial amp : Nat)
  | aerialCal (mask options amp : Nat)
  | reader
deriving DecidableEq, Repr

/-- A reader exchange (R266 to R268). -/
structure Reader where
  port : PortId
  handle : Nat
  /-- The closing tick: the result can be fetched after its commit phase (R268). -/
  heldFrom : Nat
  write : Bool
  ident : Ident
  group : Nat
  page : Nat
  flags : Nat
  duration : Nat
  spore : Bytes
  data : Bytes
  challenge : BitVec 64 := 0
  counter : Nat := 0
  selectSilent : Bool := false
  invalid : Bool := false
  stale : Bool := false
  airStatus : Nat := 0xFF
  resCounter : Nat := 0
  resData : Bytes := []
  tagBad : Bool := false
  done : Bool := false
  /-- The number of its clause, the tick of its last operation with the reader key, and that a tamper event ended that
  operation (R267, R353). -/
  order : Nat := 0
  keyTick : Nat := 0
  aborted : Bool := false
deriving DecidableEq, Repr

/-- Where a booked exchange stands. -/
inductive Phase where
  | booked
  | lead
  | running
  | ending
deriving DecidableEq, Repr

/-- What the exchange is waiting for on air. -/
inductive Await where
  | nothing
  | stream (fromBit : Nat) (pre : List Bool)
  | lookup
  | response
  /-- The response is received and waits for its commit phase. -/
  | verdict
  | selectStatus
  | readerReply
  | harvestReply
deriving DecidableEq, Repr

/-- A booking of the air calendar and its exchange (R44, R161). -/
structure Booking where
  /-- Order number of the placement (R96). -/
  id : Nat
  engine : Nat
  zones : List Nat
  first : Nat
  closing : Nat
  kind : Kind
  /-- Sum of peak target codes in 65,536ths, and the static bridge estimate in units of 1 W / (100 (65,536 · 1,023)^2)
  (R95). -/
  current : Nat
  estimate : Nat
  ticket : Option Ticket
  /-- Trigger code of R170, 0 for an AUTHENTICATE, LOCATE or INVENTORY clause. -/
  trigger : Nat
  /-- Trigger index when a POLL_START or a trigger booked it (R194). -/
  index : Option Nat := none
  /-- The number of the poll that it belongs to (R194, R195). -/
  poll : Nat := 0
  /-- The port whose POLL_START booked it (R20, R196, R197). -/
  pollPort : Option PortId := none
  rerun : Bool := false
  hostSilent : Bool := false
  doorCheck : Bool := false
  recoveryPoll : Bool := false
  purpose : Nat := 0
  keyLimit : Nat := 0
  dv : Option Nat := none
  repeatOk : Bool := false
  enrolWake : Bool := false
  noSound : Bool := false
  calPhase : Bool := false
  round : Nat := 0
  group : Nat := 0
  phase : Phase := .booked
  /-- The drive vector copied at the lead (R90): channel, amplitude, phase. -/
  drive : List (Nat × Nat × Nat) := []
  /-- Aerials of the sounding sequence (R139). -/
  aerials : List Nat := []
  todo : List Frame := []
  sent : Option Frame := none
  /-- The bits of the frame last sent (Table 05.4). -/
  air : List Bool := []
  await : Await := .nothing
  /-- Identifier bits known so far (R132). -/
  bits : List Bool := []
  collisions : Nat := 0
  /-- The steps of the last sounding sequence and the currents recorded in it (R139); the steps of a calibration (R117). -/
  steps : List Burst := []
  sounding : List (Int × Int) := []
  /-- Channels that another engine has driven since the present reply window was opened (R97). -/
  foreign : List Nat := []
  cur : Option CurKey := none
  records : List KeyRec := []
  found : List (Ident × Bool × Int) := []
  endCode : Option Nat := none
  /-- A tamper event ended an operation with its key: no results (R6, R169). -/
  aborted : Bool := false
  /-- The tick in which the lanes handed its frames over; they are sent from the next tick on (R35, R144). -/
  planned : Option Nat := none
  /-- It ended by R371 or R378: an autonomous exchange is booked once more. -/
  again : Bool := false
  /-- The supply ceiling was 0 W since its lead began: its keys have lost carrier (R404). -/
  cut : Bool := false
  /-- The tick from whose commit phase on an end by R378 is published. -/
  endFrom : Nat := 0
  /-- The tick in which R164 asked it to stop after its key. -/
  stopping : Option Nat := none
  /-- The session that a decided key opened or refreshed; 0 for none. -/
  session : Nat := 0
  reader : Option Reader := none
  /-- Tick in which the measurement began (R114, R115). -/
  measured : Nat := 0
  /-- The configuration image of the first cycle of the lead (R90). -/
  copied : Mem := []
  /-- The gain g that each receiver holds to the end of the booking (R98). -/
  gains : List (Nat × Nat) := []
  /-- The trim of the booking, or of the calibration step, is set (R101). -/
  settled : Bool := false
  /-- Channels that failed a test of R108 in the calibration (R111). -/
  failed : List Nat := []
  /-- Identifiers that the engine has reported and the lanes have not yet listed, with their reply phases (R144). -/
  heard : List (Ident × Int) := []
  /-- Targets copied at the lead, before s_s: channel and code in 65,536ths (R90, R102). -/
  base : List (Nat × Nat) := []
  /-- Scales s_z, s_t and s_s of R102 in force, in 1/256. -/
  sz : Nat := 256
  st : Nat := 256
  ss : Nat := 256
  /-- A PHASE_REF to be written with the reply: identifier, mean, spread (R193). -/
  calWrite : Option (Ident × Int × Nat) := none
deriving DecidableEq, Repr

/-- The loopback test of an engine by a SELFTEST, by the clause's number: its one-tick booking against the engine and no zone,
or none where no such tick is free (R381). -/
structure Loopback where
  order : Nat
  engine : Nat
  tick : Option Nat
deriving DecidableEq, Repr

/-- A POLL_START schedule (R196). -/
structure Schedule where
  port : PortId
  index : Nat
  zones : Nat
  period : Nat
  due : Nat
  held : Bool := false
deriving DecidableEq, Repr

/-- Qualification of one input (R195): its last qualified level and the consecutive latch phases that saw the other
one. -/
structure InputQual where
  level : Bool := false
  seen : Nat := 0
  /-- Tick of the last latch phase counted. -/
  at_ : Nat := 0
deriving DecidableEq, Repr

/-- The LF side: channels, calendar, engines, triggers (chapters 04 to 07). -/
structure Field where
  ch : List Channel := List.replicate 16 {}
  bookings : List Booking := []
  /-- Loopback tests of SELFTEST clauses (R381). -/
  loops : List Loopback := []
  enginesOut : BitVec 4 := 0
  /-- Next round of each zone (R131). -/
  rounds : List Nat := List.replicate 8 0
  /-- Measured isolation of the 28 pairs (R117); none where not measured. -/
  isolation : List (Option Nat) := List.replicate 28 none
  schedules : List Schedule := []
  /-- Held triggers: index, confirming aerials (R30); index 7 is a held door-check poll. -/
  heldTriggers : List (Nat × Nat) := []
  /-- The number of the last poll of each entry; its end tick, none while it runs (R194, R195). -/
  lastPoll : List Nat := List.replicate 7 0
  pollEnd : List (Option Nat) := List.replicate 7 none
  ign : InputQual := {}
  start : InputQual := {}
  doors : List InputQual := List.replicate 4 {}
  wakePin : InputQual := {}
  /-- Results of reader exchanges not yet fetched (R268). -/
  readers : List Reader := []
  /-- Phase-calibration accumulator (R193). -/
  calIdent : Ident := 0
  calSamples : List Int := []
  /-- The scale s_s of R102 as last computed, in 1/256; each booking takes it at its next loop point (R103). -/
  scale : Nat := 256
  /-- Aerials whose ping exceeded the threshold, awaiting confirmation (R113). -/
  exceeded : List Nat := []
  confirmed : Nat := 0
  /-- The bursts of the last ping (R112), and the MOSS cycle in which it began (R198). -/
  bursts : List Burst := []
  /-- The MOSS cycle of the last sample of VBAT in this sleep (R199). -/
  vbatAt : Option Nat := none
  lastPing : Nat := 0
  pingStopped : Bool := false
  pingOverride : Bool := false
deriving DecidableEq, Repr

/-! ### What waits for a commit phase -/

/-- A lasting change that a clause or an event of a tick asks for. It is made at the first published commit phase (R16, R17,
R35), in the order of R179. -/
inductive Act where
  /-- The lanes handle the identifier that the exchange of a link engine has completed (R20, R144, R153). -/
  | lookup (engine : Nat)
  /-- TOKEN_REVOKE of an identifier (R159). -/
  | revoke (tk : Ticket) (ident : Ident)
  /-- A CHALLENGE response of the exchange of a link engine (R161). -/
  | judge (engine : Nat) (r : Response)
  /-- The booking of a link engine is over, with what it measured (R46). -/
  | bookingEnd (engine : Nat) (m : Measurement)
  /-- The door-check poll, or the recovery poll, ended undecided (R205, Table 06.14). -/
  | undecided (engine : Nat) (recovery : Bool)
  /-- TOKEN_ENROL: arguments and token key (R157). -/
  | enrol (tk : Ticket) (args key : Bytes)
  /-- PHASE_REF written with a LOCATE's reply: booking's zone, identifier, mean, spread (R193). -/
  | phaseRef (tk : Ticket) (zone : Nat) (ident : Ident) (mean : Int) (spread : Nat)
  /-- AERIAL_CAL: its booking as it ended, and what it measured (R118). -/
  | cal (tk : Ticket) (b : Booking) (m : Measurement)
  /-- CLOCK_SET (R84). -/
  | clockSet (tk : Ticket) (utc : Nat)
  /-- CONFIG_COMMIT and THALLUS_COMMIT: the staged image, its endorsers, the outcome of programming (R338, R349). -/
  | config (tk : Ticket) (img : Mem) (nvm : BankOutcome)
  | thallus (tk : Ticket) (img : Mem) (parties : List Nat) (nvm : BankOutcome)
  /-- ODO_INTERVAL and ODO_INIT (R226, R221). -/
  | odoInterval (tk : Ticket) (km : Nat)
  | odoInit (tk : Ticket) (metres : Nat)
  /-- SESSION_END and RELEASE_CLEAR with its HOST_REASON (R181, R211). -/
  | endSession (tk : Ticket)
  | clear (tk : Ticket) (hostReason : Byte)
  /-- SLEEP, with its wake timer in seconds (R415). -/
  | sleep (tk : Ticket) (wake : Nat)
  /-- TAMPER_ACK, with the parties that endorse it (R359). -/
  | ack (tk : Ticket) (parties : List Nat)
  /-- The session timer has expired; a door's level, the motion state or IGN has changed (R178, R215). -/
  | timer
  | door (opened : Bool)
  | moved
  | still
  /-- The limit of an engine's spore request has passed (R22). -/
  | hostSilent (engine : Nat)
  /-- The device has entered tamper hold (R207). -/
  | held
  /-- The outcome of the short lane probe of each lane (R380). -/
  | probe (aPasses bPasses : Bool)
  /-- A trigger of an entry, with the aerials that confirmed a ping (R28, R195); a repetition of a schedule (R196); the held
  starts after the seed (R30); the recovery poll (R205). -/
  | trigger (index aerials : Nat)
  | repetition (index : Nat)
  | heldStart
  | recovery
  /-- Bank repair, and the tick high-water mark (R334, R413): NVM is written at a commit phase (R35). -/
  | repair (k : BankKind)
  | highwater (tick : Nat)
  /-- The odometer is written (R220); the counts of a sleep are in it (R224). -/
  | odometer
  | woken
deriving DecidableEq, Repr

/-! ### The whole -/

/-- The state of the block and the queue of commands that wait. -/
structure State where
  pending : List Instr
  /-- The number of the present tick (Table 00.4, R412). -/
  tick : Nat
  /-- UTC as last set: value, tick; and whether the step limit applies (R83, R84, R413). -/
  utc : Nat
  utcTick : Nat
  /-- The tick from which UTC counts on: that of the last CLOCK_SET, or the first after a moss power-on (R413). -/
  utcBase : Nat
  utcSet : Bool
  utcFree : Bool
  portA : Port
  portB : Port
  ledger : List Demand
  /-- Admitted clauses from a frame buffer, those with LANE_HINT among them, and SELFTEST and KAT, whose work has not
  run (R43, R50, R373). -/
  work : List Queued
  orderNo : Nat
  /-- Clauses latched since the last published commit phase, in order (R373). -/
  latched : List Latched
  /-- Clauses whose work has run in this tick and has drawn random values: it draws anew when the tick is not published
  (R322). -/
  drawn : List Queued
  lanes : Lanes
  power : Power
  cfg : Banks
  thal : Banks
  prot : Protect
  dir : List (Nat × Entry)
  lock : Lockout
  ses : CabSession
  /-- The release cell, in the moss domain (R201). -/
  cell : Cell
  /-- Lasting changes that wait for a published commit phase, in order of arrival (R16, R35, R179). -/
  acts : List Act
  motion : Motion
  win : Window
  fp : FieldPort
  ks : KeyStore
  cipher : Cipher
  log : Evidence
  rng : Rng
  tamper : Tamper
  field : Field
  /-- The model's own counter of free values drawn (log entry 12); not the spec's. -/
  freeCtr : Nat
deriving DecidableEq, Repr

/-- A new, unpersonalised device at its first moss power-on, before crozier stage 0 (log entry 2). -/
def State.reset : State where
  pending := []
  tick := 0
  utc := 0
  utcTick := 0
  utcBase := 0
  utcSet := false
  utcFree := true
  portA := { spiReset := true }
  portB := { spiReset := true }
  ledger := []
  work := []
  orderNo := 0
  latched := []
  drawn := []
  lanes := {}
  power := {}
  cfg := { cur := defaultConfig }
  thal := { cur := factoryThallus }
  prot := {}
  dir := []
  lock := {}
  ses := {}
  cell := {}
  acts := []
  motion := {}
  win := {}
  fp := {}
  ks := {}
  cipher := {}
  log := {}
  rng := {}
  tamper := {}
  field := {}
  freeCtr := 0

end Sys2Proof.Machine
end

