-- ==== Sys2Proof/Machine/Operands.lean ====
section
/-! DEFINITION. Operand forms: argument fields of clauses (R14, R15) and the records of the two bank images
(Tables 04.2 to 04.6, 06.13, 07.1, 07.3, 07.4, 07.8, 07.9, 08.5, 14.2, 14.4, 14.5, 14.8) with their commit checks. -/

namespace Sys2Proof.Machine

open Sys2Proof

/-! ### Argument fields -/

/-- The little-endian number in bytes `[off, off + n)` (R15). -/
def num (b : Bytes) (off n : Nat) : Nat := ofLe (slice b off n)

/-- The signed number there. -/
def int (b : Bytes) (off n : Nat) : Int := untwos (8 * n) (num b off n)

/-- Byte `i` as a number. -/
def oct (b : Bytes) (i : Nat) : Nat := (byteAt b i).toNat

/-- Bytes `[off, off + n)` are all zero (R14). -/
def zero (b : Bytes) (off n : Nat) : Bool := (slice b off n).all (· == 0#8)

/-- Bit `i` of a number. -/
abbrev bit (n i : Nat) : Bool := n.testBit i

/-- The numbers below `n` whose bit is set in `mask`. -/
def bitsIn (n mask : Nat) : List Nat := (List.range n).filter fun i => bit mask i

/-- The mask with the listed bits set. -/
def maskOf (l : List Nat) : Nat := l.foldl (fun m i => m ||| 2 ^ i) 0

/-- A byte of a signed number. -/
abbrev sbyte (i : Int) : Bytes := leN 1 (twos 8 i)

/-- Ticks of a duration in seconds: the next whole number of 256 µs (R171). -/
def secondsToTicks (s : Nat) : Nat := (s * 1000000 + 255) / 256

/-! ### Configuration records -/

/-- Descriptor FLAGS of channel `n` (Table 04.4). -/
def aeFlags (c : Mem) (n : Nat) : Nat := c.num (0x40 + 16 * n) 1
/-- ENABLED (Table 04.4). -/
def aeEnabled (c : Mem) (n : Nat) : Bool := bit (aeFlags c n) 7
/-- PING (Table 04.4). -/
def aePing (c : Mem) (n : Nat) : Bool := bit (aeFlags c n) 6
/-- TRIM_PINNED (Table 04.4). -/
def aeTrimPinned (c : Mem) (n : Nat) : Bool := bit (aeFlags c n) 5
/-- TRIM_PIN (Table 04.3). -/
def aeTrimPin (c : Mem) (n : Nat) : Int := untwos 8 (c.num (0x41 + 16 * n) 1)
/-- AMP_CAP (Table 04.3). -/
def aeAmpCap (c : Mem) (n : Nat) : Nat := c.num (0x42 + 16 * n) 2
/-- SOUND_AMP (Table 04.3). -/
def aeSoundAmp (c : Mem) (n : Nat) : Nat := c.num (0x44 + 16 * n) 2
/-- TRIM_STORED (Table 04.3). -/
def aeTrimStored (c : Mem) (n : Nat) : Int := untwos 8 (c.num (0x46 + 16 * n) 1)
/-- Magnitude and phase of TX_GAIN (Table 04.3). -/
def aeTxGain (c : Mem) (n : Nat) : Nat × Int := (c.num (0x48 + 16 * n) 2, untwos 16 (c.num (0x4A + 16 * n) 2))
/-- Magnitude and phase of RX_GAIN (Table 04.3). -/
def aeRxGain (c : Mem) (n : Nat) : Nat × Int := (c.num (0x4C + 16 * n) 2, untwos 16 (c.num (0x4E + 16 * n) 2))

/-- Channel word `n` of drive vector `v` (Table 04.2). -/
def dvWord (c : Mem) (v n : Nat) : Nat := c.num (0x140 + 64 * v + 4 * n) 4
/-- EN of a channel word. -/
def dvEn (c : Mem) (v n : Nat) : Bool := bit (dvWord c v n) 31
/-- AMP of a channel word. -/
def dvAmp (c : Mem) (v n : Nat) : Nat := dvWord c v n / 65536 % 1024
/-- PHASE of a channel word. -/
def dvPhase (c : Mem) (v n : Nat) : Nat := dvWord c v n / 256 % 256
/-- The channels a drive vector drives. -/
def dvChannels (c : Mem) (v : Nat) : List Nat := (List.range 16).filter (dvEn c v)

/-- AERIALS of a zone (Table 04.5). -/
def zoneAerials (c : Mem) (z : Nat) : Nat := c.num (0x940 + 8 * z) 2
/-- ZONE_EN. -/
def zoneEnabled (c : Mem) (z : Nat) : Bool := z < 8 && bit (c.num (0x942 + 8 * z) 1) 7
/-- DEFAULT_DV. -/
def zoneDv (c : Mem) (z : Nat) : Nat := c.num (0x943 + 8 * z) 1
/-- ZONE_CAP. -/
def zoneCap (c : Mem) (z : Nat) : Nat := c.num (0x944 + 8 * z) 2
/-- Bit `j` of byte `i` of the isolation matrix. -/
def isoDeclared (c : Mem) (i j : Nat) : Bool := bit (c.num (0x980 + i) 1) j

/-- TOTAL_CAP, ISO_THRESH, PING_AMP, DETUNE_THRESH, RX_GAIN_MODE (Table 04.6). -/
def totalCap (c : Mem) : Nat := c.num 0x988 2
def isoThresh (c : Mem) : Nat := c.num 0x98B 1
def pingAmp (c : Mem) : Nat := c.num 0x98C 2
def detuneThresh (c : Mem) : Nat := c.num 0x98E 1
def rxGainMode (c : Mem) : Nat := c.num 0x98F 1
/-- SLEW (Table 04.9). -/
def slewOf (c : Mem) : Nat := c.num 0x98A 1

/-- Fields of trigger entry `i` (Table 07.8). -/
def trigFlags (c : Mem) (i : Nat) : Nat := c.num (0x998 + 8 * i) 1
def trigEn (c : Mem) (i : Nat) : Bool := bit (trigFlags c i) 7
def trigRepeat (c : Mem) (i : Nat) : Bool := bit (trigFlags c i) 6
def trigWake (c : Mem) (i : Nat) : Bool := bit (trigFlags c i) 5
def trigZones (c : Mem) (i : Nat) : Nat := c.num (0x999 + 8 * i) 1
def trigK (c : Mem) (i : Nat) : Nat := c.num (0x99A + 8 * i) 1
def trigHoldoff (c : Mem) (i : Nat) : Nat := c.num (0x99C + 8 * i) 2

/-- Fields of the standby record (Table 07.9). -/
def pMax (c : Mem) : Nat := c.num 0x9D0 1
def pingEn (c : Mem) : Bool := bit (c.num 0x9D1 1) 7
def batLow (c : Mem) : Nat := c.num 0x9D2 2
def batStop (c : Mem) : Nat := c.num 0x9D4 2

/-- IRQ_EN of a port (Table 14.2, R78). -/
def irqEn (c : Mem) : PortId → BitVec 16
  | .a => BitVec.ofNat 16 (c.num 0x9D8 2)
  | .b => BitVec.ofNat 16 (c.num 0x9DA 2)
/-- SESSION_TIMEOUT in ticks (Table 14.2, R178). -/
def sessionTicks (c : Mem) : Nat := secondsToTicks (c.num 0x9DC 2)
/-- GROUP, the vehicle group sent in WAKE (Table 14.2, R130). -/
def vehicleGroup (c : Mem) : Nat := c.num 0x9E0 3

/-- Fields of the atlas header (Table 07.3). -/
def atlasId (c : Mem) : Nat := c.num 0x1000 4
def atlasCount (c : Mem) : Nat := c.num 0x100C 2
def atlasScale (c : Mem) : Nat := c.num 0x100E 1
def atlasMinElems (c : Mem) : Nat := c.num 0x100F 1
def atlasMatchMax (c : Mem) : Nat := c.num 0x1010 2
def atlasMargin (c : Mem) : Nat := c.num 0x1012 2

/-- Byte address of atlas point `p` (Table 07.4). -/
def atlasPoint (p : Nat) : Nat := 0x1020 + 68 * p

/-- The atlas image: header and COUNT points (Tables 07.3, 07.4). -/
def atlasImage (c : Mem) : Bytes := c.readBytes 0x1000 (32 + 68 * atlasCount c)

/-- Byte layout test: `[off, off + n)` of an image is zero (R14). -/
def Mem.zeroAt (m : Mem) (off n : Nat) : Bool := (m.readBytes off n).all (· == 0#8)

/-- `lo ≤ x ≤ hi`. -/
def inRange (lo hi x : Nat) : Bool := lo ≤ x && x ≤ hi

/-- A trim in its range -32 to 32 (Table 04.3). -/
def trimOk (t : Int) : Bool := -32 ≤ t && t ≤ 32

/-- Ranges and reserved bits of one aerial descriptor (Tables 04.3, 04.4). -/
def aerialOk (c : Mem) (n : Nat) : Bool :=
  aeFlags c n % 32 == 0 && trimOk (aeTrimPin c n) && aeAmpCap c n < 1024 && aeSoundAmp c n < 1024 &&
    trimOk (aeTrimStored c n) && c.zeroAt (0x47 + 16 * n) 1

/-- Reserved bits of one channel word, and R92's test of it (Table 04.2). -/
def dvWordOk (c : Mem) (v n : Nat) : Bool :=
  let w := dvWord c v n
  w % 256 == 0 && w / 2 ^ 26 % 32 == 0 && (!dvEn c v n || aeEnabled c n)

/-- Ranges, reserved bits and R92's tests of one zone record (Table 04.5). -/
def zoneOk (c : Mem) (z : Nat) : Bool :=
  c.num (0x942 + 8 * z) 1 % 128 == 0 && zoneDv c z < 32 && c.zeroAt (0x946 + 8 * z) 2 &&
    (!zoneEnabled c z ||
      (zoneAerials c z != 0 && (bitsIn 16 (zoneAerials c z)).all (aeEnabled c) &&
        dvChannels c (zoneDv c z) != [] && (dvChannels c (zoneDv c z)).all (bit (zoneAerials c z))))

/-- R92's tests of the isolation matrix. -/
def isolationOk (c : Mem) : Bool :=
  (List.range 8).all fun i => !isoDeclared c i i && (List.range 8).all fun j =>
    isoDeclared c i j == isoDeclared c j i && (!isoDeclared c i j || zoneAerials c i &&& zoneAerials c j == 0)

/-- Ranges of the field engine limits (Table 04.6). -/
def limitsOk (c : Mem) : Bool :=
  inRange 500 16000 (totalCap c) && slewOf c ≤ 3 && inRange 20 80 (isoThresh c) && inRange 1 1023 (pingAmp c) &&
    inRange 5 100 (detuneThresh c) && rxGainMode c ≤ 4 && c.zeroAt 0x990 8

/-- R194's tests of one trigger entry. -/
def triggerOk (c : Mem) (i : Nat) : Bool :=
  trigFlags c i % 32 == 0 && c.zeroAt (0x99B + 8 * i) 1 && c.zeroAt (0x99E + 8 * i) 2 &&
    (!trigEn c i || (trigZones c i != 0 && (bitsIn 8 (trigZones c i)).all (zoneEnabled c) && inRange 1 12 (trigK c i)))

/-- Ranges of the standby, host and vehicle records (Tables 07.9, 14.2). The two low bits of an interrupt mask select
reserved bits of the cause word and are reserved as these are (R14, Table 03.12; DEDUCED, log entry 52). -/
def hostRecordsOk (c : Mem) : Bool :=
  inRange 1 64 (pMax c) && c.num 0x9D1 1 % 128 == 0 && inRange 6000 30000 (batLow c) && inRange 5000 29600 (batStop c) &&
    batStop c + 400 ≤ batLow c && c.zeroAt 0x9D6 2 && c.num 0x9D8 2 % 4 == 0 && c.num 0x9DA 2 % 4 == 0 &&
    inRange 2 600 (c.num 0x9DC 2) && c.zeroAt 0x9DE 2 &&
    c.zeroAt 0x9E3 5

/-- Ranges of the atlas header (Table 07.3); `h` is the header. -/
def atlasHeaderOk (h : Bytes) : Bool :=
  num h 12 2 ≤ 256 && oct h 14 ≤ 6 && inRange 2 16 (oct h 15) && inRange 0x10 0x8000 (num h 16 2) &&
    num h 18 2 ≤ 0x4000 && zero h 20 12

/-- Fields of an atlas point (R190). -/
def atlasPointOk (p : Bytes) : Bool := oct p 0 ≤ 2 && oct p 1 ≤ 7 && int p 2 1 ≤ int p 3 1

/-- The records that CONFIG_COMMIT would install pass R92, R194, their ranges and R14 (R338). -/
def configOk (c : Mem) : Bool :=
  (List.range 16).all (aerialOk c) && (List.range 32).all (fun v => (List.range 16).all (dvWordOk c v)) &&
    (List.range 8).all (zoneOk c) && isolationOk c && limitsOk c && (List.range 7).all (triggerOk c) && hostRecordsOk c

/-! ### Thallus settings -/

/-- Bits of THALLUS_FLAGS (Table 14.5) and THALLUS_FLAGS2 (Table 14.4). -/
def thalEvaluated (t : Mem) : Bool := bit (t.num 0x40 1) 7
def thalSeal (t : Mem) : PortId → Bool
  | .a => bit (t.num 0x40 1) 6
  | .b => bit (t.num 0x40 1) 5
def thalCompat (t : Mem) : Bool := bit (t.num 0x40 1) 4
def thalPartyRule (t : Mem) : Bool := bit (t.num 0x40 1) 3
def thalRequirePhaseCal (t : Mem) : Bool := bit (t.num 0x40 1) 2
def thalRelayCounts (t : Mem) : Bool := bit (t.num 0x40 1) 1
def thalCrownExempt (t : Mem) : Bool := bit (t.num 0x40 1) 0
def thalSingleLane (t : Mem) : Bool := bit (t.num 0x41 1) 0

/-- EVIDENCE_CURVE and CLOCK_STEP_LIMIT (Table 14.4). -/
def evidenceCurve (t : Mem) : Nat := t.num 0x42 1
def clockStepLimit (t : Mem) : Nat := t.num 0x44 2

/-- Lockout settings (Table 06.13), durations in ticks. -/
def idFails (t : Mem) : Nat := t.num 0x48 1
def devFails (t : Mem) : Nat := t.num 0x49 1
def idWindow (t : Mem) : Nat := secondsToTicks (t.num 0x4A 2)
def idLock (t : Mem) : Nat := secondsToTicks (t.num 0x4C 2)
def devWindow (t : Mem) : Nat := secondsToTicks (t.num 0x4E 2)
def devLock (t : Mem) : Nat := secondsToTicks (t.num 0x50 2)

/-- Relay-defence settings (Table 07.1). -/
def phaseWinDefault (t : Mem) : Nat := t.num 0x58 1
def recipThresh (t : Mem) : Nat := t.num 0x5A 2
def zonePhaseOfs (t : Mem) (z : Nat) : Int := untwos 8 (t.num (0x5C + z) 1)
def atlasDigest (t : Mem) : Bytes := t.readBytes 0x68 32

/-- Motion settings (Table 08.5). -/
def kFactor (t : Mem) (i : Nat) : Nat := t.num (0x88 + 4 * i) 4
def filterOf (t : Mem) (i : Nat) : Nat := t.num (0xA8 + i) 1
def edgeFalling (t : Mem) (i : Nat) : Bool := bit (t.num 0xB0 1) i
def motionGroup (t : Mem) : Nat := t.num 0xB1 1
def odoPrimary (t : Mem) : Nat := t.num 0xB2 1
def odoSecondary (t : Mem) : Nat := t.num 0xB3 1
def stillTime (t : Mem) : Nat := t.num 0xB4 2
def movePulses (t : Mem) : Nat := t.num 0xB6 1
def vMax (t : Mem) : Nat := t.num 0xB7 1
def aMax (t : Mem) : Nat := t.num 0xB8 1
def dMax (t : Mem) : Nat := t.num 0xB9 1
def vTol (t : Mem) : Nat := t.num 0xBA 1
def relTol (t : Mem) : Nat := t.num 0xBB 1
def sleepWakePulses (t : Mem) : Nat := t.num 0xBC 2

/-- Tamper entry of source code `code` (Table 14.8). -/
def tamperEntry (t : Mem) (code : Nat) : Nat := t.num (0xC8 + 2 * (code - 1)) 2
/-- EN, LEVEL and SLEEP_ACTIVE of an entry. -/
def entryEn (e : Nat) : Bool := bit e 15
def entryLevel (e : Nat) : Nat := e / 4096 % 8
def entrySleep (e : Nat) : Bool := bit e 11

/-- A registered public key: curve code and point (Table 14.4). -/
structure PubKey where
  curve : Nat
  x : Nat
  y : Nat
deriving DecidableEq, Repr

/-- The point at `off` of an image, its coordinates of the curve's own length. -/
def pointAt (t : Mem) (curve off : Nat) : PubKey :=
  let c := if curve ≤ 2 then 32 else 48
  ⟨curve, ofBe (t.readBytes off c), ofBe (t.readBytes (off + 48) c)⟩

/-- The host key of a port, none when none is registered (Table 14.4). -/
def hostKey (t : Mem) (p : PortId) : Option PubKey :=
  let off := if p = .a then 0x100 else 0x168
  let cv := t.num off 1
  if cv = 0 then none else some (pointAt t cv (off + 8))

/-- CLASS of party `i`: 0 empty, 1 KEEPER, 2 AUTHORITY (Table 14.4). -/
def partyClass (t : Mem) (i : Nat) : Nat := t.num (0x1D0 + 112 * i) 1
/-- The key of party `i`. -/
def partyKey (t : Mem) (i : Nat) : PubKey := pointAt t (t.num (0x1D1 + 112 * i) 1) (0x1E0 + 112 * i)
/-- KEY_ID of party `i`. -/
def partyKeyId (t : Mem) (i : Nat) : Bytes := t.readBytes (0x1D8 + 112 * i) 8

/-- The point of a public key is on its curve (R302). -/
def PubKey.onCurve (k : PubKey) : Bool :=
  match Crypto.curveOf k.curve with
  | some cv => Crypto.onCurve cv k.x k.y
  | none => false

/-- The 16 bytes after a 256-bit coordinate are zero (Table 14.4). -/
def coordPadOk (t : Mem) (curve off : Nat) : Bool :=
  2 < curve || (t.zeroAt (off + 32) 16 && t.zeroAt (off + 80) 16)

/-- A host-key entry passes R341. -/
def hostKeyOk (t : Mem) (p : PortId) : Bool :=
  let off := if p = .a then 0x100 else 0x168
  t.num off 1 ≤ 4 && t.zeroAt (off + 1) 7 &&
    match hostKey t p with
    | none => true
    | some k => k.onCurve && coordPadOk t k.curve (off + 8)

/-- A party entry passes R341. -/
def partyOk (t : Mem) (i : Nat) : Bool :=
  partyClass t i ≤ 2 && t.zeroAt (0x1D2 + 112 * i) 6 &&
    (partyClass t i == 0 ||
      ((partyKey t i).onCurve && coordPadOk t (partyKey t i).curve (0x1E0 + 112 * i) &&
        match Crypto.curveOf (partyKey t i).curve with
        | some cv => partyKeyId t i == Crypto.keyId cv (partyKey t i).x (partyKey t i).y
        | none => false))

/-- The non-empty party entries. -/
def parties (t : Mem) : List Nat := (List.range 4).filter fun i => partyClass t i != 0

/-- Two parties satisfy PARTY_RULE (Table 14.5). -/
def partyPairOk (t : Mem) (i j : Nat) : Bool :=
  i != j && (!thalPartyRule t || partyClass t i != partyClass t j)

/-- The party entries can satisfy PARTY_RULE, and no two hold the same point (R341). -/
def partiesOk (t : Mem) : Bool :=
  (List.range 4).all (partyOk t) &&
    (parties t).all (fun i => (parties t).all fun j => i == j || partyKey t i != partyKey t j) &&
    (parties t).any fun i => (parties t).any fun j => partyPairOk t i j

/-- Tamper entries: reserved bits and codes, and the minimum of Table 14.7. -/
def tamperEntriesOk (t : Mem) : Bool :=
  ((List.range 9).all fun i =>
    let e := tamperEntry t (i + 1)
    e % 1024 == 0 && entryLevel e ≤ 3) &&
    t.zeroAt 0xDA 14 && entryEn (tamperEntry t 8) && 2 ≤ entryLevel (tamperEntry t 8) &&
    entryEn (tamperEntry t 9) && 1 ≤ entryLevel (tamperEntry t 9)

/-- Ranges of the lockout and relay-defence settings (Tables 06.13, 07.1). -/
def securityRangesOk (t : Mem) : Bool :=
  inRange 2 15 (idFails t) && inRange 5 100 (devFails t) && inRange 10 600 (t.num 0x4A 2) &&
    inRange 60 3600 (t.num 0x4C 2) && inRange 60 3600 (t.num 0x4E 2) && inRange 60 7200 (t.num 0x50 2) &&
    t.zeroAt 0x52 6 && inRange 1 32 (phaseWinDefault t) && t.zeroAt 0x59 1 && inRange 0x100 0x8000 (recipThresh t) &&
    (List.range 8).all (fun z => trimOk (zonePhaseOfs t z)) && t.zeroAt 0x64 4

/-- Ranges of the motion settings and R214. -/
def motionRangesOk (t : Mem) : Bool :=
  (List.range 8).all (fun i => inRange 500 200000 (kFactor t i)) && odoPrimary t ≤ 1 &&
    bit (motionGroup t) (odoPrimary t) && odoSecondary t != odoPrimary t &&
    (odoSecondary t == 0xFF || (odoSecondary t ≤ 1 && bit (motionGroup t) (odoSecondary t))) &&
    inRange 3907 39063 (stillTime t) && inRange 1 16 (movePulses t) && inRange 40 250 (vMax t) &&
    inRange 5 100 (aMax t) && inRange 10 150 (dMax t) && inRange 1 20 (vTol t) && inRange 1 50 (relTol t) &&
    t.zeroAt 0xBE 10

/-- The evaluated configuration (Table 14.13). -/
def evaluatedOk (t : Mem) : Bool :=
  let lvl := fun (lo code : Nat) => entryEn (tamperEntry t code) && lo ≤ entryLevel (tamperEntry t code)
  thalSeal t .a && thalSeal t .b && !thalCompat t && thalPartyRule t &&
    (parties t).any (fun i => partyClass t i == 1) && (parties t).any (fun i => partyClass t i == 2) &&
    !thalSingleLane t && !thalCrownExempt t && thalRelayCounts t && thalRequirePhaseCal t &&
    phaseWinDefault t ≤ 6 && recipThresh t ≤ 0x1000 && !t.zeroAt 0x68 32 && idFails t ≤ 5 && devFails t ≤ 20 &&
    300 ≤ t.num 0x4C 2 && 600 ≤ t.num 0x50 2 && (List.range 8).all (fun i => filterOf t i ≤ 50) &&
    2 ≤ (bitsIn 8 (motionGroup t)).length && clockStepLimit t ≤ 600 &&
    [1, 2].all (fun c => lvl 2 c && entrySleep (tamperEntry t c)) &&
    [3, 4].all (fun c => lvl 1 c && entrySleep (tamperEntry t c)) && [5, 6, 7].all (lvl 1) && lvl 3 8

/-- A staged thallus passes R341. -/
def thallusOk (t : Mem) : Bool :=
  t.num 0x41 1 ≤ 1 && inRange 1 4 (evidenceCurve t) && t.zeroAt 0x43 1 && inRange 1 3600 (clockStepLimit t) &&
    t.zeroAt 0x46 2 && securityRangesOk t && motionRangesOk t && tamperEntriesOk t && t.zeroAt 0xE8 24 &&
    hostKeyOk t .a && hostKeyOk t .b && partiesOk t && (!thalEvaluated t || evaluatedOk t)

end Sys2Proof.Machine
end

