-- ==== Sys2Proof/Machine/Flags.lean ====
section
/-! DEFINITION. Flag and status computations: lane service, STATUS fault flags (Table 03.16), the port status byte
(Table 03.3), the cause word (Table 03.12), state codes (Tables 03.15, 08.1, 08.6, 15.4). -/

namespace Sys2Proof.Machine

open Sys2Proof

/-- A Boolean as one bit of a 16-bit word. -/
def bitAt (i : Nat) (b : Bool) : BitVec 16 := if b then 1#16 <<< i else 0#16

/-- A lane is out of service (R5, R53). -/
def State.degraded (s : State) : Bool := s.lanes.causeA != 0 || s.lanes.causeB != 0

/-- A lane's loss withholds the present tick; not one that the probe found (R366, R367, R380). -/
def State.lossWithholds (s : State) : Bool :=
  match s.lanes.takeoverDue with
  | some (f, _, c) => !(c == 6 && f == s.tick)
  | none => false

/-- The work of the present tick is that of one lane (R23, R372): a lane is out of service, or its loss withholds the tick,
whose work the surviving lane runs. -/
def State.alone (s : State) : Bool := s.degraded || s.lossWithholds

/-- Replies published now carry DONE_DEGRADED (R5, R369). -/
def State.gradesDown (s : State) : Bool :=
  s.degraded || (s.lanes.degradedUntil != 0 && decide (s.tick ≤ s.lanes.degradedUntil))

/-- Lanes in service, as the records code them: 3 both, 1 A alone, 2 B alone (Table 08.8). -/
def State.lanesCode (s : State) : Nat := if s.lanes.causeB != 0 then 1 else if s.lanes.causeA != 0 then 2 else 3

/-- The lanes run. -/
def State.awake (s : State) : Bool := s.power.life == .awake || s.power.life == .sleepPending

/-- The lanes sleep, or a wake source has just qualified and others may qualify in the same MOSS cycle (R411). -/
def State.wakesNow (s : State) : Bool :=
  s.power.life == .asleep || (s.power.life == .starting && s.power.wakeCycle.isSome && decide (0x20 ≤ s.power.nextCause))

/-- Motion state code (Table 08.6). -/
def motionCode : MotionState → Nat
  | .stationary => 0
  | .moving => 1
  | .settling => 2

/-- Release cell code (Table 08.1). -/
def cellCode : CellState → Nat
  | .locked => 0
  | .released => 1
  | .clearPending => 2

/-- Session state code (Table 06.15). -/
def sesCode : SesState → Nat
  | .closed => 0
  | .entry => 1
  | .released => 2
  | .doorCheck => 3

/-- Channel `n` is out of service (Table 04.10, R109). -/
def State.oos (s : State) (n : Nat) : Bool :=
  match s.field.ch[n]? with
  | some c => c.status.getLsbD 7
  | none => true

/-- Channel `n` is fitted under a configuration, and in service (R87, R111). -/
def State.liveIn (s : State) (c : Mem) (n : Nat) : Bool := aeEnabled c n && !s.oos n

/-- Channel `n` is fitted and in service (R87, R111). -/
def State.inService (s : State) (n : Nat) : Bool := s.liveIn s.cfg.cur n

/-- Exactly one bank of the kind is valid (R334). -/
def Banks.fallback (b : Banks) : Bool := (b.bank0.cond == .valid) != (b.bank1.cond == .valid)

/-- STATUS fault flags (Table 03.16). -/
def State.faults (s : State) : BitVec 16 :=
  bitAt 0 (s.lanes.causeA != 0) ||| bitAt 1 (s.lanes.causeB != 0) ||| bitAt 2 (s.cipher.aesFenced != 0) |||
    bitAt 3 (s.cipher.eccOut != 0) ||| bitAt 4 ((List.range 16).any fun n => s.oos n) ||| bitAt 5 s.cfg.fallback |||
    bitAt 6 s.thal.fallback ||| bitAt 7 s.power.xtalFallback ||| bitAt 8 (s.power.thermalCeiling < 3000000) |||
    bitAt 9 s.power.loopClamped ||| bitAt 10 s.power.crossingFlushed

/-- STATE of STATUS (Table 03.15). -/
def State.stateCode (s : State) : Nat :=
  if s.tamper.hold then 3 else if s.power.life == .sleepPending then 4 else if s.degraded then 2 else 1

/-- SEEDED of STATUS: first seed present and the DRBG not starved (R321, R323). -/
def State.seeded (s : State) : Bool := s.rng.seeded && !s.rng.starved

/-- REPLY_PENDING: a reply store of the port holds an unread reply or notice (Table 03.3). -/
def Port.replyPending (q : Port) : Bool := q.general != [] || q.spores != []

/-- The port status byte (Table 03.3). -/
def Port.status (q : Port) : Byte :=
  BitVec.ofNat 8 (128 * b2n q.ready + 8 * (if q.ready then min 8 q.credits else 0) + 4 * b2n q.replyPending +
    2 * b2n q.irq + b2n q.session.isSome)

/-- The state bits of the cause word of a port (Table 03.12). -/
def Port.stateBits (q : Port) (tamper degraded : Bool) : BitVec 16 :=
  bitAt 6 tamper ||| bitAt 5 degraded ||| bitAt 4 (q.general.any fun f => f.clause.isNone) |||
    bitAt 3 (q.spores != []) ||| bitAt 2 (q.general.any fun f => f.clause.isSome)

/-- TAMPER of the cause word: tamper hold, or an event not acknowledged (Table 03.12). -/
def State.tamperCause (s : State) : Bool := s.tamper.hold || s.tamper.unacked != 0

/-- STATE of TAMPER_STATUS (Table 14.11). -/
def Tamper.code (t : Tamper) : Nat :=
  if t.permanent then 3 else if t.hold then 2 else if t.unacked != 0 then 1 else 0

/-- SERVICE of LANE_STATUS (Table 15.4). -/
def State.serviceCode (s : State) : Nat := if s.lanes.causeB != 0 then 2 else if s.lanes.causeA != 0 then 3 else 1

/-- CLOCK of LANE_STATUS (Table 15.4). -/
def State.clockCode (s : State) : Nat := if s.power.xtalFallback then (if s.power.x32Failed then 2 else 1) else 0

/-- SRC_FLAGS byte of a speed input (Table 08.10). -/
def State.sourceFlags (s : State) (i : Nat) : Nat :=
  match s.motion.src[i]? with
  | none => 0
  | some c =>
    let act := match c.lastTick with
      | some t => s.tick < t + 3907
      | none => false
    c.flags.toNat + 16 * b2n (bit (motionGroup s.thal.cur) i) + 32 * b2n act

end Sys2Proof.Machine
end

