-- ==== Sys2Proof/Machine/Ops.lean ====
section
/-! DEFINITION. Shared operations of the host side: ports, stores and credits (R60 to R69), sealing (R70 to R73),
the admission test and its ledgers (R41 to R43, R49, R51), refusals and replies, evidence records waiting for a commit
phase (R39, R437), notices and cause bits (R68, R78), free values. -/

namespace Sys2Proof.Machine

open Sys2Proof

/-! ### Order -/

/-- Put `x` before the first member of an ordered list that it may precede. -/
def insertBy {α : Type} (le : α → α → Bool) (x : α) : List α → List α
  | [] => [x]
  | y :: r => if le x y then x :: y :: r else y :: insertBy le x r

/-- A list in order; members of equal rank keep their places. -/
def sortBy {α : Type} (le : α → α → Bool) (l : List α) : List α := l.foldr (insertBy le) []

/-! ### Ports -/

/-- The port of a name. -/
def State.port (s : State) : PortId → Port
  | .a => s.portA
  | .b => s.portB

/-- Replace a port. -/
def State.setPort (s : State) (p : PortId) (q : Port) : State :=
  { s with portA := if p = .a then q else s.portA, portB := if p = .b then q else s.portB }

/-- Change a port. -/
def State.onPort (s : State) (p : PortId) (f : Port → Port) : State :=
  { s with portA := if p = .a then f s.portA else s.portA, portB := if p = .b then f s.portB else s.portB }

/-- Change both ports. -/
def State.onPorts (s : State) (f : Port → Port) : State := { s with portA := f s.portA, portB := f s.portB }

/-- The record code of a port: 0x0A for SPIA, 0x0B for SPIB. -/
def portCode : PortId → Nat
  | .a => 0x0A
  | .b => 0x0B

/-- Event bits of this tick on one port (R80). -/
def Port.raise (e : BitVec 16) (q : Port) : Port := { q with newEvents := q.newEvents ||| e }

/-- Raise an event bit of the cause word on both ports (R80): FAULT, MOTION, RELEASE, LOCKOUT. -/
def State.raise (i : Nat) (s : State) : State := s.onPorts (Port.raise (bitAt i true))

/-- Raise an event bit on one port. -/
def State.raiseOn (p : PortId) (i : Nat) (s : State) : State := s.onPort p (Port.raise (bitAt i true))

/-- General stores in use: bound to complete frames and to clauses not yet answered, or holding an unread frame
(R60, R62). -/
def Port.boundStores (q : Port) : Nat :=
  q.frames.length + q.late.length + (q.outstanding.filter fun o => !o.answered).length + q.general.length

/-- Where a complete, correct frame goes (R60, Table 03.8). -/
inductive Arrival where
  | latched
  | overrun
  | notReady
deriving DecidableEq, Repr

/-- The tests of R60 that do not read the frame. -/
def Port.arrival (q : Port) : Arrival :=
  if !q.ready || q.spiReset then .notReady
  else if q.credits == 0 || 12 ≤ q.boundStores then .overrun
  else .latched

/-- Count a discarded frame and raise the cause bit of Table 03.8: 12 FRAME_DISCARDED, 11 CREDIT_OVERRUN. -/
def Port.discard (i : Nat) (q : Port) : Port := { (q.raise (bitAt i true)) with newDiscards := q.newDiscards + 1 }

/-- The FRAME_CRC notice of a discarded frame (R67): reason 1 CRC, 2 length. -/
def crcNotice (seq verb reason : Nat) : Staged :=
  { seq := BitVec.ofNat 16 seq, verb := verb, status := 0x16, results := [0x03, BitVec.ofNat 8 reason],
    unverified := true, notice := true }

/-- Stage the FRAME_CRC notice of a discarded frame (R67). -/
def Port.frameNotice (seq verb reason : Nat) (q : Port) : Port :=
  { q with stagedNotices := q.stagedNotices ++ [crcNotice seq verb reason] }

/-- The SPORE_NEEDED notice of an ended request is withdrawn: one not yet published is not published, one in a store goes at
the commit phase (R69). -/
def Port.dropSpore (i : Ident) (engine : Nat) (q : Port) : Port :=
  { q with stagedSpores := q.stagedSpores.filter fun x => !(x.1 == i && x.2.2 == engine), gone := q.gone ++ [(i, engine)] }

/-! ### Free values -/

/-- Draw one open value (log entry 12). -/
def State.free (s : State) (tag : Nat) : Nat := Config.free tag s.freeCtr

/-- Advance the counter of open values. -/
def State.drew (s : State) : State := { s with freeCtr := s.freeCtr + 1 }

/-! ### Records, notices -/

/-- The place in the order of R179 of a record that no lasting change makes: a verdict's, a clause's, an event's (R306). -/
def RecClass.rank : RecClass → Nat
  | .auth _ => 2
  | .reply => 3
  | .other => 4

/-- Queue an evidence record for the next commit phase with room (R39). Nothing is recorded before GENESIS (R437). `order`
is the number of the clause whose reply it goes with. -/
def State.record (s : State) (cls : RecClass) (typ : Nat) (body : Bytes) (order : Nat := 0) : State :=
  { s with log := { s.log with waiting :=
      if s.log.begun then s.log.waiting ++ [{ cls := cls, typ := typ, body := padTo 32 body, order := order, rank := cls.rank }]
      else s.log.waiting } }

/-- The record that goes with the reply of a clause (R39). -/
abbrev State.recordReply (s : State) (tk : Ticket) (typ : Nat) (body : Bytes) : State := s.record .reply typ body tk.order

/-- A lasting change waits for its published commit phase (R16, R35). -/
def State.push (s : State) (a : Act) : State := { s with acts := s.acts ++ [a] }

/-- A record of the log reserve. -/
abbrev State.note (s : State) (typ : Nat) (body : Bytes) : State := s.record .other typ body

/-- Stage a notice on every port whose IRQ_EN has bit `i` (R78, Table 03.9). DESIGN CHOICE (log entry 74): the STATUS byte of
a notice is 0x00; the spec names none. -/
def State.notify (s : State) (i : Nat) (results : Bytes) : State :=
  let add : PortId → Port → Port := fun p q =>
    if (irqEn s.cfg.cur p).getLsbD i then
      { q with stagedNotices := q.stagedNotices ++
          [{ seq := 0, verb := 0, status := 0, results := results, notice := true, numbered := true }] }
    else q
  { s with portA := add .a s.portA, portB := add .b s.portB }

/-! ### Clauses -/

/-- Header of a latched clause (Table 03.4). -/
structure Head where
  port : PortId
  flags : Byte
  seq : BitVec 16
  verb : Nat
deriving DecidableEq, Repr

/-- How the payload of a clause opened (R70 to R73). -/
inductive Opened where
  | plain
  | opened (counter : Nat) (sess : Sess)
  | fails
  | short
deriving DecidableEq, Repr

/-- The GCM IV of a payload: session identifier and counter, little-endian (R70). -/
def payloadIv (id : BitVec 32) (counter : Nat) : Bytes := leN 4 id.toNat ++ leN 8 counter

/-- The counter tests of R71 and R72: bit 63 clear, greater than the last accepted, fewer than 2^32 accepted. -/
def Sess.takes (se : Sess) (counter : Nat) : Bool :=
  counter < 2 ^ 63 && se.lastCounter < counter && se.accepted < 2 ^ 32

/-- Open a payload whose ciphertext is `ct` (R72). -/
def openPayload (sess : Option Sess) (aad : Bytes) (counter : Nat) (ct tag : Bytes) : Opened :=
  match sess with
  | none => .fails
  | some se =>
    if se.takes counter && Crypto.gcmTag se.key (payloadIv se.id counter) aad ct == tag then .opened counter se
    else .fails

/-- The first six bytes of a clause frame (Table 03.4). -/
def headBytes (flags : Byte) (seq : BitVec 16) (verb n : Nat) : Bytes :=
  [0xC1#8, flags] ++ leN 2 seq.toNat ++ leN 1 verb ++ leN 1 n

/-- Open the payload of a frame: how it opened, and its inner arguments (Table 03.10, R70 to R73). -/
def openFrame (s : State) (p : PortId) (flags seq verb : Nat) (args : Bytes) : Opened × Bytes :=
  if !bit flags 0 then (.plain, args)
  else if args.length < 24 then (.short, [])
  else
    let counter := num args 0 8
    let ct := slice args 8 (args.length - 24)
    let tag := args.drop (args.length - 16)
    let o := openPayload (s.port p).session (headBytes (BitVec.ofNat 8 flags) (BitVec.ofNat 16 seq) verb args.length)
      counter ct tag
    match (s.port p).session with
    | some se => (o, Crypto.gcmCrypt se.key (payloadIv se.id counter) ct)
    | none => (o, [])

/-- The FLAGS byte of a clause command: bit 0 says whether it is sealed (Table 03.5). -/
def hdrFlags (h : Hdr) : Byte :=
  match h.sealing with
  | .openClause => h.flags &&& 0xFE#8
  | _ => h.flags ||| 1#8

/-- The header of a clause command. -/
def hdrHead (h : Hdr) (verb : Nat) : Head := ⟨h.port, (hdrFlags h), h.seq, verb⟩

/-- Open a clause command whose inner arguments are `args`: its ciphertext is theirs under the session key. -/
def hdrOpened (h : Hdr) (verb : Nat) (args : Bytes) (s : State) : Opened :=
  match h.sealing with
  | .openClause => .plain
  | .short => .short
  | .sealed counter tag =>
    match (s.port h.port).session with
    | none => .fails
    | some se =>
      openPayload (some se) (headBytes (hdrFlags h) h.seq verb (24 + args.length)) counter.toNat
        (Crypto.gcmCrypt se.key (payloadIv se.id counter.toNat) args) (beN 16 tag.toNat)

/-- ARG_LEN of a clause command (Table 03.4, Table 03.10). -/
def hdrArgLen (h : Hdr) (args : Bytes) : Nat :=
  match h.sealing with
  | .sealed _ _ => 24 + args.length
  | _ => args.length

/-! ### Needs and the demand test -/

/-- What a clause needs on each ledger, ECC and NVM in half units, and its deadline (Table 02.6). -/
structure Need where
  lane : Nat := 0
  maint : Nat := 0
  ecc : Nat := 0
  nvm : Nat := 0
  deadline : Nat := 2
deriving DecidableEq, Repr

/-- Needs and deadline of a verb (Table 02.6); the LINK verbs have their LANE need here and their deadline from R47.
None: no such verb (R85). The NVM need of MAILBOX_WRITE is drawn from the kept-back share (R49). -/
def verbNeed : Nat → Option Need
  | 0x01 => some { lane := 4 }
  | 0x02 => some { lane := 6 }
  | 0x03 => some { lane := 4 }
  | 0x04 => some { lane := 20, nvm := 2, deadline := 8 }
  | 0x08 => some { lane := 30, nvm := 2, deadline := 8 }
  | 0x09 => some { lane := 6 }
  | 0x10 => some { lane := 40, deadline := 8 }
  | 0x11 => some { lane := 2000, nvm := 144, deadline := 256 }
  | 0x12 => some { lane := 30, deadline := 8 }
  | 0x14 => some { lane := 40, deadline := 8 }
  | 0x15 => some { lane := 80, ecc := 6, deadline := 256 }
  | 0x16 => some { lane := 1200, nvm := 32, deadline := 256 }
  | 0x20 => some { lane := 40, deadline := 8 }
  | 0x21 => some { lane := 20, deadline := 8 }
  | 0x22 => some { lane := 120 }
  | 0x23 => some { maint := 30000, deadline := 4096 }
  | 0x24 => some { lane := 60, deadline := 8 }
  | 0x28 => some { lane := 60 }
  | 0x29 => some { lane := 80 }
  | 0x2A => some { lane := 100 }
  | 0x2B => some { lane := 8 }
  | 0x2C => some { lane := 20, deadline := 8 }
  | 0x2D => some { lane := 60, nvm := 2, deadline := 8 }
  | 0x2E => some { lane := 40, nvm := 2, deadline := 8 }
  | 0x2F => some { lane := 10 }
  | 0x30 => some { lane := 4 }
  | 0x31 => some { lane := 20, deadline := 8 }
  | 0x38 => some { lane := 30, nvm := 2, deadline := 8 }
  | 0x39 => some { lane := 8 }
  | 0x3A => some { lane := 20, deadline := 8 }
  | 0x3B => some { lane := 4 }
  | 0x3C => some { lane := 4 }
  | 0x40 => some { lane := 40 }
  | 0x41 => some { lane := 10 }
  | 0x42 => some { lane := 60, deadline := 8 }
  | 0x43 => some { lane := 40, deadline := 8 }
  | 0x44 => some { lane := 40, nvm := 2, deadline := 8 }
  | 0x48 => some { lane := 35, deadline := 8 }
  | 0x49 => some { lane := 35, deadline := 8 }
  | 0x4A => some { lane := 30, deadline := 8 }
  | 0x50 => some { lane := 60, ecc := 4, deadline := 8 }
  | 0x51 => some { lane := 30, deadline := 8 }
  | 0x58 => some { lane := 10 }
  | 0x60 => some { lane := 30, nvm := 2, deadline := 8 }
  | 0x61 => some { lane := 20, deadline := 8 }
  | 0x62 => some { lane := 40, deadline := 8 }
  | 0x68 => some { maint := 60000, deadline := 4096 }
  | 0x69 => some { maint := 12000, deadline := 4096 }
  | 0x70 => some { lane := 6 }
  | 0x71 => some { lane := 80, ecc := 6, nvm := 2, deadline := 256 }
  | 0x78 => some { lane := 120, ecc := 8, deadline := 256 }
  | _ => none

/-- Verbs accepted open when the thallus requires sealing (Table 03.13). -/
def verbOpen (v : Nat) : Bool := [0x01, 0x02, 0x03, 0x09, 0x30, 0x40, 0x51, 0x70, 0x71, 0x78].contains v

/-- Verbs admitted before personalisation (R343). -/
def verbUnpersonalised (v : Nat) : Bool :=
  [0x01, 0x02, 0x03, 0x09, 0x10, 0x11, 0x12, 0x14, 0x16, 0x22, 0x23, 0x68, 0x69, 0x70, 0x71].contains v

/-- Verbs admitted in tamper hold (R357). -/
def verbInHold (v : Nat) : Bool := [0x02, 0x51, 0x70, 0x71].contains v

/-- Verbs to which NOT_SEEDED applies (R41). -/
def verbSeeded (v : Nat) : Bool := [0x20, 0x29, 0x2A, 0x58, 0x42, 0x48, 0x50, 0x78].contains v

/-- One ledger of the demand test: `cap2` half units a tick, need and remaining needs in half units (R42, Table 02.3).
Admitted work of a deadline up to checkpoint `x` must fit the capacity of ticks `t` to `x`. -/
def ledgerFits (cap2 t e need2 : Nat) (work : List (Nat × Nat)) : Bool :=
  need2 == 0 || (e :: (work.map (·.1)).filter (e < ·)).all fun x =>
    need2 + ((work.filter fun w => w.1 ≤ x).map (·.2)).foldl (· + ·) 0 ≤ cap2 * (x + 1 - t) / 2 * 2

/-- The demand test of R42 for needs `n` latched in tick `t`. -/
def demandFits (led : List Demand) (t : Nat) (n : Need) : Bool :=
  let e := t + n.deadline - 1
  ledgerFits 1040 t e (2 * n.lane) (led.map fun d => (d.last, 2 * d.lane)) &&
    ledgerFits 80 t e (2 * n.maint) (led.map fun d => (d.last, 2 * d.maint)) &&
    ledgerFits 1 t e n.ecc (led.map fun d => (d.last, d.ecc)) &&
    ledgerFits 1 t e n.nvm (led.map fun d => (d.last, d.nvm))

/-- Enter admitted work latched in tick `t` in the ledgers (R42), with the priority of its flags (R43). -/
def State.bookNeed (s : State) (t prio : Nat) (n : Need) : State :=
  { s with
    ledger := if n.lane + n.maint + n.ecc + n.nvm = 0 then s.ledger else
      s.ledger ++ [⟨t + n.deadline - 1, prio, s.orderNo, n.lane, n.maint, n.ecc, n.nvm⟩]
    orderNo := s.orderNo + 1 }

/-! ### Admission -/

/-- The checks of R41 that a verb adds; a true field is a check that fails. -/
structure Checks where
  arg : Bool := false
  auth : Bool := false
  state : Bool := false
  locked : Bool := false
  budget : Bool := false
deriving DecidableEq, Repr

/-- What one clause asks for: its needs, its own checks (given whether it came sealed), and what it does once
admitted. -/
structure Work where
  need : State → Need
  check : Ticket → State → Checks
  run : Ticket → State → State

/-- Work of a verb with the fixed needs of Table 02.6. -/
def fixedNeed (verb : Nat) : State → Need := fun _ => (verbNeed verb).getD {}

/-- A clause whose verb or operation does not exist (R85): refused with REFUSED_ARG. -/
def Work.unknown : Work := ⟨fun _ => {}, fun _ _ => { arg := true }, fun _ s => s⟩

/-- Admitted clauses other than SPORE_LOAD outstanding on a port (R51, R62). -/
def Port.sevenOut (q : Port) : Bool :=
  7 ≤ (q.outstanding.filter fun o => o.admitted && o.verb != 0x40).length

/-- Outer-frame part of check 1: reserved flags, a short sealed payload, an unknown verb, HOST_PAIR sealed
(R14, R57, R72, R75, R85). -/
def outerBad (hd : Head) (o : Opened) : Bool :=
  15 < hd.flags.toNat || o == .short || (verbNeed hd.verb).isNone || (hd.verb == 0x78 && hd.flags.getLsbD 0)

/-- Check 3 without the verb's own part: lane hint, personalisation, tamper hold (R66, R343, R357). The work of a tick that
a lane's loss withholds runs again in degraded service (R373). -/
def stateBad (hd : Head) (s : State) : Bool :=
  (hd.flags.getLsbD 1 && (s.degraded || s.lossWithholds)) || (!s.prot.personalised && !verbUnpersonalised hd.verb) ||
    (s.tamper.hold && !verbInHold hd.verb)

/-- Check 2 without the verb's own part: the payload opened, sealing where required (R72, R74). -/
def authBad (hd : Head) (o : Opened) (s : State) : Bool :=
  o == .fails || (o == .plain && thalSeal s.thal.cur hd.port && !verbOpen hd.verb)

/-- Check 6 without the verb's own part: the spore credit of R51 and the demand test of R42 for a latch in tick `t`. -/
def budgetBad (hd : Head) (t : Nat) (n : Need) (s : State) : Bool :=
  (hd.verb != 0x40 && (s.port hd.port).sevenOut) || !demandFits s.ledger t n

/-- The status of the first check of R41 that fails, none when the clause is admitted; it was latched in tick `t`. -/
def refusal (hd : Head) (o : Opened) (w : Work) (tk : Ticket) (t : Nat) (s : State) : Option Nat :=
  if outerBad hd o then some 0x13
  else if o == .fails then some 0x12
  else
    let c := w.check tk s
    if c.arg then some 0x13
    else if authBad hd o s || c.auth then some 0x12
    else if stateBad hd s || c.state then some 0x11
    else if c.locked then some 0x15
    else if verbSeeded hd.verb && !s.seeded then some 0x14
    else if budgetBad hd t (w.need s) s || c.budget then some 0x10
    else none

/-- Stage a reply for the next published commit phase (R35, R64). -/
def Port.stage (r : Staged) (q : Port) : Port := { q with stagedReplies := q.stagedReplies ++ [r] }

/-- Answer an admitted clause (R86); its reply is sealed under the session that opened it (R70). -/
def State.reply (s : State) (tk : Ticket) (status : Nat) (results : Bytes) : State :=
  s.onPort tk.port (Port.stage
    { seq := tk.seq, verb := tk.verb, status := status, results := results, sess := tk.sess, admitted := true
      order := tk.order })

/-- A staged reply of this tick is given its final status and results. -/
def Port.amend (seq : BitVec 16) (status : Nat) (results : Bytes) (q : Port) : Port :=
  { q with stagedReplies := q.stagedReplies.map fun r =>
      if r.admitted && r.seq == seq then { r with status := status, results := results } else r }

/-- Give the reply of a clause its final status and results. -/
def State.amend (s : State) (tk : Ticket) (status : Nat) (results : Bytes) : State :=
  s.onPort tk.port (Port.amend tk.seq status results)

/-- Answer an admitted clause DONE. -/
abbrev State.done (s : State) (tk : Ticket) (results : Bytes) : State := s.reply tk 0 results

/-- Enter a latched clause among the outstanding ones (R60, R65). -/
def Port.enter (o : Outst) (q : Port) : Port := { q with outstanding := q.outstanding ++ [o] }

/-- Refuse a latched clause: its reply is staged and its credit returns at the commit phase that publishes it (R62).
A refusal with REFUSED_AUTH and a duplicate's are open (R65, R72). -/
def Port.refuse (hd : Head) (order status : Nat) (sess : Option Sess) (dup : Bool) (q : Port) : Port :=
  let under := if status = 0x12 || dup then none else sess
  ((q.enter { seq := hd.seq, verb := hd.verb, admitted := false, sess := under.map Sess.id, order := order }).stage
    { seq := hd.seq, verb := hd.verb, status := status, results := [], duplicate := dup, sess := under, order := order })

/-- Refuse a latched clause, which takes its number in the order of latching (R18). -/
def State.refuse (hd : Head) (status : Nat) (sess : Option Sess) (dup : Bool) (s : State) : State :=
  { s.onPort hd.port (Port.refuse hd s.orderNo status sess dup) with orderNo := s.orderNo + 1 }

/-- Accept the counter of a sealed clause that opened (R71, R72). -/
def Port.accept (o : Opened) (q : Port) : Port :=
  match o with
  | .opened counter _ =>
    { q with session := q.session.map fun se => { se with lastCounter := counter, accepted := se.accepted + 1 } }
  | _ => q

/-- The session of an opened payload. -/
def Opened.sess : Opened → Option Sess
  | .opened _ se => some se
  | _ => none

/-- The entry of an admitted clause among the outstanding ones (R60, R65, R66). -/
def Head.entry (hd : Head) (sess : Option Sess) (tick order : Nat) : Outst :=
  { seq := hd.seq, verb := hd.verb, admitted := true, sess := sess.map Sess.id
    hinted := if hd.flags.getLsbD 1 then some tick else none, order := order }

/-- The priority of a clause (Table 03.5, R43). -/
def Head.prio (hd : Head) : Nat := hd.flags.toNat / 4 % 4

/-- The operation of a request has used up its attempts (R292). -/
def Cipher.loses (u : AesUser) (c : Cipher) : Bool := c.aesLost.contains u || c.aesLost.contains .next

/-- The end of that request takes the failed operation away. -/
def Cipher.tookLoss (u : AesUser) (c : Cipher) : Cipher :=
  { c with aesLost := c.aesLost.erase (if c.aesLost.contains u then u else .next) }

/-- The request takes its failed operation away. -/
def State.tookLoss (u : AesUser) (s : State) : State := { s with cipher := s.cipher.tookLoss u }

/-- The opening of a sealed payload has used up its attempts (R292). -/
def State.openingLost (s : State) (hd : Head) : Bool := hd.flags.getLsbD 0 && s.cipher.aesLost.contains .next

/-- A latched clause is tested and begun or refused: the duplicate test of R65, then the opened payload's counter, then
the checks of R41, then `go`, what is done with the admitted clause. `t` is the tick of its latch (R53). A clause whose payload
no core could open ends with FAULT_RETRY_EXHAUSTED (R292). -/
def admitClause (hd : Head) (o : Opened) (w : Work) (t : Nat) (go : Ticket → State → State) (s : State) : State :=
  if (s.port hd.port).outstanding.any fun x => x.seq == hd.seq then s.refuse hd 0x11 none true
  else if s.openingLost hd then (s.tookLoss .next).refuse hd 0x33 none false
  else
    let s1 := s.onPort hd.port (Port.accept o)
    let tk : Ticket := ⟨hd.port, hd.seq, hd.verb, o.sess, s1.orderNo⟩
    match refusal hd o w tk t s1 with
    | some code => s1.refuse hd code o.sess false
    | none =>
      go tk ((s1.bookNeed t hd.prio (w.need s1)).onPort hd.port (Port.enter (hd.entry o.sess t s1.orderNo)))

/-- A latched frame takes a credit (R60). -/
def Port.takeCredit (q : Port) : Port := { q with credits := q.credits - 1 }

/-- The payload of a clause command: counter, ciphertext under the port's session and tag when it is sealed, else the
arguments (Table 03.10). -/
def hdrPayload (h : Hdr) (args : Bytes) (s : State) : Bytes :=
  match h.sealing with
  | .sealed counter tag =>
    leN 8 counter.toNat ++ (match (s.port h.port).session with
      | some se => Crypto.gcmCrypt se.key (payloadIv se.id counter.toNat) args
      | none => args) ++ beN 16 tag.toNat
  | _ => args

/-- The frame of a clause command (Table 03.4, R59). -/
def hdrFrame (h : Hdr) (verb : Nat) (args : Bytes) (s : State) : Bytes :=
  let b := headBytes (hdrFlags h) h.seq verb (hdrPayload h args s).length ++ hdrPayload h args s
  b ++ Crypto.crc32cBytes b

/-- The present tick is an arbitration tick, decided or not (R367); or the one after the fault tick of a transient. -/
def State.arbitrationTick (s : State) : Bool :=
  (match s.lanes.faultTick with
    | some f => decide (f < s.tick)
    | none => false) ||
    (match s.lanes.transientTicks.head? with
    | some f => s.tick == f + 1
    | none => false) ||
    match s.lanes.takeoverDue with
    | some (f, _, c) => c == 5 && s.tick == f + 1
    | none => false

/-- The inner arguments of a payload that could be read. -/
def Opened.inner (args : Bytes) : Opened → Bytes
  | .plain | .opened _ _ => args
  | .fails | .short => []

/-- A clause latched in tick `t` is kept until a commit phase is published (R373). -/
def State.keepLatched (hd : Head) (args : Bytes) (o : Opened) (t : Nat) (s : State) : State :=
  { s with latched := s.latched ++
      [⟨hd.port, hd.flags, hd.seq, hd.verb, o.inner args, o.sess, s.orderNo, t, s.field.rounds⟩] }

/-- A clause command: a complete frame with a correct CRC, latched in the present tick, or not latched under R60. In an
arbitration tick it waits with that tick as its latch tick (R53, R367). -/
def commandWith (verb : Nat) (h : Hdr) (args : Bytes) (w : Work) (go : Ticket → State → State) (s : State) : State :=
  match (s.port h.port).arrival with
  | .notReady => s
  | .overrun =>
    if 240 < hdrArgLen h args then s.onPort h.port fun q => (q.discard 12).frameNotice h.seq.toNat verb 2
    else s.onPort h.port (Port.discard 11)
  | .latched =>
    if 240 < hdrArgLen h args then s.onPort h.port fun q => (q.discard 12).frameNotice h.seq.toNat verb 2
    else if s.arbitrationTick then
      s.onPort h.port fun q => { q.takeCredit with late := q.late ++ [(s.tick, hdrFrame h verb args s)] }
    else
      admitClause (hdrHead h verb) (hdrOpened h verb args s) w s.tick go
        ((s.onPort h.port Port.takeCredit).keepLatched (hdrHead h verb) args (hdrOpened h verb args s) s.tick)

/-- The work of an admitted clause latched in tick `t`, which has `deadline` ticks, waits for its needs (R43, R50). -/
def State.enqueue (args : Bytes) (sup : Supplied) (prio t deadline : Nat) (tk : Ticket) (s : State) : State :=
  { s with work := s.work ++ [⟨tk, args, sup, prio, t, t + deadline - 1, none⟩] }

/-- LANE_HINT of a clause command (Table 03.5). -/
def hdrHint (h : Hdr) : Bool := h.flags.getLsbD 1

/-- What is done with an admitted clause command: its work runs in the tick of its latch; that of a clause with LANE_HINT
waits for the published commit phase, since a lane's loss in the tick still refuses it (R66, R373; log entry 9). -/
def hdrGo (verb : Nat) (h : Hdr) (args : Bytes) (sup : Supplied) (w : Work) (s : State) : Ticket → State → State :=
  if hdrHint h then State.enqueue args sup (hdrHead h verb).prio s.tick (w.need s).deadline else w.run

/-- A clause command; `sup` is what the outside world supplies to its work. -/
def command (verb : Nat) (h : Hdr) (args : Bytes) (w : Work) (s : State) (sup : Supplied := .nothing) : State :=
  commandWith verb h args w (hdrGo verb h args sup w s) s

/-- A clause command that takes a place in the air calendar when it is admitted (R45, R116, R266). -/
def airCommand (verb : Nat) (h : Hdr) (args : Bytes) (w : Work) (s : State) : State := commandWith verb h args w w.run s

/-- Work waits in the order of R43: last tick, priority, admission order. -/
def Queued.before (a b : Queued) : Bool :=
  a.last < b.last || (a.last == b.last && (b.prio < a.prio || (a.prio == b.prio && a.ticket.order ≤ b.ticket.order)))

/-- The lowest-numbered AES core that is neither fenced nor busy (R291, R293). -/
def Cipher.freeCore (busy : List Nat) (c : Cipher) : Option Nat :=
  (List.range 6).find? fun n => !c.aesFenced.getLsbD n && !busy.contains n

/-- Requests take cores in their order until none is free; the others wait (R291). -/
def Cipher.assign (c : Cipher) : List Nat → List AesUser → List (AesUser × Nat)
  | _, [] => []
  | busy, u :: r =>
    match c.freeCore busy with
    | some n => (u, n) :: c.assign (n :: busy) r
    | none => []

/-- The verbs whose AES operation is key-storage work: derivations, that of a signing scalar too, spore unwrapping,
sessions (R272, R291). -/
def aesOfKeys (verb : Nat) : Bool := [0x2D, 0x40, 0x42, 0x43, 0x50, 0x78].contains verb

/-- The verbs whose AES operation is a host clause's own (R291). -/
def aesOfHost (verb : Nat) : Bool := [0x48, 0x49, 0x4A].contains verb

/-- The work of a clause that needs an AES operation: when that operation has used up its attempts, the clause ends
with FAULT_RETRY_EXHAUSTED and no results (R292). -/
def Work.aes (w : Work) : Work :=
  { w with run := fun tk s =>
      if s.cipher.loses (.clause tk.order) then (s.tookLoss (.clause tk.order)).reply tk 0x33 [] else w.run tk s }

/-- The same for a clause that needs the hash engine (R304). -/
def Work.hashed (w : Work) : Work :=
  { w with run := fun tk s =>
      if s.cipher.hashExhausted then State.reply { s with cipher := { s.cipher with hashExhausted := false } } tk 0x33 []
      else w.run tk s }

/-- The same for a clause that makes a signature: the second attempt has failed its check (R303). -/
def Work.signed (w : Work) : Work :=
  { w with run := fun tk s =>
      if s.cipher.eccExhausted then State.reply { s with cipher := { s.cipher with eccExhausted := false } } tk 0x33 []
      else w.run tk s }

/-- A test of admission that other clauses admitted before may change is made again when the work runs; where it then fails, the
clause ends with that refusal's status (R18, R41; log entry 96). -/
def Work.again (fails : Ticket → State → Option Nat) (w : Work) : Work :=
  { w with run := fun tk s =>
      match fails tk s with
      | some status => s.reply tk status []
      | none => w.run tk s }

/-- REFUSED_STATE where a test holds. -/
def stateFails (b : Bool) : Option Nat := if b then some 0x11 else none

/-- The reply of the sealed form has room for `n` inner result bytes (R58, R70). -/
def Ticket.room (tk : Ticket) (n : Nat) : Bool := n ≤ (if tk.sess.isSome then 216 else 240)

/-- Another clause of a verb, on either port, is admitted and not yet published (R338, R349). -/
def State.verbUnpublished (s : State) (verb : Nat) : Bool :=
  let p : Port → Bool := fun q => q.outstanding.any fun o => o.verb == verb && o.admitted && !o.answered
  p s.portA || p s.portB

/-! ### Time -/

/-- UTC of R83: the value last set plus 0.256 ms a tick, rounded down; the time without supply is not counted (R413); 0 when
never set. -/
def State.utcNow (s : State) : Nat := if s.utcSet then s.utc + (s.tick - s.utcBase) * 256 / 1000 else 0

/-- The low 32 bits of a tick number as four bytes. -/
abbrev tick4 (t : Nat) : Bytes := leN 4 t

end Sys2Proof.Machine
end

