-- ==== Sys2Proof/Machine/Cell.lean ====
section
/-! DEFINITION. Shared operations of the release cell, the cab session and the odometer: clear requests (R203 to
R207), the cell's set (R202), session transitions (R178, Table 06.14), ODOMETER records and stored values (R220). -/

namespace Sys2Proof.Machine

open Sys2Proof

/-- The motion state seen is STATIONARY (R203). -/
def State.still (s : State) : Bool := s.motion.state == .stationary

/-- A speed in 0.01 km/h, saturated (Table 08.12); the spec does not say how it is rounded (log entry 13). -/
def centi (v : Nat × Nat) : Nat :=
  let n := 100 * v.1
  min 0xFFFF (n / v.2 + b2n (n % v.2 != 0 && Config.roundUp 1 v.1 v.2))

/-- The `k`-th last evaluated speed of source `i` in km/h (R216); 0 where there is none. -/
def State.speedAt (s : State) (i k : Nat) : Nat × Nat :=
  match s.motion.src[i]? with
  | some c => (c.speeds[k]?).getD (0, 1)
  | none => (0, 1)

/-- Last evaluated speed of source `i` in 0.01 km/h (R225). -/
def State.speedOf (s : State) (i : Nat) : Nat := centi (s.speedAt i 0)

/-- The source the odometer is counting (R219). -/
def State.odoSource (s : State) : Nat :=
  if s.motion.onSecondary then odoSecondary s.thal.cur else odoPrimary s.thal.cur

/-- Write ODO_M and R to the monotonic counter region (R220). -/
def State.storeOdo (s : State) : State :=
  { s with motion := { s.motion with
      storedM := s.motion.odoM, storedR := s.motion.odoR, storedSecondary := s.motion.onSecondary } }

/-- The body of an ODOMETER record (Table 08.8); `k0`, `k1` are K before and after, 0 when unchanged. -/
def State.odoBody (s : State) (reason k0 k1 : Nat) : Bytes :=
  leN 1 reason ++ leN 1 s.odoSource ++ zeros 2 ++ leN 4 k0 ++ leN 4 k1 ++ leN 4 s.motion.odoR ++ leN 8 s.motion.odoM

/-- An ODOMETER record, which also stores the odometer (R220, Table 08.8). -/
def State.odoRecord (s : State) (cls : RecClass) (reason k0 k1 : Nat) : State :=
  s.storeOdo.record cls 0x36 (s.odoBody reason k0 k1)

/-- An ODOMETER record made outside a commit phase: the odometer is stored at the next one (R35, R220). -/
def State.odoNote (s : State) (reason k0 k1 : Nat) : State := (s.note 0x36 (s.odoBody reason k0 k1)).push .odometer

/-! ### Session -/

/-- A SESSION record: old and new state, end reason (Table 12.7). -/
def State.sesRecord (s : State) (old : SesState) (end_ : Nat) : State :=
  s.note 0x12 (leN 2 s.ses.number ++ leN 1 (sesCode old) ++ leN 1 (sesCode s.ses.state) ++ leN 1 end_ ++ zeros 3 ++
    leN 8 s.ses.token.toNat ++ leN 8 s.motion.odoM)

/-- The next session number; 0x0000 is skipped at wrap. -/
def nextSession (n : Nat) : Nat := if n % 65536 = 65535 then 1 else n % 65536 + 1

/-- The cab session ends for a reason (Table 06.14); nothing happens to a closed one. -/
def State.endSession (s : State) (reason : Nat) : State :=
  match s.ses.state with
  | .closed => s
  | old =>
    ({ s with ses := { s.ses with state := .closed, lastEnd := reason, expires := none, checking := false } }).sesRecord
      old reason

/-- The timer of a RELEASED session runs while IGN is inactive and the vehicle stationary, and stops and is reloaded
otherwise (Table 06.14). -/
def State.sessionTimer (s : State) : State :=
  match s.ses.state with
  | .released =>
    { s with ses := { s.ses with expires :=
        if !s.field.ign.level && s.still then some (s.ses.expires.getD (s.tick + sessionTicks s.cfg.cur)) else none } }
  | _ => s

/-! ### Cell -/

/-- The cell becomes LOCKED (R203): RELEASE_CLEAR record, RELEASE cause, living outputs stop, the session ends. -/
def State.lockCell (s : State) (reason : Nat) (hostReason : Byte) (pending : Nat) : State :=
  let s1 : State := { s with
    cell := { s.cell with
      state := .locked, pendingReason := 0, pendingSince := 0, clearTick := s.tick, living := false, hostReason := 0 }
    power := { s.power with lockedAt := s.tick } }
  ((s1.note 0x30 (leN 1 reason ++ [hostReason] ++ leN 1 s.lanesCode ++ zeros 1 ++ leN 4 pending ++ leN 8 s.motion.odoM ++
    leN 8 s.cell.token.toNat)).raise 8).endSession 0x04

/-- The cell becomes CLEAR_PENDING with the reason of this first request (R203): CLEAR_HELD record. -/
def State.holdClear (s : State) (reason : Nat) (hostReason : Byte) : State :=
  ({ s with cell := { s.cell with
      state := .clearPending, pendingReason := reason, pendingSince := s.tick, hostReason := hostReason } }).note 0x31
    (leN 1 reason ++ leN 1 (motionCode s.motion.state) ++ zeros 2 ++ leN 2 (s.speedOf (odoPrimary s.thal.cur)) ++ zeros 2 ++
      leN 8 s.motion.odoM)

/-- A clear request (R203). -/
def State.clearRequest (s : State) (reason : Nat) (hostReason : Byte) : State :=
  match s.cell.state with
  | .locked => s
  | .clearPending => s
  | .released => if s.still then s.lockCell reason hostReason 0 else s.holdClear reason hostReason

/-- A session end that Table 06.14 marks "Clear requested". -/
def State.endSessionClear (s : State) (reason : Nat) : State :=
  match s.ses.state with
  | .closed => s
  | _ => (s.endSession reason).clearRequest reason 0

/-- The body of the SESSION record of the end that a zeroising tamper response makes; none when no session is open
(Table 06.14, Table 12.7). -/
def State.tamperEndBody (s : State) : Option Bytes :=
  match s.ses.state with
  | .closed => none
  | old => some (leN 2 s.ses.number ++ leN 1 (sesCode old) ++ leN 1 (sesCode .closed) ++ leN 1 6 ++ zeros 3 ++
      leN 8 s.ses.token.toNat ++ leN 8 s.motion.odoM)

/-- The first commit phase of a tamper hold: the end of the session that the zeroising response made, with its record and
its clear request, and the clear request of the hold (R203, R207, Table 06.14; log entry 63). -/
def State.enterHold (s : State) : State :=
  let s1 := match s.cell.tamperEnd with
    | none => s
    | some b => (State.note { s with cell := { s.cell with tamperEnd := none } } 0x12 b).clearRequest 0x06 0
  s1.clearRequest 0x12 0

/-- A pending clear takes effect when the motion state is STATIONARY (R26, R203). -/
def State.pendingClear (s : State) : State :=
  match s.cell.state with
  | .clearPending => if s.still then s.lockCell s.cell.pendingReason s.cell.hostReason (s.tick - s.cell.pendingSince) else s
  | _ => s

/-- The cell sets on a release verdict for `token` (R202): from LOCKED, or from CLEAR_PENDING with a CLEAR_CANCELLED
record. A verdict on a RELEASED cell changes nothing. -/
def State.setCell (s : State) (token : Ident) : State :=
  match s.cell.state with
  | .released => s
  | old =>
    let s1 : State := { s with cell := { s.cell with
      state := .released, setTick := s.tick, token := token, singleLane := s.alone, living := true,
      pendingReason := 0, pendingSince := 0, hostReason := 0 } }
    let s2 := if old = .clearPending
      then s1.note 0x32 (leN 4 (s.tick - s.cell.pendingSince) ++ zeros 4 ++ leN 8 token.toNat) else s1
    s2.raise 8

/-- A session opens or is refreshed by a decided exchange (Table 06.14): state afterwards, token, zone and location. -/
def State.moveSession (s : State) (new : SesState) (token : Ident) (zone location : Nat) : State :=
  let old := s.ses.state
  let ses := if old = .closed then { s.ses with number := nextSession s.ses.number, opened := s.tick } else s.ses
  let s1 : State := { s with ses := { ses with
    state := new, token := token, zone := zone, location := location, checking := false,
    expires := if new = .entry then some (s.tick + sessionTicks s.cfg.cur)
      else if old = .released then s.ses.expires else none } }
  (if old = new then s1 else s1.sesRecord old 0).sessionTimer

/-- A decided exchange that finds release already set only records its token, with its zone and location (Tables 06.14,
06.15). -/
def State.recordToken (s : State) (token : Ident) (zone location : Nat) : State :=
  { s with ses := { s.ses with token := token, zone := zone, location := location } }

/-- A START exchange that is decided sets release and moves the session to RELEASED, from DOOR_CHECK only when it is the
door-check poll. One that finds release already set only records its token; but the recovery poll opens a session (R162, R178,
R205, Table 06.14). -/
def State.decideStart (s : State) (doorPoll recovery : Bool) (token : Ident) (zone location : Nat) : State :=
  let s1 := s.setCell token
  let keep : Bool := match s.ses.state with
    | .doorCheck => !doorPoll
    | .closed | .entry => s.cell.state == .released && !recovery
    | .released => false
  if keep then s1.recordToken token zone location else s1.moveSession .released token zone location

/-- An ENTRY exchange that is decided opens or refreshes an ENTRY session; in RELEASED or DOOR_CHECK it records its token
(Table 06.14). -/
def State.decideEntry (s : State) (token : Ident) (zone location : Nat) : State :=
  match s.ses.state with
  | .closed | .entry => s.moveSession .entry token zone location
  | _ => s.recordToken token zone location

end Sys2Proof.Machine
end

