-- ==== Sys2Proof/Machine/Complex.lean ====
section
/-! DEFINITION. Complex numbers of fixed scale: real quantities are carried as whole numbers (log entry 13). -/

namespace Sys2Proof.Machine

open Sys2Proof

/-- A complex number with whole parts. -/
abbrev Cx := Int × Int

/-- Product. -/
def cmul (a b : Cx) : Cx := (a.1 * b.1 - a.2 * b.2, a.1 * b.2 + a.2 * b.1)

/-- Conjugate. -/
def conj (a : Cx) : Cx := (a.1, -a.2)

/-- Sum of a list. -/
def csum (l : List Cx) : Cx := l.foldl (fun a b => (a.1 + b.1, a.2 + b.2)) (0, 0)

/-- Squared magnitude. -/
def norm2 (a : Cx) : Nat := a.1.natAbs ^ 2 + a.2.natAbs ^ 2

/-- Sum of the numbers of a list. -/
def total (l : List Nat) : Nat := l.foldl (· + ·) 0

/-- Sum of squared magnitudes. -/
def power (l : List Cx) : Nat := total (l.map norm2)

/-- Quotient rounded to the nearest whole number. -/
def divRound (x : Int) (d : Nat) : Int := (2 * x + d) / (2 * d)

/-- Both parts divided and rounded. -/
def cdiv (a : Cx) (d : Nat) : Cx := (divRound a.1 d, divRound a.2 d)

/-- cos and sin of the turn divided by 2, 4, 8, ..., 65,536, in units of 2^-60. -/
def turns : List Cx :=
  [(-1152921504606846976, 0), (0, 1152921504606846976), (815238614083298888, 815238614083298888),
   (1065160580698383124, 441203958630471860), (1130768441178740757, 224923827593068887),
   (1147369872436662991, 113006068906017470), (1151532760162549490, 56571176913125535),
   (1152574266204915294, 28294110113536504)] ++
  [(1152834691737939372, 14148120384212745), (1152899801185339687, 7074193361797233),
   (1152916078738702569, 3537113327227485), (1152920148139012899, 1768558744408523),
   (1152921165489838583, 884279632303724), (1152921419827591761, 442139848664298),
   (1152921483412032977, 221069928396204), (1152921499308143464, 110534964706109)]

/-- e^(2 pi i p / 65,536) in units of 2^-60. -/
def turn (p : Int) : Cx :=
  let n := (p % 65536).toNat
  (turns.zip (List.range 16)).foldl (fun a t => if bit n (15 - t.2) then cdiv (cmul a t.1) (2 ^ 60) else a)
    (1152921504606846976, 0)

/-- 10^(-k/20) in units of 2^-60. -/
def decay (k : Nat) : Nat := Crypto.iroot 20 (2 ^ 1200 / 10 ^ k) 60 0

/-- Sine of the angle from `a` to `b`, times their magnitudes. -/
def cross (a b : Cx) : Int := a.1 * b.2 - a.2 * b.1

/-- The argument of a number in 1/65,536 of a turn, rounded down. -/
def argFloor (z : Cx) : Nat :=
  (List.range 15).foldl (fun p i => if 0 ≤ cross (turn (p + 2 ^ (14 - i))) z then p + 2 ^ (14 - i) else p)
    (if z.2 < 0 ∨ (z.2 = 0 ∧ z.1 < 0) then 32768 else 0)

/-- The argument as a signed phase; how it is rounded is open (log entry 13). -/
def argOf (z : Cx) : Int :=
  let p := argFloor z
  untwos 16 (p + b2n (cross (turn p) z != 0 && Config.roundUp 6 (cross (turn p) z).natAbs p))

/-- A quotient as a whole number; how it is rounded is open (log entry 13). -/
def ratioOf (tag : Nat) (n : Int) (d : Nat) : Int :=
  n / d + b2n (n % d != 0 && Config.roundUp tag (n % d).toNat d)

/-- Square root, rounded down, of a number below 2^(2 bits). -/
def rootOf (bits n : Nat) : Nat := Crypto.iroot 2 n bits 0

end Sys2Proof.Machine
end

