-- ==== Sys2Proof/Machine/Draw.lean ====
section
/-! DEFINITION. The CTR_DRBG and its private wires (R320, R322, R325, R326): reseeds, generate requests, draws. -/

namespace Sys2Proof.Machine

open Sys2Proof

/-- Reseed from the oldest block of the store, when it holds one (R322, Table 13.2). -/
def Rng.reseed (addin : Bytes) (r : Rng) : Rng :=
  match r.store with
  | [] => r
  | b :: rest =>
    let kv := Crypto.drbgReseed r.key r.v b addin
    { r with store := rest, key := kv.1, v := kv.2, count := 0 }

/-- A request about to be served with the count at 65,536 or more first reseeds, when the store holds a block (R322). -/
def Rng.reseedDue (tick : Nat) (r : Rng) : Rng := if 65536 ≤ r.count then r.reseed (leN 8 tick) else r

/-- One generate request (R320, R322). -/
def Rng.generate (tick n : Nat) (addin : Bytes) (r : Rng) : Bytes × Rng :=
  let r1 := r.reseedDue tick
  let g := Crypto.drbgGenerate r1.key r1.v n addin
  (g.1, { r1 with key := g.2.1, v := g.2.2, count := r1.count + 1 })

/-- The entropy credit: blocks held less 1, less those reserved (R319). -/
def Rng.credit (r : Rng) : Nat := r.store.length - 1

/-- The oldest block of the store is reserved for a clause (R318, R329). -/
def Rng.reserve (order : Nat) (r : Rng) : Rng :=
  match r.store with
  | [] => r
  | b :: rest => { r with store := rest, reserved := r.reserved ++ [(order, b)] }

/-- A clause that ends without executing gives its block back (R329). -/
def Rng.unreserve (p : Nat → Bool) (r : Rng) : Rng :=
  { r with
    store := ((r.reserved.filter fun x => p x.1).map (·.2)) ++ r.store
    reserved := r.reserved.filter fun x => !p x.1 }

/-- A block whose clause no longer waits and has not used it is free again at the commit phase (R329, R342). -/
def State.releaseReserved (s : State) : State :=
  { s with rng := s.rng.unreserve fun n => !s.work.any fun q => q.ticket.order == n }

/-- Reseed from the block that a clause has reserved; once that is used, the DRBG goes on as it is (R322). -/
def Rng.reseedOwn (order : Nat) (addin : Bytes) (r : Rng) : Rng :=
  match r.reserved.find? fun x => x.1 == order with
  | none => r
  | some x =>
    let kv := Crypto.drbgReseed r.key r.v x.2 addin
    { r with reserved := r.reserved.filter fun y => y.1 != order, key := kv.1, v := kv.2, count := 0 }

/-- A generate request with prediction resistance: a reseed from its own block, then the request (R322, R329). -/
def Rng.generatePr (order n : Nat) (addin : Bytes) (r : Rng) : Bytes × Rng :=
  let r1 := r.reseedOwn order addin
  let g := Crypto.drbgGenerate r1.key r1.v n []
  (g.1, { r1 with key := g.2.1, v := g.2.2, count := r1.count + 1 })

/-- The buffer of a private wire (Table 13.3). -/
def Rng.wire (r : Rng) : Wire → Bytes
  | .link => r.wireLink
  | .key => r.wireKey
  | .cipher => r.wireCipher

/-- Replace the buffer of a private wire. -/
def Rng.setWire (r : Rng) (w : Wire) (b : Bytes) : Rng :=
  match w with
  | .link => { r with wireLink := b }
  | .key => { r with wireKey := b }
  | .cipher => { r with wireCipher := b }

/-- Refill a wire holding less than 128 bytes with one request of 128 bytes (R325). -/
def Rng.refill (tick : Nat) (w : Wire) (r : Rng) : Rng :=
  if (r.wire w).length < 128 then
    let g := r.generate tick 128 []
    g.2.setWire w (r.wire w ++ g.1)
  else r

/-- Draw `n` bytes from a private wire; its buffer is refilled first when it holds fewer (R325). Nothing is delivered
twice. -/
def Rng.draw (tick : Nat) (w : Wire) (n : Nat) (r : Rng) : Bytes × Rng :=
  let r1 := if (r.wire w).length < n then r.refill tick w else r
  (padTo n (r1.wire w), r1.setWire w ((r1.wire w).drop n))

/-- The private wires are served, in their order (R325, R327). -/
def Rng.serveWires (tick : Nat) (r : Rng) : Rng :=
  if r.live then ((r.refill tick .link).refill tick .key).refill tick .cipher else r

/-- Draw from a private wire of the device. A DRBG that has been zeroised delivers nothing of its own: what work that is
already admitted draws then is open (R324; log entry 12). -/
def State.draw (s : State) (w : Wire) (n : Nat) : Bytes × State :=
  if s.rng.live then
    let d := s.rng.draw s.tick w n
    (d.1, { s with rng := d.2 })
  else (padTo n (Config.freeBytes 15 s.freeCtr n), s.drew)

/-- The mask that blinds a secret scalar is drawn (R302, Table 13.3; log entry 65). -/
def State.mask (s : State) : State := (s.draw .cipher Config.maskLength).2

/-- Draw a secret scalar of a curve: 16 bytes more than its order, reduced (R326). -/
def State.drawScalar (s : State) (cv : Crypto.Curve) : Nat × State :=
  let d := s.draw .cipher (cv.c + 16)
  (Crypto.scalarOf cv d.1, d.2)

/-- Draw a non-zero 32-bit session identifier from the key-storage wire, zero values discarded (Table 13.3); `fuel`
bounds the draws. -/
def State.drawId : Nat → State → BitVec 32 × State
  | 0, s => (BitVec.ofNat 32 (s.free 1), s.drew)
  | fuel + 1, s =>
    let d := s.draw .key 4
    if ofLe d.1 = 0 then State.drawId fuel d.2 else (BitVec.ofNat 32 (ofLe d.1), d.2)

/-- An ECDSA signature: k is drawn, and drawn again when r or s is 0 (FIPS 186-5, R303); `fuel` bounds the draws. -/
def State.signWith (cv : Crypto.Curve) (d : Nat) (msg : Bytes) : Nat → State → (Nat × Nat) × State
  | 0, s =>
    let k := s.mask.drawScalar cv
    (Crypto.ecdsaSign cv d msg k.1, k.2)
  | fuel + 1, s =>
    let k := s.mask.drawScalar cv
    let rs := Crypto.ecdsaSign cv d msg k.1
    if rs.1 = 0 ∨ rs.2 = 0 then State.signWith cv d msg fuel k.2 else (rs, k.2)

/-! ### Clauses that draw -/

/-- The work that draws is done again when its tick is not published; that of a clause with LANE_HINT has not run (R322,
R373). -/
def State.noteDraw (hint : Bool) (q : Queued) (s : State) : State := if hint then s else { s with drawn := s.drawn ++ [q] }

/-- The admission of a RANDOM with PR, or of the THALLUS_COMMIT of personalisation, reserves a block (R329, R342). -/
def State.reserveFor (verb : Nat) (args : Bytes) (tk : Ticket) (s : State) : State :=
  if (verb = 0x58 ∧ bit (oct args 1) 0 = true) ∨ (verb = 0x16 ∧ s.prot.personalised = false) then
    { s with rng := s.rng.reserve tk.order }
  else s

/-- A clause command whose work draws random values (R322, R329). -/
def drawCommand (verb : Nat) (h : Hdr) (args : Bytes) (w : Work) (s : State) : State :=
  commandWith verb h args w (fun tk s1 => (hdrGo verb h args .nothing w s tk (s1.reserveFor verb args tk)).noteDraw (hdrHint h)
    ⟨tk, args, .nothing, (hdrHead h verb).prio, s.tick, s.tick + (w.need s).deadline - 1, none⟩) s

/-- A clause command whose admission may reserve a block (R329, R342). -/
def reserveCommand (verb : Nat) (h : Hdr) (args : Bytes) (w : Work) (sup : Supplied) (s : State) : State :=
  commandWith verb h args w (fun tk s1 => hdrGo verb h args sup w s tk (s1.reserveFor verb args tk)) s

end Sys2Proof.Machine
end

