-- ==== Sys2Proof/Machine/Keys.lean ====
section
/-! DEFINITION. The frond tree, the key cache, spores and the token directory (R153 to R155, R269 to R283). -/

namespace Sys2Proof.Machine

open Sys2Proof

/-! ### The frond tree -/

/-- The first 6 bytes of an entry of the generation table (R273). -/
def NodeGen.head (g : NodeGen) : Bytes := leN 1 g.level ++ leN 1 g.frond ++ leN 1 g.pinna ++ leN 1 g.pinnule ++ leN 2 g.ngen

/-- An entry as 8 bytes of a table read it. -/
def NodeGen.ofBytes (b : Bytes) : NodeGen :=
  { level := oct b 0, frond := oct b 1, pinna := oct b 2, pinnule := oct b 3, ngen := num b 4 2, crc := BitVec.ofNat 16 (num b 6 2) }

/-- An entry with its CRC (R273). -/
def NodeGen.seal_ (g : NodeGen) : NodeGen := { g with crc := Crypto.crc16 g.head }

/-- The CRC-16 of a copy: over its sequence number and its entries (R273; log entry 97). -/
def GenTable.check (seq : Nat) (l : List NodeGen) : BitVec 16 :=
  Crypto.crc16 (leN 4 seq ++ l.flatMap fun g => g.head ++ leN 2 g.crc.toNat)

/-- A copy is valid: its CRC and those of its entries check (R273). -/
def GenTable.ok (t : GenTable) : Bool :=
  t.crc == GenTable.check t.seq t.entries && t.entries.all fun g => g.crc == Crypto.crc16 g.head

/-- The copy of the generation table in force: the valid one with the greater sequence number (R273). -/
def KeyStore.table (k : KeyStore) : Option GenTable :=
  match k.table0.filter GenTable.ok, k.table1.filter GenTable.ok with
  | some a, some b => if serialNewer 32 b.seq a.seq then some b else some a
  | a, b => a.or b

/-- The entries in force. -/
def KeyStore.gens (k : KeyStore) : List NodeGen := (k.table.map (·.entries)).getD []

/-- A new table is written over the copy that is not in force; where the copy does not verify, its CRC does not check (R273). -/
def KeyStore.setGens (l : List NodeGen) (ok : Bool) (k : KeyStore) : KeyStore :=
  let n := ((k.table.map (·.seq)).getD 0 + 1) % 2 ^ 32
  let es := l.map NodeGen.seal_
  let t : GenTable := ⟨n, es, if ok then GenTable.check n es else ~~~ GenTable.check n es⟩
  if k.table0.isSome && k.table == k.table0 then { k with table1 := some t } else { k with table0 := some t }

/-- NGEN of a node at level 1 to 3; 0 without an entry (R273). -/
def KeyStore.ngen (k : KeyStore) (level f a b : Nat) : Nat :=
  match k.gens.find? fun g => g.level == level && g.frond == f && g.pinna == a && g.pinnule == b with
  | some g => g.ngen
  | none => 0

/-- The rhizome; a device that holds none has no key to derive from, and no clause that would is admitted (R343, R357). -/
def KeyStore.root (k : KeyStore) : Bytes := k.rhizome.getD (Config.freeBytes 1 0 32)

/-- Key of frond `f` at NGEN `gf` (Table 11.1). -/
def frondKey (root : Bytes) (f gf : Nat) : Bytes :=
  Crypto.kdf root (Crypto.ascii "OTR9716-FROND-L1") ([1#8, BitVec.ofNat 8 f] ++ beN 2 gf) 256 2

/-- Key of pinna `a` under a frond key. -/
def pinnaKey (fk : Bytes) (a ga : Nat) : Bytes :=
  Crypto.kdf fk (Crypto.ascii "OTR9716-PINNA-L2") ([2#8, BitVec.ofNat 8 a] ++ beN 2 ga) 256 2

/-- Key of pinnule `b` under a pinna key, with a diversifier. -/
def pinnuleKey (pk : Bytes) (b gb : Nat) (div : Bytes) : Bytes :=
  Crypto.kdf pk (Crypto.ascii "OTR9716-PINNULE3") ([3#8, BitVec.ofNat 8 b] ++ beN 2 gb ++ div) 256 2

/-- Key of pinnule `(f, a, b)` at given NGENs (R270). -/
def KeyStore.pathKey (k : KeyStore) (f a b gf ga gb : Nat) (div : Bytes) : Bytes :=
  pinnuleKey (pinnaKey (frondKey k.root f gf) a ga) b gb div

/-- Key of pinnule `(f, a, b)` at its current NGENs. -/
def KeyStore.nodeKey (k : KeyStore) (f a b : Nat) (div : Bytes) : Bytes :=
  k.pathKey f a b (k.ngen 1 f 0 0) (k.ngen 2 f a 0) (k.ngen 3 f a b) div

/-- The signing scalar of a signing frond and curve code (R272): the first L bits of the derivation, reduced. -/
def KeyStore.signScalar (k : KeyStore) (f code : Nat) (cv : Crypto.Curve) : Nat :=
  let pk := k.nodeKey f 0 code (zeros 16)
  let label := Crypto.ascii "OTR9716-SIGNKEY-"
  Crypto.scalarOf cv (if cv.c = 32 then (Crypto.kdf pk label (leN 1 code) 320 3).take 40
    else (Crypto.kdf pk label (leN 1 code) 448 4).take 56)

/-- The public key of a signing scalar as held since boot (R272). -/
def Evidence.public (e : Evidence) (f code : Nat) : Nat × Nat :=
  match e.publics.find? fun p => p.1 == f && p.2.1 == code with
  | some p => (p.2.2.1, p.2.2.2)
  | none => (0, 0)

/-- The public keys of the eight signing scalars (R272). -/
def KeyStore.publics (k : KeyStore) : List (Nat × Nat × Nat × Nat) :=
  [3, 6].flatMap fun f => [1, 2, 3, 4].filterMap fun code =>
    match Crypto.curveOf code with
    | none => none
    | some cv =>
      match Crypto.ptMul cv (k.signScalar f code cv) (Crypto.ptG cv) with
      | some (x, y) => some (f, code, x, y)
      | none => none

/-- A node of Table 11.2, by level. -/
def nodeListed (level f a b : Nat) : Bool :=
  let pinnaOk := (f == 1 && (a == 0 || inRange 0x10 0x1F a)) || (inRange 2 6 f && a == 0)
  let leafOk :=
    if f = 1 then (if a = 0 then b ≤ 0x1F else b ≤ 0xFF)
    else if f = 3 || f = 6 then inRange 1 4 b
    else if f = 5 then b ≤ 0x0F else b == 0
  match level with
  | 1 => inRange 1 6 f && a == 0 && b == 0
  | 2 => pinnaOk && b == 0
  | 3 => pinnaOk && leafOk
  | _ => false

/-- Retirable nodes of Table 11.2: those under ACCESS (the crown ones under the conditions of R288) and SPORE_WRAP. -/
def nodeRetirable (f : Nat) : Bool := f == 1 || f == 5

/-! ### The key cache -/

/-- Slot `i`. -/
def KeyStore.slot (k : KeyStore) (i : Nat) : Slot := k.slots.getD i {}

/-- The next generation of a slot; 0x0000 is skipped (R275). -/
def nextGen (g : Nat) : Nat := if g % 65536 = 65535 then 1 else g % 65536 + 1

/-- Write a key into a slot (R275); the count of IVs restarts (R299). -/
def KeyStore.writeSlot (k : KeyStore) (i : Nat) (c : SlotKey) : KeyStore :=
  { k with slots := k.slots.set i { gen := nextGen (k.slot i).gen, content := some c, ivs := 0 } }

/-- Empty a slot; its generation stays (R275). -/
def KeyStore.emptySlot (k : KeyStore) (i : Nat) : KeyStore :=
  { k with slots := k.slots.set i { k.slot i with content := none } }

/-- Empty every slot whose content meets a test. -/
def KeyStore.wipeSlots (k : KeyStore) (p : SlotKey → Bool) : KeyStore :=
  { k with slots := k.slots.map fun x =>
      match x.content with
      | some c => if p c then { x with content := none } else x
      | none => x }

/-- Is the slot's content a host key (R274). -/
def Slot.isHost (x : Slot) : Bool :=
  match x.content with
  | some c => c.owner.isNone
  | none => false

/-- Is the slot's content a device key. -/
def Slot.isDevice (x : Slot) : Bool :=
  match x.content with
  | some c => c.owner.isSome
  | none => false

/-- Host slots in use. -/
def KeyStore.hostSlots (k : KeyStore) : Nat := (k.slots.filter Slot.isHost).length

/-- The lowest-numbered empty slot (R274). -/
def KeyStore.freeSlot (k : KeyStore) : Nat := k.slots.findIdx fun x => x.content.isNone

/-- The slot that a write to SLOT takes: the one named, or the lowest empty one for 0xFF (R274). -/
def KeyStore.target (k : KeyStore) (slot : Nat) : Nat := if slot = 0xFF then k.freeSlot else slot

/-- The device slot that a link engine holds, when it holds one. -/
def KeyStore.engineSlot (k : KeyStore) (e : Nat) : Option Nat :=
  k.slots.findIdx? fun x =>
    match x.content with
    | some c => c.owner == some e
    | none => false

/-- Release the device slot of an engine (R19, R155). -/
def KeyStore.releaseEngine (k : KeyStore) (e : Nat) : KeyStore := k.wipeSlots fun c => c.owner == some e

/-- Zeroise the cache (R277, Table 14.9). -/
def KeyStore.clearCache (k : KeyStore) : KeyStore := { k with slots := List.replicate 64 {}, requests := [] }

/-! ### Spores -/

/-- Test 1 of R280. -/
def sporeBad (sp : Bytes) : Bool :=
  sp.length != 96 || oct sp 0 != 1 || !inRange 1 4 (oct sp 1) || 0x0F < oct sp 2 || !zero sp 10 2 ||
    (if oct sp 1 ≤ 2 then oct sp 3 != 0 else (oct sp 3 == 0 || 7 < oct sp 3))

/-- The outcome of unwrapping a spore: its key, or the REASON of R285 (1 tag, 2 stale). -/
inductive Unwrap where
  | key (k : Bytes)
  | bad (reason : Nat)
deriving DecidableEq, Repr

/-- SPORE_LOADs of MODE 0x00 that have staged a key in this tick (R36). -/
def KeyStore.loadsStaged (k : KeyStore) : Nat :=
  (k.work.filter fun w => match w with
    | .load _ host _ _ _ _ => !host
    | _ => false).length

/-- KEY length of a KIND (Table 11.4). -/
def keyLength (kind : Nat) : Nat := if kind = 4 then 32 else 16

/-- Unwrap a spore that passed test 1 (R279, R280 tests 2 to 4). -/
def KeyStore.unwrap (k : KeyStore) (sp : Bytes) : Unwrap :=
  let d := oct sp 2
  let gs := [num sp 4 2, num sp 6 2, num sp 8 2]
  let cur := [k.ngen 1 5 0 0, k.ngen 2 5 0 0, k.ngen 3 5 0 d]
  if (gs.zip cur).any fun p => p.2 < p.1 then .bad 1
  else if (gs.zip cur).any fun p => p.1 < p.2 then .bad 2
  else
    let dk := k.pathKey 5 0 d (num sp 4 2) (num sp 6 2) (num sp 8 2) (zeros 16)
    let ks := Crypto.kdf dk (Crypto.ascii "OTR9716-SPOREKEY") (sp.take 32) 256 2
    let iv := slice sp 20 12
    let ct := slice sp 32 48
    if Crypto.gcmTag ks iv (sp.take 32) ct != slice sp 80 16 then .bad 1
    else
      let pt := Crypto.gcmCrypt ks iv ct
      if !zero pt (keyLength (oct sp 1)) (32 - keyLength (oct sp 1)) || !zero pt 40 8 then .bad 1
      else .key (pt.take (keyLength (oct sp 1)))

/-- Wrap a key at the current NGENs with the drawn IV (R278, R279, R281). -/
def KeyStore.wrap (k : KeyStore) (kind domain usage : Nat) (binding key iv : Bytes) (tick : Nat) : Bytes :=
  let hd := leN 1 1 ++ leN 1 kind ++ leN 1 domain ++ leN 1 usage ++ leN 2 (k.ngen 1 5 0 0) ++ leN 2 (k.ngen 2 5 0 0) ++
    leN 2 (k.ngen 3 5 0 domain) ++ zeros 2 ++ binding ++ iv
  let ks := Crypto.kdf (k.nodeKey 5 0 domain (zeros 16)) (Crypto.ascii "OTR9716-SPOREKEY") hd 256 2
  let ct := Crypto.gcmCrypt ks iv (padTo 32 key ++ leN 8 tick ++ zeros 8)
  hd ++ ct ++ Crypto.gcmTag ks iv hd ct

/-- ORIGIN of a key loaded from a spore (Table 11.3). -/
def sporeOrigin (sp : Bytes) : Origin := .spore (oct sp 2) (num sp 4 2) (num sp 6 2) (num sp 8 2)

/-- The key check value of a key: AES-128 or AES-256 by its length (R154, R287). -/
abbrev kcv (key : Bytes) : Bytes := Crypto.keyCheck key

/-! ### The token directory -/

/-- VALID, REVOKED, CROWN, LONG_FORM, EXEMPT, PHASE_CAL of an entry (Table 06.2). -/
def Entry.valid (e : Entry) : Bool := e.flags.getLsbD 7
def Entry.revoked (e : Entry) : Bool := e.flags.getLsbD 6
def Entry.crown (e : Entry) : Bool := e.flags.getLsbD 5
def Entry.longForm (e : Entry) : Bool := e.flags.getLsbD 4
def Entry.exempt (e : Entry) : Bool := e.flags.getLsbD 3
def Entry.phaseCal (e : Entry) : Bool := e.flags.getLsbD 2

/-- The entry that holds an identifier, with its index; a tombstone holds its identifier too. -/
def State.entryOf (s : State) (i : Ident) : Option (Nat × Entry) := s.dir.find? fun p => p.2.ident == i

/-- The valid entry that holds an identifier. -/
def State.validEntry (s : State) (i : Ident) : Option (Nat × Entry) := s.dir.find? fun p => p.2.ident == i && p.2.valid

/-- The entry at an index; none for an empty entry. -/
def State.entryAt (s : State) (n : Nat) : Option Entry := (s.dir.find? fun p => p.1 == n).map (·.2)

/-- Write the entry at an index. -/
def State.writeEntry (s : State) (n : Nat) (e : Entry) : State :=
  { s with dir := (s.dir.filter fun p => p.1 != n) ++ [(n, e)] }

/-- The 32 bytes of an entry (Table 06.1). -/
def Entry.bytes (e : Entry) : Bytes :=
  leN 8 e.ident.toNat ++ [e.flags, e.privileges, e.phaseWin, e.crownIndex] ++ leN 2 (twos 16 e.phaseRef) ++
    leN 2 e.hostTag ++ padTo 16 e.keyField

/-- Crown indices assigned to valid entries (R157). -/
def State.crownsUsed (s : State) : List Nat :=
  (s.dir.filter fun p => p.2.valid && p.2.crown).map fun p => p.2.crownIndex.toNat

/-- The crown pinnule of a CROWN_INDEX (R155). -/
def KeyStore.crownKey (k : KeyStore) (index : Nat) : Bytes := k.nodeKey 1 0 index (zeros 16)

/-- The token key K_T of a crown entry (R155). -/
def State.crownToken (s : State) (e : Entry) : Bytes :=
  Crypto.aesDec (s.ks.crownKey e.crownIndex.toNat) (padTo 16 e.keyField)

/-- Identifiers that R156 excludes. -/
def badIdent (i : Nat) : Bool := i == 0 || i == 2 ^ 64 - 1

/-- A device-wide lock is in force (R172, R176). -/
def State.devLocked (s : State) : Bool := s.tick < s.lock.devUntil

/-- The lockout record of an identifier. -/
def State.idLockOf (s : State) (i : Ident) : Option IdLock := s.lock.ids.find? fun l => l.ident == i

/-- A lock of the identifier is in force (R172, R175). -/
def State.idLocked (s : State) (i : Ident) : Bool :=
  match s.idLockOf i with
  | some l => s.tick < l.expiry
  | none => false

/-- A crown entry with EXEMPT set is exempt under CROWN_LOCKOUT_EXEMPT (R177). -/
def State.exemptNow (s : State) (e : Entry) : Bool := thalCrownExempt s.thal.cur && e.crown && e.exempt

/-- The lookup of R153 with the lockout of R175 to R177. -/
def State.lookup (s : State) (i : Ident) : Lookup × Option Entry :=
  match s.validEntry i with
  | some (_, e) =>
    if !s.exemptNow e && (s.idLocked i || s.devLocked) then (.locked, some e)
    else if e.crown then (.crown, some e)
    else (.ordinary, some e)
  | none =>
    match s.entryOf i with
    | some (_, e) => (.revoked, some e)
    | none => (.unknown, none)

/-- A device-wide lock refuses AUTHENTICATE, LOCATE and POLL_START and discards triggers, unless R177 admits them. -/
def State.devLockRefuses (s : State) : Bool := s.devLocked && !thalCrownExempt s.thal.cur

end Sys2Proof.Machine
end

