-- ==== Sys2Proof/Machine/Calendar.lean ====
section
/-! DEFINITION. The air calendar (R44 to R48, R94 to R96, R145): isolation, caps and static estimates, air times of the
profiles (Tables 02.4, 06.7), placement, bookings and their release. -/

namespace Sys2Proof.Machine

open Sys2Proof

/-! ### Isolation -/

/-- The number of zone pair `(i, j)` with `i < j` (Table 04.14). -/
def pairNo (i j : Nat) : Nat := i * (15 - i) / 2 + (j - i - 1)

/-- The measured isolation of two zones, none where not measured (R117). -/
def State.measuredIso (s : State) (i j : Nat) : Option Nat :=
  if i < j then s.field.isolation.getD (pairNo i j) none else s.field.isolation.getD (pairNo j i) none

/-- R94 under one isolation matrix and one threshold. -/
def isolatedUnder (matrix : Bytes) (thresh : Nat) (meas : Option Nat) (i j : Nat) : Bool :=
  bit (oct matrix i) j &&
    match meas with
    | none => true
    | some m => thresh ≤ m

/-- Two zones are isolated for the calendar (R94), under the present tables and every replaced one that still governs a
booking (R96). -/
def State.isolated (s : State) (i j : Nat) : Bool :=
  isolatedUnder (s.cfg.cur.readBytes 0x980 8) (isoThresh s.cfg.cur) (s.measuredIso i j) i j &&
    s.prot.oldTables.all fun o =>
      isolatedUnder o.1 o.2.1 (s.measuredIso i j) i j || s.field.bookings.all fun b => o.2.2 ≤ b.id

/-- Two sets of zones may not be driven at once (R44). -/
def State.zonesClash (s : State) (a b : List Nat) : Bool := a.any fun i => b.any fun j => i == j || !s.isolated i j

/-! ### Targets -/

/-- A cap in mA against a sum of codes: the scale of R102 in 1/256, rounded down, at most 1; a cap of 0 is no cap. -/
def capScale (cap codes : Nat) : Nat :=
  if cap = 0 || codes = 0 then 256 else min 256 (256 * cap * 1023 / (1000 * codes))

/-- The sum of amplitude codes of a drive list. -/
def codeSum (d : List (Nat × Nat × Nat)) : Nat := (d.map fun x => x.2.1).foldl (· + ·) 0

/-- What a drive vector drives now: fitted channels in service at their capped, non-zero amplitudes (R87, R88, R102). -/
def State.driveOf (s : State) (dv : Nat) : List (Nat × Nat × Nat) :=
  let c := s.cfg.cur
  ((dvChannels c dv).filter s.inService).filterMap fun n =>
    let a := min (dvAmp c dv n) (aeAmpCap c n)
    if a = 0 then none else some (n, a, dvPhase c dv n)

/-- One aerial alone at an amplitude (R102). -/
def State.driveAlone (s : State) (n amp : Nat) : List (Nat × Nat × Nat) :=
  let a := min amp (aeAmpCap s.cfg.cur n)
  if s.inService n && a != 0 then [(n, a, 0)] else []

/-- The aerials of a zone in service, which a sounding sequence covers (R139). -/
def State.zoneLive (s : State) (z : Nat) : List Nat := (bitsIn 16 (zoneAerials s.cfg.cur z)).filter s.inService

/-- Every channel of a zone is out of service (R110). -/
def State.zoneDead (s : State) (z : Nat) : Bool := (bitsIn 16 (zoneAerials s.cfg.cur z)).all s.oos

/-- The sounding target of a channel of zone `z`, in 65,536ths of a code, before derating (R95, R102). -/
def State.soundCode (s : State) (z n : Nat) : Nat :=
  let c := s.cfg.cur
  let a := min (aeSoundAmp c n) (aeAmpCap c n)
  a * capScale (zoneCap c z) a * capScale (totalCap c) a

/-- Drive codes after AMP_CAP and ZONE_CAP, in 65,536ths of a code. -/
def State.zoneCodes (s : State) (z : Nat) (d : List (Nat × Nat × Nat)) : List (Nat × Nat) :=
  d.map fun x => (x.1, x.2.1 * capScale (zoneCap s.cfg.cur z) (codeSum d) * 256)

/-- One watt in units of the static estimate. -/
def estimateWatt : Nat := 100 * (65536 * 1023) ^ 2

/-- The estimate of one channel at a code in 65,536ths: 0.45 W (a/1023)^2 + 0.02 W (R95). -/
def channelEstimate (code : Nat) : Nat := 45 * code ^ 2 + 2 * (65536 * 1023) ^ 2

/-- The static bridge estimate of a booking on zone `z` (R95); a sounding one also drives every live aerial of the zone. -/
def State.bookingEstimate (s : State) (z : Nat) (d : List (Nat × Nat × Nat)) (sounds : Bool) : Nat :=
  let codes := s.zoneCodes z d
  let of_ := fun n => ((codes.find? fun x => x.1 == n).map (·.2)).getD 0
  if sounds then
    let chans := (List.range 16).filter fun n => (codes.any fun x => x.1 == n) || (s.zoneLive z).contains n
    total (chans.map fun n => channelEstimate (if (s.zoneLive z).contains n then max (of_ n) (s.soundCode z n) else of_ n))
  else total (codes.map fun x => channelEstimate x.2)

/-! ### Placement -/

/-- What a booking asks of the calendar. -/
structure Ask where
  zones : List Nat
  /-- Air time A in cc (R47). -/
  air : Nat
  /-- The profile holds a directory lookup that may reach an ordinary token (R47). -/
  lookup : Bool
  current : Nat
  estimate : Nat
deriving DecidableEq, Repr

/-- Ticks of air time. -/
def Ask.ticks (a : Ask) : Nat := (a.air + 31) / 32

/-- A booking overlaps an interval. -/
def Booking.overlaps (b : Booking) (first closing : Nat) : Bool := first ≤ b.closing && b.first ≤ closing

/-- R95 in every tick of an interval: the sums change only where a booking begins. -/
def State.capsHold (s : State) (a : Ask) (first closing : Nat) : Bool :=
  let ov := s.field.bookings.filter fun b => b.overlaps first closing
  (first :: (ov.map Booking.first).filter (first < ·)).all fun t =>
    let at_ := ov.filter fun b => b.overlaps t t
    1000 * (a.current + total (at_.map Booking.current)) ≤ totalCap s.cfg.cur * 1023 * 65536 &&
      a.estimate + total (at_.map Booking.estimate) ≤ 3 * estimateWatt

/-- The loopback test of an engine falls into an interval (R381). -/
def Loopback.within (e first closing : Nat) (l : Loopback) : Bool :=
  l.engine == e && l.tick.any fun t => first ≤ t && t ≤ closing

/-- An engine in service has no booking in an interval, not even that of a loopback test (R44, R378, R381). -/
def State.engineFree (s : State) (first closing e : Nat) : Bool :=
  !s.field.enginesOut.getLsbD e && !(s.field.bookings.any fun b => b.engine == e && b.overlaps first closing) &&
    !s.field.loops.any (Loopback.within e first closing)

/-- The lowest-numbered engine in service that is free for an interval (R145, R378). -/
def State.freeEngine (s : State) (first closing : Nat) : Option Nat := (List.range 4).find? (s.engineFree first closing)

/-- A booking may start at `first` (R44, R95): the engine it takes. -/
def State.fits (s : State) (a : Ask) (first : Nat) : Option Nat :=
  let closing := first + a.ticks
  if (s.field.bookings.any fun b => b.overlaps first closing && s.zonesClash a.zones b.zones) ||
      !s.capsHold a first closing then none
  else s.freeEngine first closing

/-- Starts at which something may have become free, in order (R45, R381). -/
def State.starts (s : State) (earliest : Nat) : List Nat :=
  let ends := s.field.bookings.map (fun b => b.closing + 1) ++ s.field.loops.filterMap fun l => l.tick.map (· + 1)
  sortBy (· ≤ ·) (earliest :: ends.filter (earliest < ·))

/-- The earliest start from `earliest` on, at most `limit`, with its engine (R45). -/
def State.place (s : State) (earliest : Nat) (limit : Option Nat) (a : Ask) : Option (Nat × Nat) :=
  ((s.starts earliest).filterMap fun f => (s.fits a f).map fun e => (e, f)).head?.filter fun p =>
    match limit with
    | some l => p.2 ≤ l
    | none => true

/-- D_LINK with a wait of `w` ticks (R47); the first identifier can be looked up at w + 78 (R166). -/
def Ask.deadline (a : Ask) (w : Nat) : Nat := max (w + a.ticks + 2) (if a.lookup then w + 104 else 0)

/-- The limit test of R48, made with w = 0. -/
def Ask.tooLong (a : Ask) : Bool := 4096 < a.deadline 0

/-- The tick in which the clause being admitted was latched: the present one, or an arbitration tick (R53). -/
def State.latchTick (s : State) : Nat := s.lanes.lateTick.getD s.tick

/-- Where a LINK clause latched now is placed, with a wait of at most 64 ticks and within 4,096 ticks (R45, R48, R53). -/
def State.placeLink (s : State) (a : Ask) : Option (Nat × Nat) :=
  (s.place (s.tick + 1) (some (s.latchTick + 65)) a).filter fun p => a.deadline (p.2 - s.latchTick - 1) ≤ 4096

/-- The need of a LINK verb: its lane units and D_LINK (Table 02.6, R47). -/
def linkNeed (verb : Nat) (ask : State → Ask) (s : State) : Need :=
  let n := (verbNeed verb).getD {}
  match s.placeLink (ask s) with
  | some p => { n with deadline := (ask s).deadline (p.2 - s.latchTick - 1) }
  | none => { n with deadline := (ask s).deadline 0 }

/-! ### Profiles -/

/-- Carrier lead, WAKE, opening of a walk and the walk term for `k` keys (Table 05.6). -/
def walkAir (k : Nat) : Nat := 64 + 716 + 636 + k * 45848

/-- The air time of an exchange (Table 06.7) with `n` aerials in service. -/
def exchangeAir (k n : Nat) (repeat_ noSound : Bool) : Nat :=
  let key := if noSound then 7416 else 7908 + 208 * n
  let rep := if !repeat_ then 0 else if noSound then 4924 else 4924 + 192 * n
  walkAir k + k * (key + rep) + 396

/-- The drive vector in effect: the one named, or the zone's default for 0xFF (R90). -/
def State.dvFor (s : State) (z dv : Nat) : Nat := if dv = 0xFF then zoneDv s.cfg.cur z else dv

/-- DV is neither 0xFF nor a vector that drives only channels of the zone (R90). -/
def State.dvBad (s : State) (z dv : Nat) : Bool :=
  dv != 0xFF && (31 < dv || !(dvChannels s.cfg.cur dv).all (bit (zoneAerials s.cfg.cur z)))

/-- What an exchange of `air` cc on zone `z` with a drive asks. -/
def State.askFor (s : State) (z : Nat) (d : List (Nat × Nat × Nat)) (air : Nat) (lookup sounds : Bool) : Ask where
  zones := [z]
  air := air
  lookup := lookup
  current := total ((s.zoneCodes z d).map (·.2))
  estimate := s.bookingEstimate z d sounds

/-- What an exchange of R161 asks. -/
def State.askExchange (s : State) (z k dv : Nat) (repeat_ noSound : Bool) : Ask :=
  s.askFor z (s.driveOf (s.dvFor z dv)) (exchangeAir k (s.zoneLive z).length repeat_ noSound) true (!noSound)

/-! ### The LF side as a whole -/

/-- No LF exchange can run: the carrier cannot be held (R375), or no engine is in service (R378). -/
def State.lfDead (s : State) : Bool :=
  (s.power.xtalFallback && s.power.x32Failed) || s.field.enginesOut == 0xF#4

/-! ### Bookings -/

/-- The next round of a zone (R131). -/
def State.roundOf (s : State) (z : Nat) : Nat := s.field.rounds.getD z 0

/-- The rounds after a booking on some zones: each advances by 1, modulo 8 (R131). -/
def nextRounds (rounds zones : List Nat) : List Nat := zones.foldl (fun l z => l.set z ((l.getD z 0 + 1) % 8)) rounds

/-- The number of the clause that placed a booking. -/
def Booking.clause (b : Booking) : Option Nat := (b.ticket.map Ticket.order).or (b.reader.map Reader.order)

/-- Enter a booking in the calendar; it takes the next round of its zone, and every zone of it goes on to the next (R131). -/
def State.addBooking (s : State) (b : Booking) : State :=
  { s with
    orderNo := s.orderNo + 1
    field := { s.field with
      bookings := s.field.bookings ++ [{ b with id := s.orderNo, round := s.roundOf (b.zones.headD 0) }]
      rounds := nextRounds s.field.rounds b.zones } }

/-- Change the bookings that meet a test. -/
def State.onBookings (s : State) (p : Booking → Bool) (f : Booking → Booking) : State :=
  { s with field := { s.field with bookings := s.field.bookings.map fun b => if p b then f b else b } }

/-- The booking whose exchange engine `e` is carrying out. -/
def State.current (s : State) (e : Nat) : Option Booking :=
  s.field.bookings.find? fun b => b.engine == e && b.phase != .booked

/-- Change that booking. -/
def State.onCurrent (s : State) (e : Nat) (f : Booking → Booking) : State :=
  match s.current e with
  | some c => s.onBookings (fun b => b.id == c.id && b.phase != .booked) f
  | none => s

/-- A booking runs a walk of keys. -/
def Booking.isWalk (b : Booking) : Bool := b.kind == .inventory || b.kind == .authenticate || b.kind == .locate

/-- A booking runs the exchange of R161. -/
def Booking.isExchange (b : Booking) : Bool := b.kind == .authenticate || b.kind == .locate

/-- A booking runs an autonomous poll, of a trigger or of POLL_START (R28, R196). -/
def Booking.isPoll (b : Booking) : Bool := b.kind == .authenticate && b.ticket.isNone

/-- A poll that joins one running on its zone: not a door check, a recovery poll or a rerun (R29; log entry 69). -/
def Booking.joins (b : Booking) : Bool := b.isPoll && !b.doorCheck && !b.recoveryPoll && !b.rerun

/-- The zone of a booking of one zone. -/
def Booking.zone (b : Booking) : Nat := b.zones.headD 0

/-- The spore request of an engine ends with everything that belongs to it (R21, R69). -/
def State.dropRequest (s : State) (e : Nat) : State :=
  let ids := (s.ks.requests.filter fun r => r.engine == e).map (·.ident)
  let s1 : State := { s with ks := { s.ks with requests := s.ks.requests.filter fun r => r.engine != e } }
  s1.onPorts fun q => ids.foldl (fun q i => q.dropSpore i e) q

/-- The off state of a channel (R87). -/
def Channel.off (c : Channel) : Channel := { c with driven := false, target := 0, current := 0, angle := 0 }

/-- The channels of a booking return to their off state (R87). -/
def State.undrive (s : State) (b : Booking) : State :=
  let off : Nat → Channel → Channel := fun n c =>
    if b.drive.any fun d => d.1 == n then c.off else c
  { s with field := { s.field with ch := s.field.ch.mapIdx off } }

/-- The ends of polls once a booking has left `bs`: the last poll of its entry ends with its last zone (R194, R195). -/
def Field.pollEnds (f : Field) (bs : List Booking) (b : Booking) (tick : Nat) : List (Option Nat) :=
  match b.index with
  | some i =>
    if f.lastPoll.getD i 0 != b.poll || bs.any fun x => x.index == some i && x.poll == b.poll then f.pollEnd
    else f.pollEnd.set i (some tick)
  | none => f.pollEnd

/-- A booking leaves the calendar: its engine, zones and device slot are free (R19, R46), its poll may be over (R195), and
tables that govern no booking any more are forgotten (R96). -/
def State.release (s : State) (b : Booking) : State :=
  let s1 := if b.phase = .booked then s else (s.dropRequest b.engine).undrive b
  let bs := s.field.bookings.filter fun x => x.id != b.id
  { s1 with
    ks := if b.phase = .booked then s1.ks else s1.ks.releaseEngine b.engine
    field := { s1.field with bookings := bs, pollEnd := s1.field.pollEnds bs b s.tick }
    prot := { s1.prot with oldTables := s1.prot.oldTables.filter fun o => bs.any fun x => x.id < o.2.2 } }

end Sys2Proof.Machine
end

