-- ==== Sys2Proof/Machine/Air.lean ====
section
/-! DEFINITION. Bits on air: downlink frames (R121, R126, R127, Table 05.4), and what the receivers make of a reply (R123,
R124, R128, R182, R184, Table 05.5). -/

namespace Sys2Proof.Machine

open Sys2Proof

/-! ### Bits -/

/-- `w` bits of a number, most significant first (R121). -/
def airBits (w n : Nat) : List Bool := (List.range w).map fun i => n.testBit (w - 1 - i)

/-- The number that bits spell, most significant first (R121). -/
def ofBits (l : List Bool) : Nat := l.foldl (fun n b => 2 * n + b2n b) 0

/-- The bits of a byte string on air. -/
def byteBits (b : Bytes) : List Bool := b.flatMap Crypto.bitsOf

/-- The byte string that bits spell. -/
def bitBytes (l : List Bool) : Bytes := beN (l.length / 8) (ofBits l)

/-- The 16 CRC bits over an implicit prefix and covered bits (R126). -/
def crcBits (pre bits : List Bool) : List Bool := airBits 16 ((pre ++ bits).foldl Crypto.crc16Bit 0xFFFF#16).toNat

/-- The preamble of every reply (R123). -/
def preamble : List Bool := [true, true, false, true]

/-- The identifier that 64 bits in air order spell (R121). -/
def identOf (bits : List Bool) : Ident := BitVec.ofNat 64 (ofBits bits)

/-! ### Downlink frames -/

/-- The opcode of a frame (Table 05.3); a stop gap has none. -/
def Frame.opcode : Frame → Nat
  | .wake _ => 0x1
  | .inventoryBegin _ => 0x2
  | .treeBit _ _ => 0x3
  | .select _ => 0x4
  | .sound _ => 0x5
  | .challenge _ => 0x6
  | .confirm _ => 0x7
  | .quiet _ => 0x8
  | .mailboxRead _ _ _ => 0x9
  | .mailboxWrite _ _ _ _ => 0xA
  | .harvest _ => 0xB
  | .stopGap => 0x0

/-- The fields of a frame in the order sent, reserved bits 0 (Table 05.4). -/
def Frame.fields : Frame → List Bool
  | .wake group => airBits 24 group
  | .inventoryBegin round => airBits 3 round ++ airBits 4 0
  | .treeBit k v => airBits 6 k ++ [v]
  | .select ident => airBits 64 ident.toNat
  | .sound steps => airBits 4 steps ++ airBits 4 0
  | .challenge nonce => airBits 64 nonce.toNat
  | .confirm mac => byteBits mac
  | .quiet scope => [scope] ++ airBits 3 0
  | .mailboxRead page flags c => airBits 8 page ++ airBits 4 flags ++ airBits 64 c.toNat
  | .mailboxWrite page flags data tag => airBits 8 page ++ airBits 4 flags ++ byteBits (padTo 32 data) ++ byteBits (padTo 8 tag)
  | .harvest duration => airBits 8 duration ++ airBits 4 0
  | .stopGap => []

/-- The implicit prefix of a frame's CRC: the identifier of the key addressed, or the group (R126, Table 05.4). -/
def Frame.implicit (group : Nat) (ident : Ident) : Frame → List Bool
  | .wake _ | .inventoryBegin _ | .treeBit _ _ | .select _ | .stopGap => []
  | .quiet true => airBits 24 group
  | .quiet false | .sound _ | .challenge _ | .confirm _ | .mailboxRead _ _ _ | .mailboxWrite _ _ _ _ | .harvest _ =>
    airBits 64 ident.toNat

/-- The bits of a frame on air: opcode, fields, CRC (R127); a stop gap carries none. -/
def Frame.bits (group : Nat) (ident : Ident) (f : Frame) : List Bool :=
  let x := airBits 4 f.opcode ++ f.fields
  if f = .stopGap then [] else x ++ crcBits (f.implicit group ident) x

/-- The key that the frames of an exchange address: that of a reader exchange, or the last one identified (R126, R134). -/
def Booking.selected (b : Booking) : Ident :=
  match b.reader with
  | some r => r.ident
  | none => identOf b.bits

/-! ### Replies -/

/-- The gain g that a booking holds on receiver `n` (R98). -/
def Booking.gainOf (b : Booking) (n : Nat) : Option Nat := (b.gains.find? fun x => x.1 == n).map (·.2)

/-- The gain of receiver `n` in an exchange: the one held, or where none was chosen, the receiver's present one (R98). -/
def State.gainOn (s : State) (b : Booking) (n : Nat) : Nat := (b.gainOf n).getD (s.field.ch.getD n {}).gain

/-- The receivers that take in a reply: those of channels in service that return values, each with its gain (R87, R90, R124);
none where the supply ceiling has cut the carrier, so that every reply is silent (R404). -/
def State.receivers (s : State) (b : Booking) (r : Uplink) : List (Nat × Nat × Receiver) :=
  if b.cut then [] else
  (List.range 16).filterMap fun n =>
    match r.getD n none with
    | some x => if s.liveIn b.copied n then some (n, s.gainOn b n, x) else none
    | none => none

/-- Energies of the halves of a cell. -/
abbrev Halves := Nat × Nat

/-- Energies of one receiver's cells, in units of one LSB at g = 3. -/
def energiesOf (g : Nat) (x : Receiver) : List Halves :=
  x.cells.map fun c => (16 ^ (3 - g) * norm2 c.first, 16 ^ (3 - g) * norm2 c.second)

/-- Energies add over the receivers (log entry 66). -/
def addHalves : List Halves → List Halves → List Halves
  | [], l => l
  | l, [] => l
  | x :: a, y :: b => (x.1 + y.1, x.2 + y.2) :: addHalves a b

/-- 4 P: the energy of the four loaded halves of the preamble (R124). -/
def preambleEnergy : List Halves → Nat
  | a :: b :: c :: d :: _ => a.1 + b.1 + c.2 + d.1
  | _ => 0

/-- Class of a cell: a half is loaded when its energy is at least P / 16 (R124). -/
def classOf4P (p4 : Nat) (h : Halves) : CellClass :=
  match decide (p4 ≤ 64 * h.1), decide (p4 ≤ 64 * h.2) with
  | true, true => .collided
  | true, false => .one
  | false, true => .zero
  | false, false => .void

/-- The cells after the preamble, by class; none for a silent reply: no preamble with its first edge within ±2 cc of the
origin on any receiver (R124). -/
def State.acquire (s : State) (b : Booking) (r : Uplink) : Option (List CellClass) :=
  let l := s.receivers b r
  let h := (l.map fun x => energiesOf x.2.1 x.2.2).foldl addHalves []
  let p4 := preambleEnergy h
  let cs := h.map (classOf4P p4)
  let near := fun (x : Nat × Nat × Receiver) => (x.2.2.cells.head?.map fun (c : RxCell) => c.onset.natAbs).getD 513 ≤ 512
  if p4 != 0 && cs.take 4 == [.one, .one, .zero, .one] && l.any near then some (cs.drop 4)
  else none

/-- The valid cells before the first collided or void one. -/
def takeCells : List CellClass → List Bool
  | .zero :: r => false :: takeCells r
  | .one :: r => true :: takeCells r
  | _ => []

/-- The bits after the preamble of a reply of valid cells whose CRC checks, the CRC left out; none for a silent or invalid
reply (R124, R126). -/
def State.replyBits (s : State) (b : Booking) (r : Uplink) : Option (List Bool) :=
  match s.acquire b r with
  | none => none
  | some cs =>
    let x := takeCells cs
    let n := cs.length - 16
    if x.length = cs.length ∧ 16 ≤ cs.length ∧ crcBits (airBits 64 b.selected.toNat) (x.take n) = x.drop n then some (x.take n)
    else none

/-- A reply whose fields have a given number of bits (Table 05.5). -/
def State.replyOf (s : State) (b : Booking) (r : Uplink) (n : Nat) : Option (List Bool) :=
  (s.replyBits b r).filter fun x => x.length == n

/-! ### Sense faults -/

/-- A receiver is unusable: it clips at g = 0, or reads below 1 % of full scale while its own channel carries 250 mA (R98,
R108). -/
def senseBad (gain : Nat) (clipped : Bool) (permille current : Nat) : Bool :=
  (gain == 0 && clipped) || (decide (permille < 10) && decide (250 * 1023 ≤ current * 1000))

/-- Change channel `n`. -/
def State.onChannel (s : State) (n : Nat) (f : Channel → Channel) : State :=
  { s with field := { s.field with ch := s.field.ch.modify n f } }

/-- A receiver's reading sets SENSE_FAULT (Table 04.10). -/
def Channel.sense (bad : Bool) (c : Channel) : Channel := if bad then { c with status := c.status ||| 2#8 } else c

/-- The receivers of a reply window show their faults (R108). -/
def State.senseReply (s : State) (b : Booking) (r : Uplink) : State :=
  (s.receivers b r).foldl (fun s x => s.onChannel x.1 fun c =>
    c.sense (senseBad x.2.1 x.2.2.clipped x.2.2.carrier c.current)) s

/-! ### Reply phases and elements -/

/-- Sum over cells of loaded half minus unloaded half (R182). -/
def loadSum : List Bool → List RxCell → Cx
  | b :: bs, c :: cs =>
    let r := loadSum bs cs
    if b then (c.first.1 - c.second.1 + r.1, c.first.2 - c.second.2 + r.2)
    else (c.second.1 - c.first.1 + r.1, c.second.2 - c.first.2 + r.2)
  | _, _ => (0, 0)

/-- A weighted mean of phases; none when nothing weighs. How it is rounded is open (log entry 13). -/
def weighted (tag : Nat) (l : List (Nat × Int)) (count : Nat) : Option Int :=
  let w := total (l.map (·.1)) * count
  if w = 0 then none else some (ratioOf tag ((l.map fun x => (x.1 : Int) * x.2).foldl (· + ·) 0) w)

/-- The preamble's energy is less than 20 dB above the noise of the quiet interval (R184). -/
def tooWeak (l : List (Nat × Nat × Receiver)) : Bool :=
  decide (preambleEnergy ((l.map fun x => energiesOf x.2.1 x.2.2).foldl addHalves []) <
    400 * total (l.map fun x => 16 ^ (3 - x.2.1) * x.2.2.noise))

/-- The onset of the first cell. -/
def firstEdge (x : Receiver) : Int := (x.cells.head?.map RxCell.onset).getD 0

/-- The reply phase of a stream: its first subcarrier edge, the receivers weighted by their preamble energy (R124; log
entry 66). -/
def State.streamPhase (s : State) (b : Booking) (r : Uplink) : Int :=
  (weighted 7 ((s.receivers b r).map fun x => (preambleEnergy (energiesOf x.2.1 x.2.2), firstEdge x.2.2)) 1).getD 0

/-- The fields of a response with `steps` sounding steps and a MAC of `mac` bytes: AXIS, KEY_NONCE, SOUNDING_VECTOR, KEY_MAC
(Table 05.5). -/
def responseOf (steps mac : Nat) (x : List Bool) : Response :=
  { axis := ofBits (x.take 2)
    keyNonce := BitVec.ofNat 64 (ofBits ((x.drop 2).take 64))
    vector := (List.range steps).map fun j =>
      let v := (x.drop (66 + 12 * j)).take 12
      (ofBits (v.take 6), ofBits (v.drop 6))
    mac := bitBytes ((x.drop (66 + 12 * steps)).take (8 * mac))
    phasePre := none, phaseBody := none, v := [] }

end Sys2Proof.Machine
end

