-- ==== Sys2Proof/Machine/Exchange.lean ====
section
/-! DEFINITION. The exchange on air: frames and what they wait for (R120, R143, R144), the identifier walk (R131 to R135),
lookups and spore requests (R20 to R22, R153, R161), and the ends of exchanges (R163, R371). -/

namespace Sys2Proof.Machine

open Sys2Proof

/-! ### Key records -/

/-- TRIGGER as notices and records carry it: bit 7 marks a rerun (R170). -/
def Booking.triggerByte (b : Booking) : Nat := b.trigger + 128 * b2n b.rerun

/-- The AUTH record of a key record (R24, R169, Table 12.7). -/
def State.authRecord (s : State) (b : Booking) (r : KeyRec) (tag session : Nat) : State :=
  s.record (.auth b.engine) 0x10 (leN 8 r.ident.toNat ++ leN 1 r.outcome ++ leN 1 r.location ++ leN 1 b.purpose ++
    leN 1 b.zone ++ leN 2 (twos 16 r.phaseDev) ++ leN 2 r.recip ++ leN 2 r.slotGen ++ [r.flags] ++ leN 1 b.engine ++
    leN 4 (atlasId s.cfg.cur) ++ leN 2 tag ++ leN 2 session ++ leN 1 b.triggerByte)

/-- A key of the exchange of engine `b.engine` has its outcome: its record is kept and appended, and it is handled no more
(R24, R169). -/
def State.keyDone (s : State) (b : Booking) (r : KeyRec) (tag session : Nat) : State :=
  (s.authRecord b r tag session).onCurrent b.engine fun b => { b with records := b.records ++ [r], cur := none }

/-- HOST_TAG of the key being handled. -/
def CurKey.tag (c : CurKey) : Nat := (c.entry.map (·.hostTag)).getD 0

/-- FLAGS of Table 06.11. -/
def CurKey.flags (c : CurKey) (decided : Bool) : Byte :=
  let long := (c.entry.map Entry.longForm).getD false
  BitVec.ofNat 8 (b2n decided + 2 * b2n c.sounded + 4 * b2n long + 8 * b2n c.repeated)

/-- The record of a challenged key that is not judged (Table 06.11). -/
def CurKey.plain (c : CurKey) (outcome : Nat) : KeyRec :=
  { ident := c.ident, outcome := outcome, slotGen := c.gen, flags := c.flags false }

/-- The exchange ends with a code of Table 06.10 and sends nothing more. -/
def Booking.stop (code : Nat) (b : Booking) : Booking :=
  { b with endCode := some code, phase := .ending, todo := [], await := .nothing }

/-- The exchange of an engine ends. A response already received is judged first; another key looked up and not judged has
the outcome AIR_FAIL, or SPORE_TIMEOUT when its spore did not come (R163, R179). -/
def State.endWith (s : State) (e code : Nat) : State :=
  match s.current e with
  | none => s
  | some b =>
    if b.await = .verdict then s.onCurrent e fun b => { b with endCode := some (b.endCode.getD code), phase := .ending, todo := [] }
    else
    let s1 := match b.cur with
      | some c => s.keyDone b (c.plain (if code = 5 then 6 else 7)) c.tag 0
      | none => s
    (s1.dropRequest e).onCurrent e (Booking.stop code)

/-! ### Downlink -/

/-- The next frame of an exchange is sent, and what it solicits is awaited (R127, Table 05.3). -/
def Booking.send (b : Booking) : Booking :=
  match b.todo with
  | [] => b
  | f :: rest =>
    let b1 : Booking := { b with todo := rest, sent := some f, air := f.bits b.group b.selected }
    match f with
    | .wake _ => { b1 with phase := if b.phase = .lead then .running else b.phase }
    | .inventoryBegin _ => { b1 with bits := [], await := .stream 0 [] }
    | .treeBit k v => { b1 with await := .stream (k + 1) (b.bits.take k ++ [v]) }
    | .stopGap | .confirm _ | .quiet _ => b1
    | .select _ => { b1 with await := .selectStatus }
    | .sound _ => { b1 with cur := b.cur.map fun c => { c with sounded := true } }
    | .challenge _ => { b1 with await := .response }
    | .mailboxRead _ _ _ | .mailboxWrite _ _ _ _ => { b1 with await := .readerReply }
    | .harvest _ => { b1 with await := .harvestReply }

/-- A frame that the link engine makes without the lanes: every frame of an INVENTORY behind its opening, and elsewhere the
stop gaps, TREE_BIT and a HARVEST_ON (R132, R133, R144, R267). -/
def Booking.byHardware (b : Booking) (f : Frame) : Bool :=
  b.phase != .lead && (b.kind == .inventory ||
    match f with
    | .stopGap | .treeBit _ _ | .harvest _ => true
    | _ => false)

/-- The lanes hand frames over in the present tick; its commit phase lets them go (R35, R144). -/
def Booking.plan (tick : Nat) (b : Booking) : Booking := { b with planned := some tick }

/-- The next frame may go: the engine makes it, or the tick that handed it over is published (R35, R144, R146). -/
def Booking.released (tick : Nat) (b : Booking) : Bool :=
  match b.todo with
  | f :: _ => b.byHardware f || b.planned.all fun t => decide (t < tick)
  | [] => false

/-- The engine may send: no reply is awaited, nor the lanes' handling of an identifier, and the frame may go. -/
def Booking.maySend (tick : Nat) (b : Booking) : Bool := b.await == .nothing && b.released tick

/-! ### Sounding -/

/-- One sounding step: the aerial alone at its SOUND_AMP with phase code 0, under the caps copied at the lead and the booking's
s_s; not driven when its aerial has gone out of service (R102, R107, R139). -/
def State.soundStep (s : State) (b : Booking) (n : Nat) : Burst :=
  let a := min (aeSoundAmp b.copied n) (aeAmpCap b.copied n)
  { aerial := n
    target := if s.liveIn b.copied n then a * capScale (zoneCap b.copied b.zone) a * capScale (totalCap b.copied) a * b.ss else 0
    trim := (s.field.ch.getD n {}).trim, slew := slewOf b.copied }

/-- A scale has lowered the target of a step that is driven or would be (R104). -/
def State.soundLowered (s : State) (b : Booking) (n : Nat) : Bool :=
  let a := min (aeSoundAmp b.copied n) (aeAmpCap b.copied n)
  s.liveIn b.copied n && a != 0 && (s.soundStep b n).target != a * 2 ^ 24

/-- Another engine drives channels while an exchange has its reply window open (R97). -/
def Booking.disturbed (engine : Nat) (chans : List Nat) (b : Booking) : Booking :=
  if b.engine != engine && b.await == .response then { b with foreign := b.foreign ++ chans } else b

/-- Engine `engine` drives channels: other engines' open reply windows see it (R97). -/
def State.disturb (s : State) (engine : Nat) (chans : List Nat) : State :=
  s.onBookings (fun _ => true) (Booking.disturbed engine chans)

/-- Channels that other engines drive now (R97). -/
def State.drivenByOthers (s : State) (engine : Nat) : List Nat :=
  (s.field.bookings.filter fun x => x.engine != engine && x.phase != .booked).flatMap fun x =>
    (x.drive.map (·.1)).filter fun n => (s.field.ch.getD n {}).driven

/-- The sounding sequence behind a SOUND: its steps, and the current recorded in each that is driven (R139). -/
def State.soundSteps (s : State) (b : Booking) (currents : List (Int × Int)) : State :=
  let steps := b.aerials.map (s.soundStep b)
  let driven := (steps.filter fun x => x.target != 0).map Burst.aerial
  let s1 := (s.disturb b.engine driven).onCurrent b.engine fun y => { y with
    steps := steps
    sounding := (List.range steps.length).map fun j =>
      if (steps.getD j ⟨0, 0, 0, 0, 0⟩).target = 0 then (0, 0) else currents.getD j (0, 0) }
  { s1 with power := { s1.power with newClamp := s1.power.newClamp || b.aerials.any (s.soundLowered b) } }

/-- What a frame brings about beside what it solicits: the sounding sequence, or the reply window of a CHALLENGE (R97,
R139). -/
def State.frameEffect (s : State) (b : Booking) (currents : List (Int × Int)) : State :=
  match b.todo with
  | .sound _ :: _ => s.soundSteps b currents
  | .challenge _ :: _ => s.onCurrent b.engine fun y => { y with foreign := s.drivenByOthers b.engine }
  | _ => s

/-- DOWNLINK_FRAME_SENT: the frame handed over, or sent by hardware, once no reply is awaited (R120, R144). -/
def execDownlinkFrameSent (engine : Nat) (currents : List (Int × Int)) (s : State) : Host.Outcome State Fault Refusal :=
  .next (match s.current engine with
    | some b => if b.maySend s.tick then (s.frameEffect b currents).onCurrent engine Booking.send else s
    | none => s)

/-! ### The identifier walk -/

/-- The stop gap of R132, while the stream is still running. -/
def stopGaps (k : Nat) : List Frame := if k ≤ 61 then [.stopGap] else []

/-- An INVENTORY has heard an identifier: QUIET, and a fresh INVENTORY_BEGIN or the end on the key limit, follow by hardware
(R134, R135, R144). -/
def Booking.hear (phase : Int) (b : Booking) : Booking :=
  let h := b.heard ++ [(identOf b.bits, phase)]
  if b.keyLimit ≤ b.found.length + h.length then { b.stop 1 with heard := h, todo := [.quiet false] }
  else { b with heard := h, await := .nothing, todo := [.quiet false, .inventoryBegin b.round] }

/-- A stream of `cells` from identifier bit `from_` on, after the bits `pre` (R132, R133): complete, collided at a bit, or
broken by a void or missing cell. -/
def Booking.stream (from_ : Nat) (pre : List Bool) (cells : List CellClass) (phase : Int) (b : Booking) : Booking :=
  let cs := cells.take (64 - from_)
  let got := takeCells cs
  let k := from_ + got.length
  if 64 ≤ k then
    let b1 : Booking := { b with bits := pre ++ got, await := .lookup }
    if b.kind == .inventory then b1.hear phase else b1
  else
    match cs[got.length]? with
    | some .collided =>
      { b with bits := pre ++ got, collisions := b.collisions + 1, await := .nothing,
               todo := stopGaps k ++ [.treeBit k false] }
    | _ => { b.stop 2 with todo := stopGaps k }

/-! ### Lookups -/

/-- The frames that follow the last one for a key: the walk goes on, or its key limit is reached (R134, R135, R161). -/
def Booking.goOn (frames : List Frame) (b : Booking) : Booking :=
  if b.endCode.isSome then { b with await := .nothing }
  else if b.stopping.isSome then { b.stop 7 with todo := frames ++ [.quiet true] }
  else if b.keyLimit ≤ b.records.length then { b.stop 1 with todo := frames ++ [.quiet true] }
  else { b with todo := frames ++ [.inventoryBegin b.round], await := .nothing }

/-- OUTCOME of a key that is not challenged (Tables 06.3, 06.11). -/
def Lookup.outcome : Lookup → Nat
  | .unknown => 1
  | .revoked => 2
  | .locked => 3
  | .hostSilent => 8
  | .crown | .ordinary => 7

/-- The ports that a SPORE_NEEDED of a booking goes to (R20). -/
def State.sporePort (s : State) (b : Booking) (p : PortId) : Bool :=
  match b.ticket, b.pollPort with
  | some tk, _ => tk.port == p
  | none, some q => q == p
  | none, none => (irqEn s.cfg.cur p).getLsbD 3

/-- SPORE_NEEDED for an ordinary token: the request and its notices (R20, R21). -/
def State.needSpore (s : State) (b : Booking) (i : Ident) : State :=
  let put : PortId → Port → Port := fun p q =>
    if s.sporePort b p then { q with stagedSpores := q.stagedSpores ++ [(i, s.tick + 24, b.engine)] } else q
  { s with
    portA := put .a s.portA
    portB := put .b s.portB
    ks := { s.ks with requests := s.ks.requests ++ [⟨i, b.engine, s.tick + 24⟩] } }

/-- A crown token's key in a device slot of the engine, and the slot (R155). -/
def State.crownSlot (s : State) (b : Booking) (e : Entry) : State × Nat :=
  let n := s.ks.freeSlot
  let o : Origin := .node 1 0 e.crownIndex.toNat (s.ks.ngen 1 1 0 0) (s.ks.ngen 2 1 0 0) (s.ks.ngen 3 1 0 e.crownIndex.toNat)
  let c : SlotKey := { kind := 1, usage := 0, origin := o, owner := some b.engine, key := s.crownToken e, token := e.ident }
  ({ s with ks := s.ks.writeSlot n c }, n)

/-- A key is to be challenged: nonce, key or request, SOUND and CHALLENGE (R20, R139, R161). -/
def State.challengeKey (s : State) (b : Booking) (i : Ident) (o : Lookup) (e : Entry) : State :=
  let d := s.draw .link 8
  let nonce := BitVec.ofNat 64 (ofBe d.1)
  let x := if o = .crown then (d.2.crownSlot b e) else (d.2.needSpore b i, 0)
  let c : CurKey := { ident := i, lookup := o, entry := some e, slot := if o = .crown then some x.2 else none
                      nonce := nonce, looked := s.tick }
  x.1.onCurrent b.engine fun b => { b with
    cur := some c, await := .nothing, planned := some s.tick
    todo := (if b.noSound then [] else [.sound (b.aerials.length - 1)]) ++ [.challenge nonce] }

/-- A key that is not challenged is quieted (R161). DESIGN CHOICE (log entry 77): LONG_FORM reads 0 in its record although it
may have an entry with a long MAC; the spec does not say which it is for a key that was not challenged. -/
def State.quietKey (s : State) (b : Booking) (i : Ident) (o : Lookup) (e : Option Entry) : State :=
  (s.keyDone b { ident := i, outcome := o.outcome } ((e.map (·.hostTag)).getD 0) 0).onCurrent b.engine fun b =>
    (b.goOn [.quiet false]).plan s.tick

/-- Directory lookup of an identifier that an exchange completed; after TIMEOUT_HOST a rerun takes ORDINARY for
HOST_SILENT (R153, R161, R165). A crown token whose key cannot be derived has the outcome AIR_FAIL (R163, R292). -/
def State.lookupKey (s : State) (b : Booking) : State :=
  let i := identOf b.bits
  match s.lookup i with
  | (.crown, some e) =>
    if s.cipher.loses (.crown b.engine) then ((s.tookLoss (.crown b.engine)).challengeKey b i .crown e).endWith b.engine 6
    else s.challengeKey b i .crown e
  | (.ordinary, some e) =>
    if b.hostSilent then s.quietKey b i .hostSilent (some e) else s.challengeKey b i .ordinary e
  | (o, e) => s.quietKey b i o e

/-- The identifiers that an INVENTORY has heard are listed; ENROLLED is set by a tombstone too, which is an entry (R148). -/
def State.listHeard (s : State) (b : Booking) : State :=
  s.onCurrent b.engine fun b => { b with
    heard := []
    found := b.found ++ b.heard.map fun h => (h.1, s.dir.any fun x => x.2.ident == h.1, h.2) }

/-- The lanes handle a complete identifier, by the commit phase of the tick (R20, R144, R148, R153). -/
def State.identified (s : State) (engine : Nat) : State :=
  match s.current engine with
  | none => s
  | some b =>
    if b.kind == .inventory then s.listHeard b
    else if b.await != .lookup then s
    else s.lookupKey b

/-- IDENTIFIER_COMPLETE: the engine reports an identifier; the lanes' work on it takes effect at a published commit phase
(R34, R35, R144). -/
def execIdentifierComplete (engine : Nat) (s : State) : Host.Outcome State Fault Refusal :=
  .next (match s.current engine with
    | none => s
    | some b =>
      if b.kind == .inventory || b.await == .lookup then s.push (.lookup engine) else s)

/-! ### Silent replies and timeouts -/

/-- A response is silent or invalid: CHALLENGE is repeated once with a fresh nonce where that is permitted; otherwise the
exchange ends with TIMEOUT_AIR (R143, R163, R164). DESIGN CHOICE (log entry 70): an exchange that R164 has asked to stop and
whose key then fails ends END 0x07 after its QUIET; the spec does not say how it ends. -/
def State.responseFailed (s : State) (b : Booking) (c : CurKey) : State :=
  if b.endCode.isSome then
    (s.keyDone b (c.plain 7) c.tag 0).onCurrent b.engine fun b => { b with await := .nothing }
  else if b.repeatOk && !c.repeated then
    let d := s.draw .link 8
    let nonce := BitVec.ofNat 64 (ofBe d.1)
    d.2.onCurrent b.engine fun b => { b with
      cur := some { c with nonce := nonce, repeated := true }, await := .nothing, todo := [.challenge nonce] }
  else if b.stopping.isSome then
    (s.keyDone b (c.plain 7) c.tag 0).onCurrent b.engine fun b => { b.stop 7 with todo := [.quiet true], planned := some s.tick }
  else s.endWith b.engine 6

/-- The reader exchange ends; its result is as its fields say (R268). -/
def Booking.readerEnds (f : Reader → Reader) (b : Booking) : Booking :=
  { b.stop 6 with reader := b.reader.map fun r => { f r with done := true } }

/-- A silent reply (R124): it ends a walk, is a walk error, or fails a response or a reader exchange (R133, R135, R143,
R268); where the supply ceiling has cut the carrier, the exchange ends with TIMEOUT_AIR (R404). -/
def State.silent (s : State) (b : Booking) : State :=
  match b.await with
  | .stream 0 _ => s.endWith b.engine (if b.cut then 6 else 0)
  | .stream _ _ => s.endWith b.engine (if b.cut then 6 else 2)
  | .response =>
    match b.cur with
    | some c => s.responseFailed b c
    | none => s
  | .selectStatus => s.onCurrent b.engine (Booking.readerEnds fun r => { r with selectSilent := true })
  | .readerReply | .harvestReply => s.onCurrent b.engine (Booking.readerEnds fun r => { r with invalid := true })
  | .nothing | .lookup | .verdict => s

/-- SILENT_REPLY: no preamble is found (R124). -/
def execSilentReply (engine : Nat) (s : State) : Host.Outcome State Fault Refusal :=
  .next (match s.current engine with
    | none => s
    | some b => s.silent b)

/-- A stream or resumed stream is received: its cells by class; a stream without a preamble is silent (R124, R131 to R133). -/
def State.streamed (s : State) (b : Booking) (r : Uplink) : State :=
  match b.await with
  | .stream k pre =>
    match s.acquire b r with
    | none => s.silent b
    | some cs => (s.senseReply b r).onCurrent b.engine (Booking.stream k pre cs (s.streamPhase b r))
  | _ => s

/-- IDENTIFIER_STREAM. -/
def execIdentifierStream (engine : Nat) (r : Uplink) (s : State) : Host.Outcome State Fault Refusal :=
  .next (match s.current engine with
    | none => s
    | some b => s.streamed b r)

/-- The exchange ends with END 0x06, and is booked once more when it is autonomous (R371, R378). -/
def State.endAgain (s : State) (e : Nat) : State := (s.endWith e 6).onCurrent e fun b => { b with again := true }

/-- The exchange ends by R371; a reply already received is still to be judged. -/
def State.missHandover (s : State) (e : Nat) : State :=
  match s.current e with
  | none => s
  | some b =>
    if b.await = .response ∨ b.await = .verdict then
      s.onCurrent e fun b => { b with endCode := some 6, phase := .ending, todo := [], again := true }
    else s.endAgain e

/-- HANDOVER_MISSED: a frame that waits for lane work was not handed over in time (R371). -/
def execHandoverMissed (engine : Nat) (s : State) : Host.Outcome State Fault Refusal :=
  .next (match s.current engine with
    | none => s
    | some b =>
      if b.phase = .lead then s
      else
        let s1 := s.missHandover engine
        { s1 with lanes := { s1.lanes with handoverMask := s1.lanes.handoverMask ||| 2 ^ engine } })

end Sys2Proof.Machine
end

