-- ==== Sys2Proof/Machine/Location.lean ====
section
/-! DEFINITION. The location solver (R182 to R188): the coupling vector, the reply-phase check, the reciprocity residual
and the classifier. Real quantities are carried as whole numbers of fixed scale (log entry 13). -/

namespace Sys2Proof.Machine

open Sys2Proof

/-! ### The coupling vector -/

/-- The element of receiver `n` is valid: its channel in service and without SENSE_FAULT, driven by no other engine in the
reply window, the receiver not clipped (R97, R182). -/
def State.elementOk (s : State) (b : Booking) (n : Nat) (x : Receiver) : Bool :=
  s.liveIn b.copied n && !((s.field.ch.getD n {}).status.getLsbD 1) && !b.foreign.contains n && !x.clipped

/-- Element `n` of the normalised coupling vector v in units of 2^-24 LSB at g = 3, from the sum of `count` cells and the
gains copied at the lead (R90, R182); its value is open when a gain or the scale is 0 (log entry 12). -/
def State.element (s : State) (b : Booking) (n g : Nat) (sum : Cx) (count : Nat) : Cx :=
  let tx := aeTxGain b.copied n
  let rx := aeRxGain b.copied n
  let den := tx.1 * rx.1 * b.sz * b.st * b.ss * count
  if den = 0 then (untwos 16 (s.free (64 + 2 * n)), untwos 16 (s.free (65 + 2 * n)))
  else
    let u := cmul sum (turn (-(tx.2 + rx.2)))
    let k := 4 ^ (3 - g) * 2 ^ 18
    cdiv (u.1 * k, u.2 * k) den

/-- The vector v of a response whose bits after the preamble are `x`; none where invalid. -/
def State.coupling (s : State) (b : Booking) (r : Uplink) (x : List Bool) : List (Option Cx) :=
  let l := s.receivers b r
  (List.range 16).map fun n =>
    match l.find? fun y => y.1 == n with
    | some (_, g, y) =>
      if s.elementOk b n y then some (s.element b n g (loadSum x (y.cells.drop 4)) x.length) else none
    | none => none

/-! ### Measured phases -/

/-- The valid receivers with the weights |u_n|² of their phases (R184). -/
def State.weights (s : State) (b : Booking) (r : Uplink) (x : List Bool) : List (Nat × Receiver) :=
  ((s.receivers b r).filter fun y => s.elementOk b y.1 y.2.2).map fun y =>
    (16 ^ (3 - y.2.1) * norm2 (loadSum x (y.2.2.cells.drop 4)), y.2.2)

/-- The onsets of the cells that carry KEY_NONCE, SOUNDING_VECTOR and KEY_MAC, for a response of `n` bits after the preamble
(Table 05.5). -/
def bodyOnsets (n : Nat) (x : Receiver) : List Int := ((x.cells.drop 6).take (n - 18)).map RxCell.onset

/-- φ_pre and φ_body of a response of bits `x`, CRC included; unmeasured when the preamble is too weak (R184). -/
def State.phases (s : State) (b : Booking) (r : Uplink) (x : List Bool) : Option Int × Option Int :=
  let w := s.weights b r x
  if tooWeak (s.receivers b r) then (none, none)
  else
    (weighted 8 (w.map fun y => (y.1, firstEdge y.2)) 1,
      weighted 9 (w.map fun y => (y.1, (bodyOnsets x.length y.2).foldl (· + ·) 0)) (x.length - 18))

/-- A valid response of a key: its length is that of the key's form and vector, its CRC checks, its AXIS is one (R124, R128,
R167), with what the solver forms of it; none for an invalid one. -/
def State.readResponse (s : State) (b : Booking) (steps mac : Nat) (r : Uplink) : Option Response :=
  match s.replyOf b r (66 + 12 * steps + 8 * mac) with
  | none => none
  | some x =>
    let y := responseOf steps mac x
    let all := x ++ crcBits (airBits 64 b.selected.toNat) x
    let p := s.phases b r all
    if y.axis = 3 then none else some { y with phasePre := p.1, phaseBody := p.2, v := s.coupling b r all }

/-! ### Reply phase -/

/-- The two deviations of R185 and whether the check passes. -/
structure PhaseCheck where
  pre : Option Int
  body : Option Int
  pass : Bool
deriving DecidableEq, Repr

/-- The window W of a token (R185). -/
def State.phaseWindow (s : State) (e : Entry) : Nat :=
  if e.phaseWin = 0 then phaseWinDefault s.thal.cur else e.phaseWin.toNat

/-- The reply-phase check (R185). -/
def State.phaseCheck (s : State) (z : Nat) (e : Entry) (r : Response) : PhaseCheck :=
  let ref : Int := if e.phaseCal then e.phaseRef else 0
  let dev := fun (p : Int) => p - zonePhaseOfs s.thal.cur z - ref
  let w := s.phaseWindow e
  let lim := if e.phaseCal then w else 64 + w
  let pass := match r.phasePre, r.phaseBody with
    | some p, some q => (dev p).natAbs ≤ lim && (dev q).natAbs ≤ lim && (e.phaseCal || !thalRequirePhaseCal s.thal.cur)
    | _, _ => false
  ⟨r.phasePre.map dev, r.phaseBody.map dev, pass⟩

/-- PHASE_DEV (R185). -/
def PhaseCheck.dev (c : PhaseCheck) : Int :=
  match c.pre, c.body with
  | some p, some q => if p.natAbs < q.natAbs then q else p
  | some p, none => p
  | none, some q => q
  | none, none => -32768

/-! ### Reciprocity -/

/-- One step of S: u', d and c of R187. -/
structure Step where
  u : Cx
  d : Cx
  c : Cx
deriving DecidableEq, Repr

/-- The set S of R187: steps that were driven, whose element is valid and whose MAG is at most 40. -/
def Booking.solverSteps (b : Booking) (v : List (Option Cx)) (vector : List (Nat × Nat)) : List Step :=
  ((b.steps.zip vector).zip b.sounding).filterMap fun x =>
    let mag := x.1.2.1
    match v.getD x.1.1.aerial none with
    | some u =>
      if x.1.1.target != 0 && mag ≤ 40 then
        let t := turn (-(1024 * (x.1.2.2 : Int)))
        some ⟨u, cdiv (t.1 * decay mag, t.2 * decay mag) (2 ^ 60), x.2⟩
      else none
    | none => none

/-- The downlink coupling m = d / c in units of 2^-84. -/
def Step.m (x : Step) : Cx :=
  let t := cmul x.d (conj x.c)
  cdiv (t.1 * 2 ^ 24, t.2 * 2 ^ 24) (norm2 x.c)

/-- RECIP of a set of steps (R187); open when a current or a vector is zero, where the residual is not defined (log
entry 12). -/
def recipOf (l : List Step) (open_ : Nat) : Nat :=
  let a := power (l.map Step.u)
  let m := power (l.map Step.m)
  if l.length < 2 then 0xFFFF
  else if (l.any fun x => norm2 x.c == 0) || a * m = 0 then open_ % 0xFFFF
  else
    let q := norm2 (csum (l.map fun x => cmul x.u (conj x.m)))
    min 0xFFFE ((2 * 65536 * (a * m - q) + a * m) / (2 * (a * m)))

/-! ### The classifier -/

/-- `10 log10 (x / y) < n` dB. -/
def belowDb (x y : Nat) (n : Int) : Bool :=
  if 0 ≤ n then x ^ 10 < 10 ^ n.toNat * y ^ 10 else x ^ 10 * 10 ^ (-n).toNat < y ^ 10

/-- An atlas is in use (R188, R189). -/
def State.hasAtlas (s : State) : Bool := !s.prot.atlasBad && atlasCount s.cfg.cur != 0

/-- Element `n` of an atlas point; none where not measured (Table 07.4). -/
def pointElement (c : Mem) (p n : Nat) : Option Cx :=
  let a := atlasPoint p + 4 + 4 * n
  let i := c.num a 2
  let q := c.num (a + 2) 2
  if i = 0x8000 ∧ q = 0x8000 then none else some (untwos 16 i, untwos 16 q)

/-- The common valid elements of v and of a point. -/
def common (c : Mem) (p : Nat) (v : List (Option Cx)) : List (Cx × Cx) :=
  (List.range 16).filterMap fun n =>
    match v.getD n none, pointElement c p n with
    | some x, some y => some (x, y)
    | _, _ => none

/-- One atlas unit squared, in the units of `norm2` of v. -/
def atlasUnit2 (scale : Nat) : Nat := 4 ^ (24 + scale)

/-- The distance of v to point `p`, when the point is a candidate (R188). -/
def pointDistance (c : Mem) (p : Nat) (v : List (Option Cx)) : Option Nat :=
  let l := common c p v
  let pv := power (l.map (·.1))
  let pa := power (l.map (·.2))
  let scaled := pa * atlasUnit2 (atlasScale c)
  if l.length < atlasMinElems c || pv * pa = 0 then none
  else if belowDb pv scaled (untwos 8 (c.num (atlasPoint p + 2) 1)) ||
      belowDb scaled pv (-(untwos 8 (c.num (atlasPoint p + 3) 1))) then none
  else
    let q := norm2 (csum (l.map fun x => cmul x.1 (conj x.2)))
    some ((2 * 65536 * (pv * pa - q) + pv * pa) / (2 * (pv * pa)))

/-- The nearest point of a class on a zone, the lower index first on a tie: distance and index. -/
def nearest (c : Mem) (cls z : Nat) (v : List (Option Cx)) : Option (Nat × Nat) :=
  (List.range (atlasCount c)).foldl (fun best p =>
    if c.num (atlasPoint p) 1 = cls ∧ c.num (atlasPoint p + 1) 1 = z then
      match pointDistance c p v, best with
      | some d, some (d0, _) => if d < d0 then some (d, p) else best
      | some d, none => some (d, p)
      | none, _ => best
    else best) none

/-- The exchange drives its zone's default vector (R188). -/
def Booking.drivesDefault (b : Booking) : Bool :=
  match b.dv with
  | some v => v == zoneDv b.copied b.zone
  | none => true

/-- INSIDE and OUTSIDE distances with their points; none for both where nothing can be classified (R188). -/
def State.distances (s : State) (b : Booking) (v : List (Option Cx)) : Option (Nat × Nat) × Option (Nat × Nat) :=
  if s.hasAtlas && b.drivesDefault then (nearest s.cfg.cur 1 b.zone v, nearest s.cfg.cur 2 b.zone v) else (none, none)

/-- LOCATION of Table 06.11 from the two distances (R188). -/
def classOf (c : Mem) (d : Option (Nat × Nat) × Option (Nat × Nat)) : Nat :=
  let i := (d.1.map (·.1)).getD 65536
  let o := (d.2.map (·.1)).getD 65536
  if i ≤ atlasMatchMax c ∧ i + atlasMargin c ≤ o then 1
  else if o ≤ atlasMatchMax c ∧ o + atlasMargin c ≤ i then 2
  else 3

/-- LEVEL in dB, clamped to 0 to 255 (Table 07.7); how it is rounded is open (log entry 13). -/
def levelOf (scale : Nat) (v : List (Option Cx)) : Nat :=
  let x := power (v.filterMap id)
  let y := atlasUnit2 scale
  let n := ((List.range 255).filter fun (k : Nat) => !belowDb x y (k + 1 : Int)).length
  if x ^ 10 = 10 ^ n * y ^ 10 ∨ belowDb x y 0 then n else min 255 (n + b2n (Config.roundUp 2 x y))

/-- One part of UPLINK in atlas units, saturated (Table 07.7); how it is rounded is open (log entry 13). -/
def uplinkPart (scale : Nat) (x : Int) : Int :=
  let d := 2 ^ (24 + scale)
  let n := x.natAbs / d
  let m : Int := min 32767 (n + b2n (x.natAbs % d != 0 && Config.roundUp 3 x.natAbs d))
  if x < 0 then -m else m

end Sys2Proof.Machine
end

