-- ==== Sys2Proof/Machine/Lockout.lean ====
section
/-! DEFINITION. Counting failures and beginning locks (R171 to R174). -/

namespace Sys2Proof.Machine

open Sys2Proof

/-- The `n` newest failures with one more at `t`, newest first (R172). -/
def countFail (n t : Nat) (l : List Nat) : List Nat := (t :: l).take n

/-- The kept failures lock: as many as `n`, the oldest within the window of the newest (R172). -/
def failsLock (n window t : Nat) (l : List Nat) : Bool := l.length == n && l.all fun x => t ≤ x + window

/-- A lock begins: its record and the LOCKOUT cause (R174, Table 12.7). -/
def State.lockBegins (s : State) (scope fails ident expiry : Nat) : State :=
  (s.note 0x11 (leN 1 scope ++ leN 1 fails ++ zeros 2 ++ leN 8 ident ++ leN 8 expiry)).raise 10

/-- The place among the 64 that a failure of an identifier not yet held replaces: the unlocked one whose newest failure is
oldest (R173). -/
def replaced (tick : Nat) (l : List IdLock) : Option Ident :=
  (l.foldl (fun (best : Option IdLock) x =>
    if tick < x.expiry then best
    else
      match best with
      | some b => if x.fails.headD 0 < b.fails.headD 0 then some x else best
      | none => some x) none).map (·.ident)

/-- The 64 places with room for an identifier; none when all are locked (R173). -/
def placesFor (tick : Nat) (i : Ident) (l : List IdLock) : Option (List IdLock) :=
  if l.any fun x => x.ident == i then some l
  else if l.length < 64 then some (l ++ [⟨i, [], 0⟩])
  else (replaced tick l).map fun j => (l.filter fun x => x.ident != j) ++ [⟨i, [], 0⟩]

/-- The identifier's share of a counted failure (R172, R174). -/
def State.failIdent (s : State) (i : Ident) : State :=
  let t := s.thal.cur
  match placesFor s.tick i s.lock.ids with
  | none => s
  | some l =>
    let old := (l.find? fun x => x.ident == i).getD ⟨i, [], 0⟩
    let fs := countFail (idFails t) s.tick old.fails
    let locks := !decide (s.tick < old.expiry) && failsLock (idFails t) (idWindow t) s.tick fs
    let expiry := if locks then s.tick + idLock t else old.expiry
    let put : IdLock → IdLock := fun x => if x.ident = i then ⟨i, fs, expiry⟩ else x
    let s1 : State := { s with lock := { s.lock with ids := l.map put } }
    if locks then s1.lockBegins 1 fs.length i.toNat expiry else s1

/-- The device's share of a counted failure. -/
def State.failDevice (s : State) : State :=
  let t := s.thal.cur
  let fs := countFail (devFails t) s.tick s.lock.devFails
  let locks := !decide (s.tick < s.lock.devUntil) && failsLock (devFails t) (devWindow t) s.tick fs
  let until_ := if locks then s.tick + devLock t else s.lock.devUntil
  let s1 : State := { s with lock := { s.lock with devFails := fs, devUntil := until_ } }
  if locks then s1.lockBegins 2 fs.length 0 until_ else s1

/-- A failure counts (R172, R173). -/
def State.countFailure (s : State) (i : Ident) : State := (s.failIdent i).failDevice

end Sys2Proof.Machine
end

