-- ==== Sys2Proof/Machine/Judge.lean ====
section
/-! DEFINITION. The judgement of a CHALLENGE response (R159, R161 to R164, R167, R169, R177, R183, R192, R193, R372). -/

namespace Sys2Proof.Machine

open Sys2Proof

/-! ### MAC inputs -/

/-- A sounding vector as bytes: 12 bits a step, zero bits up to a whole byte (Table 06.8). -/
def vectorBytes (v : List (Nat × Nat)) : Bytes :=
  let n := v.foldl (fun n x => n * 4096 + x.1 % 64 * 64 + x.2 % 64) 0
  beN ((12 * v.length + 7) / 8) (n * 2 ^ (12 * v.length % 8))

/-- M_K (Table 06.8). -/
def keyMacInput (group : Nat) (c : CurKey) (r : Response) : Bytes :=
  [0x4B#8] ++ beN 3 group ++ beN 8 c.ident.toNat ++ beN 8 c.nonce.toNat ++ beN 8 r.keyNonce.toNat ++ leN 1 r.axis ++
    leN 1 r.vector.length ++ vectorBytes r.vector

/-- M_D (Table 06.8). -/
def deviceMacInput (group : Nat) (c : CurKey) (r : Response) : Bytes :=
  [0x44#8] ++ beN 3 group ++ beN 8 c.ident.toNat ++ beN 8 r.keyNonce.toNat ++ beN 8 c.nonce.toNat ++ r.mac

/-- Length of a MAC in the form of an entry (R167). -/
def Entry.macLength (e : Entry) : Nat := if e.longForm then 16 else 8

/-- The key in the slot that the exchange holds; none when it has been retired or revoked. -/
def State.heldKey (s : State) (b : Booking) (c : CurKey) : Option Bytes :=
  match c.slot with
  | none => none
  | some n =>
    match (s.ks.slot n).content with
    | some k => if k.owner = some b.engine ∧ k.token = c.ident then some k.key else none
    | none => none

/-! ### The verdict -/

/-- What the checks of one response give (Table 06.6). -/
structure Verdict where
  outcome : Nat
  phase : PhaseCheck
  recip : Nat
  v : List (Option Cx)
  dist : Option (Nat × Nat) × Option (Nat × Nat)
  /-- LOCATION of Table 06.11. -/
  cls : Nat
deriving DecidableEq, Repr

/-- A verdict without relay checks or location; its reply phase was measured (R183, Table 06.11). -/
def Verdict.bare (outcome : Nat) (phase : PhaseCheck) : Verdict := ⟨outcome, phase, 0xFFFF, [], (none, none), 0⟩

/-- The privilege that a purpose needs is held (Table 06.1). -/
def Entry.privileged (e : Entry) (purpose : Nat) : Bool :=
  match purpose with
  | 1 => e.privileges.getLsbD 0
  | 2 => e.privileges.getLsbD 1
  | _ => true

/-- The relay checks and the classification of a verified MAC (R162, R185, R187, R188, R193). -/
def State.relayVerdict (s : State) (b : Booking) (c : CurKey) (e : Entry) (r : Response) : Verdict :=
  let v := r.v
  let ph := s.phaseCheck b.zone e r
  let rc := if c.sounded then recipOf (b.solverSteps v r.vector) (s.free 8) else 0xFFFF
  let dist := s.distances b v
  let pass := (b.calPhase || ph.pass) && (!c.sounded || rc ≤ recipThresh s.thal.cur)
  let out := if !pass then 5 else if e.privileged b.purpose then 0 else 9
  ⟨out, ph, rc, v, dist, classOf s.cfg.cur dist⟩

/-- The verdict on a valid response (Table 06.6, R159). -/
def State.verdict (s : State) (b : Booking) (c : CurKey) (e : Entry) (r : Response) : Verdict :=
  let ph := s.phaseCheck b.zone e r
  if c.revoked then Verdict.bare 2 ph
  else
    match s.heldKey b c with
    | none => Verdict.bare 0xA ph
    | some k =>
      if (Crypto.cmac k (keyMacInput b.group c r)).take e.macLength != r.mac then Verdict.bare 4 ph
      else s.relayVerdict b c e r

/-- A verdict decides its exchange (R162, R372). -/
def State.decides (s : State) (b : Booking) (outcome cls : Nat) : Bool :=
  outcome == 0 && (b.stopping.isNone || b.stopping == some s.tick) &&
    match b.purpose with
    | 1 => cls == 1 && (!s.alone || thalSingleLane s.thal.cur)
    | 2 => true
    | _ => false

/-- The key record of a judged key (Tables 06.11, 07.7). DESIGN CHOICE (log entry 77): a distance of 65,536, which 2 bytes do
not hold, reads 0xFFFF, with the index of its point. -/
def State.keyRecord (s : State) (c : CurKey) (r : Response) (v : Verdict) : KeyRec :=
  let base : KeyRec := { c.plain v.outcome with axis := r.axis, phaseDev := v.phase.dev }
  if v.cls = 0 then base
  else
    let sc := if s.hasAtlas then atlasScale s.cfg.cur else 0
    { base with
      location := v.cls
      recip := v.recip
      level := levelOf sc v.v
      inDist := (v.dist.1.map fun d => min 0xFFFF d.1).getD 0xFFFF
      inPoint := (v.dist.1.map (·.2)).getD 0xFF
      outDist := (v.dist.2.map fun d => min 0xFFFF d.1).getD 0xFFFF
      outPoint := (v.dist.2.map (·.2)).getD 0xFF
      valid := maskOf ((List.range 16).filter fun n => (v.v.getD n none).isSome)
      uplink := v.v.map fun x => x.map fun y => (uplinkPart sc y.1, uplinkPart sc y.2) }

/-! ### Phase calibration -/

/-- Mean of 8 samples, rounded half away from zero (R193). -/
def meanOf8 (l : List Int) : Int :=
  let t := l.foldl (· + ·) 0
  let m : Int := (2 * t.natAbs + 8) / 16
  if t < 0 then -m else m

/-- Largest minus smallest (R193). -/
def spreadOf (l : List Int) : Nat :=
  match l with
  | [] => 0
  | x :: r => ((r.foldl max x) - (r.foldl min x)).toNat

/-- CAL of Table 07.7, the accumulator, and a PHASE_REF to be written, after a CAL_PHASE exchange (R193). DESIGN CHOICE (log
entry 51): with statuses 0x2, 0x4 and 0x5 CAL [3:0] is 0, the count after the accumulator is cleared; the spec does not say
whether it is the count before. -/
def State.calibrate (s : State) (b : Booking) (c : CurKey) (e : Entry) (r : Response) (v : Verdict) :
    State × Nat × Option (Ident × Int × Nat) :=
  let keep : Ident → List Int → State := fun i l => { s with field := { s.field with calIdent := i, calSamples := l } }
  match (if v.outcome = 0 ∨ v.outcome = 9 then r.phasePre else none), r.phaseBody with
  | some _, some q =>
    let l := (if s.field.calIdent = c.ident then s.field.calSamples else []) ++ [q - zonePhaseOfs s.thal.cur b.zone]
    if l.length < 8 then (keep c.ident l, 0x10 + l.length, none)
    else if 6 < spreadOf l then (keep c.ident [], 0x40, none)
    else
      let m := meanOf8 l
      if !e.phaseCal || (m - e.phaseRef).natAbs ≤ s.phaseWindow e then
        (keep c.ident [], 0x20, some (c.ident, m, spreadOf l))
      else (keep c.ident [], 0x50, none)
  | _, _ => (s, 0x30 + s.field.calSamples.length, none)

/-! ### After the verdict -/

/-- A frame that completes a key: CONFIRM, or QUIET with SCOPE 0. -/
def Frame.closesKey : Frame → Bool
  | .confirm _ | .quiet false => true
  | _ => false

/-- Release is set: every other START exchange whose first start gap has been sent stops, after the key it is handling, whose
CONFIRM or QUIET it still sends (R164). -/
def State.stopStarts (s : State) (e : Nat) : State :=
  s.onBookings (fun b => b.isExchange && b.purpose == 1 && b.engine != e && b.phase == .running) fun b =>
    if b.cur.isSome then { b with stopping := some s.tick }
    else { b.stop 7 with todo := b.todo.filter Frame.closesKey ++ [.quiet true], planned := some s.tick }

/-- A decided exchange acts on the cell and the session (R162, R164, Table 06.14); one whose release came in the same
commit phase as another's leaves the session to that (R164). The number is the session opened or refreshed. -/
def State.decideOn (s : State) (b : Booking) (i : Ident) (cls : Nat) : State × Nat :=
  if b.purpose = 1 then
    let s1 : State := if b.recoveryPoll then { s with cell := { s.cell with recovery := false } } else s
    if b.stopping.isSome then (s1, 0)
    else
      let s2 := s1.decideStart b.doorCheck b.recoveryPoll i b.zone cls
      (if s.cell.state = .released then s2 else s2.stopStarts b.engine, s2.ses.number)
  else
    let s1 := s.decideEntry i b.zone cls
    (s1, s1.ses.number)

/-- The frame after a verdict (Table 06.6). -/
def State.answerFrame (s : State) (b : Booking) (c : CurKey) (e : Entry) (r : Response) (v : Verdict) : Frame :=
  if v.outcome = 0 ∨ v.outcome = 9 then
    .confirm ((Crypto.cmac ((s.heldKey b c).getD []) (deviceMacInput b.group c r)).take e.macLength)
  else .quiet false

/-- The walk goes on, or the exchange closes (R161, R162, R164). -/
def Booking.afterVerdict (f : Frame) (decided : Bool) (b : Booking) : Booking :=
  if decided && b.endCode.isNone then { b.stop (if b.purpose = 1 then 3 else 4) with todo := [f, .quiet true] }
  else b.goOn [f]

/-- A valid response is judged at its commit phase (R161, R162, R172): its failure counts, the exchange is decided or goes
on, the key record and its evidence record follow. -/
def State.judge (s : State) (b : Booking) (c : CurKey) (e : Entry) (r : Response) : State :=
  let v := s.verdict b c e r
  let s1 := if v.outcome = 4 || (v.outcome = 5 && thalRelayCounts s.thal.cur) then s.countFailure c.ident else s
  let cal := if b.calPhase then s1.calibrate b c e r v else (s1, 0, none)
  let dec := s.decides b v.outcome v.cls
  let d := if dec then cal.1.drew.decideOn b c.ident v.cls else (cal.1.drew, 0)
  let key : KeyRec := { s.keyRecord c r v with cal := cal.2.1 }
  let s2 := (d.1.keyDone b (if dec then { key with flags := key.flags ||| 1 } else key) e.hostTag d.2).onCurrent b.engine
    fun y => { y.afterVerdict (s.answerFrame b c e r v) dec with
      session := if d.2 = 0 then y.session else d.2, calWrite := cal.2.2, planned := some s.tick }
  { s2 with ks := s2.ks.releaseEngine b.engine }

/-- A MAC check whose operation has used up its attempts gives no verdict: the key's outcome is AIR_FAIL and the exchange ends
(R163, R292). -/
def State.verdictLost (s : State) (engine : Nat) (b : Booking) : State :=
  ((s.tookLoss (.mac engine)).onCurrent engine fun b => { b with await := .nothing }).endWith engine (b.endCode.getD 6)

/-- The response that an exchange has received is judged (R161, R292). -/
def State.judgeResponse (s : State) (engine : Nat) (r : Response) : State :=
  match s.current engine with
  | none => s
  | some b =>
    match b.await, b.cur with
    | .verdict, some c =>
      match c.entry with
      | none => s
      | some e => if s.cipher.loses (.mac engine) then s.verdictLost engine b else s.judge b c e r
    | _, _ => s

/-- A response comes in: silent or invalid, it fails; a valid one waits for the commit phase of its tick. A response cannot
fall due while its spore request is unsettled (R22, R124, R143, R162). -/
def State.hearResponse (s : State) (b : Booking) (c : CurKey) (e : Entry) (r : Uplink) : State :=
  if s.ks.requests.any fun q => q.engine == b.engine then s
  else
    let s1 := s.senseReply b r
    match s1.readResponse b (if c.sounded then b.aerials.length else 0) e.macLength r with
    | none => s1.responseFailed b c
    | some y => ((s1.drew.onCurrent b.engine fun y => { y with await := .verdict }).push (.judge b.engine y))

/-- RESPONSE_RECEIVED (R161). -/
def execResponseReceived (engine : Nat) (r : Uplink) (s : State) : Host.Outcome State Fault Refusal :=
  .next (match s.current engine with
    | none => s
    | some b =>
      match b.await, b.cur with
      | .response, some c =>
        match c.entry with
        | none => s
        | some e => s.hearResponse b c e r
      | _, _ => s)

end Sys2Proof.Machine
end

