-- ==== Sys2Proof/Machine/Timers.lean ====
section
/-! DEFINITION. The timer window: general timers, counters, pulse outputs (R228 to R245), PEEK, POKE and TIMER_CFG
(R246 to R249). -/

namespace Sys2Proof.Machine

open Sys2Proof

/-! ### Words and registers -/

/-- Word `a` of a window image. -/
def rword (m : Mem) (a : Nat) : Nat := m.num (2 * a) 2

/-- Write word `a`. -/
def setRword (a v : Nat) (m : Mem) : Mem := m.writeBytes (2 * a) (leN 2 v)

/-- The number in a list of words, low word first. -/
def rwords (m : Mem) : List Nat → Nat
  | [] => 0
  | a :: r => rword m a + 65536 * rwords m r

/-- Write a number into a list of words, low word first. -/
def setRwords : List Nat → Nat → Mem → Mem
  | [], _, m => m
  | a :: r, v, m => setRwords r (v / 65536) (setRword a (v % 65536) m)

/-- Word addresses of the first register of GTn and SCn (Table 09.1). -/
def gtBase (n : Nat) : Nat := 0x80 + 16 * n
def scBase (n : Nat) : Nat := 0x10 + 8 * n

/-- The pair of GTn, or of SCn, is chained: CHAIN of its odd member (R233, R240). -/
def gtPaired (m : Mem) (n : Nat) : Bool := bit (rword m (gtBase (n / 2 * 2 + 1) + 6)) 14
def scPaired (m : Mem) (n : Nat) : Bool := bit (rword m (scBase (n / 2 * 2 + 1) + 4)) 14

/-- A chained odd timer. -/
def gtUpper (m : Mem) (n : Nat) : Bool := n % 2 == 1 && gtPaired m n

/-- Words of CNT (0), PER (2) or CMP (4) of GTn; those of the pair when it is chained. -/
def gtWords (m : Mem) (n off : Nat) : List Nat :=
  if gtPaired m n then
    let b := n / 2 * 2
    [gtBase b + off, gtBase b + off + 1, gtBase (b + 1) + off, gtBase (b + 1) + off + 1]
  else [gtBase n + off, gtBase n + off + 1]

/-- Words of SCn_CNT; those of the pair when it is chained. -/
def scWords (m : Mem) (n : Nat) : List Nat :=
  if scPaired m n then
    let b := n / 2 * 2
    [scBase b, scBase b + 1, scBase (b + 1), scBase (b + 1) + 1]
  else [scBase n, scBase n + 1]

/-- The register wider than 16 bits that holds word `a`, as its words; empty for any other word. -/
def wide (m : Mem) (a : Nat) : List Nat :=
  if a = 4 ∨ a = 5 then [4, 5]
  else if inRange 0x10 0x4F a then
    let n := (a - 0x10) / 8
    let o := (a - 0x10) % 8
    if o ≤ 1 then scWords m n else if o ≤ 3 then [scBase n + 2, scBase n + 3] else []
  else if inRange 0x80 0xFF a then
    let n := (a - 0x80) / 16
    let o := (a - 0x80) % 16
    if o ≤ 5 then gtWords m n (o / 2 * 2) else []
  else []

/-- RUN of GTn; a chained timer's is that of its even member. -/
def gtRun (m : Mem) (n : Nat) : Bool := bit (rword m (gtBase n + 9)) 15

/-- Set the bits of `on` and clear those of `off` in a word. -/
def mark (a on off : Nat) (m : Mem) : Mem :=
  setRword a (((BitVec.ofNat 16 (rword m a) ||| BitVec.ofNat 16 on) &&& ~~~ BitVec.ofNat 16 off).toNat) m

/-- Start GTn: RUN set, ARM cleared (R243, Table 09.5). -/
def gtStart (n : Nat) (m : Mem) : Mem := mark (gtBase n + 6) 0 0x8000 (mark (gtBase n + 9) 0x8000 0 m)

/-- Stop GTn; it holds its count. -/
def gtStop (n : Nat) (m : Mem) : Mem := mark (gtBase n + 9) 0 0x8000 m

/-! ### Count edges and actions -/

/-- The value in force of PER (2) or CMP (4) (R237). -/
def Window.inForce (w : Window) (n off : Nat) : Nat :=
  ((if off = 2 then w.forcePer else w.forceCmp).getD n none).getD (rwords w.regs (gtWords w.regs n off))

/-- A count edge of GTn (R236, R237): the window after it, whether it wrapped, whether it matched. -/
def Window.edge (n : Nat) (w : Window) : Window × Bool × Bool :=
  let cw := gtWords w.regs n 0
  let c := rwords w.regs cw
  let per := w.inForce n 2
  let wrap := decide (per ≤ c)
  let w1 : Window := if wrap then
      { w with regs := mark (gtBase n + 9) 0 0x0800 w.regs, forcePer := w.forcePer.set n none, forceCmp := w.forceCmp.set n none }
    else w
  let c1 := if wrap then 0 else c + 1
  let hit := c1 == w1.inForce n 4
  let flags := 0x4000 * b2n hit + 0x2000 * b2n wrap + 0x1000 * b2n (decide (per < c))
  ({ w1 with regs := mark (gtBase n + 9) flags 0 (setRwords cw c1 w1.regs) }, wrap, hit)

/-- The timer that a linked action on GTn reaches (R241). -/
def linkTarget (m : Mem) (n : Nat) : Nat := if gtUpper m n then n - 1 else n

/-- One action of GTn in a MOTION cycle (Table 09.9): its own at once, a linked one in the next cycle (R241). -/
def Window.act (n cycle code : Nat) (w : Window) : Window :=
  match code with
  | 1 => { w with regs := gtStop n w.regs }
  | 2 => { w with regs := setRwords (gtWords w.regs n 0) 0 w.regs }
  | 3 | 4 | 5 | 6 =>
    { w with linked := w.linked ++ [⟨cycle + 1, code, linkTarget w.regs (rword w.regs (gtBase n + 7) / 128 % 8), n⟩] }
  | _ => w

/-- Toggle a pulse output on each of `wraps` wraps (mode 4), or of `hits` matches (mode 3), of GTn (R244). -/
def spoToggle (m : Mem) (k n wraps hits : Nat) (level : Bool) : Bool :=
  let c := rword m (2 + k)
  let toggles := if c / 1024 % 8 ≠ n then 0 else if c / 8192 = 3 then hits else if c / 8192 = 4 then wraps else 0
  level != (toggles % 2 == 1)

/-- An action `k` times. -/
def Window.acts (n cycle code k : Nat) (w : Window) : Window := (List.range k).foldl (fun w _ => w.act n cycle code) w

/-- What follows the count edges of GTn in one MOTION cycle, which wrapped and matched so often: outputs, WRAP_ACT on each
wrap, ONESHOT, MATCH_ACT on each match (R241, R242, R244). -/
def Window.after (n cycle wraps hits : Nat) (w : Window) : Window :=
  let a := rword w.regs (gtBase n + 7)
  let w1 : Window := { w with spo0 := spoToggle w.regs 0 n wraps hits w.spo0, spo1 := spoToggle w.regs 1 n wraps hits w.spo1 }
  let w2 := w1.acts n cycle (a / 1024 % 8) wraps
  let w3 : Window := if wraps != 0 && bit (rword w.regs (gtBase n + 6)) 12 then { w2 with regs := gtStop n w2.regs } else w2
  w3.acts n cycle (a / 8192) hits

/-- One count edge of a running timer in a MOTION cycle with all that follows it. -/
def Window.countEdge (n cycle : Nat) (w : Window) : Window :=
  if gtRun w.regs n && !gtUpper w.regs n then
    let e := w.edge n
    Window.after n cycle (b2n e.2.1) (b2n e.2.2) { e.1 with counted := e.1.counted.set n cycle }
  else w

/-- GTn starts in a MOTION cycle: its prescaler restarts unless it was running (R235; log entry 71). -/
def Window.start (n cycle : Nat) (w : Window) : Window :=
  { w with regs := gtStart n w.regs, counted := if gtRun w.regs n then w.counted else w.counted.set n cycle }

/-- SRC of GTn (Table 09.5). -/
def gtSrc (m : Mem) (n : Nat) : Nat := rword m (gtBase n + 6) / 1024 % 4

/-- PSC + 1 MOTION cycles have passed since the prescaler of GTn was 0 (R235). DESIGN CHOICE (log entry 91): the spec says only
that a start restarts the prescaler; a change of PSC or SRC of a running timer does not, and STEP edges do not move it. -/
def Window.prescaled (n cycle : Nat) (w : Window) : Bool :=
  decide (w.counted.getD n 0 + rword w.regs (gtBase n + 8) + 1 ≤ cycle)

/-- A count edge of a running timer whose source is the MOTION clock (R235, R236). -/
def State.gtCount (s : State) (n cycle : Nat) : State :=
  if gtSrc s.win.regs n == 0 && s.win.prescaled n cycle then { s with win := s.win.countEdge n cycle } else s

/-- GT_COUNT_EDGE. -/
def execGtCountEdge (n cycle : Nat) (s : State) : Host.Outcome State Fault Refusal :=
  .next (if s.awake then s.gtCount n cycle else s)

/-- STEP actions of one cycle, in ascending order of the sender: the window, and for each timer its wraps and matches. -/
def Window.steps (w : Window) : List Nat → List (Nat × Bool × Bool) → Window × List (Nat × Bool × Bool)
  | [], ev => (w, ev)
  | n :: r, ev =>
    if gtRun w.regs n && gtSrc w.regs n == 2 then
      let e := w.edge n
      Window.steps e.1 r (ev ++ [(n, e.2.1, e.2.2)])
    else Window.steps w r ev

/-- The linked actions of one MOTION cycle, in the order of R242. A CLEAR undoes the STEPs of its target in that cycle
(log entry 71). -/
def Window.linkedCycle (cycle : Nat) (w : Window) : Window :=
  let acts := w.linked.filter fun a => decide (a.due ≤ cycle)
  let of := fun (code : Nat) => (acts.filter fun a => a.code == code).map Linked.target
  let order := (List.range 8).flatMap fun sender =>
    ((acts.filter fun a => a.code == 6 && a.sender == sender).map Linked.target).filter fun n => !(of 5).contains n
  let st := Window.steps { w with linked := w.linked.filter fun a => !decide (a.due ≤ cycle) } order []
  let w1 := (List.range 8).foldl (fun w n =>
    let ev := st.2.filter fun e => e.1 == n
    w.after n cycle (ev.filter (·.2.1)).length (ev.filter (·.2.2)).length) st.1
  let m := (of 4).foldl (fun m n => gtStop n m) ((of 5).foldl (fun m n => setRwords (gtWords m n 0) 0 m) w1.regs)
  ((of 3).filter fun n => !(of 4).contains n).foldl (fun w n => w.start n cycle) { w1 with regs := m }

/-- The linked actions that are due in a MOTION cycle take effect (R241, R242). -/
def State.linkedActions (s : State) (cycle : Nat) : State := { s with win := s.win.linkedCycle cycle }

/-- LINKED_ACTION. -/
def execLinkedAction (cycle : Nat) (s : State) : Host.Outcome State Fault Refusal :=
  .next (if s.awake then s.linkedActions cycle else s)

/-! ### Speed counters -/

/-- SCn counts one edge of its input (R233, R234): count, overflow, capture. DESIGN CHOICE (log entry 92): a chained odd counter
captures nothing at the wraps that it counts, whatever its CAP_EN; the spec does not say. -/
def Window.scEdge (n time : Nat) (w : Window) : Window :=
  let ctl := rword w.regs (scBase n + 4)
  if !bit ctl 15 || (n % 2 == 1 && scPaired w.regs n) then w
  else
    let c := rword w.regs (scBase n) + 65536 * rword w.regs (scBase n + 1)
    let wrap := c == 2 ^ 32 - 1
    let m1 := setRwords [scBase n, scBase n + 1] (if wrap then 0 else c + 1) w.regs
    let m2 := if wrap then mark (scBase n + 4) 0x0400 0 m1 else m1
    let m3 := if wrap && scPaired w.regs n && bit (rword w.regs (scBase (n + 1) + 4)) 15 then
        let hi := rword m2 (scBase (n + 1)) + 65536 * rword m2 (scBase (n + 1) + 1)
        let m := setRwords [scBase (n + 1), scBase (n + 1) + 1] (if hi = 2 ^ 32 - 1 then 0 else hi + 1) m2
        if hi = 2 ^ 32 - 1 then mark (scBase (n + 1) + 4) 0x0400 0 m else m
      else m2
    if bit ctl 13 then
      { w with
        regs := mark (scBase n + 4) (0x1000 + 0x0800 * b2n (bit ctl 12)) 0
          (setRwords [scBase n + 2, scBase n + 3] (time % 2 ^ 32) m3)
        captures := w.captures.modify n (· + 1) }
    else { w with regs := m3 }

/-- An edge of SPDn in the window: its counter, and the timers whose source it is (R233 to R235). -/
def Window.speedEdge (n time : Nat) (w : Window) : Window :=
  (List.range 8).foldl (fun w g =>
    if gtSrc w.regs g == 1 && rword w.regs (gtBase g + 6) / 128 % 8 == n then w.countEdge g time else w) (w.scEdge n time)

/-- The level of pin SPOk (R244, Table 09.8); low while the MOTION domain is not clocked. DESIGN CHOICE (log entry 90): a
toggle mode goes on from the level of its last toggle, low at reset, whatever mode the output had in between; the spec does
not name the level from which it starts. -/
def State.spoPin (s : State) (k : Nat) : Bool :=
  let c := rword s.win.regs (2 + k)
  let t := c / 1024 % 8
  let raw := match c / 8192 with
    | 1 => true
    | 2 => decide (rwords s.win.regs (gtWords s.win.regs t 0) < s.win.inForce t 4)
    | 3 | 4 => if k = 0 then s.win.spo0 else s.win.spo1
    | 5 => (s.motion.src.getD (c / 128 % 8) {}).level
    | _ => false
  s.awake && (raw != bit c 6)

/-- The glitch filter of input `n` passes a level held for so many MOTION cycles: FILTER times 40 ns (R212). -/
def State.passes (s : State) (n held : Nat) : Bool := decide (4 * filterOf s.thal.cur n ≤ held)

/-- The filtered level of an input changes on the edge that is not counted (R212, R244). -/
def State.levelChange (s : State) (n : Nat) (level : Bool) (held : Nat) : State :=
  if s.passes n held && level == edgeFalling s.thal.cur n then
    { s with motion := { s.motion with src := s.motion.src.set n { s.motion.src.getD n {} with level := level } } }
  else s

/-- SPEED_INPUT_LEVEL_CHANGE. -/
def execSpeedInputLevelChange (n : Nat) (level : Bool) (held : Nat) (s : State) : Host.Outcome State Fault Refusal :=
  .next (if s.awake then s.levelChange n level held else s)

/-! ### Snapshot and write cycle -/

/-- The window as a read sees it: MOT_STAT and MOT_TIME computed, STA of a chained odd timer 0 (R240, Table 09.2). -/
def windowImage (m : Mem) (time : Nat) : Mem :=
  let ev := maskOf ((List.range 8).filter fun n => !gtUpper m n && rword m (gtBase n + 9) / 4096 % 8 != 0)
  let cap := maskOf ((List.range 8).filter fun n => bit (rword m (scBase n + 4)) 12)
  let m1 := setRwords [4, 5] (time % 2 ^ 32) (setRword 0 (256 * ev + cap) m)
  (List.range 8).foldl (fun m n => if gtUpper m n then setRword (gtBase n + 9) 0 m else m) m1

/-- The snapshot of a latch phase (R230). -/
def Window.snapshot (time : Nat) (w : Window) : Window :=
  { w with
    prev := w.snap, prevCaptures := w.snapCaptures
    snap := windowImage w.regs time, snapCaptures := w.captures }

/-- What a PEEK latched in tick `t` reads (R53, R230). -/
def State.seenIn (s : State) (t : Nat) : Supplied :=
  if t < s.tick then .window s.win.prev s.win.prevCaptures else .window s.win.snap s.win.snapCaptures

/-- The timer whose PER (2) or CMP (4) is the register of word `a`. -/
def timed (a : Nat) : Option (Nat × Nat) :=
  if inRange 0x80 0xFF a && inRange 2 5 ((a - 0x80) % 16) then some ((a - 0x80) / 16, (a - 0x80) % 16 / 2 * 2) else none

/-- PEND of GTn follows what waits (Table 09.7). -/
def Window.pend (n : Nat) (w : Window) : Window :=
  let p := (w.forcePer.getD n none).isSome || (w.forceCmp.getD n none).isSome
  { w with regs := if p then mark (gtBase n + 9) 0x0800 0 w.regs else mark (gtBase n + 9) 0 0x0800 w.regs }

/-- Write a register wider than 16 bits (R232); PER and CMP of a running timer wait under PRELOAD (R237). -/
def Window.setWide (g : List Nat) (v : Nat) (w : Window) : Window :=
  let w1 : Window := { w with regs := setRwords g v w.regs }
  match g with
  | [] => w
  | a :: _ =>
    match timed a with
    | none => w1
    | some (n, off) =>
      let wait := gtRun w.regs n && bit (rword w.regs (gtBase n + 6)) 13
      let held : Option Nat := if wait then some (w.inForce n off) else none
      Window.pend n (if off = 2 then { w1 with forcePer := w.forcePer.set n held } else { w1 with forceCmp := w.forceCmp.set n held })

/-- Write a 16-bit register: RO bits keep, W1C bits clear (Tables 09.4, 09.7); GSTART acts elsewhere. -/
def setSingle (a v : Nat) (m : Mem) : Mem :=
  let old := BitVec.ofNat 16 (rword m a)
  let new := BitVec.ofNat 16 v
  if a = 1 then m
  else if inRange 0x10 0x4F a then
    setRword a ((new &&& 0xE000#16) ||| (old &&& 0x1000#16) ||| (old &&& 0x0C00#16 &&& ~~~ new)).toNat m
  else if inRange 0x80 0xFF a && (a - 0x80) % 16 == 9 then
    setRword a ((old &&& 0x8800#16) ||| (old &&& 0x7000#16 &&& ~~~ new)).toNat m
  else setRword a v m

/-- One word of a POKE from `addr` (R229, R232): `seen` are the heads of registers already written, the buffer is the
port's. -/
def Window.pokeWord (addr : Nat) (words : List Nat) (a : Nat) (acc : Window × List (Nat × Nat)) : Window × List (Nat × Nat) :=
  let w := acc.1
  let buf := acc.2
  let at_ := fun x => if addr ≤ x then words[x - addr]? else none
  match wide w.regs a with
  | [] => ({ w with regs := setSingle a ((at_ a).getD 0) w.regs }, buf)
  | h :: ups =>
    let g := h :: ups
    if (g.all fun x => (at_ x).isSome) && a == h then
      (w.setWide g ((g.map fun x => (at_ x).getD 0).foldr (fun d n => d + 65536 * n) 0), buf)
    else if g.all fun x => (at_ x).isSome then (w, buf)
    else if a == h then
      let word := fun x => ((at_ x).or ((buf.find? fun p => p.1 == x).map (·.2))).getD (rword w.regs x)
      (w.setWide g ((g.map word).foldr (fun d n => d + 65536 * n) 0), buf.filter fun p => !ups.contains p.1)
    else if (at_ h).isSome then (w, buf)
    else (w, (buf.filter fun p => p.1 != a) ++ [(a, (at_ a).getD 0)])

/-- A GSTART value that a POKE writes, if it covers the word. -/
def gstartOf (addr : Nat) (words : List Nat) : Option Nat := if addr ≤ 1 then words[1 - addr]? else none

/-- GSTART in a MOTION cycle: every armed timer not named in STOP starts, the named ones stop (R243). -/
def gstart (v cycle : Nat) (w : Window) : Window :=
  (List.range 8).foldl (fun (w : Window) n =>
    if bit v (8 + n) then { w with regs := gtStop n w.regs }
    else if bit v 0 && bit (rword w.regs (gtBase n + 6)) 15 && !gtUpper w.regs n then w.start n cycle
    else w) w

/-- TIMER_CFG in the write cycle (R249). -/
def Window.cfg (target ctl act psc per cmp : Nat) (cnt : Option Nat) (w : Window) : Window :=
  if target < 8 then
    let b := gtBase target
    let m := setRwords [b + 4, b + 5] cmp (setRwords [b + 2, b + 3] per (setRword (b + 8) psc (setRword (b + 7) act
      (setRword (b + 6) ctl w.regs))))
    let m1 := match cnt with
      | some c => setRwords [b, b + 1] c m
      | none => m
    Window.pend target { w with regs := m1, forcePer := w.forcePer.set target none, forceCmp := w.forceCmp.set target none }
  else if target < 0x18 then
    let b := scBase (target - 0x10)
    let m := setSingle (b + 4) ctl w.regs
    { w with regs := match cnt with
      | some c => setRwords [b, b + 1] c m
      | none => m }
  else { w with regs := setRword (2 + (target - 0x20)) ctl w.regs }

/-- The MOTION cycle of the write cycle of the present tick (R394). -/
def State.writeTime (s : State) : Nat := 25600 * (s.tick - s.power.startTick) + 25500

/-- The number of the clause that a window write belongs to. -/
def WinWrite.order : WinWrite → Nat
  | .poke n _ _ _ => n
  | .cfg n _ _ _ _ _ _ _ => n

/-- The write cycle of a commit phase (R229): writes in admission order, then GSTART. -/
def State.writeCycle (s : State) : State :=
  let writes := sortBy (fun x y => decide (x.order ≤ y.order)) s.win.writes
  let s1 := writes.foldl (fun (s : State) x => match x with
    | .poke _ p addr words =>
      let r := (List.range words.length).foldl (fun acc i => Window.pokeWord addr words (addr + i) acc)
        (s.win, (s.port p).wbuf)
      State.onPort { s with win := r.1 } p fun q => { q with wbuf := r.2 }
    | .cfg _ t c a p per cmp cnt => { s with win := s.win.cfg t c a p per cmp cnt }) s
  let w := writes.foldl (fun w x => match x with
    | .poke _ _ addr words => match gstartOf addr words with
      | some v => gstart v s.writeTime w
      | none => w
    | .cfg _ _ _ _ _ _ _ _ => w) s1.win
  { s1 with win := { w with writes := [] } }

/-- A PEEK has returned a capture: CAP_VALID clears when nothing was captured since the snapshot; one capture since has not
overwritten an unread one, so that OVR is not set by it (R234). -/
def Window.capTaken (m : Mem) (captures : List Nat) (r : CapRead) : Mem :=
  let since := captures.getD r.counter 0 - r.captures
  if since = 0 then mark (scBase r.counter + 4) 0 0x1000 m
  else if since = 1 && !r.ovr then mark (scBase r.counter + 4) 0 0x0800 m else m

/-- Side effects of reads at the commit phase: captures returned, read latches loaded (R230, R231, R234). -/
def State.readEffects (s : State) : State :=
  let m := s.win.capRead.foldl (fun m r => Window.capTaken m s.win.captures r) s.win.regs
  let s1 := s.win.latchLoads.foldl (fun (s : State) l =>
    s.onPort l.1 fun q => { q with latches := (q.latches.filter fun x => x.1 != l.2.1) ++ [l.2] }) s
  { s1 with win := { s1.win with regs := m, capRead := [], latchLoads := [] } }

/-! ### PEEK -/

/-- One word of a PEEK: the latches as this PEEK sees them, the bytes so far, the loads. -/
def peekWord (m : Mem) (a : Nat) (acc : List (Nat × Bytes) × Bytes × List (Nat × Bytes)) :
    List (Nat × Bytes) × Bytes × List (Nat × Bytes) :=
  match wide m a with
  | [] => (acc.1, acc.2.1 ++ leN 2 (rword m a), acc.2.2)
  | h :: ups =>
    if a = h then
      let l := (h, ups.flatMap fun x => leN 2 (rword m x))
      ((acc.1.filter fun x => x.1 != h) ++ [l], acc.2.1 ++ leN 2 (rword m a), acc.2.2 ++ [l])
    else
      let b := ((acc.1.find? fun x => x.1 == h).map (·.2)).getD []
      (acc.1, acc.2.1 ++ padTo 2 (slice b (2 * ups.findIdx (· == a)) 2), acc.2.2)

/-- ADDR and COUNT of PEEK and POKE (R247, R248). -/
def rangeBad (tk : Ticket) (args : Bytes) : Bool :=
  args.length < 4 || !zero args 3 1 || !inRange 1 118 (oct args 2) || !tk.room (4 + 2 * oct args 2) ||
    0x1000 < num args 0 2 + oct args 2

/-- The snapshot that a PEEK reads, and the captures made up to it (R230). -/
def Supplied.image (s : State) : Supplied → Mem × List Nat
  | .window m captures => (m, captures)
  | _ => (s.win.snap, s.win.snapCaptures)

/-- PEEK: ADDR, COUNT, reserved (R230, R231, R247). -/
def peekWork (args : Bytes) (sup : Supplied) : Work where
  need := fixedNeed 0x3B
  check := fun tk _ => { arg := rangeBad tk args || args.length != 4 }
  run := fun tk s =>
    let addr := num args 0 2
    let as := (List.range (oct args 2)).map (addr + ·)
    let x := sup.image s
    let r := as.foldl (fun acc a => peekWord x.1 a acc) ((s.port tk.port).latches, [], [])
    let caps := ((List.range 8).filter fun n => as.contains (scBase n + 2)).map fun n =>
      (⟨n, x.2.getD n 0, bit (rword x.1 (scBase n + 4)) 11⟩ : CapRead)
    State.done { s with win := { s.win with
      capRead := s.win.capRead ++ caps, latchLoads := s.win.latchLoads ++ r.2.2.map fun l => (tk.port, l) } } tk
      (args.take 3 ++ zeros 1 ++ r.2.1)

/-- PEEK. -/
def execPeek (h : Hdr) (args : Bytes) (s : State) : Host.Outcome State Fault Refusal :=
  .next (command 0x3B h args (peekWork args (s.seenIn s.tick)) s (s.seenIn s.tick))

/-! ### POKE -/

/-- Fields of GTn_CTL, GTn_ACT, SCn_CTL, SPOn_CTL that a write may hold (R248). -/
def gtCtlOk (odd : Bool) (v : Nat) : Bool := v % 128 == 0 && v / 1024 % 4 != 3 && (odd || !bit v 14)
def gtActOk (v : Nat) : Bool := v % 128 == 0 && v / 8192 != 7 && v / 1024 % 8 != 7 && v / 1024 % 8 != 2
def scCtlOk (odd : Bool) (v : Nat) : Bool := v % 1024 == 0 && (odd || !bit v 14)
def spoCtlOk (v : Nat) : Bool := v % 64 == 0 && v / 8192 ≤ 5

/-- Word `a` may be written with `v` (R228, R248). -/
def pokeOk (a v : Nat) : Bool :=
  if a = 1 then v / 2 % 128 == 0
  else if a = 2 ∨ a = 3 then spoCtlOk v
  else if inRange 0x10 0x4F a then
    let o := (a - 0x10) % 8
    o ≤ 1 || (o == 4 && scCtlOk ((a - 0x10) / 8 % 2 == 1) v)
  else if inRange 0x80 0xFF a then
    let o := (a - 0x80) % 16
    o ≤ 5 || (o == 6 && gtCtlOk ((a - 0x80) / 16 % 2 == 1) v) || (o == 7 && gtActOk v) || o == 8 || (o == 9 && v % 2048 == 0)
  else false

/-- The words of a POKE. -/
def pokeWords (args : Bytes) : List Nat := (List.range (oct args 2)).map fun i => num args (4 + 2 * i) 2

/-- POKE: ADDR, COUNT, reserved, words (R248). -/
def pokeWork (args : Bytes) : Work where
  need := fixedNeed 0x3C
  check := fun tk _ =>
    { arg := rangeBad tk args || args.length != 4 + 2 * oct args 2 ||
        !(((pokeWords args).zipIdx).all fun p => pokeOk (num args 0 2 + p.2) p.1) }
  run := fun tk s => State.done { s with win := { s.win with
    writes := s.win.writes ++ [.poke tk.order tk.port (num args 0 2) (pokeWords args)] } } tk (slice args 2 1 ++ zeros 3)

/-- POKE. -/
def execPoke (h : Hdr) (args : Bytes) (s : State) : Host.Outcome State Fault Refusal :=
  .next (command 0x3C h args (pokeWork args) s)

/-! ### TIMER_CFG -/

/-- R249's argument test. -/
def timerCfgBad (args : Bytes) : Bool :=
  let t := oct args 0
  args.length != 24 || 1 < oct args 1 || !zero args 2 2 || !zero args 10 2 || (oct args 1 == 0 && !zero args 20 4) ||
    (if t < 8 then !gtCtlOk (t % 2 == 1) (num args 4 2) || !gtActOk (num args 6 2)
     else if inRange 0x10 0x17 t then !scCtlOk (t % 2 == 1) (num args 4 2) || !zero args 6 4 || !zero args 12 8
     else if inRange 0x20 0x21 t then !spoCtlOk (num args 4 2) || oct args 1 != 0 || !zero args 6 4 || !zero args 12 8
     else true)

/-- R249's state test. -/
def timerCfgBusy (m : Mem) (t : Nat) : Bool :=
  t < 8 && (gtRun m t || gtUpper m t || (gtPaired m t && gtRun m (t / 2 * 2)))

/-- The word that TIMER_CFG returns (R249): the STA of a timer that becomes an upper half reads 0 (R240). -/
def cfgAnswer (snap : Mem) (t ctl : Nat) : Nat :=
  if t < 8 && t % 2 == 1 && bit ctl 14 then 0
  else if t < 8 then (BitVec.ofNat 16 (rword snap (gtBase t + 9)) &&& 0xF7FF#16).toNat
  else if t < 0x18 then rword (setSingle (scBase (t - 0x10) + 4) ctl snap) (scBase (t - 0x10) + 4)
  else ctl

/-- The answer of a TIMER_CFG is that of the snapshot of the tick whose commit phase publishes it, which runs it again where an
earlier tick was not published (R53, R230, R249, R367). -/
def State.cfgAnswers (s : State) : State :=
  s.win.writes.foldl (fun (s : State) x => match x with
    | .cfg n t ctl _ _ _ _ _ =>
      let f : Staged → Staged := fun r =>
        if r.order == n && r.admitted && r.status == 0 then { r with results := leN 2 (cfgAnswer s.win.snap t ctl) ++ zeros 2 } else r
      s.onPorts fun q => { q with stagedReplies := q.stagedReplies.map f }
    | .poke _ _ _ _ => s) s

/-- TIMER_CFG (R249). -/
def timerCfgWork (args : Bytes) : Work where
  need := fixedNeed 0x3A
  check := fun _ s => { arg := timerCfgBad args, state := timerCfgBusy s.win.snap (oct args 0) }
  run := fun tk s =>
    State.done { s with win := { s.win with writes := s.win.writes ++
      [.cfg tk.order (oct args 0) (num args 4 2) (num args 6 2) (num args 8 2) (num args 12 4) (num args 16 4)
        (if oct args 1 = 1 then some (num args 20 4) else none)] } } tk
      (leN 2 (cfgAnswer s.win.snap (oct args 0) (num args 4 2)) ++ zeros 2)

/-- TIMER_CFG. -/
def execTimerCfg (h : Hdr) (args : Bytes) (s : State) : Host.Outcome State Fault Refusal :=
  .next (command 0x3A h args (timerCfgWork args) s)

end Sys2Proof.Machine
end

