-- ==== Sys2Proof/Machine/Motion.lean ====
section
/-! DEFINITION. The motion unit: speed edges and the odometer (R212, R218 to R221), the motion state (R215), the
plausibility engine (R216, R217, R219), MOTION_CFG and MOTION_READ (R226, R227), and the readback of the living outputs
(R209). -/

namespace Sys2Proof.Machine

open Sys2Proof

/-! ### Odometer -/

/-- `k` pulses at K_FACTOR `f`: metres and remainder (R218). -/
def odoStep (f k m r : Nat) : Nat × Nat := if f = 0 then (m, r) else (m + (r + 1000 * k) / f, (r + 1000 * k) % f)

/-- The odometer counts `k` pulses of its source; crossing a multiple of 100 m stores it at the next commit phase, and each
crossing of the interval appends a record (R35, R218, R220, R225). -/
def State.odoCount (s : State) (k : Nat) : State :=
  let n := odoStep (kFactor s.thal.cur s.odoSource) k s.motion.odoM s.motion.odoR
  let s1 : State := { s with motion := { s.motion with odoM := n.1, odoR := n.2 } }
  let s2 := if s.motion.odoM / 100 = n.1 / 100 then s1 else s1.push .odometer
  let step := 1000 * s.motion.interval
  (List.range (n.1 / step - s.motion.odoM / step)).foldl (fun s _ => s.odoNote 1 0 0) s2

/-- An edge as its source keeps it: times of the last 3,907 ticks, count, tick, level (R212, R216). -/
def SpeedSource.edge (cycle tick : Nat) (falling : Bool) (c : SpeedSource) : SpeedSource :=
  { c with
    edges := (cycle, tick) :: c.edges.filter fun e => tick < e.2 + 3907
    count := c.count + 1
    lastTick := some tick
    level := !falling }

/-- The filter of input `n` passes the level that EDGE selects, which is not the level that it shows: a pulse counts once
(R212). -/
def State.counts (s : State) (n held : Nat) : Bool :=
  n < 8 && s.passes n held && (s.motion.src.getD n {}).level == edgeFalling s.thal.cur n

/-- Input `n` counts an edge, captured at a MOTION cycle (R212, R218, R219, R233). -/
def State.speedEdge (s : State) (n cycle held : Nat) : State :=
  if s.counts n held then
    let m := s.motion
    let s1 : State := { s with
      win := s.win.speedEdge n cycle
      motion := { m with
        src := m.src.set n ((m.src.getD n {}).edge cycle s.tick (edgeFalling s.thal.cur n))
        secondarySince := if n = odoPrimary s.thal.cur then 0
          else if n = odoSecondary s.thal.cur then m.secondarySince + 1 else m.secondarySince
        lastEdgeTick := if bit (motionGroup s.thal.cur) n then s.tick else m.lastEdgeTick } }
    if n = s.odoSource then s1.odoCount 1 else s1
  else s

/-- SPEED_EDGE. -/
def execSpeedEdge (n cycle held : Nat) (s : State) : Host.Outcome State Fault Refusal :=
  .next (if s.awake then s.speedEdge n cycle held else s)

/-- One event of the MOTION domain. -/
def State.motionEvent (s : State) : MotionEvent → State
  | .edge n cycle held => s.speedEdge n cycle held
  | .level n level held => s.levelChange n level held
  | .count n cycle => s.gtCount n cycle
  | .linked cycle => s.linkedActions cycle

/-! ### Motion state -/

/-- The inputs of MOTION_GROUP. -/
def State.group (s : State) : List Nat := bitsIn 8 (motionGroup s.thal.cur)

/-- Edges that input `i` counted within the last `d` ticks, newest first. -/
def State.edgesWithin (s : State) (i d : Nat) : List (Nat × Nat) :=
  match s.motion.src[i]? with
  | some c => c.edges.filter fun e => s.tick < e.2 + d
  | none => []

/-- The inputs that meet the MOVING condition (Table 08.6). -/
def State.movers (s : State) : List Nat :=
  s.group.filter fun i => movePulses s.thal.cur ≤ (s.edgesWithin i 3907).length

/-- The input whose newest edge is the latest (Table 08.8). -/
def State.latestOf (s : State) (l : List Nat) : Nat :=
  (l.foldl (fun (b : Nat × Nat) i =>
    let c := ((s.edgesWithin i 3907).head?.map (·.1)).getD 0
    if b.1 = 0xFF ∨ b.2 < c then (i, c) else b) (0xFF, 0)).1

/-- The motion state changes: MOTION cause and MOTION_CHANGE record (R215, Table 08.8). -/
def State.changeMotion (s : State) (new : MotionState) (input : Nat) : State :=
  State.note (State.raise 9 { s with motion := { s.motion with state := new } }) 0x33
    (leN 1 (motionCode s.motion.state) ++ leN 1 (motionCode new) ++ leN 1 input ++ zeros 1 ++ leN 8 s.motion.odoM ++
      leN 2 (s.speedOf (odoPrimary s.thal.cur)) ++ zeros 2)

/-- Motion is reported in DOOR_CHECK: a poll not yet started is withdrawn, and the session is RELEASED (Table 06.14). -/
def State.doorMotion (s : State) : State :=
  match s.ses.state with
  | .doorCheck =>
    let early := s.field.bookings.filter fun b => b.doorCheck && (b.phase == .booked || b.phase == .lead)
    let s1 := early.foldl (fun s b => s.release b) s
    (State.sesRecord { s1 with
      field := { s1.field with heldTriggers := s1.field.heldTriggers.filter fun x => x.1 != 7 }
      ses := { s1.ses with state := .released, expires := none, checking := false } } .doorCheck 0).sessionTimer
  | _ => s.sessionTimer

/-- MOTION_MOVING: at a latch phase that finds the MOVING condition (R215). -/
def execMotionMoving (s : State) : Host.Outcome State Fault Refusal :=
  .next (if s.awake && s.motion.state != .moving && s.movers != [] then
      (s.changeMotion .moving (s.latestOf s.movers)).push .moved
    else s)

/-- No input of the group has counted an edge within STILL_TIME, nor has the domain started within it (Table 08.6). -/
def State.stillNow (s : State) : Bool :=
  s.power.startTick + stillTime s.thal.cur ≤ s.tick && s.group.all fun i =>
    match (s.motion.src.getD i {}).lastTick with
    | some t => t + stillTime s.thal.cur ≤ s.tick
    | none => true

/-- A door input is qualified open. -/
def State.doorOpen (s : State) : Bool := s.field.doors.any fun d => d.level

/-- A door open while the vehicle is stationary moves a RELEASED session to DOOR_CHECK (R178, Table 06.14). -/
def State.doorCheckBegins (s : State) : State :=
  match s.ses.state with
  | .released =>
    if s.still && s.doorOpen then
      State.sesRecord { s with ses := { s.ses with
        state := .doorCheck, expires := some (s.tick + sessionTicks s.cfg.cur), checking := false } } .released 0
    else s
  | _ => s

/-- MOTION_STATIONARY: the state; the stored odometer, a pending clear, an open door and the session timer follow at the
commit phase (R203, R215, R220, Table 06.14). -/
def execMotionStationary (s : State) : Host.Outcome State Fault Refusal :=
  .next (if s.awake && s.motion.state != .stationary && s.stillNow then
      (s.changeMotion .stationary 0xFF).push .still
    else s)

/-! ### Plausibility -/

/-- Speed from a list of edges, newest first, as numerator and denominator in km/h (R216); MOTION cycles are 10 ns. -/
def speedFrom (k : Nat) (l : List (Nat × Nat)) : Nat × Nat :=
  match l, l.getLast? with
  | e :: _ :: _, some f => if e.1 = f.1 then (0, 1) else (360000000000 * (l.length - 1), k * (e.1 - f.1))
  | _, _ => (0, 1)

/-- The speed of source `i` at this evaluation (R216). -/
def State.evaluate (s : State) (i : Nat) : Nat × Nat :=
  let k := kFactor s.thal.cur i
  let w := s.edgesWithin i 1024
  if 2 ≤ w.length then speedFrom k w else speedFrom k ((s.edgesWithin i 3907).take 2)

/-- `v > c` km/h. -/
def faster (v : Nat × Nat) (c : Nat) : Bool := c * v.2 < v.1

/-- `1000 (v - w) > c`, in km/h. -/
def ahead (v w : Nat × Nat) (c : Nat) : Bool := c * (v.2 * w.2) + 1000 * (w.1 * v.2) < 1000 * (v.1 * w.2)

/-- Condition of ACCEL (Table 08.7); it needs the value of 16 evaluations earlier. -/
def accelNow (t : Mem) (speeds : List (Nat × Nat)) : Bool :=
  match speeds[0]?, speeds[16]? with
  | some v, some w => ahead v w (377 * aMax t + 1000 * vTol t) || ahead w v (377 * dMax t + 1000 * vTol t)
  | _, _ => false

/-- Two sources above 5 km/h differ by more than both tolerances (Table 08.7). -/
def disagree (t : Mem) (v w : Nat × Nat) : Bool :=
  let big := if w.1 * v.2 ≤ v.1 * w.2 then v else w
  let small := if w.1 * v.2 ≤ v.1 * w.2 then w else v
  faster v 5 && faster w 5 && ahead big small (1000 * vTol t) &&
    relTol t * (big.1 * small.2) + 100 * (small.1 * big.2) < 100 * (big.1 * small.2)

/-- Evaluations in a row that set each flag (Table 08.7). -/
def flagRuns : List Nat := [2, 1, 31, 31]

/-- What one evaluation finds of one source: its conditions and its partners in disagreement. -/
def State.conditions (s : State) (i : Nat) : List Bool × List Bool :=
  let t := s.thal.cur
  let v := s.speedAt i 0
  let others := s.group.filter (· != i)
  let dis := (List.range 8).map fun j => others.contains j && disagree t v (s.speedAt j 0)
  let sp := (s.motion.src.getD i {}).speeds
  ([faster v (vMax t), accelNow t sp, dis.any id, v.1 == 0 && others.any fun j => faster (s.speedAt j 0) 5], dis)

/-- Count a condition: consecutive evaluations with it. -/
def tally (on : Bool) (n : Nat) : Nat := if on then n + 1 else 0

/-- Flags, runs and gaps of one source after an evaluation (R217). -/
def SpeedSource.judge (conds dis : List Bool) (c : SpeedSource) : SpeedSource :=
  let pairs := (List.range 8).map fun j => tally (dis.getD j false) (c.pairs.getD j 0)
  let runs := (List.range 4).map fun f => tally (conds.getD f false) (c.runs.getD f 0)
  let gaps := (List.range 4).map fun f => tally (!conds.getD f false) (c.gaps.getD f 0)
  let on : Nat → Bool := fun f => if f = 2 then pairs.any (31 ≤ ·) else flagRuns.getD f 0 ≤ runs.getD f 0
  let fl := (List.range 4).filter fun f => on f || (c.flags.getLsbD f && gaps.getD f 0 < 153)
  { c with pairs := pairs, runs := runs, gaps := gaps, flags := BitVec.ofNat 4 (maskOf fl)
           mate := ((List.range 8).find? fun j => 31 ≤ pairs.getD j 0).getD c.mate }

/-- The PLAUSIBILITY records of one source (R217, Table 08.8); the flag is given as its mask in Table 08.10. -/
def State.flagRecords (s : State) (i : Nat) (old new : SpeedSource) : State :=
  (List.range 4).foldl (fun s f =>
    if old.flags.getLsbD f == new.flags.getLsbD f then s
    else
      let set := new.flags.getLsbD f
      let other := if f = 2 then new.mate else 0xFF
      s.note 0x34 (leN 1 i ++ leN 1 (2 ^ f) ++ leN 1 (b2n set) ++ leN 1 other ++ leN 2 (s.speedOf i) ++
        leN 2 (if other = 0xFF then 0 else s.speedOf other) ++ leN 2 (centi (s.speedAt i 16)) ++ zeros 2 ++
        leN 8 s.motion.odoM)) s

/-- One source is judged and its records queued. -/
def State.judgeSource (s : State) (i : Nat) : State :=
  let c := s.motion.src.getD i {}
  let k := s.conditions i
  let d := c.judge k.1 k.2
  State.flagRecords { s with motion := { s.motion with src := s.motion.src.set i d } } i c d

/-- LOSS of a source is set. -/
def State.lost (s : State) (i : Nat) : Bool := (s.motion.src.getD i {}).flags.getLsbD 3

/-- The odometer changes source: R is rescaled, the pulses `k` of the loss interval are added, a record is appended
(R218, R219). -/
def State.switchOdo (s : State) (secondary : Bool) (k : Nat) : State :=
  let k0 := kFactor s.thal.cur s.odoSource
  let s1 : State := { s with motion := { s.motion with onSecondary := secondary, secondarySince := 0 } }
  let k1 := kFactor s.thal.cur s1.odoSource
  let s2 : State := { s1 with motion := { s1.motion with odoR := s.motion.odoR * k1 / k0 } }
  (s2.odoCount k).odoNote 5 (if k0 = k1 then 0 else k0) (if k0 = k1 then 0 else k1)

/-- Selection of the odometer source (R219). -/
def State.selectOdo (s : State) : State :=
  let p := odoPrimary s.thal.cur
  let q := odoSecondary s.thal.cur
  if s.motion.onSecondary then (if s.lost p then s else s.switchOdo false 0)
  else if s.lost p && q != 0xFF && (s.motion.src.getD q {}).flags == 0 then s.switchOdo true s.motion.secondarySince
  else s

/-- The evaluated speeds enter the histories of the group's sources. -/
def State.newSpeeds (s : State) : State :=
  { s with motion := { s.motion with
    lastEval := s.tick
    src := s.motion.src.zipIdx.map fun c =>
      if bit (motionGroup s.thal.cur) c.2 then { c.1 with speeds := (s.evaluate c.2 :: c.1.speeds).take 17 } else c.1 } }

/-- PLAUSIBILITY_EVALUATION: 256 ticks after the last one (R216, R217, R219). DESIGN CHOICE (log entry 89): a source that a
new thallus has taken out of MOTION_GROUP is not judged any more, and its flags stay as they stand; the spec does not say what
becomes of them. -/
def execPlausibilityEvaluation (s : State) : Host.Outcome State Fault Refusal :=
  .next (if s.awake && s.motion.lastEval + 256 ≤ s.tick then (s.group.foldl State.judgeSource s.newSpeeds).selectOdo else s)

/-! ### MOTION_CFG, MOTION_READ -/

/-- Results of MOTION_CFG (R226). -/
def State.motionCfgResults (s : State) : Bytes := leN 2 s.motion.interval ++ zeros 2 ++ leN 8 s.motion.odoM

/-- ODO_INTERVAL: 3 reserved, kilometres, 2 reserved (Table 08.11). -/
def odoIntervalWork (args : Bytes) : Work where
  need := fixedNeed 0x38
  check := fun _ _ =>
    { arg := args.length != 7 || !zero args 0 3 || !inRange 1 1000 (num args 3 2) || !zero args 5 2 }
  run := fun tk s => (s.push (.odoInterval tk (num args 3 2))).done tk s.motionCfgResults

/-- ODO_INTERVAL. -/
def execOdoInterval (h : Hdr) (args : Bytes) (s : State) : Host.Outcome State Fault Refusal :=
  .next (command 0x38 h (0x00#8 :: args) (odoIntervalWork args) s)

/-- ODO_INIT has been done, or has nothing to set any more (R221). -/
def State.odoInitGone (s : State) : Bool := s.motion.odoM != 0 || s.motion.initDone

/-- An ODO_INIT admitted before is to be done still (R221, R226). -/
def State.odoInitWaits (s : State) : Bool :=
  (s.acts.any fun a => match a with
    | .odoInit _ _ => true
    | _ => false) || s.work.any fun q => q.ticket.verb == 0x38 && oct q.args 0 == 1

/-- The commit phase of ODO_INIT, which sets ODO_M once, and only from 0; where the odometer has counted a metre since its
admission, it ends with REFUSED_STATE (R221; log entry 94). -/
def State.applyOdoInit (s : State) (tk : Ticket) (metres : Nat) : State :=
  if s.odoInitGone then s.amend tk 0x11 [] else
  let s1 : State := { s with motion := { s.motion with odoM := metres, initDone := true } }
  s1.storeOdo.recordReply tk 0x36 (s1.odoBody 6 0 0)

/-- ODO_INIT: 3 reserved, metres (R221, Table 08.11). -/
def odoInitWork (args : Bytes) : Work where
  need := fixedNeed 0x38
  check := fun _ s =>
    { arg := args.length != 11 || !zero args 0 3 || !inRange 1 (2 ^ 48 - 1) (num args 3 8)
      state := s.odoInitGone || s.odoInitWaits }
  run := fun tk s => (s.push (.odoInit tk (num args 3 8))).done tk s.motionCfgResults

/-- ODO_INIT. -/
def execOdoInit (h : Hdr) (args : Bytes) (s : State) : Host.Outcome State Fault Refusal :=
  .next (command 0x38 h (0x01#8 :: args) (odoInitWork args) s)

/-- The 56 bytes of MOTION_READ (Table 08.12). -/
def State.motionResults (s : State) : Bytes :=
  let m := s.motion
  leN 1 (motionCode m.state) ++
    leN 1 (b2n m.onSecondary + 2 * b2n m.overrate + 4 * b2n (m.episodes.any fun e => e.merged)) ++ leN 1 s.odoSource ++
    zeros 1 ++ leN 8 m.odoM ++ leN 4 m.odoR ++ tick4 m.lastEdgeTick ++
    ((List.range 8).flatMap fun i => leN 2 (if bit (motionGroup s.thal.cur) i then s.speedOf i else 0)) ++
    ((List.range 8).flatMap fun i => leN 1 (s.sourceFlags i)) ++ leN 4 m.sleepCount0 ++ leN 4 m.sleepCount1 ++
    leN 1 m.episodes.length ++ zeros 3

/-- MOTION_READ takes no arguments (R227). -/
def motionReadWork (args : Bytes) : Work :=
  ⟨fixedNeed 0x39, fun _ _ => { arg := args != [] }, fun tk s => s.done tk s.motionResults⟩

/-- MOTION_READ. -/
def execMotionRead (h : Hdr) (args : Bytes) (s : State) : Host.Outcome State Fault Refusal :=
  .next (command 0x39 h args (motionReadWork args) s)

/-! ### Readback of the living outputs -/

/-- RLS_FAULT_DETECT: 8 consecutive half periods of one output that mismatch, or match. The record waits for a commit phase
with the cell, which goes on while the lanes are stopped (R208, R209). -/
def execRlsFaultDetect (out : LaneId) (level matches8 : Bool) (s : State) : Host.Outcome State Fault Refusal :=
  let was := if out = .a then s.cell.faultA else s.cell.faultB
  .next (if !(s.awake || s.cell.living) || was == !matches8 then s
    else { s with cell := { s.cell with
        faultA := if out = .a then !matches8 else s.cell.faultA
        faultB := if out = .a then s.cell.faultB else !matches8
        notes := s.cell.notes ++
          [leN 1 (if out = .a then 0x0A else 0x0B) ++ leN 1 (b2n !matches8) ++ leN 1 (b2n level) ++ zeros 1] } })

/-- The RLS_FAULT records of a commit phase (R209, R225). -/
def State.publishNotes (s : State) : State :=
  s.cell.notes.foldl (fun s b => s.note 0x37 b) { s with cell := { s.cell with notes := [] } }

end Sys2Proof.Machine
end

