-- ==== Sys2Proof/Machine/Polls.lean ====
section
/-! DEFINITION. Autonomous polls: triggers, POLL_START, POLL_STOP, repetitions (R28 to R30, R176, R194 to R197), door
checks and session timers (R178), the recovery poll (R205). -/

namespace Sys2Proof.Machine

open Sys2Proof

/-! ### Booking a poll -/

/-- An autonomous poll: its zones and how its exchanges run (R165, R194, R196). -/
structure Poll where
  zones : List Nat
  k : Nat
  repeat_ : Bool
  purpose : Nat
  trigger : Nat
  index : Option Nat
  port : Option PortId
  doorCheck : Bool
  recovery : Bool
deriving DecidableEq, Repr

/-- TRIGGER code of an entry (R195). -/
def triggerCode (i : Nat) : Nat := if i ≤ 1 then i + 1 else if i ≤ 5 then 3 else 4

/-- The poll of a trigger entry on some zones. -/
def entryPoll (c : Mem) (i : Nat) (zones : List Nat) (port : Option PortId) : Poll where
  zones := zones
  k := trigK c i
  repeat_ := trigRepeat c i
  purpose := if i ≤ 1 then 1 else 2
  trigger := triggerCode i
  index := some i
  port := port
  doorCheck := false
  recovery := false

/-- The door-check poll, or the recovery poll: zones, K and REPEAT of entry 0, TRIGGER 0x05 (R170, R194, R205). -/
def checkPoll (c : Mem) (recovery : Bool) : Poll where
  zones := bitsIn 8 (trigZones c 0)
  k := trigK c 0
  repeat_ := trigRepeat c 0
  purpose := 1
  trigger := 5
  index := none
  port := none
  doorCheck := !recovery
  recovery := recovery

/-- A booking of a poll on zone `z`. -/
def Poll.booking (p : Poll) (z engine first closing current estimate : Nat) : Booking :=
  { id := 0, engine := engine, zones := [z], first := first, closing := closing, kind := .authenticate
    current := current, estimate := estimate, ticket := none, trigger := p.trigger, index := p.index, pollPort := p.port
    doorCheck := p.doorCheck, recoveryPoll := p.recovery, purpose := p.purpose, keyLimit := p.k, repeatOk := p.repeat_ }

/-- A poll is running on a zone, to the last frame of its exchange: a trigger joins it (R29, R162; log entry 69). -/
def State.joined (s : State) (z : Nat) : Bool :=
  s.field.bookings.any fun b => b.isPoll && b.zones.contains z && b.phase != .booked && (b.endCode.isNone || b.todo != [])

/-- What booking a poll has done so far: its number, zones booked and joined, first start tick. -/
structure Booked where
  number : Nat := 0
  booked : Nat := 0
  joined : Nat := 0
  first : Option Nat := none
deriving DecidableEq, Repr

/-- Book one zone of a poll at the first free interval (R45); a disabled or dead zone is left out, a joined one is not
booked (R29, R110). -/
def State.pollZone (p : Poll) (acc : State × Booked) (z : Nat) : State × Booked :=
  let s := acc.1
  let r := acc.2
  if !zoneEnabled s.cfg.cur z || s.zoneDead z then acc
  else if !(p.doorCheck || p.recovery) && s.joined z then (s, { r with joined := r.joined ||| 2 ^ z })
  else
    let a := s.askExchange z p.k 0xFF p.repeat_ false
    match s.place (s.tick + 1) none a with
    | none => acc
    | some (e, f) =>
      (s.addBooking { p.booking z e f (f + a.ticks) a.current a.estimate with poll := r.number },
        { r with booked := r.booked ||| 2 ^ z, first := some (min f (r.first.getD f)) })

/-- A poll that has booked a zone is the last one of its entry, and runs (R194, R195). -/
def State.noteLastPoll (s : State) (index : Option Nat) (r : Booked) : State :=
  match index with
  | some i =>
    if r.booked = 0 then s
    else { s with field := { s.field with
      lastPoll := s.field.lastPoll.set i r.number, pollEnd := s.field.pollEnd.set i none } }
  | none => s

/-- Book the zones of a poll in ascending order (R19). -/
def State.runPoll (s : State) (p : Poll) : State × Booked :=
  let r := p.zones.foldl (State.pollZone p) (s, { number := s.orderNo })
  (r.1.noteLastPoll p.index r.2, r.2)

/-- Autonomous polls start: the device is seeded, and stage 6 of the boot ended in an earlier tick (R30, R410). -/
def State.mayPoll (s : State) : Bool := s.seeded && s.power.servicesTick.all fun t => decide (t < s.tick)

/-- No autonomous poll may start now, seed apart: a device-wide lock (R176), tamper hold (R357), SLEEP published, a dead
LF side (R375, R378). -/
def State.pollsDiscarded (s : State) : Bool :=
  s.devLockRefuses || s.tamper.hold || !(s.power.life == .awake) || s.lfDead

/-! ### Triggers -/

/-- The zones that a trigger polls: those of its entry, for a ping the ones with a confirming aerial where there is one
(R195). -/
def triggerZones (c : Mem) (i aerials : Nat) : List Nat :=
  let zs := bitsIn 8 (trigZones c i)
  let near := zs.filter fun z => zoneAerials c z &&& aerials != 0
  if i = 6 && near != [] then near else zs

/-- Hold a trigger until the device is seeded (R30). -/
def State.holdTrigger (s : State) (i aerials : Nat) : State :=
  let l := s.field.heldTriggers
  let new := if l.any fun x => x.1 == i then l.map fun x => if x.1 = i then (i, x.2 ||| aerials) else x
    else l ++ [(i, aerials)]
  { s with field := { s.field with heldTriggers := new } }

/-- A trigger falls within HOLDOFF of its entry's last poll (R195). -/
def State.heldOff (s : State) (i : Nat) : Bool :=
  let h := trigHoldoff s.cfg.cur i
  h != 0 && match s.field.pollEnd.getD i none with
    | some t => s.tick ≤ t + h
    | none => false

/-- A trigger occurs (R28, R195). -/
def State.trigger (s : State) (i aerials : Nat) : State :=
  if !trigEn s.cfg.cur i || s.heldOff i || s.pollsDiscarded then s
  else if !s.mayPoll then s.holdTrigger i aerials
  else (s.runPoll (entryPoll s.cfg.cur i (triggerZones s.cfg.cur i aerials) none)).1

/-! ### Door checks -/

/-- A door-check poll ends undecided: DOOR_OPEN, with a clear request (Table 06.14). -/
def State.doorUndecided (s : State) : State :=
  match s.ses.state with
  | .doorCheck => s.endSessionClear 0x02
  | _ => s

/-- The door-check poll is booked; held until the device is seeded; one that is discarded, or that books no zone, ends
undecided (R30, R178, Table 06.14). DESIGN CHOICE (log entry 76): the session timer stops once the poll is booked, so REMAINING
reads 0xFFFFFFFF; the spec does not say whether it runs on. -/
def State.doorCheck (s : State) : State :=
  match s.ses.state with
  | .doorCheck =>
    if s.ses.checking then s
    else
      let s1 : State := { s with ses := { s.ses with checking := true, expires := none } }
      if s.pollsDiscarded then s1.doorUndecided
      else if !s.mayPoll then s1.holdTrigger 7 0
      else
        let r := s1.runPoll (checkPoll s.cfg.cur false)
        if r.2.booked = 0 then r.1.doorUndecided else r.1
  | _ => s

/-- Every door is qualified closed. -/
def State.doorsClosed (s : State) : Bool := s.field.doors.all fun d => !d.level

/-! ### Inputs -/

/-- One latch phase sees an input at `level` (R195): whether it qualifies as a change. A phase counts once, and the
phases must be consecutive. -/
def InputQual.sample (tick : Nat) (level : Bool) (q : InputQual) : InputQual × Bool :=
  if level = q.level then ({ q with seen := 0, at_ := tick }, false)
  else if q.seen != 0 && q.at_ == tick then (q, false)
  else
    let n := if q.seen != 0 && q.at_ + 1 == tick then q.seen + 1 else 1
    if n = 4 then ({ level := level, seen := 0, at_ := tick }, true) else ({ q with seen := n, at_ := tick }, false)

/-- A door's qualified change acts on the session at its commit phase (R178, R179, Table 06.14). -/
def State.doorEvent (s : State) (open_ : Bool) : State :=
  if open_ then s.doorCheckBegins else if s.doorsClosed then s.doorCheck else s

/-- What follows a door's qualified change (R178, R195). -/
def State.doorChanged (s : State) (n : Nat) (open_ : Bool) : State := (s.push (.door open_)).push (.trigger (2 + n) 0)

/-- The latch phase of tick `t` sees an input; whether it qualifies as a change (R195). -/
def State.inputSeen (s : State) (t : Nat) (pin : InputPin) (level : Bool) : State × Bool :=
  let f := s.field
  match pin with
  | .ign => ({ s with field := { f with ign := (f.ign.sample t level).1 } }, (f.ign.sample t level).2)
  | .start => ({ s with field := { f with start := (f.start.sample t level).1 } }, (f.start.sample t level).2)
  | .door n =>
    let q := (f.doors.getD n.val {}).sample t level
    ({ s with field := { f with doors := f.doors.set n.val q.1 } }, q.2)
  | .wake => ({ s with field := { f with wakePin := (f.wakePin.sample t level).1 } }, false)

/-- What a qualified change brings about at the commit phase (R34, R178, R195). -/
def State.inputChanged (s : State) (pin : InputPin) (level : Bool) : State :=
  match pin with
  | .ign => if level then s.push (.trigger 1 0) else s
  | .start => if level then s.push (.trigger 0 0) else s
  | .door n => s.doorChanged n.val level
  | .wake => s

/-- An input is seen, and acts where it qualifies. -/
def State.sampleInput (t : Nat) (s : State) (x : InputPin × Bool) : State :=
  let r := s.inputSeen t x.1 x.2
  if r.2 then r.1.inputChanged x.1 x.2 else r.1

/-- TRIGGER_INPUT: a latch phase sees an input; at the fourth in a row it qualifies (R178, R195). Once SLEEP is published
the levels stand as they were (R417). -/
def execTriggerInput (pin : InputPin) (level : Bool) (s : State) : Host.Outcome State Fault Refusal :=
  .next (if s.power.life != .awake then s else s.sampleInput s.tick (pin, level))

/-! ### POLL_START, POLL_STOP -/

/-- INDEX, ZONES, PERIOD, 4 reserved (R196). -/
def pollStartBad (s : State) (args : Bytes) : Bool :=
  let i := oct args 0
  args.length != 8 || 6 < i || !((bitsIn 8 (oct args 1)).all (bit (trigZones s.cfg.cur i))) ||
    inRange 1 63 (num args 2 2) || !zero args 4 4

/-- The poll that a POLL_START or a repetition runs (R196). -/
def State.hostPoll (s : State) (p : PortId) (i zones : Nat) : State × Booked :=
  s.runPoll (entryPoll s.cfg.cur i (bitsIn 8 (if zones = 0 then trigZones s.cfg.cur i else zones)) (some p))

/-- POLL_START: FIRST, BOOKED, JOINED (R196). -/
def pollStartWork (args : Bytes) : Work where
  need := fixedNeed 0x20
  check := fun _ s =>
    { arg := pollStartBad s args
      state := !trigEn s.cfg.cur (oct args 0) || s.lfDead
      locked := s.devLockRefuses }
  run := fun tk s =>
    let i := oct args 0
    let r := s.hostPoll tk.port i (oct args 1)
    let rest := s.field.schedules.filter fun x => x.index != i
    let new : Schedule := { port := tk.port, index := i, zones := oct args 1, period := num args 2 2
                            due := s.tick + num args 2 2 }
    let s1 : State := { r.1 with field := { r.1.field with
      schedules := if num args 2 2 = 0 then rest else rest ++ [new] } }
    s1.done tk (leN 4 (r.2.first.getD 0) ++ leN 1 r.2.booked ++ leN 1 r.2.joined ++ zeros 2)

/-- POLL_START. -/
def execPollStart (h : Hdr) (args : Bytes) (s : State) : Host.Outcome State Fault Refusal :=
  .next (command 0x20 h args (pollStartWork args) s)

/-- A schedule's index meets INDEX of POLL_STOP. -/
def stopMatches (index : Nat) (i : Option Nat) : Bool := i.isSome && (index == 0xFF || i == some index)

/-- POLL_STOP: ends schedules, withdraws bookings before their first start gap, stops running exchanges (R146, R147,
R197). -/
def pollStopWork (args : Bytes) : Work where
  need := fixedNeed 0x21
  check := fun _ _ => { arg := args.length != 4 || !(oct args 0 ≤ 6 || oct args 0 == 0xFF) || !zero args 1 3 }
  run := fun tk s =>
    let i := oct args 0
    let mine := s.field.bookings.filter fun b => b.pollPort.isSome && stopMatches i b.index && b.endCode.isNone
    let early := mine.filter fun b => b.phase == .booked || b.phase == .lead
    let late := mine.filter fun b => b.phase == .running
    let ended := s.field.schedules.filter fun x => stopMatches i (some x.index)
    let s1 := early.foldl (fun s b => s.release b) s
    let s2 := late.foldl (fun s b => s.endWith b.engine 7) s1
    let s3 : State := { s2 with field := { s2.field with
      schedules := s2.field.schedules.filter fun x => !stopMatches i (some x.index) } }
    s3.done tk (leN 1 ended.length ++ leN 1 early.length ++ leN 1 late.length ++ zeros 1)

/-- POLL_STOP. -/
def execPollStop (h : Hdr) (args : Bytes) (s : State) : Host.Outcome State Fault Refusal :=
  .next (command 0x21 h args (pollStopWork args) s)

/-! ### Repetitions and held starts -/

/-- Change the schedule of an index. -/
def State.onSchedule (s : State) (i : Nat) (f : Schedule → Schedule) : State :=
  { s with field := { s.field with schedules := s.field.schedules.map fun x => if x.index = i then f x else x } }

/-- The commit phase of a repetition: its poll runs, is held while the device is not seeded, or is discarded (R196). DESIGN
CHOICE (log entry 78): it polls by the entry as it stands now and on the zones that were named, whatever its EN and ZONES have
become. -/
def State.repetition (s : State) (index : Nat) : State :=
  match s.field.schedules.find? fun x => x.index == index with
  | none => s
  | some x =>
    if s.tick < x.due then s
    else
      let s1 := s.onSchedule index fun x => { x with due := x.due + x.period }
      if s.pollsDiscarded then s1
      else if !s.mayPoll then s1.onSchedule index fun x => { x with held := true }
      else if x.held then s1
      else (s1.hostPoll x.port index x.zones).1

/-- POLL_REPETITION: the period of a schedule is over; the commit phase runs its poll (R34, R196). -/
def execPollRepetition (index : Nat) (s : State) : Host.Outcome State Fault Refusal :=
  .next (if s.awake && s.field.schedules.any fun x => x.index == index && x.due ≤ s.tick then s.push (.repetition index) else s)

/-- One held trigger starts; index 7 is the door-check poll. -/
def State.startHeld (s : State) (x : Nat × Nat) : State :=
  if x.1 = 7 then State.doorCheck { s with ses := { s.ses with checking := false } }
  else (s.runPoll (entryPoll s.cfg.cur x.1 (triggerZones s.cfg.cur x.1 x.2) none)).1

/-- Everything held for the seed starts (R30, R196); what may no longer start is discarded. -/
def State.startAllHeld (s : State) : State :=
  let hs := s.field.heldTriggers
  let s1 : State := { s with field := { s.field with heldTriggers := [] } }
  let s2 := hs.foldl (fun s x => if s.pollsDiscarded && x.1 != 7 then s else s.startHeld x) s1
  s2.field.schedules.foldl (fun s x =>
    if x.held then
      let s3 := s.onSchedule x.index fun x => { x with held := false }
      if s.pollsDiscarded then s3 else (s3.hostPoll x.port x.index x.zones).1
    else s) s2

/-- The commit phase at which everything held starts (R30). -/
def State.heldStart (s : State) : State := if s.mayPoll then s.startAllHeld else s

/-- HELD_TRIGGER_START. -/
def execHeldTriggerStart (s : State) : Host.Outcome State Fault Refusal :=
  .next (if s.awake && s.mayPoll then s.push .heldStart else s)

/-! ### Recovery poll and session timer -/

/-- A recovery poll that ends undecided, or is refused or discarded, raises a clear request (R205). -/
def State.recoveryUndecided (s : State) : State :=
  if s.cell.recovery then State.clearRequest { s with cell := { s.cell with recovery := false } } 0x11 0 else s

/-- The commit phase that books the recovery poll, once the device is seeded; one that is discarded, or that books no zone,
raises its clear request (R30, R205). -/
def State.recoveryPoll (s : State) : State :=
  if !s.cell.recoveryDue || !s.mayPoll then s
  else
    let s1 : State := { s with cell := { s.cell with recoveryDue := false, recovery := true } }
    if s.pollsDiscarded then s1.recoveryUndecided
    else
      let r := s1.runPoll (checkPoll s.cfg.cur true)
      if r.2.booked = 0 then r.1.recoveryUndecided else r.1

/-- RECOVERY_POLL (R205). -/
def execRecoveryPoll (s : State) : Host.Outcome State Fault Refusal :=
  .next (if s.cell.recoveryDue && s.awake && s.mayPoll then s.push .recovery else s)

/-- The session timer is over (R178). -/
def State.timerOver (s : State) : Bool := s.ses.expires.any fun t => decide (t ≤ s.tick)

/-- The session timer acts at its commit phase, where it still runs (R178, R179, Table 06.14). -/
def State.timerEvent (s : State) : State :=
  if !s.timerOver then s
  else
    match s.ses.state with
    | .closed => s
    | .entry => s.endSession 0x01
    | .released => s.endSessionClear 0x01
    | .doorCheck => s.doorCheck

/-- SESSION_TIMER_EXPIRY (R178, Table 06.14). -/
def execSessionTimerExpiry (s : State) : Host.Outcome State Fault Refusal :=
  .next (if s.timerOver then s.push .timer else s)

end Sys2Proof.Machine
end

