-- ==== Sys2Proof/Machine/FieldEngine.lean ====
section
/-! DEFINITION. The field engine while it drives: the start of a booking (R90, R146, R267), receiver gain, tuning and
amplitude loops (R98 to R105), aerial faults (R108 to R110), link engine faults (R378). -/

namespace Sys2Proof.Machine

open Sys2Proof

/-! ### Drive and targets -/

/-- The booking drives one aerial at a time (R102). -/
def Kind.alone : Kind → Bool
  | .fieldVector mode _ _ => mode == 1
  | .aerialCal _ _ _ => true
  | _ => false

/-- FIELD_VECTOR and AERIAL_CAL send no frame (R114, R117). -/
def Kind.measures : Kind → Bool
  | .fieldVector _ _ _ => true
  | .aerialCal _ _ _ => true
  | _ => false

/-- What an aerial of a calibration is driven at (R88, R117): none at a code of 0. -/
def calDrive (c : Mem) (amp n : Nat) : Option (Nat × Nat × Nat) :=
  let a := min (if amp = 0 then 0x100 else amp) (aeAmpCap c n)
  if a = 0 then none else some (n, a, 0)

/-- The drive that a booking copies at its lead (R90, R114, R117). A calibration drives the channels out of service too, which
it may return (R111). DESIGN CHOICE (log entry 85): with AMP_OVERRIDE in mode 0x00 a channel whose AMP in the vector is 0 stays
undriven; the spec does not say whether the override, which replaces the amplitudes, replaces that 0 as well. -/
def State.driveFor (s : State) (b : Booking) : List (Nat × Nat × Nat) :=
  let c := s.cfg.cur
  match b.kind with
  | .fieldVector 0 _ 0 => s.driveOf (zoneDv c b.zone)
  | .fieldVector 0 _ amp => (s.driveOf (zoneDv c b.zone)).map fun d => (d.1, min amp (aeAmpCap c d.1), d.2.2)
  | .fieldVector _ n amp => s.driveAlone n (if amp = 0 then aeSoundAmp c n else amp)
  | .aerialCal mask _ amp => ((bitsIn 16 mask).filter (aeEnabled c)).filterMap (calDrive c amp)
  | _ => s.driveOf (s.dvFor b.zone (b.dv.getD 0xFF))

/-- Zone caps that bound a channel of a booking: its zone's; in a calibration, those of every zone that holds it. -/
def Booking.capsOf (b : Booking) (n : Nat) : List Nat :=
  let c := b.copied
  match b.kind with
  | .aerialCal _ _ _ => ((List.range 8).filter fun z => bit (zoneAerials c z) n).map (zoneCap c)
  | _ => [zoneCap c b.zone]

/-- s_z and s_t for a channel when the codes it counts against sum to `sum` (R102). -/
def Booking.scales (b : Booking) (n sum : Nat) : Nat × Nat :=
  (((b.capsOf n).map fun cap => capScale cap sum).foldl min 256, capScale (totalCap b.copied) sum)

/-- A channel is driven anew: CLAMPED and the trip count are cleared (Table 04.10, R108). -/
def Channel.startDrive (target phase slew : Nat) (c : Channel) : Channel :=
  { c with
    driven := true, target := target, phase := phase, slew := slew, angle := 0, current := 0, trips := 0
    status := c.status &&& 0xFE#8 }

/-- The bridge ceiling in microwatts (R105, R106, R404). -/
def State.ceiling (s : State) : Nat :=
  if s.power.supplyOff || s.power.thermalOff then 0
  else if s.power.batteryCritical then min 1000000 s.power.thermalCeiling else s.power.thermalCeiling

/-- s_s: the ceiling over the runtime estimate of what the driven channels were last measured to carry (R102). -/
def State.supplyScale (s : State) : Nat :=
  let est := total ((s.field.ch.filter Channel.driven).map fun c => 45 * c.current ^ 2 + 2 * 1023 ^ 2)
  if s.ceiling = 0 then 0
  else if est = 0 then 256 else min 256 (256 * s.ceiling * (100 * 1023 ^ 2) / (1000000 * est))

/-- The aerials that a booking drives from its lead on: those of its vector; a calibration, its first (R117; log entry 67). -/
def Booking.atLead (b : Booking) : List (Nat × Nat × Nat) :=
  match b.kind with
  | .aerialCal _ _ _ => b.drive.take 1
  | _ => b.drive

/-- Some aerials of a booking are driven at their effective targets; a scale below 1 is noted (R88, R102, R104). -/
def State.driveAerials (s : State) (b : Booking) (l : List (Nat × Nat × Nat)) : State :=
  let slew := slewOf b.copied
  let base := fun (n : Nat) => ((b.base.find? fun y => y.1 == n).map (·.2)).getD 0
  let s1 := l.foldl (fun s x => s.onChannel x.1 (Channel.startDrive (base x.1 * b.ss) x.2.2 slew)) s
  let clamp := l.any fun x => base x.1 * b.ss != x.2.1 * 2 ^ 24
  State.disturb { s1 with power := { s1.power with newClamp := s1.power.newClamp || clamp } } b.engine (l.map (·.1))

/-- Copy drive, descriptors and limits, and drive the channels (R90). -/
def State.startDrive (s : State) (b : Booking) : State :=
  let d := s.driveFor b
  let b1 : Booking := { b with copied := s.cfg.cur, drive := d }
  let sc := fun (x : Nat × Nat × Nat) => b1.scales x.1 (if b.kind.alone then x.2.1 else codeSum d)
  let zt := (d.head?.map sc).getD (256, 256)
  let b2 : Booking := { b1 with
    base := d.map fun x => (x.1, x.2.1 * (sc x).1 * (sc x).2), sz := zt.1, st := zt.2, ss := s.supplyScale
    aerials := s.zoneLive b.zone, measured := s.tick + 2, cut := s.power.supplyOff }
  let s0 := (s.zoneLive b.zone).foldl (fun s n => s.onChannel n fun c => { c with trips := 0 }) s
  (s0.driveAerials b2 b2.atLead).onBookings (fun x => x.id == b.id) fun _ => b2

/-! ### Steps of a measurement -/

/-- The number of the calibration step that begins in a tick: each has 128 cc, behind the lead (R116, R117). -/
def Booking.stepAt (b : Booking) (tick : Nat) : Option Nat :=
  if b.measured ≤ tick && (tick - b.measured) % 4 == 0 then some ((tick - b.measured) / 4) else none

/-- The calibration step under way is over: its drive is kept for the results, its aerial returns to the off state (R117). -/
def State.endStep (s : State) (b : Booking) : State :=
  let on := (b.drive.map (·.1)).filter fun n => (s.field.ch.getD n {}).driven
  let burst := fun (n : Nat) =>
    let c := s.field.ch.getD n {}
    ({ aerial := n, target := c.target, trim := c.trim, slew := c.slew } : Burst)
  (on.foldl (fun s n => s.onChannel n Channel.off) s).onCurrent b.engine fun b => { b with
    steps := b.steps ++ on.map burst, settled := false }

/-- The step of a calibration that begins in this tick drives its aerial alone (R117). -/
def State.nextStep (s : State) (b : Booking) : State :=
  match b.stepAt s.tick with
  | some (k + 1) => (s.endStep b).driveAerials b ((b.drive.drop (k + 1)).take 1)
  | _ => s

/-- A measurement goes on: its lead is over, and the next step of a calibration begins (R115, R117). -/
def State.measureGoesOn (s : State) (b : Booking) : State :=
  if !b.kind.measures || s.tick < b.measured || b.endCode.isSome then s
  else
    let s1 := s.onCurrent b.engine fun b => { b with phase := .running }
    match b.kind with
    | .aerialCal _ _ _ => s1.nextStep b
    | _ => s1

/-- The measurements under way at a tick's start. -/
def State.measureSteps (s : State) : State :=
  (s.field.bookings.filter fun b => b.phase != .booked).foldl State.measureGoesOn s

/-! ### BOOKING_START -/

/-- The frames that open a booking on air (R130, R131, R267). -/
def State.opening (s : State) (b : Booking) : List Frame :=
  match b.kind, b.reader with
  | .reader, some r => [.wake r.group, .select r.ident]
  | .inventory, _ | .authenticate, _ | .locate, _ =>
    [.wake (if b.enrolWake then 0 else vehicleGroup s.cfg.cur), .inventoryBegin b.round]
  | _, _ => []

/-- The key of a reader exchange goes into a device slot again, or is found stale: the booking is withdrawn and its
result held (R267, R268). -/
def State.readerKeySlot (s : State) (b : Booking) (r : Reader) : State :=
  if bit r.flags 3 then s
  else if s.cipher.loses .next then
    (s.tookLoss .next).onCurrent b.engine (Booking.readerEnds fun r => { r with invalid := true })
  else
    match s.ks.unwrap r.spore with
    | .key k =>
      let n := s.ks.freeSlot
      let c : SlotKey := { kind := 2, usage := 0, origin := sporeOrigin r.spore, owner := some b.engine, key := k }
      State.onCurrent { s with ks := s.ks.writeSlot n c } b.engine fun b => { b with
        reader := some { r with keyTick := s.tick } }
    | .bad _ =>
      let s1 := s.release ((s.current b.engine).getD b)
      { s1 with field := { s1.field with readers := s1.field.readers ++ [{ r with stale := true, done := true }] } }

/-- A poll begins to run: those that still wait on its zone join it, and their bookings are withdrawn (R29, R146, R170). -/
def State.withdrawJoined (s : State) (b : Booking) : State :=
  if b.isPoll then
    (s.field.bookings.filter fun x => x.joins && x.phase == .booked && x.id != b.id && x.zones == b.zones).foldl State.release s
  else s

/-- A booking begins its carrier lead. -/
def State.startBooking (s : State) (b : Booking) : State :=
  let s1 := ((s.withdrawJoined b).startDrive b).onBookings (fun x => x.id == b.id) fun x =>
    { x with phase := .lead, todo := s.opening b, planned := some s.tick
             group := if b.enrolWake then 0 else vehicleGroup s.cfg.cur }
  if s.lfDead || (!b.kind.measures && s.zoneDead b.zone) then s1.endWith b.engine 6
  else
    match b.reader with
    | some r => s1.readerKeySlot b r
    | none => s1

/-- The next booking of an engine whose first tick has come. -/
def State.dueBooking (s : State) (e : Nat) : Option Booking :=
  (s.field.bookings.filter fun b =>
      b.engine == e && b.phase == .booked && b.endCode.isNone && b.first ≤ s.tick).foldl (fun best b =>
    match best with
    | some x => if b.first < x.first then some b else best
    | none => some b) none

/-- BOOKING_START: the carrier lead of the next booking of an engine that is free (R90, R110, R146). An arbitration tick has no
link service, and no poll runs once SLEEP is published (R367, R415). -/
def execBookingStart (engine : Nat) (s : State) : Host.Outcome State Fault Refusal :=
  .next (match s.dueBooking engine with
    | some b =>
      if s.power.life == .awake && !s.arbitrationTick && (s.current engine).isNone then s.startBooking b else s
    | none => s)

/-! ### Loops -/

/-- The highest gain at which the input stays below half of full scale (R98), or the fixed one. -/
def chosenGain (c : Mem) (permille : Nat) : Nat :=
  if rxGainMode c != 0 then rxGainMode c - 1
  else if permille * 64 < 500 then 3 else if permille * 16 < 500 then 2 else if permille * 4 < 500 then 1 else 0

/-- `x` clamped to ±32 (R101). -/
def clamp32 (x : Int) : Int := max (-32) (min 32 x)

/-- The loops settle at this point of a booking (Table 04.8, R115, R117): an exchange in its lead, a FIELD_VECTOR to the end of
the first 32 cc of its interval, a calibration in its lead and in the first 32 cc of each step. -/
def Booking.settles (tick : Nat) (b : Booking) : Bool :=
  b.phase == .lead || match b.kind with
    | .fieldVector _ _ _ => b.phase == .running && tick ≤ b.measured
    | .aerialCal _ _ _ => b.phase == .running && (b.stepAt tick).isSome
    | _ => false

/-- The trim of a driven channel: its pin, but not in a calibration, or what cancels the phase error (R101, R117). -/
def Booking.trimOf (b : Booking) (m : LeadMeasure) : Int :=
  let pinned := match b.kind with
    | .aerialCal _ _ _ => false
    | _ => aeTrimPinned b.copied m.channel
  if pinned then aeTrimPin b.copied m.channel else clamp32 (-m.phaseError)

/-- A trim is applied; DETUNED when it is far from TRIM_STORED or at its limit (R101). -/
def Channel.tune (stored t : Int) (c : Channel) : Channel :=
  { c with trim := t, status := if 8 < (t - stored).natAbs || t.natAbs == 32 then c.status ||| 4#8 else c.status }

/-- The gain of a receiver for a booking: the one the booking holds, or another running booking; else the one it chooses (R98;
log entry 66). -/
def State.gainFor (s : State) (b : Booking) (m : LeadMeasure) : Nat :=
  match b.gainOf m.channel, s.field.bookings.findSome? fun x => if x.phase = .booked then none else x.gainOf m.channel with
  | some g, _ => g
  | none, some g => g
  | none, none => chosenGain b.copied m.inputPermille

/-- Gain and, for a channel that is driven, trim of one channel in a lead or settle (R98, R101, R108). -/
def State.settleChannel (b : Booking) (s : State) (m : LeadMeasure) : State :=
  let n := m.channel
  let g := s.gainFor b m
  let driven := (b.drive.any fun d => d.1 == n) && (s.field.ch.getD n {}).driven
  let bad := senseBad g (1000 ≤ m.inputPermille * 4 ^ g) (m.inputPermille * 4 ^ g) (s.field.ch.getD n {}).current
  let f : Channel → Channel := fun c =>
    let c1 := Channel.sense bad { c with gain := g }
    if driven && !b.settled then c1.tune (aeTrimStored b.copied n) (b.trimOf m) else c1
  (s.onChannel n f).onCurrent b.engine fun y => { y with
    gains := if (y.gainOf n).isSome then y.gains else y.gains ++ [(n, g)]
    failed := if bad && y.kind.measures then y.failed ++ [n] else y.failed }

/-- Receivers that settle: in service, and in a calibration every enabled one (R97, R117). -/
def State.settling (s : State) (b : Booking) (n : Nat) : Bool :=
  match b.kind with
  | .aerialCal _ _ _ => n < 16 && aeEnabled b.copied n
  | _ => s.liveIn b.copied n

/-- GAIN_AND_TRIM_SET (R98, R101, R104). -/
def execGainAndTrimSet (engine : Nat) (m : List LeadMeasure) (s : State) : Host.Outcome State Fault Refusal :=
  .next (match s.current engine with
    | none => s
    | some b =>
      if !b.settles s.tick then s
      else
        let s1 := ((m.filter fun x => s.settling b x.channel).foldl (State.settleChannel b) s).onCurrent engine fun y =>
          { y with settled := true }
        let held := b.drive.any fun d => (s1.field.ch.getD d.1 {}).driven && (s1.field.ch.getD d.1 {}).trim.natAbs == 32
        { s1 with power := { s1.power with newClamp := s1.power.newClamp || held } })

/-- The amplitude loop may adjust: the lead, and carrier outside reply windows; a measurement only while it settles (Table
04.8, R115). -/
def Booking.adjusts (tick : Nat) (b : Booking) : Bool :=
  b.phase != .booked && if b.kind.measures then b.settles tick else
    match b.await with
    | .nothing | .lookup | .verdict => true
    | _ => false

/-- A driven channel takes the target that a scale s_s gives; with 0 its bridge is off and it carries nothing (R102, R104). -/
def Channel.scaled (base ss : Nat) (c : Channel) : Channel :=
  if c.driven then { c with target := base * ss, current := if ss = 0 then 0 else c.current } else c

/-- Bookings that meet a test take s_s, and their channels the targets it gives (R102, R103). -/
def State.rescale (s : State) (ss : Nat) (p : Booking → Bool) : State :=
  let bs := s.field.bookings.filter p
  let s1 := bs.foldl (fun s b => b.base.foldl (fun s x => s.onChannel x.1 (Channel.scaled x.2 ss)) s) s
  s1.onBookings p fun b => { b with ss := ss }

/-! ### Temperature -/

/-- Thermal ceiling in microwatts at a die temperature in thousandths of a degree, below 170 °C (R105). -/
def thermalAt (t : Int) : Nat :=
  if t ≤ 161000 then 3000000 else if t ≤ 165000 then 3000000 - 675 * (t - 161000).toNat else 300000

/-- The thermal ceiling of a tick; at 170 °C every bridge is off until the die is below 165 °C (R105). DESIGN CHOICE (log
entry 75): the ceiling then is the function of the temperature at once, which is more than the 0.3 W that the same rule says
it returns to. -/
def State.thermal (t : Int) (s : State) : State :=
  let off := Decidable.decide ((170000 : Int) ≤ t) || (s.power.thermalOff && Decidable.decide ((165000 : Int) ≤ t))
  let s1 := if off then s.rescale 0 fun b => b.phase != .booked else s
  { s1 with
    power := { s1.power with
      thermalOff := off, thermalCeiling := if off then 0 else thermalAt t
      newClamp := s1.power.newClamp || (off && s.field.bookings.any fun b => b.phase != .booked) }
    field := { s1.field with scale := if off then 0 else s1.field.scale } }

/-- A measured channel: its current and angle, and CLAMPED at the largest angle more than 3 % below target (R99). -/
def Channel.measure (m : LoopMeasure) (c : Channel) : Channel :=
  let low := m.angle == 128 && 100 * (m.current * 2 ^ 24) < 97 * c.target
  { c with current := m.current, angle := m.angle, status := if low then c.status ||| 1#8 else c.status }

/-- The loop may adjust a channel: it is driven by a booking that is at a loop point (R103, R115). -/
def State.adjustable (s : State) (n : Nat) : Bool :=
  s.field.bookings.any fun b => b.adjusts s.tick && b.drive.any fun d => d.1 == n

/-- What the last carrier cycle shows of a driven channel: the current, at any time; the angle only where the loop may adjust it
(R99, R102). -/
def State.loopMeasure (s : State) (x : LoopMeasure) : State :=
  let c := s.field.ch.getD x.channel {}
  if !c.driven || c.target == 0 then s
  else s.onChannel x.channel fun c => if s.adjustable x.channel then c.measure x else { c with current := x.current }

/-- AMPLITUDE_LOOP_UPDATE (R99, R102 to R104). -/
def execAmplitudeLoopUpdate (m : List LoopMeasure) (s : State) : Host.Outcome State Fault Refusal :=
  let adj := s.field.bookings.filter (Booking.adjusts s.tick)
  let mine := m.filter fun x => (s.field.ch.getD x.channel {}).driven && s.adjustable x.channel
  let s1 := m.foldl State.loopMeasure s
  let ss := s1.supplyScale
  let s2 := (State.rescale { s1 with field := { s1.field with scale := ss } } ss (Booking.adjusts s.tick))
  let clamped := mine.any fun x => (s2.field.ch.getD x.channel {}).status.getLsbD 0
  .next (if !s.awake then s
    else { s2 with power := { s2.power with newClamp := s2.power.newClamp || clamped || decide (ss < 256 && adj != []) } })

/-! ### Aerial faults -/

/-- Every aerial of a booking's zone, as copied at the lead, is out of service (R90, R110). -/
def State.bookingDead (s : State) (b : Booking) : Bool := (bitsIn 16 (zoneAerials b.copied b.zone)).all s.oos

/-- Walks and reader exchanges of a zone that has lost its last aerial end, at the commit phase of the following tick (R110). -/
def State.endDeadZones (s : State) : State :=
  (List.range 4).foldl (fun s e =>
    match s.current e with
    | some b =>
      if !b.kind.measures && s.bookingDead b then
        (s.endWith e 6).onCurrent e fun b => { b with endFrom := max b.endFrom (s.tick + 1) }
      else s
    | none => s) s

/-- A channel takes a fault bit, goes out of service and to its off state (R108, R109). -/
def Channel.fail (fault : Byte) (c : Channel) : Channel := { c.off with status := c.status ||| 0x80#8 ||| fault }

/-- A channel goes out of service with a fault bit: off state, and the AERIAL_FAULT record unless it was out already, as it can
be in a calibration, which it then does not pass (R109, R111, Table 12.7). -/
def State.channelOut (s : State) (n : Nat) (fault : Byte) (engine : Nat) : State :=
  let s1 := (s.onChannel n (Channel.fail fault)).onCurrent engine fun b =>
    { b with failed := if b.kind.measures then b.failed ++ [n] else b.failed }
  if s.oos n then s1
  else (s1.note 0x20 (leN 1 n ++ [(s1.field.ch.getD n {}).status] ++ leN 1 engine)).endDeadZones

/-- OPEN_AERIAL_DETECT: at the end of a lead or of a calibration settle (R108). -/
def execOpenAerialDetect (engine channel current : Nat) (s : State) : Host.Outcome State Fault Refusal :=
  .next (match s.current engine with
    | none => s
    | some b =>
      let c := s.field.ch.getD channel {}
      let due := b.phase == .lead || match b.kind with
        | .aerialCal _ _ _ => b.settles s.tick
        | _ => false
      if due && c.driven && (b.drive.any fun d => d.1 == channel) && c.angle == 128 && 4 * (current * 2 ^ 24) < c.target then
        s.channelOut channel 0x40 engine
      else s)

/-- Fault bit of a short (Table 04.10). -/
def shortBit : ShortKind → Byte
  | .gnd => 0x20
  | .supply => 0x10
  | .bridge => 0x08

/-- AERIAL_OVERCURRENT: the third trip of a channel within its booking puts it out of service (R108). -/
def execAerialOvercurrent (engine channel : Nat) (k : ShortKind) (s : State) : Host.Outcome State Fault Refusal :=
  .next (match s.current engine with
    | none => s
    | some b =>
      let c := s.field.ch.getD channel {}
      let sounds := b.isExchange && !b.noSound && b.aerials.contains channel
      if (c.driven && b.drive.any fun d => d.1 == channel) || sounds then
        let s1 := s.onChannel channel fun c => { c with trips := c.trips + 1 }
        if 2 ≤ c.trips then s1.channelOut channel (shortBit k) engine else s1
      else s)

/-! ### Engine faults -/

/-- A booking that cannot begin any more ends as a running one would, at the commit phase of the following tick (R371,
R378). -/
def Booking.fail (tick : Nat) (b : Booking) : Booking := { b with endCode := some 6, again := true, endFrom := tick + 1 }

/-- Bookings of a lost engine go to the lowest-numbered free one, or end (R378). -/
def State.reassign (s : State) (id : Nat) : State :=
  match s.field.bookings.find? fun b => b.id == id with
  | none => s
  | some b =>
    match s.freeEngine b.first b.closing with
    | some e => s.onBookings (fun x => x.id == id) fun x => { x with engine := e }
    | none => s.onBookings (fun x => x.id == id) (Booking.fail s.tick)

/-- A link engine goes out of service (R378). -/
def State.engineOut (s : State) (engine : Nat) : State :=
  if 3 < engine || s.field.enginesOut.getLsbD engine then s
  else
      let ids := (s.field.bookings.filter fun b => b.engine == engine && b.phase == .booked).map Booking.id
      let zone := ((s.current engine).map Booking.zone).getD 0xFF
      let s1 : State := { s.note 0x73 (leN 1 engine ++ leN 1 zone ++ zeros 2 ++ leN 8 s.tick) with
        field := { s.field with enginesOut := s.field.enginesOut ||| (1#4 <<< engine) } }
      let s2 := match s.current engine with
        | some b => ((s1.endAgain engine).undrive b).onCurrent engine fun x => { x with endFrom := s.tick + 1 }
        | none => s1
      ids.foldl State.reassign s2

/-- LINK_ENGINE_FAULT (R378). -/
def execLinkEngineFault (engine : Nat) (s : State) : Host.Outcome State Fault Refusal :=
  .next (if s.awake then s.engineOut engine else s)

end Sys2Proof.Machine
end

