-- ==== Sys2Proof/Machine/HostPort.lean ====
section
/-! DEFINITION. SPI transactions of the host ports (R54 to R64, R67, R79, R80) and the reset of an SPI side
(R61, R398 to R400). -/

namespace Sys2Proof.Machine

open Sys2Proof

/-- What the device shifts out in a transaction of `clocked` bytes: the port status byte, then `body`, then zeros
(R55, R56). An SPI side in reset drives nothing (R400). -/
def Port.shift (body : Bytes) (clocked : Nat) (q : Port) : Port :=
  { q with sdo := if q.spiReset then [] else padTo clocked (q.statusByte :: body) }

/-- The verdict on a written frame (R57, R60, Table 03.8). -/
inductive FrameCheck where
  | good (frame : Bytes)
  | short
  | badCrc
  | badLength
deriving DecidableEq, Repr

/-- Check a frame from its marker on: complete, CRC correct, ARG_LEN at most 240 (R57, R59, R60). -/
def checkFrame (f : Bytes) : FrameCheck :=
  let n := oct f 5
  if f.length < 6 || f.length < 10 + n then .short
  else if Crypto.crc32cBytes (f.take (6 + n)) != slice f (6 + n) 4 then .badCrc
  else if 240 < n then .badLength
  else .good (f.take (10 + n))

/-- A discarded frame waits for the next latch phase (R34, R392). -/
def Port.hold (bit : Nat) (notices : List Staged) (q : Port) : Port :=
  { q with held := q.held ++ [{ bit := bit, notices := notices }] }

/-- Place a written frame in the frame buffer, or discard it (R60, R67, Table 03.8). -/
def Port.acceptFrame (f : Bytes) (q : Port) : Port :=
  match checkFrame f, q.arrival with
  | _, .notReady => q
  | .short, _ => q.hold 12 []
  | .badCrc, _ => q.hold 12 [crcNotice (num f 2 2) (oct f 4) 1]
  | .badLength, _ => q.hold 12 [crcNotice (num f 2 2) (oct f 4) 2]
  | .good _, .overrun => q.hold 11 []
  | .good g, .latched => { q.takeCredit with frames := q.frames ++ [g] }

/-- CLAUSE_WRITE: `mosi` are the bytes after the clause marker 0xC1 (R55, R57, R60). -/
def execClauseWrite (p : PortId) (mosi : Bytes) (s : State) : Host.Outcome State Fault Refusal :=
  .next (s.onPort p fun q => (q.shift [] (1 + mosi.length)).acceptFrame (0xC1#8 :: mosi))

/-- A session that has been replaced or has ended is erased once every reply sealed under it has been read (R77). -/
def Port.dropOldSessions (q : Port) : Port :=
  { q with oldSessions := q.oldSessions.filter fun se => q.outstanding.any fun o => o.sess == some se.id }

/-- The clause a read reply answers is no longer outstanding; an admitted one returns its credit (R62, R63). -/
def Port.settle (f : Stored) (q : Port) : Port :=
  match f.clause with
  | none => q
  | some seq =>
    ({ q with
        outstanding := q.outstanding.eraseP fun o => o.seq == seq && o.answered && o.order == f.order
        credits := if f.admitted then q.credits + 1 else q.credits }).dropOldSessions

/-- The next reply in the order of R64: SPORE_NEEDED notices first, oldest first, then all others. -/
def Port.nextReply (q : Port) : Option Bytes :=
  match q.spores, q.general with
  | n :: _, _ => some n.bytes
  | [], f :: _ => some f.bytes
  | [], [] => none

/-- Consume the next reply (R63). -/
def Port.consume (q : Port) : Port :=
  match q.spores, q.general with
  | n :: r, _ => { q with spores := r, lastRead := n.bytes }
  | [], f :: r => Port.settle f { q with general := r, lastRead := f.bytes }
  | [], [] => q

/-- REPLY_READ of `clocked` bytes, the status byte included: delivers the next reply, and consumes it only when all its
bytes were clocked (R63). -/
def execReplyRead (p : PortId) (clocked : Nat) (s : State) : Host.Outcome State Fault Refusal :=
  .next (s.onPort p fun q =>
    if q.spiReset then q
    else
      match q.nextReply with
      | none => q.shift [] clocked
      | some b => if 1 + b.length ≤ clocked then (q.shift b clocked).consume else q.shift b clocked)

/-- REPLY_REREAD: the last consumed reply again, in full; nothing is consumed (R63). -/
def execReplyReread (p : PortId) (clocked : Nat) (s : State) : Host.Outcome State Fault Refusal :=
  .next (s.onPort p fun q => q.shift q.lastRead clocked)

/-- The 8 bytes of a cause read (R79). -/
def Port.causeBytes (q : Port) : Bytes :=
  let b := leN 2 q.cause.toNat ++ leN 1 q.discards ++ leN 1 q.lost
  b ++ Crypto.crc32cBytes b

/-- CAUSE_READ: clocked in full, the event bits returned and both counts are cleared at the next commit phase (R79,
R80). -/
def execCauseRead (p : PortId) (clocked : Nat) (s : State) : Host.Outcome State Fault Refusal :=
  .next (s.onPort p fun q =>
    { q.shift q.causeBytes clocked with
      clearing := if q.spiReset || clocked < 9 then q.clearing
        else some (q.clearing.getD 0 ||| (q.cause &&& 0xFF80#16)) })

/-- UNKNOWN_TRANSACTION: ignored; the status byte, then zeros (R55). -/
def execUnknownTransaction (p : PortId) (_first : Byte) (clocked : Nat) (s : State) : Host.Outcome State Fault Refusal :=
  .next (s.onPort p (Port.shift [] clocked))

/-- The SPI side of a port resets: a frame being shifted in is discarded and counted at the next latch phase, its
transaction ends, read latches and write buffers are reset (R61, R245, R400). DESIGN CHOICE (log entry 74): a frame cut while
READY is 0 is counted too; Table 03.8 has a row for either condition and the spec does not say which holds. -/
def Port.spiSideReset (inFrame : Bool) (q : Port) : Port :=
  { q with
    spiReset := true, vioLow := true, cutFrames := q.cutFrames + b2n (inFrame && !q.spiReset)
    latches := [], wbuf := [], sdo := [] }

/-- SPI_SIDE_RESET: while the lanes run they flush their half of the crossing, which CROSSING_FLUSHED reports at the
next commit phase (R398 to R400). -/
def execSpiSideReset (p : PortId) (inFrame : Bool) (s : State) : Host.Outcome State Fault Refusal :=
  .next { s.onPort p (Port.spiSideReset inFrame) with
    power := { s.power with newFlush := s.power.newFlush || s.awake } }

/-- A crossing to a host port is closed by a system reset; it opens in stage 7 of the boot (R401, R407). -/
def State.crossingsClosed (s : State) : Bool :=
  s.power.readyDue.isSome || match s.power.life with
    | .starting | .bootStopped | .unpowered => true
    | .awake | .sleepPending | .asleep => false

/-- CROSSING_REOPEN: VIO is back, the reset level falls and the lane side sends its values again (R398); the flush is already
noted by the reset (R399). A crossing that a system reset has closed opens at READY (R401). -/
def execCrossingReopen (p : PortId) (s : State) : Host.Outcome State Fault Refusal :=
  .next (s.onPort p fun q => { q with vioLow := false, spiReset := q.spiReset && s.crossingsClosed })

/-- VIO is too low for the pins that it supplies (R400, Table 18.6). -/
def State.vioLow (s : State) : Bool := s.portA.vioLow || s.portB.vioLow

/-- RLS_A and RLS_B run; otherwise both pins are low: the cell is LOCKED, or VIO is below 2.75 V (R201, R208, Table 18.6). -/
def State.rlsRuns (s : State) : Bool := s.cell.living && !s.vioLow

/-- A port opens: READY, 8 credits (R60, R401, R407). A crossing whose SPI side VIO still holds in reset stays closed (R400). -/
def Port.open_ (q : Port) : Port :=
  { q with ready := true, credits := 8, spiReset := q.vioLow, statusByte := Port.status { q with ready := true, credits := 8 } }

/-- The end of stage 7: READY sets on both ports (R407, R410). -/
def State.readySets (s : State) : State :=
  let s1 := s.onPorts Port.open_
  { s1 with power := { s1.power with crozier := if s.tamper.hold then 4 else 7, readyDue := none, firstCommit := true } }

/-- READY sets at the commit phase that ends stage 7. -/
def State.readyIfDue (s : State) : State := if s.power.readyDue.any fun t => t ≤ s.tick then s.readySets else s

end Sys2Proof.Machine
end

