-- ==== Sys2Proof/Machine/Reset.lean ====
section
/-! DEFINITION. The system reset (R405): what every domain but MOSS and the NVM loses. -/

namespace Sys2Proof.Machine

open Sys2Proof

/-- The field port runs on its own domain through a reset of the lanes; only what the lanes hold of it is lost. -/
def FieldPort.laneReset (f : FieldPort) : FieldPort := { f with held := [], work := [], locks := [] }

/-- The motion unit stops: everything but the stored odometer and what the moss domain holds is lost (R220, R222). DESIGN
CHOICE (log entry 87): after the next boot the odometer counts its primary, whose LOSS flag is clear, and no SOURCE_SWITCH
record is made; the spec does not say which source it counts when it stopped on the secondary. -/
def Motion.stop (m : Motion) : Motion :=
  { m with state := .settling, src := List.replicate 8 {}, odoM := m.storedM, odoR := m.storedR, onSecondary := false,
           secondarySince := 0, lastEval := 0, lastEdgeTick := 0 }

/-- A record that a wake makes: an episode, or the ODOMETER record of reason WAKE (R224, Table 08.8). -/
def Waiting.ofWake (w : Waiting) : Bool := w.typ == 0x35 || (w.typ == 0x36 && w.body.head? == some 0x03#8)

/-- The stages, endorsements and staged atlas are discarded (R337, R346). -/
def State.dropStages (s : State) : State :=
  { s with
    cfg := { s.cfg with stage := none }
    thal := { s.thal with stage := none }
    prot := { s.prot with endorsed := [], window := none, atlasBegun := false, atlasLoaded := [] } }

/-- The LF side forgets everything but the last qualified input levels, which the moss domain holds (R195), and the channels'
faults, which bound the ping (R198). DESIGN CHOICE (log entry 95): the end of an entry's last poll is forgotten too, so that
no HOLDOFF runs on through a sleep or a system reset; the spec names only the levels. -/
def Field.stop (f : Field) : Field :=
  { ({} : Field) with
    ch := f.ch.map fun c => { status := c.status }
    ign := { f.ign with seen := 0 }, start := { f.start with seen := 0 }
    doors := f.doors.map fun d => { d with seen := 0 }
    wakePin := { f.wakePin with seen := 0 } }

/-- Keys, staging, sessions and contexts of a reset or wake (R77, R277, R297). -/
def KeyStore.stop (k : KeyStore) : KeyStore := { k.clearCache with work := [] }

/-- A port at a reset or at sleep entry: its session ends, which SESSION_ENDED reports at its next commit phase (R77). Its SPI
side stays in reset where it is (R400). -/
def Port.stop (q : Port) : Port :=
  { spiReset := q.spiReset, vioLow := q.vioLow, newEvents := (q.newEvents &&& 0x4000#16) ||| bitAt 14 q.session.isSome }

/-- A system reset resets the SPI side; its crossing is closed until stage 7 of the boot (R400, R401). -/
def Port.close (q : Port) : Port := { q with spiReset := true }

/-- The lanes, CRYPTO, LF and MOTION stop, by a reset or at sleep entry (R405, R416). The moss domain keeps the release
cell, the tamper latch, the lost-lane flag, the tick and the sleep counters; the NVM keeps its regions. -/
def State.lanesStop (s : State) : State :=
  { s.dropStages with
    portA := s.portA.stop
    portB := s.portB.stop
    ledger := []
    lanes := { causeA := s.lanes.causeA, causeB := s.lanes.causeB }
    power := { s.power with
      crozier := 0, readyDue := none, servicesTick := none, firstCommit := false, crossingFlushed := false
      loopClamped := false, faultsPublished := 0, newFlush := false, newClamp := false, resetDue := none
      batteryCritical := false, thermalCeiling := 3000000, thermalOff := false }
    prot := { s.dropStages.prot with atlasBad := false, oldTables := [] }
    ses := {}
    cell := { s.cell with recovery := false, recoveryDue := false }
    acts := []
    latched := []
    work := []
    drawn := []
    tamper := { s.tamper with queued := 0 }
    motion := { s.motion.stop with owed := (s.log.waiting.filter Waiting.ofWake).length }
    win := {}
    fp := s.fp.laneReset
    ks := s.ks.stop
    cipher := {}
    log := { s.log with waiting := [], seals := [], appended := 4 }
    rng := {}
    field := s.field.stop }

/-- The pins of the field port in reset: the responder idle, HARV low (R422). DEDUCED (log entry 102): the domain itself runs
on and answers again at once (R250, Table 17.4). -/
def FieldPort.pinReset (f : FieldPort) : FieldPort :=
  { f with harv := false, harvLeft := 0, state := .listen, idleLimit := 256, reply := [] }

/-- A system reset with the cause that the next boot records (R405, R411). -/
def State.systemReset (cause : Nat) (s : State) : State :=
  let s1 := s.lanesStop.onPorts Port.close
  { s1 with power := { s1.power with life := .starting, nextCause := cause }, fp := s1.fp.pinReset }

/-- A key is zeroised everywhere: cache, staging, sessions, contexts and DRBG state (Table 14.9, ZEROISE). -/
def State.zeroiseKeys (s : State) : State :=
  let q : Port → Port := fun q => { q with
    session := none, oldSessions := [], ctx0 := none, ctx1 := none
    newEvents := q.newEvents ||| bitAt 14 q.session.isSome }
  { s with portA := q s.portA, portB := q s.portB, ks := s.ks.clearCache, rng := {} }

end Sys2Proof.Machine
end

