-- ==== Sys2Proof/Machine/Banks.lean ====
section
/-! DEFINITION. Configuration and thallus banks: staging, commits, reads, the lichen and its window, personalisation,
bank repair and patrol, ATLAS_LOAD (R189, R190, R331 to R350, R362). -/

namespace Sys2Proof.Machine

open Sys2Proof

/-! ### Stages -/

/-- The configuration stage, a copy of the current bank when none exists (R337). -/
def State.cfgStage (s : State) : Mem := s.cfg.stage.getD s.cfg.cur

/-- Replace the configuration stage. -/
def State.setCfgStage (s : State) (m : Mem) : State := { s with cfg := { s.cfg with stage := some m } }

/-- Write into the configuration stage, created first when none exists (R337). -/
def State.stageCfg (s : State) (off : Nat) (b : Bytes) : State := s.setCfgStage (s.cfgStage.writeBytes off b)

/-- No BEGIN of ATLAS_LOAD is staged. -/
def State.dropAtlas (s : State) : State := { s with prot := { s.prot with atlasBegun := false, atlasLoaded := [] } }

/-- Arguments of a stage operation after OP: reserved (1), OFFSET (2), then DATA for WRITE; `hi` is one past the last
byte a WRITE may reach (R337, Table 14.3). -/
def stageBad (hi : Nat) (write : Bool) (args : Bytes) : Bool :=
  args.length < 3 || !zero args 0 1 ||
    (if write then args.length == 3 || num args 1 2 < 0x40 || hi < num args 1 2 + (args.length - 3) else args.length != 3)

/-- OFFSET, LEN, reserved: results of a stage operation (Table 14.3). -/
def stageResults (args : Bytes) : Bytes := slice args 1 2 ++ leN 1 (args.length - 3) ++ zeros 1

/-- CONFIG_STAGE BEGIN (R337). -/
def configStageBeginWork (args : Bytes) : Work where
  need := fixedNeed 0x10
  check := fun _ _ => { arg := stageBad 0x9E8 false args }
  run := fun tk s => ((s.setCfgStage s.cfg.cur).dropAtlas).done tk (stageResults args)

/-- CONFIG_STAGE_BEGIN. -/
def execConfigStageBegin (h : Hdr) (args : Bytes) (s : State) : Host.Outcome State Fault Refusal :=
  .next (command 0x10 h (0x00#8 :: args) (configStageBeginWork args) s)

/-- CONFIG_STAGE WRITE (R337). -/
def configStageWriteWork (args : Bytes) : Work where
  need := fixedNeed 0x10
  check := fun _ _ => { arg := stageBad 0x9E8 true args }
  run := fun tk s => (s.stageCfg (num args 1 2) (args.drop 3)).done tk (stageResults args)

/-- CONFIG_STAGE_WRITE. -/
def execConfigStageWrite (h : Hdr) (args : Bytes) (s : State) : Host.Outcome State Fault Refusal :=
  .next (command 0x10 h (0x01#8 :: args) (configStageWriteWork args) s)

/-- CONFIG_STAGE DISCARD (R337). -/
def configStageDiscardWork (args : Bytes) : Work where
  need := fixedNeed 0x10
  check := fun _ _ => { arg := stageBad 0x9E8 false args }
  run := fun tk s => (State.dropAtlas { s with cfg := { s.cfg with stage := none } }).done tk (stageResults args)

/-- CONFIG_STAGE_DISCARD. -/
def execConfigStageDiscard (h : Hdr) (args : Bytes) (s : State) : Host.Outcome State Fault Refusal :=
  .next (command 0x10 h (0x02#8 :: args) (configStageDiscardWork args) s)

/-! ### Commits -/

/-- The header of a bank (Table 14.1). -/
def bankHeader (magic : String) (seq tick : Nat) (digest : Bytes) : Bytes :=
  let b := Crypto.ascii magic ++ leN 1 1 ++ zeros 3 ++ leN 4 seq ++ leN 8 tick ++ digest ++ zeros 8
  b ++ Crypto.crc32cBytes b

/-- BODY_DIGEST of an image of `size` bytes (R331). -/
def bodyDigest (m : Mem) (size : Nat) : Bytes := Crypto.sha256 (m.readBytes 0x40 (size - 0x40))

/-- A bank as a commit programs it (R333). -/
def newBank (magic : String) (size seq tick : Nat) (m : Mem) : Bank :=
  let d := bodyDigest m size
  { cond := .valid, seq := seq, tick := tick, digest := d, img := m.writeBytes 0 (bankHeader magic seq tick d) }

/-- A torn bank: its header was made invalid first (R333). -/
def Bank.torn (b : Bank) : Bank := { b with cond := .badHeader, img := b.img.clear 0 0x40, noted := false }

/-- MAGIC and size of a kind of bank (R331, Table 01.4). -/
def bankMagic : BankKind → String
  | .configuration => "OCFG"
  | .thallus => "OTHL"
def kindSize : BankKind → Nat
  | .configuration => 65536
  | .thallus => 8192

/-- The condition of an image: MAGIC, FORMAT and HEADER_CRC, BODY_DIGEST, and for the thallus SEQ against the high-water
(R331, R332). -/
def imageCond (k : BankKind) (hw : Nat) (m : Mem) : BankCond :=
  if m.readBytes 0 4 != Crypto.ascii (bankMagic k) || m.num 4 1 != 1 ||
      m.readBytes 60 4 != Crypto.crc32cBytes (m.readBytes 0 60) then .badHeader
  else if bodyDigest m (kindSize k) != m.readBytes 20 32 then .badDigest
  else if k == .thallus && serialNewer 32 hw (m.num 8 4) then .belowHighWater
  else .valid

/-- A bank is read and tested after bytes of it have changed (R331, R332). -/
def Bank.tested (k : BankKind) (hw : Nat) (damage : List (Nat × Byte)) (b : Bank) : Bank :=
  let m := damage.foldl (fun m c => if c.1 < kindSize k then m.write c.1 c.2 else m) b.img
  let c := imageCond k hw m
  { cond := c, seq := m.num 8 4, tick := m.num 12 8, digest := m.readBytes 20 32, img := m, noted := b.noted && c == b.cond }

/-- A commit writes the bank whose index is bit 0 of the new SEQ first, then the other (R333). -/
def Banks.write (b : Banks) (nb : Bank) (o : BankOutcome) : Banks :=
  let first0 := nb.seq % 2 = 0
  let other := if first0 then b.bank1 else b.bank0
  let pair : Bank × Bank := match o with
    | .ok => (nb, nb)
    | .firstFails => if first0 then (b.bank0, b.bank1) else (b.bank1, b.bank0)
    | .secondFails => (nb, other.torn)
    | .lostInFirst => ((if first0 then b.bank0 else b.bank1).torn, other)
    | .lostInSecond => (nb, other.torn)
  { b with bank0 := if first0 then pair.1 else pair.2, bank1 := if first0 then pair.2 else pair.1 }

/-- The new bank comes into force and the stage is consumed (R333, R337, R346). -/
def Banks.adopt (b : Banks) (nb : Bank) : Banks :=
  { b with cur := nb.img, seq := nb.seq, tick := nb.tick, digest := nb.digest, current := true, stage := none }

/-- The next SEQ of a kind (R333). -/
def Banks.nextSeq (b : Banks) : Nat := (b.seq + 1) % 2 ^ 32

/-- The staged atlas fails ATLAS_DIGEST (R189). -/
def atlasMismatch (t c : Mem) : Bool := !t.zeroAt 0x68 32 && Crypto.sha256 (atlasImage c) != atlasDigest t

/-- R189, R338: the staged configuration may be installed. -/
def State.cfgStageBad (s : State) (m : Mem) : Bool :=
  !configOk m || (s.prot.atlasBegun && s.prot.atlasLoaded.length < atlasCount m)

/-- EXPECT_SEQ and 4 reserved bytes (Table 14.3). -/
def commitArgsBad (args : Bytes) : Bool := args.length != 8 || !zero args 4 4

/-- Bookings placed so far keep to the tables they were placed under (R96). -/
def State.keepOldTables (s : State) (m : Mem) : State :=
  let changed := s.cfg.cur.readBytes 0x940 72 != m.readBytes 0x940 72
  { s with prot := { s.prot with oldTables :=
      if changed && s.field.bookings != [] then
        s.prot.oldTables ++ [(s.cfg.cur.readBytes 0x980 8, isoThresh s.cfg.cur, s.orderNo)]
      else s.prot.oldTables } }

/-- The commit phase of CONFIG_COMMIT (R35, R333, R338): the banks are programmed and the new one comes into force. `nvm` is
how programming goes; a loss of supply in it is a brown-out reset. -/
def State.applyConfig (s : State) (tk : Ticket) (img : Mem) (nvm : BankOutcome) : State :=
  let nb := newBank "OCFG" 65536 s.cfg.nextSeq s.tick img
  let s1 : State := { s with cfg := s.cfg.write nb nvm }
  match nvm with
  | .firstFails => s1.amend tk 0x33 []
  | .lostInFirst | .lostInSecond => s1.systemReset 2
  | .ok | .secondFails =>
    let s2 : State := { (s1.keepOldTables nb.img).dropAtlas with cfg := s1.cfg.adopt nb }
    (State.recordReply { s2 with prot := { s2.prot with atlasBad := atlasMismatch s2.thal.cur nb.img } } tk 0x60
      (leN 4 nb.seq ++ leN 1 (portCode tk.port) ++ zeros 3 ++ nb.digest.take 24)).amend tk 0
      (leN 4 nb.seq ++ zeros 4 ++ nb.digest)

/-- What a CONFIG_COMMIT takes with it: how programming goes, and the stage of its admission (R338). -/
def State.cfgSupplied (nvm : BankOutcome) (s : State) : Supplied := .staged nvm s.cfgStage []

/-- CONFIG_COMMIT (R338); its effects follow at its commit phase. The stage it commits is that of its admission: a clause that
waits has it in `held`. -/
def configCommitWork (args : Bytes) (nvm : BankOutcome) (held : Option (Mem × List Nat) := none) : Work := Work.hashed {
  need := fixedNeed 0x11
  check := fun _ s =>
    match s.cfg.stage with
    | none => { arg := commitArgsBad args, state := true }
    | some m =>
      { arg := commitArgsBad args || s.cfgStageBad m
        auth := atlasMismatch s.thal.cur m
        state := num args 0 4 != s.cfg.seq || s.verbUnpublished 0x11 }
  run := fun tk s => 
    (s.push (.config tk ((held.map Prod.fst).getD s.cfgStage) nvm)).done tk [] }

/-- CONFIG_COMMIT. -/
def execConfigCommit (h : Hdr) (args : Bytes) (nvm : BankOutcome) (s : State) : Host.Outcome State Fault Refusal :=
  .next (command 0x11 h args (configCommitWork args nvm) s (s.cfgSupplied nvm))

/-! ### CONFIG_READ -/

/-- Bytes of a bank or stage. While no bank of the kind is valid there is no header, and its bytes are open
(log entry 12). -/
def State.bankBytes (s : State) (b : Banks) (m : Mem) (off len : Nat) : Bytes :=
  let hd := Config.freeBytes 2 s.freeCtr 64
  (List.range len).map fun i => if !b.current && off + i < 64 then hd.getD (off + i) 0#8 else m.read (off + i)

/-- The bank kind, image and SEQ that SELECT names; the image is none for an absent stage (Table 14.3). -/
def State.selectBank (s : State) (sel : Nat) : Banks × Option Mem × Nat :=
  match sel with
  | 0 => (s.cfg, some s.cfg.cur, s.cfg.seq)
  | 1 => (s.cfg, s.cfg.stage, 0)
  | 2 => (s.thal, some s.thal.cur, s.thal.seq)
  | _ => (s.thal, s.thal.stage, 0)

/-- Size of the bank that SELECT names (Table 01.4). -/
def bankSize (sel : Nat) : Nat := if sel ≤ 1 then 65536 else 8192

/-- CONFIG_READ (R339). -/
def configReadWork (args : Bytes) : Work where
  need := fixedNeed 0x12
  check := fun _ s =>
    let len := oct args 4
    { arg := args.length != 8 || 3 < oct args 0 || !zero args 1 1 || !zero args 5 3 || !inRange 1 200 len ||
        bankSize (oct args 0) < num args 2 2 + len
      state := (s.selectBank (oct args 0)).2.1.isNone }
  run := fun tk s =>
    let b := s.selectBank (oct args 0)
    let len := oct args 4
    s.drew.done tk (leN 4 b.2.2 ++ slice args 2 2 ++ leN 1 len ++ zeros 1 ++
      s.bankBytes b.1 (b.2.1.getD []) (num args 2 2) len)

/-- CONFIG_READ. -/
def execConfigRead (h : Hdr) (args : Bytes) (s : State) : Host.Outcome State Fault Refusal :=
  .next (command 0x12 h args (configReadWork args) s)

/-! ### ATLAS_LOAD -/

/-- LOADED and COUNT (R190). -/
def State.atlasResults (s : State) : Bytes := leN 2 s.prot.atlasLoaded.length ++ leN 2 (atlasCount s.cfgStage)

/-- ATLAS_LOAD BEGIN: a new header; staged points are discarded (R190). Arguments after OP: FIRST, N, reserved,
header. -/
def atlasLoadBeginWork (args : Bytes) : Work where
  need := fixedNeed 0x24
  check := fun _ _ => { arg := args.length != 35 || !zero args 0 3 || !atlasHeaderOk (args.drop 3) }
  run := fun tk s =>
    let s1 := s.setCfgStage ((s.cfgStage.clear 0x1000 0x5420).writeBytes 0x1000 (args.drop 3))
    let s2 : State := { s1 with prot := { s1.prot with atlasBegun := true, atlasLoaded := [] } }
    s2.done tk s2.atlasResults

/-- ATLAS_LOAD_BEGIN. -/
def execAtlasLoadBegin (h : Hdr) (args : Bytes) (s : State) : Host.Outcome State Fault Refusal :=
  .next (command 0x24 h (0x00#8 :: args) (atlasLoadBeginWork args) s)

/-- ATLAS_LOAD POINTS: FIRST, N, reserved and N point records; the test against COUNT needs a staged BEGIN (R190). -/
def atlasLoadPointsWork (args : Bytes) : Work where
  need := fixedNeed 0x24
  check := fun _ s =>
    let n := oct args 1
    { arg := !inRange 1 3 n || args.length != 3 + 68 * n || !zero args 2 1 ||
        !(List.range n).all (fun i => atlasPointOk (slice args (3 + 68 * i) 68)) ||
        (s.prot.atlasBegun && atlasCount s.cfgStage < oct args 0 + n)
      state := !s.prot.atlasBegun }
  run := fun tk s =>
    let ps := (List.range (oct args 1)).map (oct args 0 + ·)
    let s1 := s.stageCfg (atlasPoint (oct args 0)) (args.drop 3)
    let s2 : State := { s1 with prot := { s1.prot with
      atlasLoaded := s1.prot.atlasLoaded ++ ps.filter fun p => !s1.prot.atlasLoaded.contains p } }
    s2.done tk s2.atlasResults

/-- ATLAS_LOAD_POINTS. -/
def execAtlasLoadPoints (h : Hdr) (args : Bytes) (s : State) : Host.Outcome State Fault Refusal :=
  .next (command 0x24 h (0x01#8 :: args) (atlasLoadPointsWork args) s)

/-! ### The thallus stage -/

/-- Every stage operation discards the endorsements (R346). -/
def State.dropEndorsements (s : State) : State := { s with prot := { s.prot with endorsed := [], window := none } }

/-- DIGEST of a thallus stage: SHA-256 of staged bytes 0x0040 to 0x1FFF (Table 14.3). -/
def stageDigest (m : Mem) : Bytes := bodyDigest m 0x2000

/-- Results of THALLUS_STAGE (Table 14.3). -/
def State.thallusStageResults (s : State) (args : Bytes) (m : Mem) : Bytes :=
  stageResults args ++ leN 8 s.prot.stageTick ++ stageDigest m

/-- THALLUS_STAGE BEGIN: copies the current thallus and sets STAGE_TICK (R346). -/
def thallusStageBeginWork (args : Bytes) : Work := Work.hashed {
  need := fixedNeed 0x14
  check := fun _ _ => { arg := stageBad 0x390 false args }
  run := fun tk s =>
    let s1 : State := { s.dropEndorsements with
      thal := { s.thal with stage := some s.thal.cur }
      prot := { s.dropEndorsements.prot with stageTick := s.tick } }
    s1.done tk (s1.thallusStageResults args s.thal.cur) }

/-- THALLUS_STAGE_BEGIN. -/
def execThallusStageBegin (h : Hdr) (args : Bytes) (s : State) : Host.Outcome State Fault Refusal :=
  .next (command 0x14 h (0x00#8 :: args) (thallusStageBeginWork args) s)

/-- THALLUS_STAGE WRITE: into an existing stage (R346). -/
def thallusStageWriteWork (args : Bytes) : Work := Work.hashed {
  need := fixedNeed 0x14
  check := fun _ s => { arg := stageBad 0x390 true args, state := s.thal.stage.isNone }
  run := fun tk s =>
    let m := (s.thal.stage.getD []).writeBytes (num args 1 2) (args.drop 3)
    let s1 : State := { s.dropEndorsements with thal := { s.thal with stage := some m } }
    s1.done tk (s1.thallusStageResults args m) }

/-- THALLUS_STAGE_WRITE. -/
def execThallusStageWrite (h : Hdr) (args : Bytes) (s : State) : Host.Outcome State Fault Refusal :=
  .next (command 0x14 h (0x01#8 :: args) (thallusStageWriteWork args) s)

/-- THALLUS_STAGE DISCARD (R346). What STAGE_TICK and DIGEST read when no stage remains is open (log entry 12). -/
def thallusStageDiscardWork (args : Bytes) : Work where
  need := fixedNeed 0x14
  check := fun _ s => { arg := stageBad 0x390 false args, state := s.thal.stage.isNone }
  run := fun tk s =>
    let s1 : State := { s.dropEndorsements with thal := { s.thal with stage := none } }
    s1.drew.done tk (stageResults args ++ padTo 40 (Config.freeBytes 3 s.freeCtr 40))

/-- THALLUS_STAGE_DISCARD. -/
def execThallusStageDiscard (h : Hdr) (args : Bytes) (s : State) : Host.Outcome State Fault Refusal :=
  .next (command 0x14 h (0x02#8 :: args) (thallusStageDiscardWork args) s)

/-! ### The lichen -/

/-- Endorsements as read from a clause: an ill-formed list, one that names an empty party entry, or the list. -/
inductive Endorsements where
  | bad
  | emptyParty
  | ok (l : List (Nat × Nat × Nat))
deriving DecidableEq, Repr

/-- The parties that `n` endorsements of a given length can name; an empty entry leaves the coordinate size open (R347). -/
def endorsementParties (t : Mem) : Nat → Bytes → List (List Nat)
  | 0, b => if b = [] then [[]] else []
  | n + 1, b =>
    let p := oct b 0
    if b.length < 4 || 3 < p || !zero b 1 3 then []
    else
      let sizes := if partyClass t p = 0 then [32, 48] else if (partyKey t p).curve ≤ 2 then [32] else [48]
      sizes.flatMap fun c =>
        if b.length < 4 + 2 * c then []
        else ((endorsementParties t n (b.drop (4 + 2 * c))).filter fun l => !l.contains p).map (p :: ·)

/-- Read `n` endorsements one by one. -/
def endorsementList (t : Mem) : Nat → Bytes → Endorsements
  | 0, b => if b = [] then .ok [] else .bad
  | n + 1, b =>
    if b.length < 4 || 3 < oct b 0 || !zero b 1 3 then .bad
    else if partyClass t (oct b 0) = 0 then .emptyParty
    else
      let c := if (partyKey t (oct b 0)).curve ≤ 2 then 32 else 48
      if b.length < 4 + 2 * c then .bad
      else
        match endorsementList t n (b.drop (4 + 2 * c)) with
        | .ok l => if l.any fun e => e.1 == oct b 0 then .bad
            else .ok ((oct b 0, ofBe (slice b 4 c), ofBe (slice b (4 + c) c)) :: l)
        | e => e

/-- Read `n` endorsements of PARTY, 3 reserved bytes, r and s, of the party's coordinate size; what cannot be read so, or
names a party twice or above 3, is ill-formed (R347). -/
def readEndorsements (t : Mem) (n : Nat) (b : Bytes) : Endorsements :=
  if endorsementParties t n b = [] then .bad else endorsementList t n b

/-- The lichen message M_L (Table 14.6). -/
def lichenMessage (purpose party seq tick : Nat) (digest : Bytes) : Bytes :=
  leN 1 0x4C ++ leN 1 purpose ++ leN 8 Config.serial.toNat ++ leN 1 party ++ leN 4 seq ++ leN 8 tick ++ digest

/-- An endorsement verifies under its party's curve (R345). -/
def endorsementOk (t : Mem) (purpose seq tick : Nat) (digest : Bytes) (e : Nat × Nat × Nat) : Bool :=
  let k := partyKey t e.1
  match Crypto.curveOf k.curve with
  | none => false
  | some cv => Crypto.ecdsaVerify cv k.x k.y (lichenMessage purpose e.1 seq tick digest) e.2.1 e.2.2

/-- Parties form at most one lichen under PARTY_RULE (R344). -/
def lichenOk (t : Mem) : List Nat → Bool
  | [] => true
  | [_] => true
  | [i, j] => partyPairOk t i j
  | _ => false

/-- Parties of a list of endorsements. -/
def Endorsements.parties : Endorsements → List Nat
  | .ok l => l.map (·.1)
  | _ => []

/-- The listed endorsements. -/
def Endorsements.list : Endorsements → List (Nat × Nat × Nat)
  | .ok l => l
  | _ => []

/-- A 384-bit curve among the parties doubles the ECC need (R49). -/
def eccNeed (t : Mem) (verb : Nat) (e : Endorsements) : Need :=
  let n := (verbNeed verb).getD {}
  if e.parties.any fun i => 2 < (partyKey t i).curve then { n with ecc := 2 * n.ecc } else n

/-- LICHEN_ENDORSE (R345, R347, R348). -/
def lichenEndorseWork (args : Bytes) : Work := Work.hashed {
  need := fun s => eccNeed s.thal.cur 0x15 (readEndorsements s.thal.cur (oct args 0) (args.drop 4))
  check := fun _ s =>
    let t := s.thal.cur
    let e := readEndorsements t (oct args 0) (args.drop 4)
    let digest := stageDigest (s.thal.stage.getD [])
    { arg := args.length < 4 || !inRange 1 2 (oct args 0) || !zero args 1 3 || e == .bad
      state := s.thal.stage.isNone || e == .emptyParty || e.parties.any s.prot.endorsed.contains ||
        !lichenOk t (s.prot.endorsed ++ e.parties)
      auth := e != .emptyParty && s.thal.stage.isSome && !e.list.all (endorsementOk t 1 s.thal.seq s.prot.stageTick digest) }
  run := fun tk s =>
    let t := s.thal.cur
    let e := readEndorsements t (oct args 0) (args.drop 4)
    let digest := stageDigest (s.thal.stage.getD [])
    let w0 := s.prot.window.getD s.tick
    let s1 : State := { s with prot := { s.prot with endorsed := s.prot.endorsed ++ e.parties, window := some w0 } }
    let s2 := e.parties.foldl (fun s i => s.recordReply tk 0x62
      (leN 8 s.prot.stageTick ++ leN 1 i ++ leN 1 (partyClass t i) ++ zeros 2 ++ leN 4 s.thal.seq ++ digest.take 16)) s1
    s2.done tk (leN 1 (maskOf s1.prot.endorsed) ++ leN 1 (b2n (s1.prot.endorsed.length == 2)) ++ zeros 2 ++
      tick4 (w0 + 2343750)) }

/-- LICHEN_ENDORSE. -/
def execLichenEndorse (h : Hdr) (args : Bytes) (s : State) : Host.Outcome State Fault Refusal :=
  .next (command 0x15 h args (lichenEndorseWork args) s)

/-- LICHEN_WINDOW_EXPIRY: at the commit phase of the window's last tick with no THALLUS_COMMIT (R348). -/
def execLichenWindowExpiry (s : State) : Host.Outcome State Fault Refusal :=
  .next (match s.prot.window with
    | some w0 =>
      if w0 + 2343750 ≤ s.tick && !s.verbUnpublished 0x16 then
        s.dropEndorsements.note 0x63 (leN 8 s.prot.stageTick ++ leN 1 (maskOf s.prot.endorsed))
      else s
    | none => s)

/-! ### THALLUS_COMMIT -/

/-- A changed host key ends the port's session, with SESSION_ENDED (R77, R350). DESIGN CHOICE (log entry 84): when the reply
of a HOST_PAIR under the old key is published in the same commit phase, the old session ends first and the new one then
becomes current; the spec orders the two nowhere. -/
def Port.hostKeyChanged (q : Port) : Port :=
  match q.session with
  | none => q
  | some se =>
    (Port.raise (bitAt 14 true) { q with session := none, oldSessions := q.oldSessions ++ [se] }).dropOldSessions

/-- COMPAT_STREAM 0 closes the MODE 0x04 contexts (R350). -/
def Port.dropCompat (q : Port) : Port :=
  let f : Option Ctx → Option Ctx := fun c => c.filter fun c => c.mode != 4
  { q with ctx0 := f q.ctx0, ctx1 := f q.ctx1 }

/-- A changed K_FACTOR of the counting source rescales R and is recorded (R218). -/
def State.kChange (old : Mem) (oldSource : Nat) (s : State) : State :=
  let k0 := kFactor old oldSource
  let k1 := kFactor s.thal.cur s.odoSource
  if k0 = k1 then s
  else (({ s with motion := { s.motion with odoR := s.motion.odoR * k1 / k0 } } : State).odoRecord .other 4 k0 k1)

/-- The new thallus governs (R350): host keys, compatibility contexts, tamper entries, atlas digest, K_FACTOR. DESIGN CHOICE
(log entry 88): a new ODO_PRIMARY or ODO_SECONDARY counts at once, R is rescaled to its K_FACTOR, and a K that so changes is
recorded as K_CHANGE; the spec names only a change of the counting source's own K_FACTOR. -/
def State.applyThallus (s : State) (nb : Bank) : State :=
  let old := s.thal.cur
  let port : PortId → Port → Port := fun p q =>
    let q1 := if hostKey old p = hostKey nb.img p then q else q.hostKeyChanged
    if thalCompat nb.img then q1 else q1.dropCompat
  let s1 : State := { s.dropEndorsements with
    portA := port .a s.portA
    portB := port .b s.portB
    thal := s.thal.adopt nb
    prot := { s.dropEndorsements.prot with highWater := nb.seq, atlasBad := atlasMismatch nb.img s.cfg.cur }
    motion := { s.motion with onSecondary := s.motion.onSecondary && odoSecondary nb.img != 0xFF }
    tamper := { s.tamper with entries := some ((List.range 16).map fun i => tamperEntry nb.img (i + 1)) } }
  s1.kChange old s.odoSource

/-- The first THALLUS_COMMIT (R342): the device becomes personalised and draws the rhizome with prediction resistance
(R269, R326); its reset is due once the reply is read, or after 8 ticks. -/
def State.personalise (s : State) (tk : Ticket) : State :=
  let g := s.rng.generatePr tk.order 32 (leN 8 s.tick)
  { s with
    rng := g.2
    ks := { s.ks with rhizome := some g.1, erased := false }
    prot := { s.prot with personalised := true }
    utcFree := true
    power := { s.power with resetDue := some (3, s.tick + 8) } }

/-- The commit phase of THALLUS_COMMIT (R35, R333, R342, R350): the banks are programmed, the new thallus governs, and a new
device is personalised. -/
def State.applyThallusCommit (s : State) (tk : Ticket) (img : Mem) (by_ : List Nat) (nvm : BankOutcome) : State :=
  let nb := newBank "OTHL" 8192 s.thal.nextSeq s.tick img
  let s1 : State := { s with thal := s.thal.write nb nvm }
  match nvm with
  | .firstFails => s1.amend tk 0x33 []
  | .lostInFirst => s1.systemReset 2
  | .lostInSecond => State.systemReset 2 { s1 with prot := { s1.prot with highWater := nb.seq } }
  | .ok | .secondFails =>
    let s2 := s1.applyThallus nb
    let s3 := if s.prot.personalised then s2.recordReply tk 0x61
        (leN 4 nb.seq ++ leN 1 (by_.getD 0 0xFF) ++ leN 1 (by_.getD 1 0xFF) ++ leN 1 (nb.img.num 0x40 1) ++ zeros 1 ++
          nb.digest.take 24)
      else s2.personalise tk
    s3.amend tk 0 (leN 4 nb.seq ++ zeros 4 ++ nb.digest)

/-- What a THALLUS_COMMIT takes with it: how programming goes, the stage of its admission and who has endorsed it (R349). -/
def State.thalSupplied (nvm : BankOutcome) (s : State) : Supplied := .staged nvm (s.thal.stage.getD []) s.prot.endorsed

/-- THALLUS_COMMIT and personalisation (R341, R342, R349); its effects follow at its commit phase. The stage it commits is that
of its admission: a clause that waits has it, and its endorsers, in `held`. -/
def thallusCommitWork (args : Bytes) (nvm : BankOutcome) (held : Option (Mem × List Nat) := none) : Work := Work.hashed {
  need := fixedNeed 0x16
  check := fun _ s =>
    match s.thal.stage with
    | none => { arg := commitArgsBad args, state := true }
    | some m =>
      { arg := commitArgsBad args || !thallusOk m
        state := s.verbUnpublished 0x16 ||
          (if s.prot.personalised then num args 0 4 != s.thal.seq || s.prot.endorsed.length != 2 else !s.seeded)
        budget := !s.prot.personalised && s.rng.credit == 0 }
  run := fun tk s =>
    let x := held.getD (s.thal.stage.getD [], s.prot.endorsed)
    (s.push (.thallus tk x.1 x.2 nvm)).done tk [] }

/-- THALLUS_COMMIT. -/
def execThallusCommit (h : Hdr) (args : Bytes) (nvm : BankOutcome) (s : State) : Host.Outcome State Fault Refusal :=
  .next (reserveCommand 0x16 h args (thallusCommitWork args nvm) (s.thalSupplied nvm) s)

/-- An admitted clause of a verb is unread on either port. -/
def State.verbUnread (s : State) (verb : Nat) : Bool :=
  let p : Port → Bool := fun q => q.outstanding.any fun o => o.verb == verb && o.admitted
  p s.portA || p s.portB

/-- A reset that waits for its reply to be read, or 8 ticks, is due (R342, R359). -/
def State.resetReady (s : State) (cause verb : Nat) : Bool :=
  match s.power.resetDue with
  | some (c, last) => c == cause && (!s.verbUnread verb || last ≤ s.tick)
  | none => false

/-- PERSONALISATION_RESET (R342); the boot that follows starts the tick number from 0. -/
def execPersonalisationReset (s : State) : Host.Outcome State Fault Refusal :=
  .next (if s.resetReady 3 0x16 then s.systemReset 3 else s)

/-! ### Repair and patrol -/

/-- BANK record cause of a condition (Table 14.12). -/
def bankCause : BankCond → Nat
  | .valid => 4
  | .badHeader => 1
  | .badDigest => 2
  | .belowHighWater => 3

/-- Kind code of a BANK record. -/
def kindCode : BankKind → Nat
  | .configuration => 1
  | .thallus => 2

/-- The banks of a kind. -/
def State.banks (s : State) : BankKind → Banks
  | .configuration => s.cfg
  | .thallus => s.thal

/-- Replace the banks of a kind. -/
def State.setBanks (s : State) (k : BankKind) (b : Banks) : State :=
  match k with
  | .configuration => { s with cfg := b }
  | .thallus => { s with thal := b }

/-- A BANK record: kind, bank, cause, SEQ of the serving bank (Table 14.12). -/
def State.bankRecord (s : State) (k : BankKind) (index cause : Nat) : State :=
  s.note 0x66 (leN 1 (kindCode k) ++ leN 1 index ++ leN 1 cause ++ zeros 1 ++ leN 4 (s.banks k).seq)

/-- No admitted clause waits for a writer-tick (R50). -/
def State.writerIdle (s : State) : Bool := !s.ledger.any fun d => d.nvm != 0

/-- No MAINT-class work waits (R50). -/
def State.maintIdle (s : State) : Bool := !s.ledger.any fun d => d.maint != 0

/-- The commit phase of a repair: the valid bank is copied into the other one, and a second BANK record follows (R35, R334). -/
def State.repairBank (s : State) (k : BankKind) : State :=
  let b := s.banks k
  if b.fallback then
    let v := if b.bank0.cond = .valid then b.bank0 else b.bank1
    (s.setBanks k { b with bank0 := v, bank1 := v }).bankRecord k (b2n (b.bank0.cond == .valid)) 4
  else s

/-- BANK_REPAIR: in slack and an idle writer-tick (R50, R334). -/
def execBankRepair (k : BankKind) (s : State) : Host.Outcome State Fault Refusal :=
  .next (if s.awake && s.writerIdle && (s.banks k).fallback then s.push (.repair k) else s)

/-- The BANK record of a kind of which exactly one bank is valid, unless one names that condition already (R334). -/
def State.bankFound (k : BankKind) (s : State) : State :=
  let b := s.banks k
  let note : Bank → Bank := fun x => { x with noted := true }
  if !b.fallback then s
  else if b.bank0.cond == .valid then
    if b.bank1.noted then s else (s.setBanks k { b with bank1 := note b.bank1 }).bankRecord k 1 (bankCause b.bank1.cond)
  else if b.bank0.noted then s else (s.setBanks k { b with bank0 := note b.bank0 }).bankRecord k 0 (bankCause b.bank0.cond)

/-- The high-water that a kind of bank is tested against (R332). -/
def State.waterOf (s : State) : BankKind → Nat
  | .configuration => 0
  | .thallus => s.prot.highWater

/-- Every block of the banks is read: `find` names a bank (false is bank 0) and the bytes of it that have changed; a BANK record
follows when one bank of a kind is valid and the other not (R334). -/
def State.readBanks (s : State) (find : Option (BankKind × Bool × List (Nat × Byte))) : State :=
  let s1 := match find with
    | none => s
    | some (k, one, l) =>
      let b := s.banks k
      s.setBanks k (if one then { b with bank1 := b.bank1.tested k (s.waterOf k) l }
        else { b with bank0 := b.bank0.tested k (s.waterOf k) l })
  (s1.bankFound .configuration).bankFound .thallus

/-- NVM_PATROL: in slack and writer-ticks that no admitted work needs, every block is read and refreshed (R50, R334). -/
def execNvmPatrol (find : Option (BankKind × Bool × List (Nat × Byte))) (s : State) : Host.Outcome State Fault Refusal :=
  .next (if !s.awake || !s.maintIdle || !s.writerIdle then s else s.readBanks find)

end Sys2Proof.Machine
end

