-- ==== Sys2Proof/Machine/Tamper.lean ====
section
/-! DEFINITION. Tamper sources and responses (R351 to R357), TAMPER_STATUS and TAMPER_ACK (R358 to R361). -/

namespace Sys2Proof.Machine

open Sys2Proof

/-- Code of a source (Table 14.7). -/
def sourceCode : TamperSource → Nat
  | .mesh0 => 1
  | .mesh1 => 2
  | .sw0 => 3
  | .sw1 => 4
  | .voltage => 5
  | .clock => 6
  | .temp => 7
  | .shield => 8
  | .store => 9

/-- The entry that governs a source: the moss domain's copy; while it is absent, an enabled entry acts as HOLD (R354). -/
def State.entryFor (s : State) (code : Nat) : Nat :=
  match s.tamper.entries with
  | some l => l.getD (code - 1) 0
  | none => if entryEn (tamperEntry s.thal.cur code) then 0x9000 + 0x400 * b2n (bit (tamperEntry s.thal.cur code) 10) else 0

/-- The thallus gives a source the level ROOT_ERASE. -/
def State.eraseFor (s : State) (code : Nat) : Bool :=
  entryEn (tamperEntry s.thal.cur code) && entryLevel (tamperEntry s.thal.cur code) == 3

/-- The source is watched in the present power state; STORE is checked at boot alone, VOLTAGE, CLOCK and TEMP from the end of
stage 1 (R352, R410, Table 14.7). DEDUCED (log entry 98): before that the meshes, the switches and the shield are watched,
whether SLEEP_ACTIVE or not. -/
def State.watched (s : State) (code : Nat) : Bool :=
  entryEn (s.entryFor code) && code != 9 &&
    match s.power.life with
    | .asleep => if code ≤ 4 then entrySleep (s.entryFor code) else code == 7 || code == 8
    | .starting => code ≤ 4 || code == 8
    | .unpowered => false
    | _ => true

/-- The last `n` of a list hold a property, and there are as many. -/
def lastHold {α : Type} (n : Nat) (p : α → Bool) (l : List α) : Bool := n ≤ l.length && (l.drop (l.length - n)).all p

/-- The condition of a source is met for the time of Table 14.7; `entry` is its entry. -/
def conditionMet (code entry : Nat) (c : TamperCondition) : Bool :=
  match c with
  | .compared l => inRange 1 2 code && lastHold 2 (fun x => x.1 != x.2) l
  | .lineBroken => inRange 1 2 code || code == 8
  | .levels l => inRange 3 4 code && lastHold 8 (fun v => v == bit entry 10) l
  | .rail p ns => code == 5 && (p < 850 || 1150 < p) && 200 < ns
  | .pllCycle p => code == 6 && p < 750
  | .xin f => code == 6 && 20000 < f
  | .temperatures l => code == 7 && lastHold 4 (fun t => decide (t < -55000) || decide (175000 < t)) l

/-- The mesh register after `n` changes, one in 4 MOSS cycles (R351). -/
def meshAfter : Nat → BitVec 16 → BitVec 16
  | 0, r => r
  | n + 1, r => meshAfter n (Config.meshNext r)

/-- The changes of the mesh pattern in the first `t` ticks of a start: 8,388,608 MOSS cycles in a million ticks. -/
def meshSteps (t : Nat) : Nat := t * 8388608 / 4000000

/-- The mesh pattern runs on through a tick (R351). -/
def Tamper.meshTick (t : Tamper) (n : Nat) : Tamper := { t with mesh := meshAfter (meshSteps (n + 1) - meshSteps n) t.mesh }

/-- The level of TMESH0_O or TMESH1_O: the pattern while the source is enabled, else low (R351, R422). -/
def State.meshPin (s : State) (n : Nat) : Bool :=
  s.power.life != .unpowered && entryEn (s.entryFor (n + 1)) && Config.meshOut n s.tamper.mesh

/-- FLAGS of Table 14.11. -/
def Tamper.flagBits (t : Tamper) (vholdLow inSleep startup : Bool) : Byte :=
  BitVec.ofNat 8 (b2n inSleep + 2 * b2n startup + 4 * b2n vholdLow + 8 * b2n t.erased)

/-- Latch an event: counts, last-event fields, and the record and notice that are due (R351, R361). -/
def State.latchEvent (s : State) (code level : Nat) (seconds : Nat) : State :=
  let inSleep := s.power.life == .asleep
  let startup := s.power.life == .starting || s.power.life == .bootStopped
  let seq := (s.tamper.eventSeq + 1) % 2 ^ 32
  let et := if inSleep then s.power.entryTick else s.tick
  let fl := s.tamper.flagBits s.power.vholdLow inSleep startup
  { s with tamper := { s.tamper with
      latched := s.tamper.latched ||| bitAt (code - 1) true
      present := s.tamper.present ||| bitAt (code - 1) true
      eventSeq := seq
      unacked := s.tamper.unacked + 1
      lastSource := code
      lastLevel := level
      lastFlags := fl
      eventTick := et
      sleepSeconds := if inSleep then seconds else 0
      due := s.tamper.due ++ [(code, level, fl.toNat, seq, et, if inSleep then seconds else 0)] } }

/-- The rhizome is erased, and the hold becomes permanent; a device without a rhizome has nothing to erase (R355,
R360). -/
def State.eraseRoot (s : State) : State :=
  if s.ks.rhizome.isNone then s
  else { s with
    ks := { s.ks.clearCache with rhizome := none, erased := true, work := [] }
    tamper := { s.tamper with erased := true, permanent := true } }

/-- Verbs whose every clause is an operation with a key (R6, R276, R353). -/
def isKeyOperation (verb : Nat) : Bool := [0x2D, 0x40, 0x42, 0x48, 0x49, 0x4A, 0x50, 0x58, 0x78].contains verb

/-- The clauses of other verbs that have an operation with a key in flight, by their numbers: FROND_DERIVE with OP DERIVE, and
a reader clause whose spore is being tested (R267, R287). -/
def State.keyOrders (s : State) : List Nat :=
  (s.ks.work.filterMap fun w => match w with
    | .derive tk _ _ => some tk.order
    | _ => none) ++
  s.field.bookings.filterMap fun b => b.reader.bind fun r =>
    if b.phase = .booked ∧ r.keyTick = s.tick ∧ bit r.flags 3 = false then some r.order else none

/-- Key operations of the present tick end with TAMPER_ABORT and no result; their contexts close (R6, R297, R353). -/
def Port.abortKeys (tick : Nat) (orders : List Nat) (q : Port) : Port :=
  let keep : Option Ctx → Option Ctx := fun c => c.filter fun c => c.lastTick != tick
  { q with
    newSession := none
    ctx0 := keep q.ctx0
    ctx1 := keep q.ctx1
    stagedReplies := q.stagedReplies.map fun r =>
      if r.admitted && (isKeyOperation r.verb || orders.contains r.order) then { r with status := 0x30, results := [] } else r }

/-- Work of key storage that is no operation with a key, and goes on: evictions and retirements. -/
def KeyWork.keyless : KeyWork → Bool
  | .evict _ _ _ => true
  | .retire _ _ _ _ _ _ => true
  | _ => false

/-- A lasting change that rests on an operation with a key of this tick. -/
def Act.keyed : Act → Bool
  | .judge _ _ => true
  | .enrol _ _ _ => true
  | _ => false

/-- The seals whose signatures were being made are not made, and the seal before them is again the previous one (R310,
R353). -/
def Evidence.abortSeals (tick : Nat) (e : Evidence) : Evidence :=
  { e with
    seals := e.seals.filter fun x => x.tick != tick
    prevSeal := ((e.seals.find? fun x => x.tick == tick).map Seal.prev).getD e.prevSeal }

/-- The exchange of an engine has an operation with a key in flight: a MAC check, or the derivation of a crown token's key
(R155, R161, R353). -/
def State.exchangeKeyed (s : State) (engine : Nat) : Bool :=
  (s.current engine).any fun b =>
    b.await == .verdict || b.cur.any fun c => c.lookup == .crown && c.looked == s.tick

/-- Such an exchange ends, its key unjudged, and answers TAMPER_ABORT (R6, R163, R169; log entry 62). -/
def State.abortExchange (s : State) (engine : Nat) : State :=
  if s.exchangeKeyed engine then
    ((s.onCurrent engine fun b => { b with await := .nothing }).endWith engine 6).onCurrent engine fun b =>
      { b with aborted := true }
  else s

/-- The result of a reader exchange whose operation with its key is aborted (R6, R268). -/
def Reader.abort (tick : Nat) (r : Reader) : Reader :=
  if r.keyTick = tick ∧ bit r.flags 3 = false then { r with aborted := true } else r

/-- Reader exchanges: one whose spore was being tested is not booked, a running one ends (R6, R267). -/
def Field.abortReaders (tick : Nat) (f : Field) : Field :=
  { f with
    readers := f.readers.map (Reader.abort tick)
    bookings := (f.bookings.filter fun b =>
        !(b.phase == .booked && b.reader.any fun r => (r.abort tick).aborted)).map fun b =>
      if b.reader.any fun r => (r.abort tick).aborted then b.readerEnds (Reader.abort tick) else b }

/-- A clause that waits for its needs is an operation with a key in flight. -/
def Queued.keyed (q : Queued) : Bool := isKeyOperation q.ticket.verb || (q.ticket.verb == 0x43 && oct q.args 0 == 0)

/-- Admitted clauses that wait end with TAMPER_ABORT, and what they have reserved is released (R6, R329, R353; log entry
62). -/
def State.abortQueued (s : State) : State :=
  let l := s.work.filter Queued.keyed
  let hit : Nat → Bool := fun n => l.any fun q => q.ticket.order == n
  l.foldl (fun s q => s.reply q.ticket 0x30 [])
    { s with
      work := s.work.filter fun q => !q.keyed, ledger := s.ledger.filter fun d => !hit d.order, drawn := []
      rng := s.rng.unreserve hit }

/-- Operations with a key in flight are aborted: staged keys and pinned copies are zeroised (R353). -/
def State.abortKeyWork (s : State) : State :=
  let s1 := ((List.range 4).foldl State.abortExchange s).abortQueued
  { (s1.onPorts (Port.abortKeys s.tick s.keyOrders)) with
    acts := s1.acts.filter fun a => !a.keyed
    log := s1.log.abortSeals s.tick
    field := s1.field.abortReaders s.tick
    ks := { s1.ks with work := s1.ks.work.filter KeyWork.keyless } }

/-- A response that zeroises keys ends the cab session with TAMPER (Table 06.14). -/
def State.tamperEnds (s : State) : State :=
  { s with cell := { s.cell with tamperEnd := s.tamperEndBody.or s.cell.tamperEnd } }

/-- The response of Table 14.10 to an event that is latched, at the level of the moss domain's copy (R354). -/
def State.respond (s : State) (level : Nat) : State :=
  let e : State → State := fun s => if level = 3 then s.eraseRoot else s
  let hold : State → State := fun s => { s with tamper := { s.tamper with hold := true } }
  match s.power.life with
  | .starting | .bootStopped => hold (e s)
  | .asleep => if level = 0 then s else hold (e s)
  | .unpowered => s
  | .awake | .sleepPending =>
    if s.tamper.hold then e s.abortKeyWork
    else if level = 0 then s.abortKeyWork
    else State.systemReset 4 (hold (e (if 2 ≤ level then s.tamperEnds else s)))

/-- A source latches whose entry is enabled and whose condition is met (R351 to R354). -/
def State.sourceSees (s : State) (code : Nat) (c : TamperCondition) (sleepSeconds : Nat) : State :=
  if entryEn (s.entryFor code) && conditionMet code (s.entryFor code) c then
    (s.latchEvent code (entryLevel (s.entryFor code)) sleepSeconds).respond (entryLevel (s.entryFor code))
  else s

/-- TAMPER_SOURCE_LATCH: what a source sees (R351 to R354). -/
def execTamperSourceLatch (src : TamperSource) (seen : TamperSighting) (s : State) : Host.Outcome State Fault Refusal :=
  .next (if s.watched (sourceCode src) then s.sourceSees (sourceCode src) seen.cond seen.sleepSeconds else s)

/-! ### TAMPER_STATUS -/

/-- The 48 bytes of TAMPER_STATUS (Table 14.11). -/
def State.tamperResults (s : State) : Bytes :=
  let t := s.tamper
  leN 1 t.code ++ leN 1 t.lastSource ++ leN 2 t.latched.toNat ++ leN 2 t.present.toNat ++ leN 1 t.lastLevel ++
    [(t.lastFlags &&& 3#8) ||| t.flagBits s.power.vholdLow false false] ++ leN 4 t.eventSeq ++ leN 4 t.unacked ++
    leN 8 t.eventTick ++ leN 4 t.sleepSeconds ++ zeros 4 ++ leN 8 (if t.hold then t.holdTick else 0) ++ leN 4 s.thal.seq ++
    zeros 4

/-- TAMPER_STATUS takes no arguments (R358). -/
def tamperStatusWork (args : Bytes) : Work :=
  ⟨fixedNeed 0x70, fun _ _ => { arg := args != [] }, fun tk s => s.done tk s.tamperResults⟩

/-- TAMPER_STATUS. -/
def execTamperStatus (h : Hdr) (args : Bytes) (s : State) : Host.Outcome State Fault Refusal :=
  .next (command 0x70 h args (tamperStatusWork args) s)

/-! ### TAMPER_ACK -/

/-- A latched source of level HOLD or above still has its condition present (R359). -/
def State.stillPresent (s : State) : Bool :=
  (List.range 16).any fun i =>
    s.tamper.latched.getLsbD i && s.tamper.present.getLsbD i && 1 ≤ entryLevel (s.entryFor (i + 1))

/-- Endorsements of a TAMPER_ACK verify over M_L with PURPOSE 0x02 (Table 14.6). -/
def State.ackVerifies (s : State) (e : Endorsements) : Bool :=
  let holdTick := if s.tamper.hold then s.tamper.holdTick else 0
  lichenOk s.thal.cur e.parties &&
    e.list.all (endorsementOk s.thal.cur 2 s.tamper.eventSeq holdTick (Crypto.sha256 (s.tamperResults.take 32)))

/-- The commit phase of TAMPER_ACK (R359): the latches clear, the record goes with the reply, and a held device's reset is
due. -/
def State.applyAck (s : State) (tk : Ticket) (by_ : List Nat) : State :=
  let t := s.tamper
  let s1 : State := { s with tamper := { t with latched := 0, unacked := 0, written := 0, writtenCount := 0 } }
  let s2 := s1.recordReply tk 0x65 (leN 4 t.eventSeq ++ leN 2 t.latched.toNat ++ leN 1 (by_.getD 0 0xFF) ++
    leN 1 (by_.getD 1 0xFF) ++ leN 8 (if t.hold then t.holdTick else 0))
  if t.hold then
    State.amend { s2 with power := { s2.power with resetDue := some (5, s.tick + 8) } } tk 0
      (leN 2 t.latched.toNat ++ leN 1 s2.tamper.code ++ zeros 1 ++ tick4 (s.tick + 8))
  else s2.amend tk 0 (leN 2 t.latched.toNat ++ leN 1 s2.tamper.code ++ zeros 1 ++ zeros 4)

/-- TAMPER_ACK: COUNT (0 or 2), 3 reserved, EVENT_SEQ, endorsements (R359, R360). -/
def tamperAckWork (args : Bytes) : Work := Work.hashed {
  need := fun s => eccNeed s.thal.cur 0x71 (readEndorsements s.thal.cur (oct args 0) (args.drop 8))
  check := fun tk s =>
    let e := readEndorsements s.thal.cur (oct args 0) (args.drop 8)
    { arg := args.length < 8 || !(oct args 0 == 0 || oct args 0 == 2) || !zero args 1 3 || e == .bad
      auth := if oct args 0 = 0 then tk.sess.isNone && thalSeal s.thal.cur tk.port && s.prot.personalised
        else e != .emptyParty && !s.ackVerifies e
      state := s.tamper.code == 0 || s.tamper.code == 3 || num args 4 4 != s.tamper.eventSeq ||
        (oct args 0 == 0 && s.tamper.hold && s.prot.personalised) || s.stillPresent || e == .emptyParty }
  run := fun tk s =>
    (s.push (.ack tk (readEndorsements s.thal.cur (oct args 0) (args.drop 8)).parties)).done tk [] }

/-- TAMPER_ACK. -/
def execTamperAck (h : Hdr) (args : Bytes) (s : State) : Host.Outcome State Fault Refusal :=
  .next (command 0x71 h args (tamperAckWork args) s)

/-- The hold ends with an acknowledgement, unless it has become permanent or an event has latched since: then it continues
(R354, R359, R360). -/
def Tamper.acknowledged (t : Tamper) : Tamper :=
  if t.permanent || t.latched != 0 then t else { t with hold := false, holdTick := 0, holdWritten := false }

/-- TAMPER_ACK_RESET: after the reply is read, or 8 ticks, the held device resets and boots normally (R359). -/
def execTamperAckReset (s : State) : Host.Outcome State Fault Refusal :=
  .next (if s.resetReady 5 0x71 then State.systemReset 5 { s with tamper := s.tamper.acknowledged } else s)

end Sys2Proof.Machine
end

