-- ==== Sys2Proof/Machine/Spores.lean ====
section
/-! DEFINITION. SPORE_LOAD, SPORE_EVICT, SPORE_WRAP, FROND_DERIVE and KEY_RETIRE (R273 to R290), and the key work that
takes effect at a commit phase: staged keys, rewrites, evictions and the retirement boundary. -/

namespace Sys2Proof.Machine

open Sys2Proof

/-! ### Nodes and retirement -/

/-- Node `(l, f, a, b)` is, or is an ancestor of, node `(l', f', a', b')`. -/
def nodeCovers (l f a b l' f' a' b' : Nat) : Bool :=
  l ≤ l' && f == f' && (l < 2 || a == a') && (l < 3 || b == b')

/-- A slot's origin is the node or a descendant, or a spore whose domain lies under it (R289). -/
def Origin.under (l f a b : Nat) : Origin → Bool
  | .spore d _ _ _ => nodeCovers l f a b 3 5 0 d
  | .node f' a' b' _ _ _ => nodeCovers l f a b 3 f' a' b'

/-- Slots that a retirement wipes (R289). -/
def KeyStore.covered (k : KeyStore) (l f a b : Nat) : Nat :=
  (k.slots.filter fun x => match x.content with
    | some c => c.origin.under l f a b
    | none => false).length

/-- The entries that a retirement leaves beside the node's own: those of it and its descendants go (R289). -/
def survivors (l f a b : Nat) (gs : List NodeGen) : List NodeGen :=
  gs.filter fun g => !nodeCovers l f a b g.level g.frond g.pinna g.pinnule

/-- The generation table after a retirement: NGEN raised, entries of descendants removed (R289). -/
def KeyStore.retiredGens (l f a b : Nat) (k : KeyStore) : List NodeGen :=
  survivors l f a b k.gens ++ [{ level := l, frond := f, pinna := a, pinnule := b, ngen := k.ngen l f a b + 1 }]

/-- The retirement boundary: the new table, slots wiped; the node is remembered for clauses latched before clause number
`order` (R289, R290). -/
def KeyStore.retireNode (l f a b order : Nat) (k : KeyStore) : KeyStore :=
  let k1 := (k.setGens (k.retiredGens l f a b) true).wipeSlots fun c => c.origin.under l f a b
  { k1 with retired := k1.retired ++ [(order, l, f, a, b)] }

/-- The generation table has no free entry, as the retirements that wait for the commit phase will leave it (R273, R288; log
entry 73). -/
def KeyStore.gensFull (k : KeyStore) : Bool :=
  128 ≤ (k.work.foldl (fun gs w => match w with
    | .retire _ l f a b _ => survivors l f a b gs ++ [{ level := l, frond := f, pinna := a, pinnule := b, ngen := 0 }]
    | _ => gs) k.gens).length

/-- A retirement of the node, or of an ancestor of it, waits for the commit phase: one more changes nothing (R290). -/
def KeyStore.retiring (k : KeyStore) (l f a b : Nat) : Bool :=
  k.work.any fun w => match w with
    | .retire _ l' f' a' b' _ => nodeCovers l' f' a' b' l f a b
    | _ => false

/-- The node, or an ancestor of it, was retired after a clause was latched (R290). -/
def KeyStore.overtaken (k : KeyStore) (tk : Ticket) (l f a b : Nat) : Bool :=
  k.retired.any fun r => tk.order < r.1 && nodeCovers r.2.1 r.2.2.1 r.2.2.2.1 r.2.2.2.2 l f a b

/-- A crown node that R288 keeps from retirement now. -/
def State.crownHeld (s : State) (l f a b : Nat) : Bool :=
  f == 1 && ((l == 1 && s.crownsUsed != []) || (l == 2 && a == 0 && s.crownsUsed != []) ||
    (l == 3 && a == 0 && s.crownsUsed.contains b))

/-- KEY_RETIRE: node, EXPECT_NGEN, 2 reserved (R288); `verified` says whether the new copy of the generation table
verifies (R289). -/
def keyRetireWork (args : Bytes) (verified : Bool) : Work where
  need := fixedNeed 0x44
  check := fun tk s =>
    let l := oct args 0
    let f := oct args 1
    let a := oct args 2
    let b := oct args 3
    { arg := args.length != 8 || !zero args 6 2 || !nodeListed l f a b || !nodeRetirable f
      auth := tk.sess.isNone
      state := num args 4 2 != s.ks.ngen l f a b || s.ks.ngen l f a b == 0xFFFF || s.ks.gensFull || s.crownHeld l f a b }
  run := fun tk s =>
    if s.ks.gensFull && !s.ks.retiring (oct args 0) (oct args 1) (oct args 2) (oct args 3) then s.reply tk 0x11 []
    else State.done { s with ks := { s.ks with
      work := s.ks.work ++ [.retire tk (oct args 0) (oct args 1) (oct args 2) (oct args 3) verified] } } tk []

/-- KEY_RETIRE. -/
def execKeyRetire (h : Hdr) (args : Bytes) (verified : Bool) (s : State) : Host.Outcome State Fault Refusal :=
  .next (command 0x44 h args (keyRetireWork args verified) s (.flag verified))

/-! ### Host slots as admission sees them -/

/-- The cache as the host keys that wait for the commit phase will leave it (R282, R287). -/
def KeyStore.ahead (k : KeyStore) : KeyStore :=
  k.work.foldl (fun x w => match w with
    | .load _ true sp slot key _ =>
      x.writeSlot (x.target slot) { kind := oct sp 1, usage := byteAt sp 3, origin := sporeOrigin sp, owner := none, key := key }
    | .derive _ slot c => x.writeSlot (x.target slot) c
    | _ => x) k

/-- A write to SLOT is refused: a device slot, or no host slot left (R274, R282, R287). DESIGN CHOICE (log entry 93): a named
slot that is empty is refused too while 56 host slots are in use; the rules list only a device slot and 0xFF, but R274 caps
the host slots. -/
def KeyStore.slotRefused (k : KeyStore) (slot : Nat) : Bool :=
  (slot != 0xFF && (k.ahead.slot slot).isDevice) ||
    (56 ≤ k.ahead.hostSlots && (slot == 0xFF || (k.ahead.slot slot).content.isNone))

/-- SLOT lies outside 0 to 63 and 0xFF. -/
def slotBad (slot : Nat) : Bool := 63 < slot && slot != 0xFF

/-! ### SPORE_LOAD -/

/-- The identifier in BINDING. -/
def sporeIdent (sp : Bytes) : Ident := BitVec.ofNat 64 (num sp 12 8)

/-- The requests outstanding for an identifier, at most one of each engine, oldest first (R20, R21, R52). -/
def State.requestsOf (s : State) (i : Ident) : List SporeReq := s.ks.requests.filter fun r => r.ident == i

/-- Staged keys that answer requests for an identifier (R21). -/
def KeyStore.stagedFor (k : KeyStore) (i : Ident) : Nat :=
  (k.work.filter fun w => match w with
    | .load _ host sp _ _ _ => !host && sporeIdent sp == i
    | _ => false).length

/-- The request that one more key would answer (R21, R283). -/
def State.requestOf (s : State) (i : Ident) : Option SporeReq := (s.requestsOf i)[s.ks.stagedFor i]?

/-- A valid ordinary entry holds the identifier (R283). -/
def State.ordinary (s : State) (i : Ident) : Option Entry :=
  match s.validEntry i with
  | some (_, e) => if e.crown then none else some e
  | none => none

/-- A valid ordinary entry holds the identifier with this key check value (R154, R283). -/
def State.entryTakes (s : State) (i : Ident) (key : Bytes) : Bool :=
  (s.ordinary i).any fun e => e.keyField.take 8 == kcv key

/-- SLOT, REASON, GEN, KCV (R285). -/
def loadResults (slot reason gen : Nat) (kcv : Bytes) : Bytes := leN 1 slot ++ leN 1 reason ++ leN 2 gen ++ padTo 8 kcv

/-- The tick in which a clause was latched. -/
def State.latchedAt (s : State) (tk : Ticket) : Nat :=
  ((s.work.find? fun q => q.ticket.order == tk.order).map Queued.latched).getD s.tick

/-- A load was latched too late for the request it answers (R21, R22). -/
def State.lateLoad (s : State) (tk : Ticket) (host : Bool) (sp : Bytes) : Bool :=
  !host && (s.requestOf (sporeIdent sp)).any fun r => r.deadline < s.latchedAt tk

/-- What the tests of R283 say of a MODE 0x00 key that has unwrapped: REASON of R285. -/
def State.loadReason (s : State) (sp key : Bytes) : Nat :=
  match s.ordinary (sporeIdent sp) with
  | none => 4
  | some e => if e.keyField.take 8 == kcv key then 0 else 3

/-- The status that goes with a REASON (R285). -/
def reasonStatus (r : Nat) : Nat := if r = 0 then 0 else if r = 1 ∨ r = 3 then 0x32 else 0x31

/-- A load that no longer has a request, or a slot, to go to when it executes (R21, R274, R282). -/
def State.loadRefused (s : State) (host : Bool) (slot : Nat) (sp : Bytes) : Bool :=
  if host then s.ks.slotRefused slot else (s.requestOf (sporeIdent sp)).isNone

/-- Unwrap, test and stage a key (R280, R283, R285). -/
def State.stageSpore (s : State) (tk : Ticket) (host : Bool) (slot : Nat) (sp : Bytes) : State :=
  if s.loadRefused host slot sp then s.reply tk 0x11 []
  else
    match s.ks.unwrap sp with
    | .bad r => s.reply tk (reasonStatus r) (loadResults 0xFF r 0 [])
    | .key k =>
      let r := if host then 0 else s.loadReason sp k
      if r != 0 then s.reply tk (reasonStatus r) (loadResults 0xFF r 0 (kcv k))
      else State.done { s with ks := { s.ks with work := s.ks.work ++ [.load tk host sp slot k (s.lateLoad tk host sp)] } } tk
        (loadResults 0xFF 0 0 (kcv k))

/-- SPORE_LOAD MODE 0x00: SLOT, 2 reserved, spore (R282). Its lane need is the spore reserve's (R49, R52). -/
def sporeLoadNeededWork (args : Bytes) : Work := Work.aes {
  need := fun _ => { deadline := 2 }
  check := fun _ s =>
    let sp := args.drop 3
    let i := sporeIdent sp
    { arg := args.length != 99 || oct args 0 != 0xFF || !zero args 1 2 || sporeBad sp || oct sp 1 != 1
      state := (s.requestOf i).isNone }
  run := fun tk s => s.stageSpore tk false 0xFF (args.drop 3) }

/-- SPORE_LOAD_NEEDED: the spore reserve runs 3 in a tick; a further one waits (R36). -/
def execSporeLoadNeeded (h : Hdr) (args : Bytes) (s : State) : Host.Outcome State Fault Refusal :=
  let w := sporeLoadNeededWork args
  .next (commandWith 0x40 h (0x00#8 :: args) w
    (if 3 ≤ s.ks.loadsStaged then State.enqueue (0x00#8 :: args) .nothing (hdrHead h 0x40).prio s.tick (w.need s).deadline
      else hdrGo 0x40 h (0x00#8 :: args) .nothing w s) s)

/-- SPORE_LOAD MODE 0x01 (R282). -/
def sporeLoadHostWork (args : Bytes) : Work := Work.aes {
  need := fixedNeed 0x40
  check := fun _ s =>
    let sp := args.drop 3
    { arg := args.length != 99 || slotBad (oct args 0) || !zero args 1 2 || sporeBad sp || oct sp 1 < 3
      state := s.ks.slotRefused (oct args 0) }
  run := fun tk s => s.stageSpore tk true (oct args 0) (args.drop 3) }

/-- SPORE_LOAD_HOST. -/
def execSporeLoadHost (h : Hdr) (args : Bytes) (s : State) : Host.Outcome State Fault Refusal :=
  .next (command 0x40 h (0x01#8 :: args) (sporeLoadHostWork args) s)

/-! ### SPORE_EVICT, SPORE_WRAP -/

/-- The slot cannot be evicted: it holds no host key, or one of another GEN than expected (R286). -/
def KeyStore.evictRefused (k : KeyStore) (slot gen : Nat) : Bool :=
  !(k.slot slot).isHost || (gen != 0 && gen != (k.slot slot).gen)

/-- SPORE_EVICT: SLOT, reserved, expected GEN (R286). -/
def sporeEvictWork (args : Bytes) : Work where
  need := fixedNeed 0x41
  check := fun _ s =>
    { arg := args.length != 4 || 63 < oct args 0 || !zero args 1 1
      state := s.ks.evictRefused (oct args 0) (num args 2 2) }
  run := fun tk s => State.done { s with ks := { s.ks with work := s.ks.work ++ [.evict tk (oct args 0) (num args 2 2)] } } tk []

/-- SPORE_EVICT. -/
def execSporeEvict (h : Hdr) (args : Bytes) (s : State) : Host.Outcome State Fault Refusal :=
  .next (command 0x41 h args (sporeEvictWork args) s)

/-- R281's argument test. -/
def wrapBad (args : Bytes) : Bool :=
  let kind := oct args 0
  !inRange 1 4 kind || args.length != 12 + keyLength kind || 0x0F < oct args 1 || !zero args 3 1 ||
    (if kind ≤ 2 then oct args 2 != 0 else !inRange 1 7 (oct args 2)) ||
    (kind == 1 && badIdent (num args 4 8)) || (3 ≤ kind && !zero args 4 8)

/-- SPORE_WRAP: the IV is drawn from the key-storage wire (R281, Table 13.3). -/
def sporeWrapWork (args : Bytes) : Work := Work.aes {
  need := fixedNeed 0x42
  check := fun tk _ => { arg := wrapBad args, auth := tk.sess.isNone }
  run := fun tk s =>
    let d := s.draw .key 12
    d.2.done tk (d.2.ks.wrap (oct args 0) (oct args 1) (oct args 2) (slice args 4 8) (args.drop 12) d.1 s.tick) }

/-- SPORE_WRAP. -/
def execSporeWrap (h : Hdr) (args : Bytes) (s : State) : Host.Outcome State Fault Refusal :=
  .next (drawCommand 0x42 h args (sporeWrapWork args) s)

/-! ### FROND_DERIVE -/

/-- DERIVE: PINNA, PINNULE, KIND, USAGE, SLOT, reserved (2), DIV (16) (Table 11.5). -/
def frondDeriveDeriveWork (args : Bytes) : Work := Work.aes {
  need := fixedNeed 0x43
  check := fun _ s =>
    { arg := args.length != 23 || !inRange 0x10 0x1F (oct args 0) || !inRange 3 4 (oct args 2) || !inRange 1 7 (oct args 3) ||
        slotBad (oct args 4) || !zero args 5 2
      state := s.ks.slotRefused (oct args 4) }
  run := fun tk s =>
    let a := oct args 0
    let b := oct args 1
    let key := (s.ks.nodeKey 1 a b (args.drop 7)).take (keyLength (oct args 2))
    let c : SlotKey := { kind := oct args 2, usage := byteAt args 3, owner := none, key := key,
                         origin := .node 1 a b (s.ks.ngen 1 1 0 0) (s.ks.ngen 2 1 a 0) (s.ks.ngen 3 1 a b) }
    if s.ks.slotRefused (oct args 4) then s.reply tk 0x11 []
    else State.done { s with ks := { s.ks with work := s.ks.work ++ [.derive tk (oct args 4) c] } } tk [] }

/-- FROND_DERIVE_DERIVE. -/
def execFrondDeriveDerive (h : Hdr) (args : Bytes) (s : State) : Host.Outcome State Fault Refusal :=
  .next (command 0x43 h (0x00#8 :: args) (frondDeriveDeriveWork args) s)

/-- PUBLIC: FROND, CURVE, reserved (2) (Table 11.5, R272). -/
def frondDerivePublicWork (args : Bytes) : Work := Work.hashed {
  need := fixedNeed 0x43
  check := fun _ _ =>
    { arg := args.length != 4 || !(oct args 0 == 3 || oct args 0 == 6) || !inRange 1 4 (oct args 1) || !zero args 2 2 }
  run := fun tk s =>
    let q := s.log.public (oct args 0) (oct args 1)
    match Crypto.curveOf (oct args 1) with
    | some cv => s.done tk (slice args 1 1 ++ zeros 3 ++ Crypto.ptBytes cv q.1 q.2 ++ Crypto.keyId cv q.1 q.2)
    | none => s.done tk [] }

/-- FROND_DERIVE_PUBLIC. -/
def execFrondDerivePublic (h : Hdr) (args : Bytes) (s : State) : Host.Outcome State Fault Refusal :=
  .next (command 0x43 h (0x01#8 :: args) (frondDerivePublicWork args) s)

/-- NODE: LEVEL, FROND, PINNA, PINNULE, reserved (3): the NGENs on the path and whether the node may be retired now
(Table 11.5, R288). -/
def frondDeriveNodeWork (args : Bytes) : Work where
  need := fixedNeed 0x43
  check := fun _ _ =>
    { arg := args.length != 7 || !nodeListed (oct args 0) (oct args 1) (oct args 2) (oct args 3) || !zero args 4 3 }
  run := fun tk s =>
    let l := oct args 0
    let f := oct args 1
    let a := oct args 2
    let b := oct args 3
    s.done tk (leN 2 (s.ks.ngen 1 f 0 0) ++ leN 2 (if 2 ≤ l then s.ks.ngen 2 f a 0 else 0) ++
      leN 2 (if 3 ≤ l then s.ks.ngen 3 f a b else 0) ++ leN 1 (b2n (nodeRetirable f && !s.crownHeld l f a b)) ++ zeros 1)

/-- FROND_DERIVE_NODE. -/
def execFrondDeriveNode (h : Hdr) (args : Bytes) (s : State) : Host.Outcome State Fault Refusal :=
  .next (command 0x43 h (0x02#8 :: args) (frondDeriveNodeWork args) s)

/-! ### The commit phase -/

/-- A retirement changes nothing: the node, or an ancestor, was retired before it in this commit phase, or since it was latched
(R290). -/
def KeyStore.idle (k : KeyStore) (tk : Ticket) (l f a b : Nat) (done : List (Nat × Nat × Nat × Nat)) : Bool :=
  k.overtaken tk l f a b || done.any fun d => nodeCovers d.1 d.2.1 d.2.2.1 d.2.2.2 l f a b

/-- The nodes that the retirements of a commit phase retire (R289, R290). -/
def KeyStore.effective (k : KeyStore) (ws : List KeyWork) : List (Nat × Nat × Nat × Nat) :=
  ws.foldl (fun done w => match w with
    | .retire tk l f a b true => if k.idle tk l f a b done then done else done ++ [(l, f, a, b)]
    | _ => done) []

/-- A running exchange of an engine is given the slot of its key. -/
def State.giveSlot (s : State) (engine slot gen : Nat) : State :=
  { s with field := { s.field with bookings := s.field.bookings.map fun b =>
      if b.engine == engine && b.phase == .running then
        { b with cur := b.cur.map fun c => { c with slot := some slot, gen := gen } }
      else b } }

/-- A staged key moves into its slot, or is zeroised; a load that satisfies its request withdraws its notice (R69, R283 to
R285). A host slot that an engine has taken in this tick is not written (R274; log entry 96). -/
def State.commitLoad (retired : List (Nat × Nat × Nat × Nat)) (tk : Ticket) (host : Bool) (sp : Bytes) (slot : Nat)
    (key : Bytes) (late : Bool) (s : State) : State :=
  let c : SlotKey := { kind := oct sp 1, usage := byteAt sp 3, origin := sporeOrigin sp, owner := none, key := key }
  if retired.any fun d => c.origin.under d.1 d.2.1 d.2.2.1 d.2.2.2 then s.amend tk 0x31 (loadResults 0xFF 2 0 (kcv key))
  else if host then
    if s.ks.slotRefused slot then s.amend tk 0x11 [] else
    let n := s.ks.target slot
    let s1 : State := { s with ks := s.ks.writeSlot n c }
    s1.amend tk 0 (loadResults n 0 (s1.ks.slot n).gen (kcv key))
  else
    match (s.requestsOf (sporeIdent sp)).head? with
    | some r =>
      if !late && s.entryTakes (sporeIdent sp) key then
        let n := s.ks.freeSlot
        let s1 : State := { s with ks := { s.ks.writeSlot n { c with owner := some r.engine, token := sporeIdent sp } with
          requests := s.ks.requests.filter fun x => x.engine != r.engine } }
        ((s1.onPorts (Port.dropSpore (sporeIdent sp) r.engine)).giveSlot r.engine n (s1.ks.slot n).gen).amend tk 0
          (loadResults n 0 (s1.ks.slot n).gen (kcv key))
      else s.amend tk 0x31 (loadResults 0xFF 4 0 (kcv key))
    | none => s.amend tk 0x31 (loadResults 0xFF 4 0 (kcv key))

/-- A derived key is written, unless an engine has taken the slot in this tick (R274, R287; log entry 96). -/
def State.commitDerive (tk : Ticket) (slot : Nat) (c : SlotKey) (s : State) : State :=
  if s.ks.slotRefused slot then s.amend tk 0x11 [] else
  let n := s.ks.target slot
  let s1 : State := { s with ks := s.ks.writeSlot n c }
  let gs := match c.origin with
    | .node _ _ _ x y z => leN 2 x ++ leN 2 y ++ leN 2 z
    | .spore _ x y z => leN 2 x ++ leN 2 y ++ leN 2 z
  s1.amend tk 0 (leN 1 n ++ zeros 1 ++ leN 2 (s1.ks.slot n).gen ++ gs ++ zeros 2 ++ kcv c.key)

/-- A retirement of this commit phase (R288 to R290). -/
def State.commitRetire (tk : Ticket) (l f a b : Nat) (verified : Bool) (done : List (Nat × Nat × Nat × Nat)) (s : State) :
    State :=
  if s.ks.idle tk l f a b done then
    s.amend tk 0x31 (zeros 4 ++ tick4 s.tick)
  else if !verified then
    (State.amend { s with ks := s.ks.setGens (s.ks.retiredGens l f a b) false } tk 0x33 [])
  else
    let wiped := s.ks.covered l f a b
    let new := s.ks.ngen l f a b + 1
    (State.recordReply { s with ks := s.ks.retireNode l f a b s.orderNo } tk 0x50
      (leN 1 l ++ leN 1 f ++ leN 1 a ++ leN 1 b ++ leN 2 new ++ leN 1 wiped ++ zeros 1)).amend tk 0
      (leN 2 new ++ leN 1 wiped ++ zeros 1 ++ tick4 s.tick)

/-- An eviction; where the slot no longer holds the key named, it ends with REFUSED_STATE (R286; log entry 96). -/
def State.commitEvict (tk : Ticket) (slot gen : Nat) (s : State) : State :=
  if s.ks.evictRefused slot gen then s.amend tk 0x11 []
  else State.amend { s with ks := s.ks.emptySlot slot } tk 0 (leN 1 slot ++ zeros 1 ++ leN 2 (s.ks.slot slot).gen)

/-- Slot writes and evictions of a commit phase, in admission order. -/
def State.commitSlots (retired : List (Nat × Nat × Nat × Nat)) : List KeyWork → State → State
  | [], s => s
  | .load tk host sp slot key late :: r, s => State.commitSlots retired r (s.commitLoad retired tk host sp slot key late)
  | .derive tk slot c :: r, s => State.commitSlots retired r (s.commitDerive tk slot c)
  | .evict tk slot gen :: r, s => State.commitSlots retired r (s.commitEvict tk slot gen)
  | .retire _ _ _ _ _ _ :: r, s => State.commitSlots retired r s

/-- Retirements of a commit phase, in admission order (R290). -/
def State.commitRetires : List KeyWork → List (Nat × Nat × Nat × Nat) → State → State
  | [], _, s => s
  | .retire tk l f a b v :: r, done, s =>
    State.commitRetires r (if v && !s.ks.idle tk l f a b done then done ++ [(l, f, a, b)] else done)
      (s.commitRetire tk l f a b v done)
  | _ :: r, done, s => State.commitRetires r done s

/-- The number of the clause that the work belongs to. -/
def KeyWork.order : KeyWork → Nat
  | .load tk _ _ _ _ _ | .derive tk _ _ | .evict tk _ _ | .retire tk _ _ _ _ _ => tk.order

/-- Key work at the commit phase, in admission order: slots first, then the retirement boundary that ends the tick (R276, R283,
R289, R290). -/
def State.commitKeys (s : State) : State :=
  let ws := sortBy (fun x y => decide (x.order ≤ y.order)) s.ks.work
  let s1 := State.commitRetires ws [] (State.commitSlots (s.ks.effective ws) ws { s with ks := { s.ks with work := [] } })
  { s1 with ks := { s1.ks with retired := s1.ks.retired.filter fun r => s1.work.any fun q => q.ticket.order < r.1 } }

end Sys2Proof.Machine
end

