-- ==== Sys2Proof/Machine/Tokens.lean ====
section
/-! DEFINITION. TOKEN_ENROL, TOKEN_REVOKE, TOKEN_QUERY and the end of locks (R156 to R160, R174). -/

namespace Sys2Proof.Machine

open Sys2Proof

/-- The lowest number from `n` on, among `fuel` of them, that meets a test. -/
def lowest (p : Nat → Bool) : Nat → Nat → Option Nat
  | 0, _ => none
  | fuel + 1, n => if p n then some n else lowest p fuel (n + 1)

/-- The entry that an enrolment writes: the tombstone of the identifier, else the lowest empty entry, else the lowest
tombstone (R157). -/
def State.enrolIndex (s : State) (i : Ident) : Option Nat :=
  match s.dir.find? fun p => p.2.ident == i && !p.2.valid with
  | some (n, _) => some n
  | none =>
    match lowest (fun n => (s.entryAt n).isNone) 16384 0 with
    | some n => some n
    | none => lowest (fun n => match s.entryAt n with
      | some e => !e.valid
      | none => false) 16384 0

/-- The lowest free crown index (R157). -/
def State.freeCrown (s : State) : Nat := (lowest (fun n => !s.crownsUsed.contains n) 32 0).getD 0xFF

/-- The identifier in the first 8 bytes. -/
def identAt (args : Bytes) (off : Nat) : Ident := BitVec.ofNat 64 (num args off 8)

/-- R158's argument test. -/
def enrolBad (args : Bytes) : Bool :=
  let fl := oct args 8
  let sp := args.drop 16
  !((oct args 11 == 1 && args.length == 32) || (oct args 11 == 2 && args.length == 112)) || badIdent (num args 0 8) ||
    fl &&& 0xC7 != 0 || 3 < oct args 9 || oct args 9 == 0 || 32 < oct args 10 || !zero args 14 2 || (bit fl 3 && !bit fl 5) ||
    (oct args 11 == 2 && (sporeBad sp || oct sp 1 != 1 || slice sp 12 8 != slice args 0 8))

/-- The place and the entry of an enrolment (R157). -/
def State.enrolled (s : State) (args key : Bytes) : Option (Nat × Entry) :=
  let crown := bit (oct args 8) 5
  let ci := if crown then s.freeCrown else 0xFF
  (s.enrolIndex (identAt args 0)).map fun n => (n,
    { ident := identAt args 0, flags := byteAt args 8 ||| 0x80#8, privileges := byteAt args 9
      phaseWin := byteAt args 10, crownIndex := BitVec.ofNat 8 ci, phaseRef := 0, hostTag := num args 12 2
      keyField := if crown then Crypto.aesEnc (s.ks.crownKey ci) key else kcv key ++ zeros 8 })

/-- The commit phase of TOKEN_ENROL: the entry, its record and the results (R157). -/
def State.applyEnrol (s : State) (tk : Ticket) (args key : Bytes) : State :=
  match s.enrolled args key with
  | none => s
  | some (n, e) =>
    let s1 := s.writeEntry n e
    (s1.recordReply tk 0x13 (slice args 0 8 ++ leN 2 n ++ leN 1 e.crownIndex.toNat ++ [e.privileges, e.flags] ++
      slice args 11 1 ++ slice args 12 2 ++ kcv key)).amend tk 0
      (leN 2 n ++ leN 1 e.crownIndex.toNat ++ leN 1 (32 - s1.crownsUsed.length) ++
        leN 2 (16384 - (s1.dir.filter fun p => p.2.valid).length) ++ zeros 2)

/-- A tombstone of an identifier (R159). -/
def tombstone (i : Ident) : Entry :=
  { ident := i, flags := 0x40, privileges := 0, phaseWin := 0, crownIndex := 0, phaseRef := 0, hostTag := 0, keyField := zeros 16 }

/-- The directory as a change that waits will leave it. -/
def State.dirAfter (s : State) (a : Act) : State :=
  match a with
  | .enrol _ args key =>
    match s.enrolled args key with
    | some (n, e) => s.writeEntry n e
    | none => s
  | .revoke _ i =>
    match s.validEntry i with
    | some (n, _) => s.writeEntry n (tombstone i)
    | none => s
  | _ => s

/-- The change of the directory that an admitted clause, whose work has not run, will ask for. -/
def Queued.dirAct (q : Queued) : Option Act :=
  if q.ticket.verb = 0x2D then some (.enrol q.ticket q.args [])
  else if q.ticket.verb = 0x2E then some (.revoke q.ticket (identAt q.args 0))
  else none

/-- The directory as the clauses admitted before will leave it: a clause is tested against that (R158, R159). -/
def State.ahead (s : State) : State := (s.acts ++ s.work.filterMap Queued.dirAct).foldl State.dirAfter s

/-- TOKEN_ENROL (R157, R158). -/
def tokenEnrolWork (args : Bytes) : Work := Work.aes {
  need := fixedNeed 0x2D
  check := fun tk s =>
    { arg := enrolBad args
      auth := oct args 11 == 1 && tk.sess.isNone
      state := (s.ahead.validEntry (identAt args 0)).isSome || (bit (oct args 8) 5 && 32 ≤ s.ahead.crownsUsed.length) ||
        (s.ahead.enrolIndex (identAt args 0)).isNone }
  run := fun tk s =>
    if oct args 11 = 1 then (s.push (.enrol tk args (args.drop 16))).done tk []
    else
      match s.ks.unwrap (args.drop 16) with
      | .key k => (s.push (.enrol tk args k)).done tk []
      | .bad r => s.reply tk (if r = 1 then 0x32 else 0x31) [] }

/-- TOKEN_ENROL. -/
def execTokenEnrol (h : Hdr) (args : Bytes) (s : State) : Host.Outcome State Fault Refusal :=
  .next (command 0x2D h args (tokenEnrolWork args) s)

/-- The session's token is revoked: REVOKED, with a clear request (Table 06.14). -/
def State.revokeSession (s : State) (i : Ident) : State := if s.ses.token == i then s.endSessionClear 0x07 else s

/-- An exchange that handles a revoked token records it as REVOKED, and its spore request ends (R159, R284). -/
def State.revokeInExchange (s : State) (i : Ident) : State :=
  let hit : Booking → Bool := fun b => b.phase != .booked && b.cur.any fun c => c.ident == i
  ((s.field.bookings.filter hit).foldl (fun s b => s.dropRequest b.engine) s).onBookings hit fun b =>
    { b with cur := b.cur.map fun c => { c with revoked := true } }

/-- The commit phase of TOKEN_REVOKE (R159): the tombstone, the wiped key, the record, the session's end. -/
def State.applyRevoke (s : State) (tk : Ticket) (i : Ident) : State :=
  match s.validEntry i with
  | none => s
  | some (n, e) =>
    let s1 := s.writeEntry n (tombstone i)
    let s2 : State := { s1 with ks := s1.ks.wipeSlots fun c => c.owner.isSome && c.token == i }
    ((s2.recordReply tk 0x14 (leN 8 i.toNat ++ leN 2 n ++ leN 1 (b2n e.crown))).revokeSession i |>.revokeInExchange i).amend tk 0
      (leN 2 n ++ leN 1 (b2n e.crown) ++ zeros 1)

/-- TOKEN_REVOKE: the identifier (R159). -/
def tokenRevokeWork (args : Bytes) : Work where
  need := fixedNeed 0x2E
  check := fun _ s => { arg := args.length != 8, state := (s.ahead.validEntry (identAt args 0)).isNone }
  run := fun tk s => (s.push (.revoke tk (identAt args 0))).done tk []

/-- TOKEN_REVOKE. -/
def execTokenRevoke (h : Hdr) (args : Bytes) (s : State) : Host.Outcome State Fault Refusal :=
  .next (command 0x2E h args (tokenRevokeWork args) s)

/-- NEXT of TOKEN_QUERY: the next valid entry after `n`, or 0xFFFF (R160). -/
def State.nextValid (s : State) (n : Nat) : Nat :=
  (s.dir.filter fun p => p.2.valid && n < p.1).foldl (fun m p => min m p.1) 0xFFFF

/-- Expiry tick of the lock that applies to an entry's identifier: its own or the device-wide one, whichever ends later; 0
when none applies, as to an exempt token (R160, R172, R175 to R177). -/
def State.lockExpiry (s : State) (e : Entry) : Nat :=
  let own := match s.idLockOf e.ident with
    | some l => if s.tick < l.expiry then l.expiry else 0
    | none => 0
  if s.exemptNow e then 0 else max own (if s.devLocked && (s.validEntry e.ident).isSome then s.lock.devUntil else 0)

/-- Expiry tick and failures in the window of an identifier (R160, R172). -/
def State.lockReport (s : State) (e : Entry) : Bytes :=
  let fails := (s.idLockOf e.ident).elim [] fun l => l.fails.filter fun t => s.tick ≤ t + idWindow s.thal.cur
  leN 4 (s.lockExpiry e) ++ leN 1 fails.length

/-- The entry a query names, with its index (R160). -/
def State.queried (s : State) (args : Bytes) : Option (Nat × Option Entry) :=
  if oct args 0 = 0 then (s.entryOf (identAt args 4)).map fun p => (p.1, some p.2)
  else some (num args 4 2, s.entryAt (num args 4 2))

/-- TOKEN_QUERY: MODE, 3 reserved, KEY (R160). -/
def tokenQueryWork (args : Bytes) : Work where
  need := fixedNeed 0x2F
  check := fun _ s =>
    { arg := args.length != 12 || 1 < oct args 0 || !zero args 1 3 ||
        (oct args 0 == 1 && (!zero args 6 6 || 16384 ≤ num args 4 2))
      state := (s.queried args).isNone }
  run := fun tk s =>
    match s.queried args with
    | none => s.done tk []
    | some (n, none) => s.done tk (zeros 32 ++ leN 2 n ++ leN 2 (s.nextValid n) ++ zeros 6)
    | some (n, some e) =>
      s.done tk ((if e.crown then { e with keyField := zeros 16 } else e).bytes ++ leN 2 n ++ leN 2 (s.nextValid n) ++
        s.lockReport e ++ zeros 1)

/-- TOKEN_QUERY. -/
def execTokenQuery (h : Hdr) (args : Bytes) (s : State) : Host.Outcome State Fault Refusal :=
  .next (command 0x2F h args (tokenQueryWork args) s)

/-- LOCK_EXPIRY: locks whose expiry tick is reached no longer apply (R172, R174). -/
def execLockExpiry (s : State) : Host.Outcome State Fault Refusal :=
  .next { s with lock := { s.lock with
    ids := s.lock.ids.map fun l => if l.expiry ≤ s.tick then { l with expiry := 0 } else l
    devUntil := if s.lock.devUntil ≤ s.tick then 0 else s.lock.devUntil } }

end Sys2Proof.Machine
end

