-- ==== Sys2Proof/Machine/FieldPort.lean ====
section
/-! DEFINITION. The field port: the device as a tag (R129 to R133, R149, R152, R250 to R264), its mailbox (R258 to
R263), FIELDPORT_CFG (R265) and the local mailbox clauses (R266). -/

namespace Sys2Proof.Machine

open Sys2Proof

/-! ### The record, the reader keys and C -/

/-- The copy in force is the valid one with the greater generation (R259, R265). -/
def FieldPort.copy (f : FieldPort) : Option PortCopy :=
  match f.copy0.filter (·.ok), f.copy1.filter (·.ok) with
  | some a, some b => if serialNewer 16 b.gen a.gen then some b else some a
  | a, b => a.or b

/-- The record in force; all zero when neither copy is valid (R259). -/
def FieldPort.body (f : FieldPort) : PortRecord :=
  (f.copy.map (·.body)).getD ⟨0, 0, false, false, false, 0, [none, none, none, none]⟩

/-- Fields of the record in force. -/
abbrev FieldPort.ident (f : FieldPort) : Ident := f.body.ident
abbrev FieldPort.group (f : FieldPort) : Nat := f.body.group
abbrev FieldPort.en (f : FieldPort) : Bool := f.body.en
abbrev FieldPort.harvEn (f : FieldPort) : Bool := f.body.harvEn
abbrev FieldPort.wakeOnWrite (f : FieldPort) : Bool := f.body.wakeOnWrite
abbrev FieldPort.openPages (f : FieldPort) : Nat := f.body.openPages
abbrev FieldPort.keys (f : FieldPort) : List (Option ReaderKey) := f.body.keys

/-- A new record is written over the copy that is not in force, and verified (R258, R265). -/
def FieldPort.setBody (b : PortRecord) (nvmOk : Bool) (f : FieldPort) : FieldPort :=
  let c : PortCopy := ⟨((f.copy.map (·.gen)).getD 0 + 1) % 65536, b, nvmOk⟩
  if f.copy0.isSome && f.copy == f.copy0 then { f with copy1 := some c } else { f with copy0 := some c }

/-- C: the greater valid cell (R254). -/
def FieldPort.counter (f : FieldPort) : Nat := max (f.cell0.getD 0) (f.cell1.getD 0)

/-- The counter step: C + 1 goes into the cell that does not hold C; when it does not verify, C keeps its value (R254). -/
def FieldPort.stepCounter (ok : Bool) (f : FieldPort) : FieldPort :=
  let c := if ok then some (f.counter + 1) else none
  if f.cell0 == some f.counter then { f with cell1 := c } else { f with cell0 := c }

/-! ### Replies -/

/-- A reply: the preamble, its fields, the CRC over the identifier and them (R123, R126, R128). -/
def FieldPort.crcReply (f : FieldPort) (bits : List Bool) : List Bool :=
  preamble ++ bits ++ crcBits (airBits 64 f.ident.toNat) bits

/-- The responder ignores every frame: EN clear, or a booking of the device's own holds the carrier (R251, R253). -/
def State.tagDeaf (s : State) : Bool :=
  !s.fp.en || s.field.bookings.any fun b => b.phase == .running || b.phase == .lead || b.phase == .ending

/-- u_max: the longest reply that an opcode solicits, 0 for none (Table 05.5). -/
def longestReply : Nat → Nat
  | 0x2 => 68
  | 0x3 => 67
  | 0x4 => 68
  | 0x6 => 406
  | 0x9 => 376
  | 0xA => 120
  | 0xB => 24
  | _ => 0

/-- The idle limit after a frame, in cc: longer after SOUND and after one that solicits a reply (R149). -/
def idleOf (opcode : Nat) : Nat :=
  if opcode = 5 then 544 else if longestReply opcode = 0 then 256 else 384 + 16 * longestReply opcode

/-- A frame reaches the responder: it restarts the idle timer at `limit`, and is answered unless the responder is deaf (R129,
R149, R250, R251). -/
def State.tagFrame (s : State) (limit : Nat) (act : FieldPort → FieldPort) : State :=
  if !s.fp.field then s
  else
    let f : FieldPort := { s.fp with idleLimit := limit, reply := [] }
    { s with fp := if s.tagDeaf then f else act f }

/-- The state in which a whole frame finds the responder: a stream that no stop gap has halted has ended (R149). -/
def FieldPort.now (f : FieldPort) : TagState :=
  match f.state with
  | .streaming _ => .selected
  | x => x

/-! ### Walk frames -/

/-- FIELD_PRESENT: the coil voltage reaches V_DEC (R250). -/
def execFieldPresent (s : State) : Host.Outcome State Fault Refusal :=
  .next { s with fp := { s.fp with field := true, state := .listen, idleLimit := 256, reply := [] } }

/-- FIELD_WAKE (R130). -/
def execFieldWake (group : Nat) (s : State) : Host.Outcome State Fault Refusal :=
  .next (s.tagFrame (idleOf 0x1) fun f => { f with state := if group = f.group then .awake else .listen })

/-- The responder sends its identifier stream from bit `k` on (R131, R133). -/
def FieldPort.stream (k : Nat) (f : FieldPort) : FieldPort :=
  { f with state := .streaming k, reply := preamble ++ (airBits 64 f.ident.toNat).drop k }

/-- FIELD_INVENTORY_BEGIN with a round (R131). -/
def execFieldInventoryBegin (round : Nat) (s : State) : Host.Outcome State Fault Refusal :=
  .next (s.tagFrame (idleOf 0x2) fun f =>
    let go : FieldPort := FieldPort.stream 0 { f with round := round }
    match f.now with
    | .awake | .lost | .halted | .selected => go
    | .quiet q => if q = round then f else go
    | .listen | .streaming _ => f)

/-- FIELD_STOP_GAP: a gap in a stream halts it (R132, R149). -/
def execFieldStopGap (s : State) : Host.Outcome State Fault Refusal :=
  .next (s.tagFrame 256 fun f =>
    match f.state with
    | .streaming _ => { f with state := .halted }
    | _ => f)

/-- FIELD_TREE_BIT (R133). -/
def execFieldTreeBit (k : Nat) (v : Bool) (s : State) : Host.Outcome State Fault Refusal :=
  .next (s.tagFrame (idleOf 0x3) fun f =>
    match f.now with
    | .halted | .selected =>
      if f.ident.getLsbD (63 - k) == v then FieldPort.stream (k + 1) f else { f with state := .lost }
    | _ => f)

/-- The status reply (Table 05.5, R253): STATE, CHALLENGE_COUNT, KEY_VERSION. -/
def FieldPort.statusReply (lanesOff : Bool) (f : FieldPort) : List Bool :=
  f.crcReply (airBits 8 (128 * b2n lanesOff) ++ airBits 32 f.counter ++ airBits 8 0xF3)

/-- FIELD_SELECT (R138, R253). -/
def execFieldSelect (ident : Ident) (s : State) : Host.Outcome State Fault Refusal :=
  .next (s.tagFrame (idleOf 0x4) fun f =>
    if f.state = .listen then f
    else if ident = f.ident then { f with state := .selected, reply := f.statusReply (!s.awake) }
    else if f.now = .selected then { f with state := .awake }
    else f)

/-- FIELD_QUIET: SCOPE 0 reaches the selected tag, SCOPE 1 every one awake; it is quiet for the round last recorded
(R134, R149). -/
def execFieldQuiet (scope : Bool) (s : State) : Host.Outcome State Fault Refusal :=
  .next (s.tagFrame (idleOf 0x8) fun f =>
    if f.state = .listen then f
    else if scope || f.now = .selected then { f with state := .quiet f.round }
    else f)

/-- FIELD_FRAME_IGNORED: no answer and no change but the idle timer's, which follows the opcode whether or not the frame was
addressed to the responder (R129, R149, R151, R251). -/
def execFieldFrameIgnored (opcode : Nat) (s : State) : Host.Outcome State Fault Refusal :=
  .next (s.tagFrame (idleOf opcode) id)

/-- FIELD_IDLE_TIMEOUT (R149). -/
def execFieldIdleTimeout (s : State) : Host.Outcome State Fault Refusal :=
  .next { s with fp := { s.fp with state := .listen, idleLimit := 256 } }

/-- HARV is low (R252). -/
def FieldPort.harvOff (f : FieldPort) : FieldPort := { f with harv := false, harvLeft := 0 }

/-- FIELD_CARRIER_LOSS: the field is gone; HARV needs it (R149, R252). -/
def execFieldCarrierLoss (s : State) : Host.Outcome State Fault Refusal :=
  .next { s with fp := FieldPort.harvOff { s.fp with field := false, state := .listen, idleLimit := 256, reply := [] } }

/-- HARV_TIMEOUT: DURATION seconds have run out (R252). -/
def execHarvTimeout (s : State) : Host.Outcome State Fault Refusal := .next { s with fp := s.fp.harvOff }

/-- HARVEST_ON (R252, Table 10.3). -/
def FieldPort.harvest (duration flags : Nat) (atVHarv : Bool) (f : FieldPort) : FieldPort :=
  let code := if flags != 0 then 8 else if duration == 0 then 0 else if !f.harvEn then 1 else if !atVHarv then 5 else 0
  let g : FieldPort := { f with reply := f.crcReply (airBits 4 code) }
  if code != 0 then g else if duration = 0 then g.harvOff else { g with harv := true, harvLeft := duration }

/-- HARVEST_ON; a device in tamper hold answers only untagged reads (R357). -/
def execHarvestOn (duration flags : Nat) (atVHarv : Bool) (s : State) : Host.Outcome State Fault Refusal :=
  .next (s.tagFrame (idleOf 0xB) fun f =>
    if f.now = .selected && !s.tamper.hold then FieldPort.harvest duration flags atVHarv { f with state := .selected } else f)

/-! ### Pages -/

/-- A page never written (R259). -/
def Page.erased : Page := ⟨zeros 32, zeros 32, none, none⟩

/-- The data slot an entry names. -/
def Page.slot (p : Page) (second : Bool) : Bytes := if second then p.slot1 else p.slot0

/-- An entry that is valid in its page (R259). -/
def Page.valid (p : Page) (e : Option FlagEntry) : Option FlagEntry :=
  e.filter fun e => e.ok && e.dataCrc == Crypto.crc16 (p.slot e.slot)

/-- The current entry, and whether it is E1 (R259). -/
def Page.current (p : Page) : Option (Bool × FlagEntry) :=
  match p.valid p.e0, p.valid p.e1 with
  | none, none => none
  | some a, none => some (false, a)
  | none, some b => some (true, b)
  | some a, some b => if serialNewer 16 b.gen a.gen then some (true, b) else some (false, a)

/-- GEN of a page, 0 when neither entry is valid (R259). -/
def Page.gen (p : Page) : Nat :=
  match p.current with
  | some (_, e) => e.gen
  | none => 0

/-- DATA of a page (R259). -/
def Page.data (p : Page) : Bytes :=
  match p.current with
  | some (_, e) => p.slot e.slot
  | none => zeros 32

/-- The write sequence of R258, taking generation `gen`; whether it ends OK. The current entry and its slot are never
written. -/
def Page.program (d : Bytes) (gen : Nat) (slotOk entryOk : Bool) (p : Page) : Page × Bool :=
  let second := match p.current with
    | some (_, e) => !e.slot
    | none => false
  let intoE1 := match p.current with
    | some (e1, _) => !e1
    | none => false
  if !slotOk then (p, false)
  else
    let e : FlagEntry := { gen := gen, slot := second, dataCrc := Crypto.crc16 d, ok := entryOk }
    let q : Page := { p with
      slot0 := if second then p.slot0 else d
      slot1 := if second then d else p.slot1
      e0 := if intoE1 then p.e0 else some e
      e1 := if intoE1 then some e else p.e1 }
    (q, entryOk)

/-- Page `n` of the mailbox. -/
def FieldPort.page (f : FieldPort) (n : Nat) : Page :=
  match f.pages.find? fun p => p.1 == n with
  | some p => p.2
  | none => Page.erased

/-- Replace page `n`; pages stay in ascending order, so that equal mailboxes are equal lists. -/
def setPage (n : Nat) (p : Page) : List (Nat × Page) → List (Nat × Page)
  | [] => [(n, p)]
  | x :: r => if n < x.1 then (n, p) :: x :: r else if n = x.1 then (n, p) :: r else x :: setPage n p r

/-! ### Tags and mailbox frames -/

/-- The first 8 bytes of a tag (R255). -/
def airTag (key m : Bytes) : Bytes := (Crypto.cmac key m).take 8

/-- M_R (Table 10.4). -/
def tagMr (ident : Ident) (page flags : Nat) (challenge : BitVec 64) (status counter : Nat) (data : Bytes) : Bytes :=
  [0x52#8] ++ beN 8 ident.toNat ++ leN 1 page ++ leN 1 flags ++ beN 8 challenge.toNat ++ leN 1 status ++ beN 4 counter ++
    padTo 32 data

/-- M_W (Table 10.4). -/
def tagMw (ident : Ident) (page flags counter : Nat) (data : Bytes) : Bytes :=
  [0x57#8] ++ beN 8 ident.toNat ++ leN 1 page ++ leN 1 flags ++ beN 4 counter ++ padTo 32 data

/-- M_A (Table 10.4). -/
def tagMa (ident : Ident) (page status counter : Nat) (tag : Bytes) : Bytes :=
  [0x41#8] ++ beN 8 ident.toNat ++ leN 1 page ++ leN 1 status ++ beN 4 counter ++ padTo 8 tag

/-- The reader key that FLAGS names; in tamper hold every tagged frame is answered NO_KEY (R357). -/
def State.readerKey (s : State) (flags : Nat) : Option ReaderKey :=
  if s.tamper.hold then none else s.fp.keys.getD (flags % 4) none

/-- Bit of a page in a mask. -/
def maskHas (m : Byte) (page : Nat) : Bool := m.getLsbD (page / 32)

/-- FLAGS of a frame that Table 10.3 excludes. -/
def flagsBad (write : Bool) (flags : Nat) : Bool := bit flags 2 || (bit flags 3 && (write || flags % 4 != 0))

/-- Status of a MAILBOX_READ frame before its counter step, and whether it steps C (R256). -/
def State.readStatus (s : State) (page flags : Nat) (atVWr : Bool) : Nat × Bool :=
  if flagsBad false flags then (8, false)
  else if bit flags 3 then (if s.fp.openPages ≤ page then 1 else 0, false)
  else
    match s.readerKey flags with
    | none => (2, false)
    | some k =>
      if !maskHas k.readMask page then (1, false)
      else if s.fp.counter == 0xFFFFFFFF then (6, false)
      else if !atVWr then (5, false)
      else (0, true)

/-- The reply to a MAILBOX_READ (R254 to R256, Table 05.5). -/
def State.answerRead (s : State) (page flags : Nat) (challenge : BitVec 64) (env : FieldEnv) (f : FieldPort) : FieldPort :=
  let r := s.readStatus page flags env.atVWr
  let status := if r.2 && !env.stepOk then 7 else r.1
  let g := if r.2 then f.stepCounter env.stepOk else f
  let data := if status = 0 then (f.page page).data else zeros 32
  let tag := match s.readerKey flags with
    | some k =>
      if bit flags 3 && !flagsBad false flags then zeros 8
      else airTag k.key (tagMr f.ident page flags challenge status g.counter data)
    | none => zeros 8
  { g with
    state := .selected
    reply := f.crcReply (airBits 4 status ++ airBits 32 g.counter ++ byteBits data ++ byteBits tag) }

/-- FIELD_MAILBOX_READ: addressed to the selected tag. -/
def execFieldMailboxRead (page flags : Nat) (challenge : BitVec 64) (env : FieldEnv) (s : State) :
    Host.Outcome State Fault Refusal :=
  .next (s.tagFrame (idleOf 0x9) fun f => if f.now = .selected then s.answerRead page flags challenge env f else f)

/-- The pages that a local mailbox clause names (Table 10.10). -/
def mailboxPages (verb : Nat) (args : Bytes) : List Nat :=
  if oct args 0 != 0 then []
  else if verb == 0x61 then (List.range (oct args 2)).map (oct args 1 + ·)
  else if verb == 0x62 then [oct args 1] else []

/-- The pages that the frames of a port name which an arbitration tick has latched, and which wait (R53, R260). -/
def State.latePages (s : State) (p : PortId) : List Nat :=
  (s.port p).late.flatMap fun x =>
    let verb := oct x.2 4
    let y := openFrame s p (oct x.2 1) (num x.2 2 2) verb (slice x.2 6 (oct x.2 5))
    match y.1 with
    | .plain | .opened _ _ => mailboxPages verb y.2
    | .fails | .short => []

/-- The host page set: pages that host mailbox clauses name which are latched and not yet published (R260, R396). -/
def State.hostPages (s : State) : List Nat :=
  (s.fp.work.flatMap fun w => match w with
    | .read _ p n => (List.range n).map (p + ·)
    | .write _ p _ _ => [p]
    | _ => []) ++ (s.fp.held.flatMap fun h => (List.range h.count).map (h.page + ·)) ++
    (s.work.flatMap fun q => mailboxPages q.ticket.verb q.args) ++ s.latePages .a ++ s.latePages .b

/-- The run of field locks of a page that reaches tick `t`, or ended in the 4 ticks before it (R260, R261). -/
def FieldPort.lockRun (f : FieldPort) (page t : Nat) : Option (Nat × Nat) :=
  (f.locks.find? fun l => l.1 == page && t ≤ l.2.2 + 4).map (·.2)

/-- The page is locked by the field in tick `t` (R260). -/
def FieldPort.locked (f : FieldPort) (page t : Nat) : Bool := f.locks.any fun l => l.1 == page && l.2.1 ≤ t && t ≤ l.2.2

/-- A field write that ends in the present tick finds the page held for the host: a host clause, or the host window after 8
consecutive locked ticks (R260, R261). -/
def State.pageBusy (s : State) (page : Nat) : Bool :=
  s.hostPages.contains page ||
    match s.fp.lockRun page s.tick with
    | some (first, last) => if s.tick ≤ last + 1 then first + 8 < s.tick + 4 else last - first + 1 == 8
    | none => false

/-- Lock a page for ticks t to t + 3, a run going on when it is still locked or was in the tick before (R260). -/
def FieldPort.lock (f : FieldPort) (page t : Nat) : FieldPort :=
  let first := match f.lockRun page t with
    | some (first, last) => if t ≤ last + 1 then first else t
    | none => t
  { f with locks := (f.locks.filter fun l => l.1 != page && t ≤ l.2.2 + 4) ++ [(page, first, t + 3)] }

/-- Enter a write in the journal; the 16th entry absorbs all later ones and counts them (R264). -/
def journalAdd (e : JournalEntry) (j : List JournalEntry) : List JournalEntry :=
  if j.length < 16 then j ++ [e]
  else j.take 15 ++ (j.drop 15).map fun x => { x with absorbed := min 0xFFFF (x.absorbed + 1) }

/-- Status of a MAILBOX_WRITE frame before its counter step (R257); 0 when it goes on to programming. -/
def State.writeStatus (s : State) (page flags : Nat) (data tag : Bytes) (atVWr : Bool) : Nat :=
  if flagsBad true flags then 8
  else
    match s.readerKey flags with
    | none => 2
    | some k =>
      if !maskHas k.writeMask page then 1
      else if s.fp.counter == 0xFFFFFFFF then 6
      else if airTag k.key (tagMw s.fp.ident page flags s.fp.counter data) != tag then 3
      else if s.awake && s.pageBusy page then 4
      else if !atVWr then 5
      else 0

/-- A write that passes the checks: C is stepped, then the page is programmed (R254, R258); the status. -/
def FieldPort.store (page : Nat) (data : Bytes) (env : FieldEnv) (f : FieldPort) : FieldPort × Nat :=
  let g := f.stepCounter env.stepOk
  if !env.stepOk then (g, 7)
  else
    let r := (f.page page).program (padTo 32 data) (((f.page page).gen + 1) % 65536) env.slotOk env.entryOk
    ({ g with pages := setPage page r.1 f.pages }, if r.2 then 0 else 7)

/-- The reply to a MAILBOX_WRITE, its lock and its journal entry (R257, R260, R264). -/
def State.answerWrite (s : State) (page flags : Nat) (data tag : Bytes) (env : FieldEnv) (f : FieldPort) : FieldPort :=
  let pre := s.writeStatus page flags data tag env.atVWr
  let w := if pre = 0 then FieldPort.store page data env (if s.awake then f.lock page s.tick else f) else (f, pre)
  let g := w.1
  let key := s.readerKey flags
  let tg := match key with
    | some k => airTag k.key (tagMa f.ident page w.2 g.counter tag)
    | none => zeros 8
  let e : JournalEntry := { page := page, key := flags % 4, status := w.2, lanesOff := !s.awake, counter := g.counter
                            gen := (g.page page).gen, absorbed := 0, tick := if s.awake then s.tick else 0 }
  { g with
    state := .selected
    reply := f.crcReply (airBits 4 w.2 ++ airBits 32 g.counter ++ byteBits tg)
    journal := if w.2 = 0 || w.2 = 7 || w.2 = 3 then journalAdd e g.journal else g.journal
    wrote := g.wrote || (w.2 == 0 && g.wakeOnWrite && s.wakesNow) }

/-- FIELD_MAILBOX_WRITE: addressed to the selected tag; while the lanes run, a new journal entry waits as a record (R39,
R264). -/
def execFieldMailboxWrite (page flags : Nat) (data tag : Bytes) (env : FieldEnv) (s : State) :
    Host.Outcome State Fault Refusal :=
  let t := s.tagFrame (idleOf 0xA) fun f => if f.now = .selected then s.answerWrite page flags data tag env f else f
  .next (if s.awake && s.fp.journal.length < t.fp.journal.length then t.note 0x40 [] else t)

/-! ### FIELDPORT_CFG -/

/-- Queue work for the commit phase; its reply is staged now and amended there. -/
def State.portWork (s : State) (tk : Ticket) (w : PortWork) : State :=
  State.done { s with fp := { s.fp with work := s.fp.work ++ [w] } } tk []

/-- FLAGS of the field-port record (Table 10.8). -/
def FieldPort.flags (f : FieldPort) : Nat := 128 * b2n f.en + 64 * b2n f.harvEn + 32 * b2n f.wakeOnWrite

/-- The 24 bytes of FIELDPORT_CFG (Table 10.9). -/
def FieldPort.results (f : FieldPort) : Bytes :=
  leN 8 f.ident.toNat ++ leN 3 f.group ++ leN 1 f.flags ++ leN 1 f.openPages ++
    leN 1 (maskOf ((List.range 4).filter fun i => (f.keys.getD i none).isSome)) ++ zeros 2 ++ leN 4 f.counter ++
    leN 1 f.journal.length ++ zeros 3

/-- FIELDPORT_CFG PORT: 3 reserved, IDENTIFIER, GROUP, FLAGS, OPEN_PAGES, 3 reserved; `nvmOk` says whether the new copy
verifies (R258, R265). -/
def fieldportCfgPortWork (args : Bytes) (nvmOk : Bool) : Work where
  need := fixedNeed 0x60
  check := fun _ _ =>
    { arg := args.length != 19 || !zero args 0 3 || badIdent (num args 3 8) || oct args 14 % 32 != 0 || !zero args 16 3 }
  run := fun tk s => s.portWork tk (.port tk (args.drop 3) nvmOk)

/-- FIELDPORT_CFG_PORT. -/
def execFieldportCfgPort (h : Hdr) (args : Bytes) (nvmOk : Bool) (s : State) : Host.Outcome State Fault Refusal :=
  .next (command 0x60 h (0x00#8 :: args) (fieldportCfgPortWork args nvmOk) s (.flag nvmOk))

/-- FIELDPORT_CFG READER_KEY: 3 reserved, INDEX, READ_MASK, WRITE_MASK, reserved, KEY (R265). -/
def fieldportCfgReaderKeyWork (args : Bytes) (nvmOk : Bool) : Work where
  need := fixedNeed 0x60
  check := fun tk _ =>
    { arg := args.length != 23 || !zero args 0 3 || 3 < oct args 3 || !zero args 6 1
      auth := tk.sess.isNone }
  run := fun tk s => s.portWork tk (.key tk (args.drop 3) nvmOk)

/-- FIELDPORT_CFG_READER_KEY. -/
def execFieldportCfgReaderKey (h : Hdr) (args : Bytes) (nvmOk : Bool) (s : State) : Host.Outcome State Fault Refusal :=
  .next (command 0x60 h (0x01#8 :: args) (fieldportCfgReaderKeyWork args nvmOk) s (.flag nvmOk))

/-- FIELDPORT_CFG QUERY: 3 reserved (R265). -/
def fieldportCfgQueryWork (args : Bytes) : Work where
  need := fixedNeed 0x60
  check := fun _ _ => { arg := args.length != 3 || !zero args 0 3 }
  run := fun tk s => s.portWork tk (.query tk)

/-- FIELDPORT_CFG_QUERY. -/
def execFieldportCfgQuery (h : Hdr) (args : Bytes) (s : State) : Host.Outcome State Fault Refusal :=
  .next (command 0x60 h (0x02#8 :: args) (fieldportCfgQueryWork args) s)

/-! ### Local mailbox clauses -/

/-- The last locked tick among `n` pages from `page`, none when none is locked in tick `t` (R260). -/
def FieldPort.lockedUntil (f : FieldPort) (page n t : Nat) : Option Nat :=
  ((f.locks.filter fun l => page ≤ l.1 && l.1 < page + n && l.2.1 ≤ t && t ≤ l.2.2).map (·.2.2)).max?

/-- The last tick and the priority of an admitted clause (R43). -/
def State.rankOf (s : State) (tk : Ticket) : Nat × Nat :=
  match s.work.find? fun q => q.ticket.order == tk.order with
  | some q => (q.last, q.prio)
  | none => ((s.ledger.find? fun d => d.order == tk.order).map fun d => (d.last, d.prio)).getD (s.tick, 0)

/-- A host mailbox clause executes now, or is held by a field lock (R260). -/
def State.hostMailbox (s : State) (tk : Ticket) (page count : Nat) (data : Option Bytes) (nvmOk : Bool) : State :=
  match s.fp.lockedUntil page count s.tick with
  | some last =>
    { s with fp := { s.fp with held := s.fp.held ++ [{
        ticket := tk, page := page, count := count, data := data, nvmOk := nvmOk, due := last + 1,
        last := (s.rankOf tk).1, prio := (s.rankOf tk).2 }] } }
  | none =>
    match data with
    | some d => s.portWork tk (.write tk page d nvmOk)
    | none => s.portWork tk (.read tk page count)

/-- MAILBOX_READ with SOURCE 0x00: PAGE, COUNT, reserved (R266, Table 10.10). -/
def mailboxReadLocalWork (args : Bytes) : Work where
  need := fixedNeed 0x61
  check := fun tk _ =>
    { arg := args.length != 3 || !inRange 1 5 (oct args 1) || !zero args 2 1 || 256 < oct args 0 + oct args 1 ||
        !tk.room (4 + 36 * oct args 1) }
  run := fun tk s => s.hostMailbox tk (oct args 0) (oct args 1) none true

/-- MAILBOX_READ_LOCAL. -/
def execMailboxReadLocal (h : Hdr) (args : Bytes) (s : State) : Host.Outcome State Fault Refusal :=
  .next (command 0x61 h (0x00#8 :: args) (mailboxReadLocalWork args) s)

/-- MAILBOX_WRITE with SOURCE 0x00: PAGE, 2 reserved, DATA (R263, Table 10.10); `nvmOk` says whether its programming
verifies, the retry on a spare block included. -/
def mailboxWriteLocalWork (args : Bytes) (nvmOk : Bool) : Work where
  need := fixedNeed 0x62
  check := fun _ _ => { arg := args.length != 35 || !zero args 1 2 }
  run := fun tk s => s.hostMailbox tk (oct args 0) 1 (some (args.drop 3)) nvmOk

/-- MAILBOX_WRITE_LOCAL. -/
def execMailboxWriteLocal (h : Hdr) (args : Bytes) (nvmOk : Bool) (s : State) : Host.Outcome State Fault Refusal :=
  .next (command 0x62 h (0x00#8 :: args) (mailboxWriteLocalWork args nvmOk) s (.flag nvmOk))

/-- Earlier in the order of R43: last tick, then priority. -/
def HeldClause.before (a b : HeldClause) : Bool := a.last < b.last || (a.last == b.last && b.prio ≤ a.prio)

/-- HOST_MAILBOX_UNHELD: the held clauses whose lock has ended execute, before those of this tick (R43, R260). -/
def State.unhold (s : State) : State :=
  let go := sortBy HeldClause.before (s.fp.held.filter fun h => h.due ≤ s.tick)
  let ws := go.map fun h => match h.data with
    | some d => PortWork.write h.ticket h.page d h.nvmOk
    | none => PortWork.read h.ticket h.page h.count
  go.foldl (fun s h => s.done h.ticket [])
    { s with fp := { s.fp with held := s.fp.held.filter fun h => !decide (h.due ≤ s.tick), work := ws ++ s.fp.work } }

/-- HOST_MAILBOX_UNHELD. -/
def execHostMailboxUnheld (s : State) : Host.Outcome State Fault Refusal := .next (if s.awake then s.unhold else s)

/-! ### The commit phase -/

/-- The last write of a page in this commit phase does not verify (R263). -/
def writeFails (ws : List PortWork) (page : Nat) : Bool :=
  ws.foldl (fun b w => match w with
    | .write _ p _ ok => if p = page then !ok else b
    | _ => b) false

/-- A page as writes of this commit phase leave it so far: GEN and data. -/
def FieldPort.seen (f : FieldPort) (done : List (Nat × Nat × Bytes)) (page : Nat) : Nat × Bytes :=
  match done.find? fun o => o.1 == page with
  | some o => o.2
  | none => ((f.page page).gen, (f.page page).data)

/-- The field-port record that a PORT body gives (Table 10.8). -/
def FieldPort.setRecord (b : Bytes) (nvmOk : Bool) (f : FieldPort) : FieldPort :=
  let g := f.setBody { f.body with
    ident := identAt b 0, group := num b 8 3, en := bit (oct b 11) 7, harvEn := bit (oct b 11) 6
    wakeOnWrite := bit (oct b 11) 5, openPages := oct b 12 } nvmOk
  if g.harvEn then g else g.harvOff

/-- The reader key that a READER_KEY body gives (Table 10.8). -/
def FieldPort.setKey (b : Bytes) (nvmOk : Bool) (f : FieldPort) : FieldPort :=
  f.setBody { f.body with
    keys := f.keys.set (oct b 0) (if zero b 4 16 then none else some ⟨slice b 4 16, byteAt b 1, byteAt b 2⟩) } nvmOk

/-- The number of the clause that the work belongs to. -/
def PortWork.order : PortWork → Nat
  | .read tk _ _ | .write tk _ _ _ | .port tk _ _ | .key tk _ _ | .query tk => tk.order

/-- Work of a commit phase in admission order; `done` are the pages written so far (R263, R265). A record whose new copy does
not verify is unchanged, and its clause ends with FAULT_RETRY_EXHAUSTED (log entry 72). -/
def State.commitPortAux (ws : List PortWork) : List PortWork → List (Nat × Nat × Bytes) → State →
    State × List (Nat × Nat × Bytes)
  | [], done, s => (s, done)
  | .read tk p n :: r, done, s =>
    State.commitPortAux ws r done (s.amend tk 0 (leN 1 p ++ leN 1 n ++ zeros 2 ++ (List.range n).flatMap fun i =>
      let x := s.fp.seen done (p + i)
      leN 2 x.1 ++ zeros 2 ++ x.2))
  | .write tk p d _ :: r, done, s =>
    if writeFails ws p then State.commitPortAux ws r done (s.amend tk 0x33 [])
    else
      let g := ((s.fp.seen done p).1 + 1) % 65536
      State.commitPortAux ws r ((p, g, padTo 32 d) :: done.filter fun o => o.1 != p)
        (s.amend tk 0 (leN 1 p ++ zeros 1 ++ leN 2 g))
  | .port tk b ok :: r, done, s =>
    State.commitPortAux ws r done (State.amend { s with fp := s.fp.setRecord b ok } tk (if ok then 0 else 0x33) [])
  | .key tk b ok :: r, done, s =>
    State.commitPortAux ws r done (State.amend { s with fp := s.fp.setKey b ok } tk (if ok then 0 else 0x33) [])
  | .query _ :: r, done, s => State.commitPortAux ws r done s

/-- Field-port work at the commit phase: each page written is programmed once, with its last data (R258, R263). -/
def State.commitPort (s : State) : State :=
  let ws := sortBy (fun x y => decide (x.order ≤ y.order)) s.fp.work
  let r := State.commitPortAux ws ws [] { s with fp := { s.fp with work := [] } }
  let f := r.2.foldl (fun (f : FieldPort) o =>
    { f with pages := setPage o.1 ((f.page o.1).program o.2.2 o.2.1 true true).1 f.pages }) r.1.fp
  { r.1 with fp := f }

end Sys2Proof.Machine
end

