-- ==== Sys2Proof/Machine/Reader.lean ====
section
/-! DEFINITION. Reader exchanges with another unit's field port (R266 to R268): their clauses, the SELECT status reply
and the mailbox reply. -/

namespace Sys2Proof.Machine

open Sys2Proof

/-! ### Booking -/

/-- The arguments after SOURCE (Table 10.10): ZONE, PAGE, FLAGS, IDENTIFIER, GROUP, DURATION, SPORE, DATA. -/
def readerOf (args : Bytes) (port : PortId) (write : Bool) (handle heldFrom tick order : Nat) : Reader :=
  let sp := if bit (oct args 2) 3 then [] else slice args 15 96
  { port := port, handle := handle, heldFrom := heldFrom, write := write, ident := identAt args 3, group := num args 11 3
    page := oct args 1, flags := oct args 2, duration := oct args 14, spore := sp
    data := if write then args.drop (15 + sp.length) else [], keyTick := tick, order := order }

/-- R267's argument test; a spore must pass test 1 of R280, be a READER spore, and be bound to no port or to this one. -/
def readerBad (c : Mem) (write : Bool) (args : Bytes) : Bool :=
  let fl := oct args 2
  let open_ := bit fl 3
  let sp := slice args 15 96
  args.length != 15 + (if open_ then 0 else 96) + (if write then 32 else 0) || !zoneEnabled c (oct args 0) || 15 < fl ||
    (write && open_) || badIdent (num args 3 8) || (bit fl 2 != (oct args 14 != 0)) ||
    (!open_ && (sporeBad sp || oct sp 1 != 2 || !(zero sp 12 8 || slice sp 12 8 == slice args 3 8)))

/-- The air time of a reader exchange (R267). -/
def readerAir (args : Bytes) : Nat := if bit (oct args 2) 2 then 12160 else 11108

/-- What it asks of the calendar (R90, R95). -/
def State.askReader (s : State) (args : Bytes) : Ask :=
  s.askFor (oct args 0) (s.driveOf (zoneDv s.cfg.cur (oct args 0))) (readerAir args) false false

/-- Its place: at most 64 ticks after the latch, and not before the tick after the first seed (R53, R267); none while the DRBG
is starved (R323). -/
def State.placeReader (s : State) (args : Bytes) : Option (Nat × Nat) :=
  if !s.rng.starved && (s.rng.seeded || s.rng.seedTick == some s.tick) then
    s.place (s.tick + 1) (some (s.latchTick + 64)) (s.askReader args)
  else none

/-- Handles of reader exchanges that a port holds. -/
def State.handles (s : State) (p : PortId) : List Nat :=
  ((s.field.bookings.filterMap Booking.reader ++ s.field.readers).filter fun r => r.port == p).map Reader.handle

/-- The handle of a new reader exchange: the lower one free of the two a port may hold. -/
def State.newHandle (s : State) (p : PortId) : Nat := if (s.handles p).contains 0 then 1 else 0

/-- Book a reader exchange (R267). -/
def State.bookReader (s : State) (tk : Ticket) (write : Bool) (args : Bytes) : State :=
  match s.placeReader args with
  | none => s.reply tk 0x10 []
  | some (e, f) =>
    let a := s.askReader args
    let closing := f + a.ticks
    let h := s.newHandle tk.port
    let b : Booking := { id := 0, engine := e, zones := [oct args 0], first := f, closing := closing, kind := .reader
                         current := a.current, estimate := a.estimate, ticket := none, trigger := 0
                         reader := some (readerOf args tk.port write h closing s.tick tk.order) }
    (s.addBooking b).done tk (leN 1 h ++ zeros 3 ++ leN 4 f ++ leN 4 closing)

/-- MAILBOX_READ or MAILBOX_WRITE with SOURCE 0x01 (R267). -/
def readerBase (verb : Nat) (write : Bool) (args : Bytes) : Work where
  need := fixedNeed verb
  check := fun tk s =>
    { arg := readerBad s.cfg.cur write args
      state := s.zoneDead (oct args 0) || s.lfDead || 2 ≤ (s.handles tk.port).length
      budget := (s.placeReader args).isNone }
  run := fun tk s =>
    if bit (oct args 2) 3 then s.bookReader tk write args
    else
      match s.ks.unwrap (slice args 15 96) with
      | .key _ => s.bookReader tk write args
      | .bad r => s.reply tk (if r = 1 then 0x32 else 0x31) []

/-- The work of a reader clause: its spore is tested in staging at admission; an OPEN read has none and needs no AES
operation (R267, R292). -/
def readerWork (verb : Nat) (write : Bool) (args : Bytes) : Work :=
  if bit (oct args 2) 3 then readerBase verb write args else (readerBase verb write args).aes

/-- The work of MAILBOX_READ_READER. -/
def mailboxReadReaderWork (args : Bytes) : Work := readerWork 0x61 false args

/-- MAILBOX_READ_READER. -/
def execMailboxReadReader (h : Hdr) (args : Bytes) (s : State) : Host.Outcome State Fault Refusal :=
  .next (airCommand 0x61 h (0x01#8 :: args) (mailboxReadReaderWork args) s)

/-- The work of MAILBOX_WRITE_READER. -/
def mailboxWriteReaderWork (args : Bytes) : Work := readerWork 0x62 true args

/-- MAILBOX_WRITE_READER. -/
def execMailboxWriteReader (h : Hdr) (args : Bytes) (s : State) : Host.Outcome State Fault Refusal :=
  .next (airCommand 0x62 h (0x01#8 :: args) (mailboxWriteReaderWork args) s)

/-! ### Fetching -/

/-- The status of a fetch (R268). -/
def Reader.status (r : Reader) : Nat :=
  if r.aborted then 0x30
  else if r.stale then 0x31
  else if r.selectSilent then 0x20
  else if r.invalid then 0x24
  else if r.tagBad then 0x32
  else 0

/-- The results of a fetch (Table 10.10); none after a tamper event (R6). -/
def Reader.results (r : Reader) : Bytes :=
  if r.aborted then [] else
  leN 1 r.handle ++ leN 1 r.airStatus ++ zeros 2 ++
    (if r.tagBad then zeros 36 else leN 4 r.resCounter ++ padTo 32 r.resData)

/-- A held result of a port. -/
def State.heldReader (s : State) (p : PortId) (handle : Nat) : Option Reader :=
  s.field.readers.find? fun r => r.port == p && r.handle == handle && r.done && decide (r.heldFrom < s.tick)

/-- MAILBOX_READ with SOURCE 0x02: HANDLE, 2 reserved; a result that another clause has fetched before it is refused (R268; log
entry 96). -/
def mailboxReadFetchWork (args : Bytes) : Work where
  need := fixedNeed 0x61
  check := fun tk s =>
    { arg := args.length != 3 || !zero args 1 2, state := (s.heldReader tk.port (oct args 0)).isNone }
  run := fun tk s =>
    match s.heldReader tk.port (oct args 0) with
    | none => s.reply tk 0x11 []
    | some r =>
      let keep := s.field.readers.filter fun x => !(x.port == tk.port && x.handle == r.handle)
      State.reply { s with field := { s.field with readers := keep } } tk r.status r.results

/-- MAILBOX_READ_FETCH. -/
def execMailboxReadFetch (h : Hdr) (args : Bytes) (s : State) : Host.Outcome State Fault Refusal :=
  .next (command 0x61 h (0x02#8 :: args) (mailboxReadFetchWork args) s)

/-! ### On air -/

/-- FLAGS of the mailbox frame: KEY and OPEN (Table 10.3). -/
def Reader.airFlags (r : Reader) : Nat := r.flags % 4 + 8 * b2n (bit r.flags 3)

/-- The reader key in the engine's device slot. -/
def State.readerSlotKey (s : State) (e : Nat) : Option Bytes :=
  match s.ks.engineSlot e with
  | none => none
  | some n => ((s.ks.slot n).content).map (·.key)

/-- The mailbox frame of a reader exchange, its TAG over M_W with C of the SELECT reply (R267). -/
def Reader.frame (r : Reader) (key : Bytes) : Frame :=
  if r.write then .mailboxWrite r.page r.airFlags r.data (airTag key (tagMw r.ident r.page r.airFlags r.counter r.data))
  else .mailboxRead r.page r.airFlags r.challenge

/-- A tagged frame needs a key that has been retired since (R268, R289). -/
def State.keyGone (s : State) (engine : Nat) (r : Reader) : Bool := !bit r.flags 3 && (s.readerSlotKey engine).isNone

/-- A TAG whose AES operation has used up its attempts is not made or checked: the exchange has failed on air (R268, R292). -/
def State.readerLost (s : State) (engine : Nat) : State :=
  (s.tookLoss .next).onCurrent engine (Booking.readerEnds fun r => { r with invalid := true })

/-- A valid SELECT status reply: its CHALLENGE_COUNT is C; HARVEST_ON and the mailbox frame follow (R267). A write whose key
has been wiped since the booking began is stale (R268, R289). -/
def State.selected (s : State) (engine : Nat) (r : Reader) (count : Nat) : State :=
  if r.write && !bit r.flags 3 && s.cipher.loses .next then s.readerLost engine
  else if r.write && s.keyGone engine r then s.onCurrent engine (Booking.readerEnds fun r => { r with stale := true })
  else
    let d := s.draw .link 8
    let s1 := if r.write then s else d.2
    let r1 : Reader := { r with
      counter := count, keyTick := if r.write then s.tick else r.keyTick
      challenge := if r.write then 0 else BitVec.ofNat 64 (ofBe d.1) }
    let f := r1.frame ((s.readerSlotKey engine).getD [])
    s1.onCurrent engine fun b => { b with
      reader := some r1, await := .nothing, planned := some s.tick
      todo := (if bit r.flags 2 then [.harvest r.duration] else []) ++ [f] }

/-- A reply of a reader exchange is invalid (R268). -/
def State.readerInvalid (s : State) (engine : Nat) : State :=
  s.onCurrent engine (Booking.readerEnds fun r => { r with invalid := true })

/-- SELECT_STATUS_REPLY: STATE, CHALLENGE_COUNT, KEY_VERSION (Table 05.5); without a preamble the reply is silent (R124). -/
def execSelectStatusReply (engine : Nat) (r : Uplink) (s : State) : Host.Outcome State Fault Refusal :=
  .next (match s.current engine with
    | none => s
    | some b =>
      match b.await, b.reader with
      | .selectStatus, some rd =>
        if s.acquire b r = none then s.silent b
        else
          match s.replyOf b r 48 with
          | none => (s.senseReply b r).readerInvalid engine
          | some x => (s.senseReply b r).selected engine rd (ofBits ((x.drop 8).take 32))
      | _, _ => s)

/-- The TAG of a mailbox reply verifies (R255, R268). An OPEN read has none. -/
def Reader.tagOk (r : Reader) (key : Bytes) (status counter : Nat) (data tag : Bytes) : Bool :=
  bit r.flags 3 ||
    (if r.write then
      airTag key (tagMa r.ident r.page status counter (airTag key (tagMw r.ident r.page r.airFlags r.counter r.data))) == tag
    else airTag key (tagMr r.ident r.page r.airFlags r.challenge status counter data) == tag)

/-- The result that a valid mailbox reply gives (R268). -/
def Reader.take (r : Reader) (key : Option Bytes) (status counter : Nat) (data tag : Bytes) : Reader :=
  if !bit r.flags 3 && key.isNone then { r with stale := true }
  else
    { r with
      airStatus := status, resCounter := counter, resData := if r.write then [] else data
      tagBad := !r.tagOk (key.getD []) status counter data tag }

/-- The bits of a mailbox reply without its CRC (Table 05.5). -/
def Reader.replyLength (r : Reader) : Nat := if r.write then 100 else 356

/-- A valid mailbox reply: STATUS, COUNTER, DATA of a read, TAG; the exchange ends with it (R268, Table 05.5). -/
def State.mailboxReply (s : State) (engine : Nat) (r : Reader) (x : List Bool) : State :=
  if !bit r.flags 3 && s.cipher.loses .next then s.readerLost engine
  else
    let data := if r.write then [] else bitBytes ((x.drop 36).take 256)
    s.onCurrent engine (Booking.readerEnds fun r =>
      { r.take (s.readerSlotKey engine) (ofBits (x.take 4)) (ofBits ((x.drop 4).take 32)) data
          (bitBytes (x.drop (if r.write then 36 else 292))) with keyTick := s.tick })

/-- READER_REPLY_RECEIVED: the reply to HARVEST_ON, after which the mailbox frame goes on, or the mailbox reply (R267,
R268). -/
def execReaderReplyReceived (engine : Nat) (r : Uplink) (s : State) : Host.Outcome State Fault Refusal :=
  .next (match s.current engine with
    | none => s
    | some b =>
      match b.await, b.reader with
      | .harvestReply, some _ =>
        match s.replyOf b r 4 with
        | none => s.readerInvalid engine
        | some _ => (s.senseReply b r).onCurrent engine fun b => { b with await := .nothing }
      | .readerReply, some rd =>
        match s.replyOf b r rd.replyLength with
        | none => (s.senseReply b r).readerInvalid engine
        | some x => (s.senseReply b r).mailboxReply engine rd x
      | _, _ => s)

end Sys2Proof.Machine
end

