-- ==== Sys2Proof/Machine/AirVerbs.lean ====
section
/-! DEFINITION. INVENTORY, AUTHENTICATE, LOCATE, FIELD_VECTOR and AERIAL_CAL (R114 to R118, R148, R168, R169, R191,
R192), and the end of bookings (R46, R165, R170, R371). -/

namespace Sys2Proof.Machine

open Sys2Proof

/-! ### Booking clauses -/

/-- A clause's booking takes its place in the calendar; its reply comes when the exchange ends (R45, R46). -/
def State.bookLink (s : State) (a : Ask) (b : Booking) : State :=
  match s.placeLink a with
  | some (e, f) =>
    s.addBooking { b with engine := e, first := f, closing := f + a.ticks, current := a.current, estimate := a.estimate }
  | none => s

/-- A booking of a clause before it is placed. -/
def draft (tk : Option Ticket) (kind : Kind) (zones : List Nat) : Booking :=
  { id := 0, engine := 0, zones := zones, first := 0, closing := 0, kind := kind, current := 0, estimate := 0
    ticket := tk, trigger := 0 }

/-- DV as a booking keeps it. -/
def dvOption (dv : Nat) : Option Nat := if dv = 0xFF then none else some dv

/-- What an INVENTORY asks (R148). -/
def askInventory (args : Bytes) (s : State) : Ask :=
  s.askFor (oct args 0) (s.driveOf (s.dvFor (oct args 0) (oct args 2))) (walkAir (oct args 1)) false false

/-- INVENTORY: ZONE, K, DV, OPTIONS, 4 reserved (R148). -/
def inventoryWork (args : Bytes) : Work where
  need := linkNeed 0x28 (askInventory args)
  check := fun _ s =>
    let z := oct args 0
    { arg := args.length != 8 || !zoneEnabled s.cfg.cur z || !inRange 1 16 (oct args 1) || s.dvBad z (oct args 2) ||
        1 < oct args 3 || !zero args 4 4 || (askInventory args s).tooLong
      state := s.zoneDead z || s.lfDead
      budget := (s.placeLink (askInventory args s)).isNone }
  run := fun tk s =>
    s.bookLink (askInventory args s) { draft (some tk) .inventory [oct args 0] with
      keyLimit := oct args 1, dv := dvOption (oct args 2), enrolWake := bit (oct args 3) 0 }

/-- INVENTORY. -/
def execInventory (h : Hdr) (args : Bytes) (s : State) : Host.Outcome State Fault Refusal :=
  .next (airCommand 0x28 h args (inventoryWork args) s)

/-- What an AUTHENTICATE asks (R166). -/
def askAuthenticate (args : Bytes) (s : State) : Ask :=
  s.askExchange (oct args 0) (oct args 1) (oct args 2) (bit (oct args 4) 0) (bit (oct args 4) 2)

/-- AUTHENTICATE: ZONE, K, DV, PURPOSE, OPTIONS, 3 reserved (R168). -/
def authenticateWork (args : Bytes) : Work where
  need := linkNeed 0x29 (askAuthenticate args)
  check := fun _ s =>
    let z := oct args 0
    { arg := args.length != 8 || !zoneEnabled s.cfg.cur z || !inRange 1 11 (oct args 1) || s.dvBad z (oct args 2) ||
        !inRange 1 3 (oct args 3) || 7 < oct args 4 || (1 < oct args 4 && oct args 3 != 3) || !zero args 5 3 ||
        (askAuthenticate args s).tooLong
      state := s.zoneDead z || s.lfDead
      locked := s.devLockRefuses
      budget := (s.placeLink (askAuthenticate args s)).isNone }
  run := fun tk s =>
    s.bookLink (askAuthenticate args s) { draft (some tk) .authenticate [oct args 0] with
      keyLimit := oct args 1, dv := dvOption (oct args 2), purpose := oct args 3, repeatOk := bit (oct args 4) 0
      enrolWake := bit (oct args 4) 1, noSound := bit (oct args 4) 2 }

/-- AUTHENTICATE. -/
def execAuthenticate (h : Hdr) (args : Bytes) (s : State) : Host.Outcome State Fault Refusal :=
  .next (airCommand 0x29 h args (authenticateWork args) s)

/-- What a LOCATE asks (R166, R191). -/
def askLocate (args : Bytes) (s : State) : Ask :=
  s.askExchange (oct args 0) (oct args 1) (oct args 2) (bit (oct args 3) 0) (bit (oct args 3) 2)

/-- LOCATE: ZONE, K, DV, OPTIONS, 4 reserved (R191). -/
def locateWork (args : Bytes) : Work where
  need := linkNeed 0x2A (askLocate args)
  check := fun tk s =>
    let z := oct args 0
    let cal := bit (oct args 3) 1
    { arg := args.length != 8 || !zoneEnabled s.cfg.cur z || !inRange 1 2 (oct args 1) || s.dvBad z (oct args 2) ||
        7 < oct args 3 || (cal && (oct args 1 == 2 || bit (oct args 3) 2)) || !zero args 4 4 || (askLocate args s).tooLong
      auth := cal && tk.sess.isNone
      state := s.zoneDead z || s.lfDead
      locked := s.devLockRefuses
      budget := (s.placeLink (askLocate args s)).isNone }
  run := fun tk s =>
    s.bookLink (askLocate args s) { draft (some tk) .locate [oct args 0] with
      keyLimit := oct args 1, dv := dvOption (oct args 2), purpose := 3, repeatOk := bit (oct args 3) 0
      calPhase := bit (oct args 3) 1, noSound := bit (oct args 3) 2 }

/-- LOCATE. -/
def execLocate (h : Hdr) (args : Bytes) (s : State) : Host.Outcome State Fault Refusal :=
  .next (airCommand 0x2A h args (locateWork args) s)

/-- A FIELD_VECTOR's booking before it is placed (Table 04.11). -/
def fieldVectorDraft (tk : Option Ticket) (args : Bytes) : Booking :=
  draft tk (.fieldVector (oct args 1) (oct args 2) (num args 3 2)) [oct args 0]

/-- What a FIELD_VECTOR asks (R115). -/
def askFieldVector (args : Bytes) (s : State) : Ask :=
  s.askFor (oct args 0) (s.driveFor (fieldVectorDraft none args)) 192 false false

/-- FIELD_VECTOR (R114, R115). -/
def fieldVectorWork (args : Bytes) : Work where
  need := linkNeed 0x22 (askFieldVector args)
  check := fun _ s =>
    let z := oct args 0
    { arg := args.length != 8 || !zoneEnabled s.cfg.cur z || 1 < oct args 1 || (oct args 1 == 0 && oct args 2 != 0) ||
        (oct args 1 == 1 && (15 < oct args 2 || !bit (zoneAerials s.cfg.cur z) (oct args 2))) || 1023 < num args 3 2 ||
        !zero args 5 3
      state := s.zoneDead z || s.lfDead
      budget := (s.placeLink (askFieldVector args s)).isNone }
  run := fun tk s => s.bookLink (askFieldVector args s) (fieldVectorDraft (some tk) args)

/-- FIELD_VECTOR. -/
def execFieldVector (h : Hdr) (args : Bytes) (s : State) : Host.Outcome State Fault Refusal :=
  .next (airCommand 0x22 h args (fieldVectorWork args) s)

/-- Ticks of an AERIAL_CAL of a mask: 64 + 128 k cc (R116). -/
def calTicks (mask : Nat) : Nat := (64 + 128 * (bitsIn 16 mask).length + 31) / 32

/-- The first interval in which no zone is booked, closing by t + 4,000 (R116). -/
def State.placeCal (s : State) (mask : Nat) : Option (Nat × Nat) :=
  let n := calTicks mask
  ((s.starts (s.tick + 1)).filterMap fun f =>
    if f + n ≤ s.latchTick + 4000 && !s.field.bookings.any fun b => b.overlaps f (f + n) then
      (s.freeEngine f (f + n)).map fun e => (e, f)
    else none).head?

/-- AERIAL_CAL: MASK, OPTIONS, reserved, CAL_AMP (R116). -/
def aerialCalWork (args : Bytes) : Work where
  need := fixedNeed 0x23
  check := fun _ s =>
    let mask := num args 0 2
    { arg := args.length != 6 || mask == 0 || !(bitsIn 16 mask).all (aeEnabled s.cfg.cur) || 7 < oct args 2 ||
        !zero args 3 1 || 1023 < num args 4 2
      state := s.lfDead
      budget := (s.placeCal mask).isNone }
  run := fun tk s =>
    match s.placeCal (num args 0 2) with
    | none => s
    | some (e, f) =>
      s.addBooking { draft (some tk) (.aerialCal (num args 0 2) (oct args 2) (num args 4 2)) (List.range 8) with
        engine := e, first := f, closing := f + calTicks (num args 0 2) }

/-- AERIAL_CAL. -/
def execAerialCal (h : Hdr) (args : Bytes) (s : State) : Host.Outcome State Fault Refusal :=
  .next (airCommand 0x23 h args (aerialCalWork args) s)

/-! ### Results of measurements -/

/-- A signed 16-bit pair. -/
def pair16 (x : Int × Int) : Bytes := leN 2 (twos 16 x.1) ++ leN 2 (twos 16 x.2)

/-- A gain: magnitude and phase (Table 04.3). -/
def gainBytes (g : Nat × Int) : Bytes := leN 2 g.1 ++ leN 2 (twos 16 g.2)

/-- SCALE of FIELD_VECTOR: the product of the scales; how it is rounded is open (log entry 13). -/
def Booking.scaleOf (b : Booking) : Nat :=
  let n := b.sz * b.st * b.ss
  n / 65536 + b2n (n % 65536 != 0 && Config.roundUp 4 n 65536)

/-- The 156 bytes of FIELD_VECTOR (Table 04.12). A channel without a fitted aerial returns no values (R87). -/
def State.fieldVectorResults (s : State) (b : Booking) (m : Measurement) : Bytes :=
  leN 4 b.measured ++ leN 4 (((List.range 16).map fun n => s.gainOn b n % 4 * 4 ^ n).foldl (· + ·) 0) ++ leN 2 b.scaleOf ++
    zeros 2 ++ (List.range 16).map (fun n => (s.field.ch.getD n {}).status) ++
    (List.range 16).flatMap fun n =>
      if aeEnabled b.copied n then pair16 (m.currents.getD n (0, 0)) ++ pair16 (m.receivers.getD n (0, 0)) else zeros 8

/-! ### AERIAL_CAL -/

/-- The raw I/Q of receiver `k` while aerial `n` is driven. -/
def rawAt (m : Measurement) (n k : Nat) : Cx := (m.coupling.getD n []).getD k (0, 0)

/-- The input of receiver `k` while aerial `n` is driven, in LSB at g = 3. -/
def State.inputAt (s : State) (b : Booking) (m : Measurement) (n k : Nat) : Cx :=
  let g : Int := 4 ^ (3 - s.gainOn b k)
  ((rawAt m n k).1 * g, (rawAt m n k).2 * g)

/-- The drive of aerial `n` in its step. -/
def Booking.stepOf (b : Booking) (n : Nat) : Burst := (b.steps.find? fun x => x.aerial == n).getD ⟨n, 0, 0, 0, 0⟩

/-- TX_GAIN: the aerial's complex current divided by the commanded one, its effective target at phase 0 (R117); open where
nothing was commanded (log entry 12), and so is the rounding (log entry 13). -/
def State.txGainOf (s : State) (b : Booking) (m : Measurement) (n : Nat) : Nat × Int :=
  let i := m.currents.getD n (0, 0)
  let t := (b.stepOf n).target
  if t = 0 then (s.free (96 + 2 * n) % 65536, untwos 16 (s.free (97 + 2 * n)))
  else
    let x := norm2 i * (1023 * 2 ^ 25) ^ 2
    let r := rootOf 40 (x / t ^ 2)
    (min 0xFFFF (r + b2n (r ^ 2 * t ^ 2 != x && Config.roundUp 10 x t)), argOf i)

/-- Magnitude of a receiver's own value over the aerial's current, in units of 2^-32; none where no current flows (R117). -/
def State.rxRatio (s : State) (b : Booking) (m : Measurement) (n : Nat) : Option Nat :=
  let i := m.currents.getD n (0, 0)
  if norm2 i = 0 then none else some (rootOf 64 (norm2 (s.inputAt b m n n) * 2 ^ 64 / norm2 i))

/-- RX_GAIN: the own receiver's complex value divided by the aerial's complex current, the magnitudes normalised to a mean of
0x8000 over the mask (R117); open where it is not defined (log entry 12), and so is the rounding (log entry 13). -/
def State.rxGainOf (s : State) (b : Booking) (m : Measurement) (mask n : Nat) : Nat × Int :=
  let sum := total ((bitsIn 16 mask).map fun k => (s.rxRatio b m k).getD 0)
  let phase := argOf (cmul (s.inputAt b m n n) (conj (m.currents.getD n (0, 0))))
  match s.rxRatio b m n with
  | none => (s.free (128 + 2 * n) % 65536, untwos 16 (s.free (129 + 2 * n)))
  | some r =>
    if sum = 0 then (s.free (128 + 2 * n) % 65536, phase)
    else
      let x := r * 0x8000 * (bitsIn 16 mask).length
      (min 0xFFFF (x / sum + b2n (x % sum != 0 && Config.roundUp 5 x sum)), phase)

/-- 20 log10 of a ratio of magnitudes, given squared, rounded down, at most 254 (R117); open when negative or undefined (log
entry 12). -/
def dbRatio (open_ x y : Nat) : Nat :=
  if y = 0 then (if x = 0 then open_ % 255 else 254)
  else if x < y then open_ % 255
  else ((List.range 254).filter fun n => 10 ^ (n + 1) * y ^ 10 ≤ x ^ 10).length

/-- The zone pairs in their order. -/
def zonePairs : List (Nat × Nat) :=
  (List.range 8).flatMap fun i => ((List.range 8).filter (i < ·)).map fun j => (i, j)

/-- A pair whose isolation is not to be measured: a zone disabled, or an aerial shared (Table 04.14). -/
def pairVoid (c : Mem) (p : Nat × Nat) : Bool :=
  !zoneEnabled c p.1 || !zoneEnabled c p.2 || zoneAerials c p.1 &&& zoneAerials c p.2 != 0

/-- Ratios of one direction of a pair. -/
def State.ratios (s : State) (bk : Booking) (m : Measurement) (a b : List Nat) : List Nat :=
  a.flatMap fun x => b.map fun y =>
    dbRatio (s.free (256 + 16 * x + y)) (norm2 (s.inputAt bk m x x)) (norm2 (s.inputAt bk m x y))

/-- The isolation of a pair after a calibration (R117). -/
def State.measurePair (s : State) (bk : Booking) (mask : Nat) (m : Measurement) (p : Nat × Nat) : Option Nat :=
  let c := s.cfg.cur
  let a := bitsIn 16 (zoneAerials c p.1)
  let b := bitsIn 16 (zoneAerials c p.2)
  if pairVoid c p then none
  else if (a ++ b).all (bit mask) then some ((s.ratios bk m a b ++ s.ratios bk m b a).foldl min 254)
  else s.measuredIso p.1 p.2

/-- A raw value at full scale: its receiver clips. -/
def clips (x : Cx) : Bool := decide (32767 ≤ x.1.natAbs) || decide (32767 ≤ x.2.natAbs)

/-- Thousandths of full scale of a raw value, rounded down. -/
def permilleOf (x : Cx) : Nat := rootOf 20 (norm2 x) * 1000 / 32768

/-- A receiver is unusable in some step of a calibration: it clips at g = 0, or reads below 1 % of full scale while its own
aerial carries 250 mA, 4,096 LSB (R108). -/
def State.calSenseBad (s : State) (b : Booking) (mask : Nat) (m : Measurement) (k : Nat) : Bool :=
  (s.gainOn b k == 0 && (bitsIn 16 mask).any fun n => clips (rawAt m n k)) ||
    (bit mask k && decide (norm2 (rawAt m k k) * 10000 < 32768 ^ 2) && decide (4096 ^ 2 ≤ norm2 (m.currents.getD k (0, 0))))

/-- Receivers that a calibration finds unusable (R108). -/
def State.senseCal (s : State) (b : Booking) (mask : Nat) (m : Measurement) : State :=
  ((List.range 16).filter (aeEnabled b.copied)).foldl (fun x k =>
    x.onChannel k fun c => c.sense (s.calSenseBad b mask m k)) s

/-- An aerial passes its calibration: it was driven in its step, and none of the tests of R108 failed (R111). -/
def State.calPasses (s : State) (b : Booking) (mask : Nat) (m : Measurement) (n : Nat) : Bool :=
  (b.stepOf n).target != 0 && !b.failed.contains n && !s.calSenseBad b mask m n

/-- A channel that passed its calibration is in service, its SENSE_FAULT and DETUNED cleared (R111). -/
def Channel.passed (c : Channel) : Channel := { c with status := c.status &&& 1#8 }

/-- Stage what OPTIONS selects for one aerial (R118). -/
def State.stageCal (b : Booking) (m : Measurement) (mask options : Nat) (s : State) (n : Nat) : State :=
  let a := 0x40 + 16 * n
  let s1 := if bit options 1 then s.stageCfg (a + 6) (sbyte (b.stepOf n).trim) else s
  if bit options 2 then s1.stageCfg (a + 8) (gainBytes (s.txGainOf b m n) ++ gainBytes (s.rxGainOf b m mask n)) else s1

/-- The commit phase of AERIAL_CAL: isolations, channels returned to service, staged values (R118). -/
def State.applyCal (s : State) (b : Booking) (mask options : Nat) (m : Measurement) : State :=
  let live := (bitsIn 16 mask).filter (s.calPasses b mask m)
  let s1 := live.foldl (fun x n => x.onChannel n Channel.passed) (s.senseCal b mask m)
  let s2 : State := if bit options 0 then
      { s1 with field := { s1.field with isolation := zonePairs.map (s.measurePair b mask m) } } else s1
  (bitsIn 16 mask).foldl (State.stageCal b m mask options) s2

/-- The 196 bytes of AERIAL_CAL (Table 04.14), from the state after its commit phase. -/
def State.calResults (s : State) (b : Booking) (mask : Nat) (m : Measurement) : Bytes :=
  let iso := fun (p : Nat × Nat) => if pairVoid s.cfg.cur p then none else s.measuredIso p.1 p.2
  let conflict := zonePairs.map fun p =>
    isoDeclared s.cfg.cur p.1 p.2 && (iso p).any fun d => d < isoThresh s.cfg.cur
  leN 2 (maskOf ((List.range 16).filter s.inService)) ++ zeros 2 ++
    leN 4 (maskOf ((List.range 28).filter fun q => conflict.getD q false)) ++
    (List.range 16).flatMap (fun n =>
      if bit mask n then
        [(s.field.ch.getD n {}).status] ++ sbyte (b.stepOf n).trim ++ gainBytes (s.txGainOf b m n) ++
          gainBytes (s.rxGainOf b m mask n)
      else zeros 10) ++
    zonePairs.flatMap fun p => leN 1 ((iso p).getD 0xFF)

/-- The commit phase of AERIAL_CAL's reply, once its computation has run in maintenance slack (R50, R116, R118). -/
def State.calEvent (s : State) (tk : Ticket) (b : Booking) (m : Measurement) : State :=
  match b.kind with
  | .aerialCal mask options _ =>
    if s.ledger.any fun d => d.order == tk.order then s.push (.cal tk b m)
    else
      let s1 := s.applyCal b mask options m
      (s1.done tk (s1.calResults b mask m)).drew
  | _ => s

/-- A measurement's booking is over: its reply (R46, R114, R118), TIMEOUT_AIR when its engine or carrier was lost (R378). -/
def State.endMeasure (s : State) (b : Booking) (tk : Ticket) (m : Measurement) : State :=
  if b.endCode.isSome then s.reply tk 0x24 []
  else
    match b.kind with
    | .aerialCal _ _ _ => s.push (.cal tk b m)
    | _ => s.done tk (s.fieldVectorResults b m)

/-! ### Results of exchanges -/

/-- The 18 bytes of a key record (Table 06.11). -/
def KeyRec.bytes (r : KeyRec) : Bytes :=
  leN 8 r.ident.toNat ++ leN 1 r.outcome ++ leN 1 r.location ++ leN 2 (twos 16 r.phaseDev) ++ leN 2 r.recip ++
    leN 2 r.slotGen ++ leN 1 r.axis ++ [r.flags]

/-- The 92 bytes of a LOCATE record (Table 07.7, R192). -/
def KeyRec.locateBytes (r : KeyRec) : Bytes :=
  let none_ := leN 2 0x8000 ++ leN 2 0x8000
  r.bytes ++
    (if r.location = 0 then zeros 10
    else leN 1 r.level ++ leN 1 r.cal ++ leN 2 r.valid ++ leN 2 r.inDist ++ leN 1 r.inPoint ++ leN 1 r.outPoint ++
      leN 2 r.outDist) ++
    (List.range 16).flatMap fun n =>
      match r.uplink.getD n none with
      | some x => pair16 x
      | none => none_

/-- END of an exchange; one that never said how it ended has failed on air. -/
def Booking.endByte (b : Booking) : Nat := b.endCode.getD 6

/-- The header of Table 06.10. -/
def Booking.header (b : Booking) (n : Nat) : Bytes :=
  leN 1 n ++ leN 1 b.endByte ++ leN 1 b.round ++ leN 1 b.purpose ++ leN 2 b.session

/-- The status of an exchange (R169). -/
def Booking.status (b : Booking) : Nat :=
  let has := fun (o : Nat) => b.records.any fun r => r.outcome == o
  if b.aborted then 0x30
  else if has 0 || has 9 then 0
  else if b.endByte = 5 then 0x23
  else if b.endByte = 2 || b.endByte = 6 then 0x24
  else if has 5 then 0x22
  else if has 4 then 0x21
  else if has 0xA then 0x31
  else 0x20

/-- Status and results of an INVENTORY (R148, Table 05.10). -/
def Booking.inventoryReply (b : Booking) : Nat × Bytes :=
  (if b.endByte = 2 || b.endByte = 6 then 0x24 else if b.found = [] then 0x20 else 0,
    leN 1 b.found.length ++ leN 1 b.endByte ++ leN 1 b.round ++
      b.found.flatMap fun k => leN 8 k.1.toNat ++ leN 1 (b2n k.2.1) ++ leN 2 (twos 16 k.2.2))

/-- The results of AUTHENTICATE or LOCATE (R169, R192). -/
def Booking.exchangeResults (b : Booking) : Bytes :=
  if b.aborted then []
  else b.header b.records.length ++ b.records.flatMap fun r => if b.kind == .locate then r.locateBytes else r.bytes

/-- The commit phase that writes PHASE_REF, with its PHASE_CAL record (R193, Table 12.7). -/
def State.applyPhaseRef (s : State) (tk : Ticket) (zone : Nat) (i : Ident) (mean : Int) (spread : Nat) : State :=
  match s.validEntry i with
  | none => s
  | some (n, e) =>
    (s.writeEntry n { e with phaseRef := mean, flags := e.flags ||| 4#8 }).recordReply tk 0x15
      (leN 8 i.toNat ++ leN 2 (twos 16 e.phaseRef) ++ leN 2 (twos 16 mean) ++ leN 1 zone ++ leN 1 8 ++ leN 1 spread)

/-- PHASE_REF is written with the reply (R193). -/
def State.writePhaseRef (s : State) (tk : Ticket) (b : Booking) : State :=
  match b.calWrite with
  | none => s
  | some (i, mean, spread) => s.push (.phaseRef tk b.zone i mean spread)

/-- The POLL_RESULT notice of an autonomous exchange (R170); one that a tamper event ended carries no records (log
entry 62). -/
def State.pollResult (s : State) (b : Booking) : State :=
  let st := if b.status = 0 && (s.gradesDown || s.lanes.graded.contains b.id) then 1 else b.status
  let rs := if b.aborted then [] else b.records.take 12
  s.notify 4 (leN 1 2 ++ leN 1 b.triggerByte ++ leN 1 b.zone ++ leN 1 st ++ b.header rs.length ++ rs.flatMap KeyRec.bytes)

/-- An autonomous exchange is booked once more: after TIMEOUT_HOST (R165), or after R371 or R378. A rerun, and a poll that
POLL_START began, are not. -/
def State.rebook (s : State) (b : Booking) : State :=
  if b.rerun || b.pollPort.isSome || !(b.endByte == 5 || b.again) || s.lfDead || !(s.power.life == .awake) || s.tamper.hold then s
  else
    let a := s.askExchange b.zone b.keyLimit 0xFF b.repeatOk false
    match s.place (s.tick + 1) none a with
    | none => s
    | some (e, f) =>
      s.addBooking { draft none .authenticate b.zones with
        engine := e, first := f, closing := f + a.ticks, current := a.current, estimate := a.estimate, trigger := b.trigger
        index := b.index, poll := b.poll, doorCheck := b.doorCheck, recoveryPoll := b.recoveryPoll, purpose := b.purpose
        keyLimit := b.keyLimit, repeatOk := b.repeatOk, rerun := true, hostSilent := b.endByte == 5 }

/-- The last exchange of a door-check or recovery poll has ended undecided (R205, Table 06.14). -/
def State.checkEnds (s : State) (b : Booking) : State :=
  let left := fun (p : Booking → Bool) => s.field.bookings.any p
  if (b.doorCheck && s.ses.checking && !left Booking.doorCheck) || (b.recoveryPoll && !left Booking.recoveryPoll) then
    s.push (.undecided b.engine b.recoveryPoll)
  else s

/-- A booking is over; `b` as it ends, already released. -/
def State.publishEnd (s : State) (b : Booking) (m : Measurement) : State :=
  match b.ticket, b.reader with
  | some tk, _ =>
    if b.kind.measures then s.endMeasure b tk m
    else if b.kind == .inventory then s.reply tk b.inventoryReply.1 b.inventoryReply.2
    else (s.writePhaseRef tk b).reply tk b.status b.exchangeResults
  | none, some r =>
    let r1 : Reader := if r.done then r else { r with invalid := true, done := true }
    { s with field := { s.field with readers := s.field.readers ++ [r1] } }
  | none, none => ((s.pollResult b).rebook b).checkEnds b

/-- The exchange has nothing more to send or await, or its booked end has come. -/
def Booking.ended (tick : Nat) (b : Booking) : Bool :=
  b.await != .verdict && b.endFrom ≤ tick &&
    ((b.endCode.isSome && b.todo == [] && b.await == .nothing && b.heard == []) || b.closing ≤ tick)

/-- The commit phase at which a booking ends: what is still open has failed on air, and what it held is free (R19, R46). -/
def State.bookingEnds (s : State) (engine : Nat) (m : Measurement) : State :=
  match s.current engine with
  | none => s
  | some b0 =>
    if !b0.ended s.tick then s
    else
      let s1 := if b0.kind.measures then s.endStep b0
        else if b0.kind == .inventory then s.listHeard b0
        else if b0.endCode.isSome && b0.cur.isNone then s else s.endWith engine b0.endByte
      match s1.current engine with
      | none => s1
      | some b => (s1.release b).publishEnd b m

/-- BOOKING_END: a booking that is over leaves the calendar at the commit phase (R19, R46). -/
def execBookingEnd (engine : Nat) (m : Measurement) (s : State) : Host.Outcome State Fault Refusal :=
  .next (match s.current engine with
    | none => s
    | some b => if s.awake && b.ended s.tick then s.push (.bookingEnd engine m) else s)

/-- Bookings that have failed before they began leave at the commit phase from which their end is published (R371, R378). -/
def State.endFailed (s : State) : State :=
  (s.field.bookings.filter fun b => b.phase == .booked && b.endCode.isSome && b.endFrom ≤ s.tick).foldl
    (fun s b => (s.release b).publishEnd b ⟨[], [], []⟩) s

/-- Keys staged in time for requests of an identifier (R22). -/
def KeyStore.inTime (k : KeyStore) (i : Ident) : Nat :=
  (k.work.filter fun w => match w with
    | .load _ host sp _ _ late => !host && !late && sporeIdent sp == i
    | _ => false).length

/-- No valid load latched by tick s + 24 answers the request of an engine (R22). -/
def State.unserved (s : State) (engine : Nat) : Bool :=
  s.ks.requests.any fun r =>
    r.engine == engine && r.deadline < s.tick && s.ks.inTime r.ident ≤ (s.requestsOf r.ident).findIdx (·.engine == engine)

/-- SPORE_TIMEOUT: the limit of a request has passed; the loads latched in time are judged by this commit phase (R22). -/
def execSporeTimeout (engine : Nat) (s : State) : Host.Outcome State Fault Refusal :=
  .next (if s.awake && s.ks.requests.any fun r => r.engine == engine && r.deadline < s.tick then s.push (.hostSilent engine) else s)

/-- The commit phase of SPORE_TIMEOUT: when none of those loads is valid, the exchange ends with TIMEOUT_HOST, stops its carrier
and releases everything it holds (R22, R163, R165). -/
def State.sporeTimeout (s : State) (engine : Nat) : State :=
  if s.unserved engine then
    let s1 := s.endWith engine 5
    match s1.current engine with
    | none => s1
    | some b => (s1.release b).publishEnd b ⟨[], [], []⟩
  else s

end Sys2Proof.Machine
end

