-- ==== Sys2Proof/Machine/Evidence.lean ====
section
/-! DEFINITION. The evidence log (R305 to R313, R437): the chain, appending, seals, EVIDENCE_SIGN, EVIDENCE_READ, the
programming of records, and the faults of the cipher cluster (R292, R293, R303, R304). -/

namespace Sys2Proof.Machine

open Sys2Proof

/-! ### The chain -/

/-- The 64 bytes of a record (Table 12.6). -/
def Record.bytes (r : Record) : Bytes :=
  leN 4 r.seq ++ leN 8 r.tick ++ leN 1 r.typ ++ leN 1 (b2n r.degraded) ++ leN 2 r.aux ++ padTo 16 r.link ++ padTo 32 r.body

/-- The LINK of the next record (R307). -/
def Evidence.nextLink (e : Evidence) : Bytes :=
  (match e.records with
    | r :: _ => Crypto.sha256 r.bytes
    | [] => Crypto.sha256 (Crypto.ascii "OTR9716-EVIDENCE" ++ leN 8 Config.serial.toNat)).take 16

/-- Append one record in the commit phase of `tick` (R306, R307); the ring holds 16,384. -/
def Evidence.append (tick : Nat) (degraded : Bool) (typ aux : Nat) (body : Bytes) (e : Evidence) : Evidence :=
  { e with
    records := (⟨e.next, tick, typ, degraded, aux, e.nextLink, body⟩ :: e.records).take 16384
    next := (e.next + 1) % 2 ^ 32
    appended := e.appended + 1
    unprogrammed := e.unprogrammed ++ [(e.next, tick)] }

/-- Append waiting records. -/
def Evidence.appendAll (tick : Nat) (degraded : Bool) (ws : List Waiting) (e : Evidence) : Evidence :=
  ws.foldl (fun e w => e.append tick degraded w.typ 0 w.body) e

/-- An authentication record (R39, item 1). -/
def Waiting.isAuth (w : Waiting) : Bool :=
  match w.cls with
  | .auth _ => true
  | _ => false

/-- A record that accompanies a clause reply (R39, item 2). -/
def Waiting.isReply (w : Waiting) : Bool := w.cls == .reply

/-- The link engine of an authentication record (R179, R306). -/
def Waiting.engine (w : Waiting) : Nat :=
  match w.cls with
  | .auth e => e
  | _ => 0

/-- The order of waiting records of one kind: those that a commit phase had no room for, then by their place in the order of
R179, then by the admission of their clauses; others keep the order in which they arose (R39, R306). -/
def Waiting.before (a b : Waiting) : Bool :=
  if a.deferred || b.deferred then a.deferred
  else decide (a.rank < b.rank) || (a.rank == b.rank && decide (a.order ≤ b.order))

/-- Appending in the commit phase of `tick` (R39): authentication records in ascending engine order, then the records of
replies in the order of R179, those deferred first. Other records follow when neither a seal nor an older record waits for the
room; the rest wait for SEAL_APPEND and DEFERRED_RECORD_APPEND. -/
def Evidence.commit (tick : Nat) (degraded : Bool) (e : Evidence) : Evidence :=
  let auth := sortBy (fun a b => decide (a.engine ≤ b.engine)) (e.waiting.filter Waiting.isAuth)
  let reply := sortBy Waiting.before (e.waiting.filter Waiting.isReply)
  let other := sortBy Waiting.before (e.waiting.filter fun w => !w.isAuth && !w.isReply)
  let first := auth ++ reply
  let open_ := e.seals == [] && !other.any (·.deferred)
  let now := (if open_ then first ++ other else first).take 4
  let later := (if open_ then first ++ other else first).drop 4 ++ (if open_ then [] else other)
  Evidence.appendAll tick degraded now
    { e with waiting := later.map fun w => { w with deferred := true }, appended := 0, commitTick := tick }

/-- DEFERRED_RECORD_APPEND: the record next in R39's order of those that a commit phase had no room for is appended in the
last commit phase when that has room for it; one that a complete seal precedes waits. -/
def Evidence.appendDeferred (degraded : Bool) (e : Evidence) : Evidence :=
  match e.waiting with
  | w :: rest =>
    if w.deferred && e.appended < 4 &&
        (w.isReply || w.isAuth || e.seals.all fun x => 4 < e.appended + (if x.curve ≤ 2 then 3 else 4)) then
      { e with waiting := rest }.append e.commitTick degraded w.typ 0 w.body
    else e
  | [] => e

/-- The body of a FIELD_ACCESS record (Table 10.7). -/
def JournalEntry.body (e : JournalEntry) : Bytes :=
  leN 1 e.page ++ leN 1 e.key ++ leN 1 e.status ++ leN 1 (b2n (e.absorbed != 0) + 2 * b2n e.lanesOff) ++ leN 4 e.counter ++
    leN 2 e.gen ++ leN 2 e.absorbed ++ leN 8 e.tick

/-- The records that wait for journal entries of the field port take the entries' bodies, oldest first (R264). -/
def fillBodies : List Waiting → List JournalEntry → List Waiting
  | w :: r, j :: js => if w.typ == 0x40 then { w with body := padTo 32 j.body } :: fillBodies r js else w :: fillBodies r (j :: js)
  | l, [] => l
  | [], _ => []

/-- Records of the field port that wait. -/
def Evidence.accesses (e : Evidence) : Nat := (e.waiting.filter fun w => w.typ == 0x40).length

/-- SOURCE, LEVEL, FLAGS, a reserved byte and EVENT_SEQ of an event (R361). -/
def eventHead (e : Nat × Nat × Nat × Nat × Nat × Nat) : Bytes :=
  leN 1 e.1 ++ leN 1 e.2.1 ++ leN 1 e.2.2.1 ++ zeros 1 ++ leN 4 e.2.2.2.1

/-- The TAMPER_EVENT record of an event (Table 14.12). -/
def State.tamperRecord (s : State) (e : Nat × Nat × Nat × Nat × Nat × Nat) : State :=
  s.note 0x64 (eventHead e ++ leN 8 e.2.2.2.2.1 ++ leN 4 e.2.2.2.2.2 ++ leN 2 s.tamper.present.toNat)

/-- The TAMPER notice of an event (R361). -/
def State.tamperNotice (s : State) (e : Nat × Nat × Nat × Nat × Nat × Nat) : State :=
  s.notify 6 (0x04#8 :: (eventHead e ++ tick4 e.2.2.2.2.1))

/-- Tamper events that wait for their records. -/
def Evidence.events (e : Evidence) : Nat := (e.waiting.filter fun w => w.typ == 0x64).length

/-- The records of the oldest `k` tamper events are appended: their notices go with them (R361; log entry 99). -/
def State.eventsAppended (s : State) (k : Nat) : State :=
  let t := s.tamper
  (t.due.take k).foldl State.tamperNotice
    { s with tamper := { t with due := t.due.drop k, dueWritten := t.dueWritten.drop k, queued := t.queued - k } }

/-- Records are appended; the journal entries that they record are freed, and the notices of tamper events published (R264,
R361). -/
def State.appending (s : State) (f : Evidence → Evidence) : State :=
  let e := f { s.log with waiting := fillBodies s.log.waiting s.fp.journal }
  State.eventsAppended
    { s with log := e, fp := { s.fp with journal := s.fp.journal.drop (s.log.accesses - e.accesses) } }
    (s.log.events - e.events)

/-- The journal entries of a time without lanes wait as records (R264). -/
def State.journalWaits (s : State) : State := s.fp.journal.foldl (fun s _ => s.note 0x40 []) s

/-- DEFERRED_RECORD_APPEND. -/
def execDeferredRecordAppend (s : State) : Host.Outcome State Fault Refusal :=
  .next (s.appending (Evidence.appendDeferred s.degraded))

/-- RECORD_PROGRAM: the oldest appended record not yet in NVM is programmed (R308). -/
def execRecordProgram (s : State) : Host.Outcome State Fault Refusal :=
  .next { s with log := { s.log with unprogrammed := s.log.unprogrammed.drop 1 } }

/-! ### Seals -/

/-- SEAL_INFO or SEAL_SIG. -/
def isSealType (t : Nat) : Bool := t == 2 || t == 3

/-- Records appended after LAST_SEQ of the previous seal, oldest first, seal parts left out. -/
def Evidence.sinceSeal (e : Evidence) : List Record :=
  (e.records.filter fun r => !isSealType r.typ &&
    match e.prevSeal with
    | some (_, last) => serialNewer 32 r.seq last
    | none => true).reverse

/-- The automatic signature point: SEQ of the 32nd such record, once it is appended (R310). -/
def Evidence.point (e : Evidence) : Option Nat := (e.sinceSeal[31]?).map (·.seq)

/-- FIRST_SEQ of a seal whose LAST_SEQ is `last` (R310). -/
def Evidence.firstSeq (e : Evidence) (last : Nat) : Nat :=
  match e.prevSeal with
  | none => 0
  | some (f, l) => if l = last then f else (l + 1) % 2 ^ 32

/-- SHA-256 of a retained record; open when the record is not retained (log entry 12). -/
def Evidence.recordHash (e : Evidence) (ctr seq : Nat) : Bytes :=
  match e.records.find? fun r => r.seq == seq with
  | some r => Crypto.sha256 r.bytes
  | none => Config.freeBytes 4 ctr 32

/-- The signed message M_S (R311). -/
def sealMessage (curve first last : Nat) (keyId challenge hash : Bytes) : Bytes :=
  leN 1 0x45 ++ leN 1 curve ++ leN 4 first ++ leN 4 last ++ keyId ++ challenge ++ hash

/-- Make a seal up to `last` (R303, R310, R311): its signing starts, and the signature is complete. -/
def State.makeSeal (s : State) (last : Nat) (challenge : Bytes) : Option Seal × State :=
  let code := evidenceCurve s.thal.cur
  match Crypto.curveOf code with
  | none => (none, s)
  | some cv =>
    let q := s.log.public 3 code
    let kid := Crypto.keyId cv q.1 q.2
    let first := s.log.firstSeq last
    let m := sealMessage code first last kid challenge (s.log.recordHash s.freeCtr last)
    let d := State.signWith cv (s.ks.signScalar 3 code cv) m 8 s
    let x : Seal := ⟨code, first, last, kid, challenge, beN cv.c d.1.1 ++ beN cv.c d.1.2, s.tick, s.log.prevSeal⟩
    (some x, { d.2.drew with log := { d.2.log with seals := d.2.log.seals ++ [x], prevSeal := some (first, last) } })

/-- SIGNATURE_POINT: an automatic seal over the log up to the point, once the device is seeded; an attempt that has
failed its check twice is made again at the next tick (R40, R303, R304, R310). -/
def execSignaturePoint (s : State) : Host.Outcome State Fault Refusal :=
  .next (match s.log.point with
    | none => s
    | some last =>
      if !s.awake || !s.seeded || s.tick < s.log.pointFrom then s
      else if s.cipher.eccExhausted || s.cipher.hashExhausted || s.cipher.loses .next then
        { s with
          cipher := { s.cipher.tookLoss .next with eccExhausted := false, hashExhausted := false }
          log := { s.log with pointFrom := s.tick + 1 } }
      else (s.makeSeal last (zeros 16)).2)

/-- The parts of a seal: SEAL_INFO, then 2 or 3 SEAL_SIG with their AUX (Tables 12.6, 12.7). -/
def Seal.parts (x : Seal) : List (Nat × Nat × Bytes) :=
  (2, x.curve, leN 4 x.first ++ leN 4 x.last ++ x.keyId ++ x.challenge) ::
    (List.range (if x.curve ≤ 2 then 2 else 3)).map fun i => (3, x.curve + 256 * (i + 1), slice x.sig (32 * i) 32)

/-- Append the oldest seal in the last commit phase when its signature was complete by then and all its parts fit (R39, R310). -/
def Evidence.appendSeal (degraded : Bool) (e : Evidence) : Evidence :=
  match e.seals with
  | x :: rest =>
    if e.begun && x.tick ≤ e.commitTick && e.appended + x.parts.length ≤ 4 &&
        !e.waiting.any fun w => w.deferred && (w.isAuth || w.isReply) then
      x.parts.foldl (fun e p => e.append e.commitTick degraded p.1 p.2.1 p.2.2) { e with seals := rest }
    else e
  | [] => e

/-- SEAL_APPEND. -/
def execSealAppend (s : State) : Host.Outcome State Fault Refusal :=
  .next { s with log := s.log.appendSeal s.degraded }

/-! ### EVIDENCE_SIGN, EVIDENCE_READ -/

/-- SEQ of the newest record; 0 for an empty log. -/
def Evidence.newest (e : Evidence) : Nat := (e.records.head?.map (·.seq)).getD 0

/-- SEQ of the oldest retained record. -/
def Evidence.oldest (e : Evidence) : Nat := (e.records.getLast?.map (·.seq)).getD 0

/-- EVIDENCE_SIGN: CHALLENGE (16); a seal up to the newest record, which also serves as a signature point that is due
(R312). -/
def evidenceSignWork (args : Bytes) : Work := Work.aes (Work.signed (Work.hashed {
  need := fun s =>
    let n := (verbNeed 0x50).getD {}
    if 2 < evidenceCurve s.thal.cur then { n with ecc := 2 * n.ecc } else n
  check := fun _ _ => { arg := args.length != 16 }
  run := fun tk s =>
    let x := s.makeSeal s.log.newest args
    match x.1 with
    | some q => x.2.done tk (leN 1 q.curve ++ zeros 3 ++ leN 4 q.first ++ leN 4 q.last ++ q.keyId ++ q.sig)
    | none => x.2.done tk [] }))

/-- EVIDENCE_SIGN. -/
def execEvidenceSign (h : Hdr) (args : Bytes) (s : State) : Host.Outcome State Fault Refusal :=
  .next (drawCommand 0x50 h args (evidenceSignWork args) s)

/-- The requested range lies outside OLDEST to NEWEST (R313), serial numbers compared modulo 2^32. -/
def Evidence.rangeBad (e : Evidence) (start count : Nat) : Bool :=
  let span := (e.newest + 2 ^ 32 - e.oldest) % 2 ^ 32
  let off := (start + 2 ^ 32 - e.oldest) % 2 ^ 32
  e.records == [] || span < off + (count - 1)

/-- The record `seq`, by its place from the newest. -/
def Evidence.recordAt (e : Evidence) (seq : Nat) : Bytes :=
  ((e.records[(e.newest + 2 ^ 32 - seq) % 2 ^ 32]?).map Record.bytes).getD (zeros 64)

/-- EVIDENCE_READ: START_SEQ, COUNT, 3 reserved (R313). -/
def evidenceReadWork (args : Bytes) : Work where
  need := fixedNeed 0x51
  check := fun tk s =>
    { arg := args.length != 8 || !inRange 1 3 (oct args 4) || !zero args 5 3 || !tk.room (12 + 64 * oct args 4)
      state := s.log.rangeBad (num args 0 4) (oct args 4) }
  run := fun tk s => s.done tk (leN 4 s.log.oldest ++ leN 4 s.log.newest ++ leN 1 (oct args 4) ++ zeros 3 ++
    (List.range (oct args 4)).flatMap fun i => s.log.recordAt ((num args 0 4 + i) % 2 ^ 32))

/-- EVIDENCE_READ. -/
def execEvidenceRead (h : Hdr) (args : Bytes) (s : State) : Host.Outcome State Fault Refusal :=
  .next (command 0x51 h args (evidenceReadWork args) s)

/-! ### Faults of the cipher cluster -/

/-- Faults of one core within the 65,536 ticks that end at `tick`, this one included (R293, R303). -/
def faultsWithin (tick core : Nat) (l : List (Nat × Nat)) : Nat := (l.filter fun p => p.1 == core && tick < p.2 + 65536).length

/-- A CORE_FENCE record (Table 12.7): cause 1 parity, 2 signature check, 3 known-answer test. -/
def State.coreFence (s : State) (core cause : Nat) : State := s.note 0x07 (leN 1 core ++ leN 1 cause)

/-- Core `n` of the AES cores is fenced (R293). -/
def State.fenceAes (s : State) (n cause : Nat) : State :=
  if s.cipher.aesFenced.getLsbD n then s
  else State.coreFence { s with cipher := { s.cipher with aesFenced := s.cipher.aesFenced ||| (1#6 <<< n) } } n cause

/-- ECC core `n` goes out of service (R303). -/
def State.dropEcc (s : State) (n cause : Nat) : State :=
  if s.cipher.eccOut.getLsbD n then s
  else State.coreFence { s with cipher := { s.cipher with eccOut := s.cipher.eccOut ||| (1#2 <<< n) } } (0x10 + n) cause

/-- ECC_SIGN_CHECK_FAIL on `core`: made again on the other core; `second` is the second attempt, which ends the clause
or defers the point; two failures of a core within 65,536 ticks take it out of service, in which it runs nothing (R303). -/
def execEccSignCheckFail (core : Nat) (second : Bool) (s : State) : Host.Outcome State Fault Refusal :=
  let fs := s.cipher.eccFaults ++ [(core, s.tick)]
  let s1 : State := { s with cipher := { s.cipher with eccFaults := fs, eccExhausted := s.cipher.eccExhausted || second } }
  .next (if !s.awake || 1 < core || s.cipher.eccOut.getLsbD core then s
    else if 2 ≤ faultsWithin s.tick core fs then s1.dropEcc core 2 else s1)

/-- HASH_PARITY_FAULT: two retries on the engine; the third fault ends the request that needed the hash (R304). -/
def execHashParityFault (attempt : Nat) (s : State) : Host.Outcome State Fault Refusal :=
  .next (if s.awake && 2 ≤ attempt then { s with cipher := { s.cipher with hashExhausted := true } } else s)

end Sys2Proof.Machine
end

