-- ==== Sys2Proof/Machine/Random.lean ====
section
/-! DEFINITION. RANDOM (R328, R329), the noise sources and their health tests (R314 to R316), the conditioner and the
entropy store (R317, R318), instantiation, starvation and faults of the DRBG (R321, R323, R324). -/

namespace Sys2Proof.Machine

open Sys2Proof

/-- Arguments of RANDOM with the PR bit that the row supplies (Table 13.4). -/
def randomArgs (pr : Bool) (args : Bytes) : Bytes :=
  args.set 1 (if pr then byteAt args 1 ||| 1#8 else byteAt args 1 &&& 0xFE#8)

/-- R328's argument test. -/
def randomBad (args : Bytes) (tk : Ticket) : Bool :=
  args.length < 4 || 36 < args.length || oct args 0 == 0 || !tk.room (oct args 0) || 1 < oct args 1 || !zero args 2 2

/-- The bytes of one generate request; open once the DRBG has been zeroised (R324; log entry 12). -/
def State.random (s : State) (tk : Ticket) (n : Nat) (g : Rng → Bytes × Rng) : State :=
  if s.rng.live then
    let x := g (s.rng.serveWires s.tick)
    State.done { s with rng := x.2 } tk x.1
  else s.drew.done tk (padTo n (Config.freeBytes 16 s.freeCtr n))

/-- A plain RANDOM: one generate request with ADDIN, after the private wires have been served (R327, R328). -/
def randomWork (args : Bytes) : Work where
  need := fixedNeed 0x58
  check := fun tk _ => { arg := randomBad args tk }
  run := fun tk s => s.random tk (oct args 0) (Rng.generate s.tick (oct args 0) (args.drop 4))

/-- RANDOM. -/
def execRandom (h : Hdr) (args : Bytes) (s : State) : Host.Outcome State Fault Refusal :=
  .next (drawCommand 0x58 h (randomArgs false args) (randomWork (randomArgs false args)) s)

/-- RANDOM with prediction resistance: SHORT class, 20 units, refused with REFUSED_BUDGET without entropy credit; it
reseeds from its own block with ADDIN and then generates (R49, R329). -/
def randomPrWork (args : Bytes) : Work where
  need := fun _ => { lane := 20, deadline := 8 }
  check := fun tk s => { arg := randomBad args tk, budget := s.rng.credit == 0 }
  run := fun tk s => s.random tk (oct args 0) (Rng.generatePr tk.order (oct args 0) (args.drop 4))

/-- RANDOM_PR. -/
def execRandomPr (h : Hdr) (args : Bytes) (s : State) : Host.Outcome State Fault Refusal :=
  .next (drawCommand 0x58 h (randomArgs true args) (randomPrWork (randomArgs true args)) s)

/-- One sample of the repetition count test: the count B, the last sample, and whether B has reached 61 (R315). -/
def repStep (a : Nat × Bool × Bool) (x : Bool) : Nat × Bool × Bool :=
  let b := if a.1 != 0 && x == a.2.1 then a.1 + 1 else 1
  (b, x, a.2.2 || decide (61 ≤ b))

/-- A window passes the adaptive proportion test (R315). -/
def aptOk (w : List Bool) : Bool := (w.filter (· == w.headD false)).length < 810

/-- Eight samples as a byte, the first in bit 7 (R317). -/
def packByte (l : List Bool) : Byte := BitVec.ofNat 8 (l.foldl (fun n b => 2 * n + b2n b) 0)

/-- The 128 bytes of a window (R317). -/
def packWindow (w : List Bool) : Bytes := (List.range 128).map fun i => packByte ((w.drop (8 * i)).take 8)

/-- The fixed conditioner key K_C (R317). -/
def conditionerKey : Bytes := (List.range 32).map (BitVec.ofNat 8)

/-- The conditioner (R317). -/
def condition (x : Bytes) : Bytes :=
  Crypto.cmac conditionerKey (1#8 :: x) ++ Crypto.cmac conditionerKey (2#8 :: x)

/-- A window of a source ends: tested, and its block conditioned when it passes and is no start-up window (R314 to
R317). -/
def Rng.window (src : LaneId) (w : List Bool) (r : Rng) : Rng :=
  let n := if src = .a then r.srcA else r.srcB
  let t := w.foldl repStep (n.rep, n.last, false)
  let pass := !t.2.2 && aptOk w
  let n1 : Noise := { rep := t.1, last := t.2.1, windows := n.windows + 1, passed := pass }
  { r with
    srcA := if src = .a then n1 else r.srcA
    srcB := if src = .a then r.srcB else n1
    fails := if pass then r.fails else min 0xFFFFFFFF (r.fails + 1)
    conditioned := if pass && n.windows != 0 then r.conditioned ++ [condition (packWindow w)] else r.conditioned }

/-- NOISE_WINDOW_END: the 1,024 samples of a window of one source, while the CRYPTO domain runs (R314 to R317). -/
def execNoiseWindowEnd (src : LaneId) (samples : List Bool) (s : State) : Host.Outcome State Fault Refusal :=
  .next (if s.awake then { s with rng := s.rng.window src samples } else s)

/-- A conditioned block enters the store, which holds at most 4: it replaces the oldest that no clause has reserved, and is
discarded when every held block is reserved (R318); a starved DRBG reseeds in that tick (R323). -/
def Rng.enter (tick : Nat) (r : Rng) : Rng :=
  match r.conditioned with
  | [] => r
  | b :: rest =>
    let r1 : Rng := { r with
      conditioned := rest
      store := if r.store.length + r.reserved.length < 4 then r.store ++ [b]
        else if r.store = [] then [] else r.store.drop 1 ++ [b] }
    if r1.starved && r1.live && r1.store != [] then { r1.reseed (leN 8 tick) with starved := false } else r1

/-- ENTROPY_BLOCK_ENTRY. -/
def execEntropyBlockEntry (s : State) : Host.Outcome State Fault Refusal :=
  .next (if s.awake then { s with rng := s.rng.enter s.tick } else s)

/-- The personalisation string of the DRBG (Table 13.2). -/
def persString (bootCount tick : Nat) : Bytes :=
  leN 8 Config.serial.toNat ++ Crypto.ascii "OTR9716-CTRDRBG1" ++ leN 4 bootCount ++ leN 8 tick

/-- Instantiate from the two oldest blocks held and fill the wire buffers; seeded from this tick's commit phase
(R320, R321). -/
def Rng.instantiate (bootCount tick : Nat) (r : Rng) : Rng :=
  match r.live, r.store with
  | false, b0 :: b1 :: rest =>
    let kv := Crypto.drbgInstantiate (b0 ++ b1.take 16) (persString bootCount tick)
    let r1 : Rng := { r with
      store := rest, live := true, key := kv.1, v := kv.2, count := 0, seeded := false, starved := false
      seedTick := some tick }
    r1.serveWires tick
  | _, _ => r

/-- The DRBG counts as seeded from the commit phase of its instantiation (R321). -/
def Rng.publishSeed (r : Rng) : Rng := if r.seedTick.isSome then { r with seeded := true, seedTick := none } else r

/-- DRBG_INSTANTIATE: in the first tick that finds two blocks held; tamper hold draws no seed (R321, R409). -/
def execDrbgInstantiate (s : State) : Host.Outcome State Fault Refusal :=
  .next (if s.awake && !s.tamper.hold then { s with rng := s.rng.instantiate s.power.bootCount s.tick } else s)

/-- DRBG_STARVED: the generate count at 65,536 or more and no block in the store (R323). -/
def execDrbgStarved (s : State) : Host.Outcome State Fault Refusal :=
  .next { s with rng := { s.rng with starved := s.rng.starved || (s.rng.live && 65536 ≤ s.rng.count && s.rng.store == []) } }

/-- WIRE_REFILL: a private wire with fewer than 128 bytes (R325). -/
def execWireRefill (w : Wire) (s : State) : Host.Outcome State Fault Refusal :=
  .next { s with rng := if s.rng.live then s.rng.refill s.tick w else s.rng }

/-- The DRBG state, the store and the wire buffers are zeroised; instantiated again from blocks that arrive later (R321,
R324). -/
def Rng.zeroise (r : Rng) : Rng :=
  { r with store := [], reserved := [], live := false, key := [], v := 0, count := 0, starved := true, seedTick := none,
           wireLink := [], wireKey := [], wireCipher := [] }

/-- RNG_CORE_FAULT: a parity fault restarts the operation twice at most; the third failure, or a known-answer failure,
zeroises the block (R324). -/
def execRngCoreFault (katFailure : Bool) (attempt : Nat) (s : State) : Host.Outcome State Fault Refusal :=
  .next (if katFailure || 2 ≤ attempt then { s with rng := s.rng.zeroise } else s)

end Sys2Proof.Machine
end

