-- ==== Sys2Proof/Machine/Sleep.lean ====
section
/-! DEFINITION. SLEEP and sleep entry (R206, R413 to R417), the moss domain in sleep: wake sources (R414, R418 to R420),
the detune ping (R112, R113, R198, R199), sleep motion (R222 to R224). -/

namespace Sys2Proof.Machine

open Sys2Proof

/-! ### SLEEP -/

/-- An admitted clause of a port is not yet published (R414). -/
def Port.unpublished (q : Port) : Bool := q.outstanding.any fun o => o.admitted && !o.answered

/-- Results of SLEEP: ENTRY, SLEEP_TICK, 3 reserved, as of its commit phase (R414). -/
def State.sleepResults (s : State) : Bytes := leN 1 (b2n (s.cell.state != .locked)) ++ tick4 s.tick ++ zeros 3

/-- SLEEP: WAKE_TIMER, 4 reserved (R414); its effects follow at the commit phase that publishes its reply. -/
def sleepWork (args : Bytes) : Work where
  need := fixedNeed 0x08
  check := fun _ s =>
    { arg := args.length != 8 || 2592000 < num args 0 4 || !zero args 4 4
      state := s.portA.unpublished || s.portB.unpublished || s.field.bookings != [] || s.field.readers != [] }
  run := fun tk s => (s.push (.sleep tk (num args 0 4))).done tk s.sleepResults

/-- SLEEP. -/
def execSleep (h : Hdr) (args : Bytes) (s : State) : Host.Outcome State Fault Refusal :=
  .next (command 0x08 h args (sleepWork args) s)

/-- A port at the publication of SLEEP: READY cleared and no further frame latched, its session and contexts end (R77, R297,
R415). -/
def Port.sleeps (q : Port) : Port :=
  { q with
    ready := false, frames := [], newSession := none, session := none
    oldSessions := q.oldSessions ++ q.session.toList
    newEvents := q.newEvents ||| bitAt 14 q.session.isSome
    ctx0 := none, ctx1 := none }

/-- SLEEP ends the session, requests a clear, and stores and records the odometer, in its place among the clauses (R178, R179,
R206, R220). -/
def State.applySleep (s : State) (wake : Nat) : State :=
  ((State.endSession { s with power := { s.power with wakeTimer := wake } } 5).clearRequest 5 0).odoRecord .other 2 0 0

/-- The publication of SLEEP; a poll booked since its latch does not run (R206, R413, R415). -/
def State.sleepPublished (s : State) : State :=
  let s2 := (s.onPorts Port.sleeps).dropStages
  let s3 : State := { (s2.field.bookings.filter Booking.isPoll).foldl State.release s2 with
    power := { s2.power with life := .sleepPending, sleepTick := s.tick, storedTick := s.tick + 2 ^ 21 }
    cell := { s2.cell with recovery := false } }
  { s3 with field := { s3.field with schedules := [], heldTriggers := [], calSamples := [] } }

/-! ### Sleep entry -/

/-- The trigger entry of an input whose WAKE flag lets it wake the device; the WAKE pin needs none (R414). -/
def pinEntry : InputPin → Option Nat
  | .ign => some 1
  | .start => some 0
  | .door n => some (2 + n.val)
  | .wake => none

/-- Boot cause of an input (Table 17.5). -/
def pinCause : InputPin → Nat
  | .ign => 0x20
  | .start => 0x21
  | .door n => 0x22 + n.val
  | .wake => 0x26

/-- The level of an input that the moss domain holds (R195, R417). -/
def Field.held (f : Field) : InputPin → Bool
  | .ign => f.ign.level
  | .start => f.start.level
  | .door n => (f.doors.getD n.val {}).level
  | .wake => f.wakePin.level

/-- The WAKE flag of an entry, where one is needed. -/
def State.pinWakes (s : State) (p : InputPin) : Bool :=
  match pinEntry p with
  | some i => trigWake s.cfg.cur i
  | none => true

/-- The device starts from sleep with a boot cause (R411, R420). -/
def State.wakeUp (s : State) (cause : Nat) : State :=
  { s with power := { s.power with life := .starting, nextCause := cause } }

/-- The SLEEP reply is unread. -/
def State.sleepUnread (s : State) : Bool := s.verbUnread 0x08

/-- The conditions of R416 hold. -/
def State.mayEnterSleep (s : State) : Bool :=
  s.power.life == .sleepPending && s.cell.state == .locked && !(s.ledger.any fun d => d.nvm != 0) &&
    s.log.unprogrammed == [] && s.log.waiting == [] &&
    s.log.seals == [] && (!s.sleepUnread || max s.power.sleepTick s.power.lockedAt + 8 ≤ s.tick)

/-- SLEEP_ENTRY: the lanes stop and the moss domain takes over; `inputs` are the levels at the hand-over instant, and one
that differs from the level held wakes the device at once; the moss domain counts from the levels of SPD0 and SPD1 that MOTION
has (R397, R413, R416, R417). -/
def execSleepEntry (inputs : List (InputPin × Bool)) (s : State) : Host.Outcome State Fault Refusal :=
  .next (if s.mayEnterSleep then
      let s1 := s.lanesStop
      let s2 : State := { s1 with
        power := { s1.power with life := .asleep, entryTick := s.tick, storedTick := s.tick + 2 ^ 21, pingLimited := false
                                 wakeCycle := none }
        motion := { s1.motion with
          sleepCount0 := 0, sleepCount1 := 0, overrate := false, episodes := [], openEpisode := false, lastPulse := none
          lastPulse0 := none, lastPulse1 := none, wakeDue := true, counting := true, owed := 0
          level0 := (s.motion.src.getD 0 {}).level, level1 := (s.motion.src.getD 1 {}).level }
        field := { s1.field with lastPing := 0, vbatAt := none } }
      let causes := (inputs.filter fun x => s2.pinWakes x.1 && x.2 != s2.field.held x.1).map fun x => pinCause x.1
      match causes with
      | [] => s2
      | c :: cs => State.wakeUp { s2 with power := { s2.power with wakeCycle := some 0 } } (cs.foldl min c)
    else s)

/-! ### Wake sources -/

/-- MOSS cycles of a second. -/
abbrev mossSecond : Nat := 32768

/-- A sleep count exceeds SLEEP_WAKE_PULSES, which is not zero (R224). -/
def State.motionWakes (s : State) : Bool :=
  let n := sleepWakePulses s.thal.cur
  n != 0 && (n < s.motion.sleepCount0 || n < s.motion.sleepCount1)

/-- A wake source is enabled and may have qualified, `cycles` MOSS cycles after the hand-over (R414, R418). -/
def State.sourceWakes (s : State) (cycles : Nat) : WakeSource → Bool
  | .ign => s.pinWakes .ign
  | .start => s.pinWakes .start
  | .door n => s.pinWakes (.door n)
  | .wakePin => true
  | .ping => s.field.confirmed != 0 && trigWake s.cfg.cur 6
  | .sleepMotion => s.motionWakes
  | .fieldWrite => s.fp.wrote
  | .tamper => s.tamper.hold
  | .timer => s.power.wakeTimer != 0 && decide (s.power.wakeTimer * mossSecond ≤ cycles)

/-- Boot cause of a wake source (Table 17.5). -/
def wakeCause : WakeSource → Nat
  | .ign => 0x20
  | .start => 0x21
  | .door n => 0x22 + n.val
  | .wakePin => 0x26
  | .ping => 0x27
  | .sleepMotion => 0x28
  | .fieldWrite => 0x29
  | .tamper => 0x2A
  | .timer => 0x2B

/-- The input of a wake source. -/
def wakePin : WakeSource → Option InputPin
  | .ign => some .ign
  | .start => some .start
  | .door n => some (.door n)
  | .wakePin => some .wake
  | .ping | .sleepMotion | .fieldWrite | .tamper | .timer => none

/-- An input qualifies by 4 consecutive equal samples that differ from the level held (R417, R418). -/
def State.pinQualifies (s : State) (src : WakeSource) (samples : List Bool) : Bool :=
  match wakePin src with
  | some p => decide (4 ≤ samples.length) && (samples.drop (samples.length - 4)).all (· == !s.field.held p)
  | none => true

/-- A source wakes the sleeping device, where it is enabled; of several that qualify in one MOSS cycle the lowest code counts
(R411). -/
def State.wakeBy (s : State) (src : WakeSource) (cycles : Nat) : State :=
  if !s.sourceWakes cycles src then s
  else
    match s.power.life with
    | .asleep => State.wakeUp { s with power := { s.power with wakeCycle := some cycles } } (wakeCause src)
    | .starting =>
      if s.power.wakeCycle = some cycles ∧ 0x20 ≤ s.power.nextCause then s.wakeUp (min s.power.nextCause (wakeCause src)) else s
    | _ => s

/-- WAKE_EVENT (R418, R420). -/
def execWakeEvent (src : WakeSource) (pin : PinSamples) (s : State) : Host.Outcome State Fault Refusal :=
  .next (if s.pinQualifies src pin.samples then s.wakeBy src pin.cycles else s)

/-- WAKE_TIMER_EXPIRY (R414). -/
def execWakeTimerExpiry (cycles : Nat) (s : State) : Host.Outcome State Fault Refusal := .next (s.wakeBy .timer cycles)

/-- SLEEP_MOTION_WAKE (R224). -/
def execSleepMotionWake (cycles : Nat) (s : State) : Host.Outcome State Fault Refusal := .next (s.wakeBy .sleepMotion cycles)

/-! ### Detune ping -/

/-- The handle aerials: in service and marked PING (R112, R198). -/
def State.handleAerials (s : State) : List Nat := (List.range 16).filter fun n => s.inService n && aePing s.cfg.cur n

/-- The burst of a handle aerial: PING_AMP under the caps, phase code 0, TRIM_STORED (R107, R112); none while the supply ceiling
is 0 W (R404). DESIGN CHOICE (log entry 86): a ping names no zone, and the spec does not say which ZONE_CAP bounds it; the least
over all zones that list the aerial does, the disabled ones too. -/
def State.pingBurst (s : State) (n : Nat) : Burst :=
  let c := s.cfg.cur
  let a := min (pingAmp c) (aeAmpCap c n)
  let sz := (((List.range 8).filter fun z => bit (zoneAerials c z) n).map fun z => capScale (zoneCap c z) a).foldl min 256
  { aerial := n, target := if s.power.supplyOff then 0 else a * sz * capScale (totalCap c) a * 256, trim := aeTrimStored c n, slew := slewOf c }

/-- The handle aerials that a ping drives: not tripped in this sleep, and not at a code of 0 (R88, R198). -/
def State.pingAerials (s : State) : List Nat :=
  s.handleAerials.filter fun n => !(s.field.ch.getD n {}).pingTripped && (s.pingBurst n).target != 0

/-- Pings are enabled and there is an aerial to ping (R198). -/
def State.pingsEnabled (s : State) : Bool := pingEn s.cfg.cur && s.handleAerials != []

/-- The moss domain pings (R198). -/
def State.pings (s : State) : Bool := s.power.life == .asleep && s.pingsEnabled

/-- MOSS cycles in 24 h (R198). -/
abbrev mossDay : Nat := 2831155200

/-- The standing time τ in MOSS cycles, `cycles` after the hand-over: it runs from the commit phase that published SLEEP
(R198). -/
def State.standing (s : State) (cycles : Nat) : Nat :=
  cycles + (s.power.entryTick - s.power.sleepTick) * 256 * 32768 / 1000000

/-- The ping period P in MOSS cycles; the battery override comes before P_MAX (R198, R199). -/
def State.pingPeriod (s : State) (cycles : Nat) : Nat :=
  if s.field.pingOverride then 524288
  else 8192 * min (2 ^ min (s.standing cycles / mossDay) 6) (pMax s.cfg.cur)

/-- A ping is due: the period has passed since the last one, or since the hand-over (R198; log entry 68). -/
def State.pingDue (s : State) (cycles : Nat) : Bool :=
  s.pings && !s.field.pingStopped && decide (s.field.lastPing + s.pingPeriod cycles ≤ cycles)

/-- |r − b| exceeds DETUNE_THRESH, in units of 0.1 %, of |b| (R113, Table 04.6); `b` is a value over 16^n. -/
def exceeds (thresh : Nat) (i q : Int) (b : Int × Int × Nat) : Bool :=
  let d := (16 : Int) ^ b.2.2
  let di := i * d - b.1
  let dq := q * d - b.2.1
  decide (((thresh ^ 2 : Nat) : Int) * (b.1 * b.1 + b.2.1 * b.2.1) < 1000000 * (di * di + dq * dq))

/-- b := b + (r − b) / 16, exactly (R113). -/
def followBase (i q : Int) (b : Int × Int × Nat) : Int × Int × Nat :=
  let d := (16 : Int) ^ b.2.2
  (15 * b.1 + i * d, 15 * b.2.1 + q * d, b.2.2 + 1)

/-- A response exceeds the threshold of its aerial. -/
def State.pingExceeds (s : State) (r : PingResponse) : Bool :=
  match (s.field.ch.getD r.aerial {}).base with
  | some b => exceeds (detuneThresh s.cfg.cur) r.i r.q b
  | none => false

/-- An aerial trips in a burst: it is not pinged again until the wake (R198). -/
def State.pingTrip (s : State) (n : Nat) : State :=
  { s with field := { s.field with ch := s.field.ch.modify n fun c => { c with pingTripped := true } } }

/-- A ping without an exceedance: each aerial's baseline is set or follows (R113). -/
def State.followPing (s : State) (r : PingResponse) : State :=
  let f : Channel → Channel := fun c => { c with base := match c.base with
    | none => some (r.i, r.q, 0)
    | some b => some (followBase r.i r.q b) }
  { s with field := { s.field with ch := s.field.ch.modify r.aerial f } }

/-- A first response sets a baseline even in a ping that another aerial exceeds. -/
def State.setBase (s : State) (r : PingResponse) : State :=
  match (s.field.ch.getD r.aerial {}).base with
  | none => s.followPing r
  | some _ => s

/-- The bursts of a ping, and what their responses give (R112, R113, R198). -/
def State.ping (s : State) (r : List PingResponse) (cycles : Nat) : State :=
  let s0 : State := { s with field := { s.field with bursts := s.pingAerials.map s.pingBurst, lastPing := cycles } }
  let mine := r.filter fun x => s.pingAerials.contains x.aerial
  let ok := mine.filter fun x => !x.trip
  let s1 := (mine.filter (·.trip)).foldl (fun s x => s.pingTrip x.aerial) s0
  let exceed := (ok.filter s.pingExceeds).map (·.aerial)
  if exceed = [] then ok.foldl State.followPing s1
  else
    let s2 := ok.foldl State.setBase s1
    { s2 with field := { s2.field with exceeded := exceed } }

/-- DETUNE_PING: the ping that falls due `cycles` MOSS cycles after the hand-over, once VBAT has been sampled for it (R112,
R113, R198, R199). -/
def execDetunePing (r : List PingResponse) (cycles : Nat) (s : State) : Host.Outcome State Fault Refusal :=
  .next (if s.pingDue cycles && s.field.vbatAt == some cycles then s.ping r cycles else s)

/-- PING_CONFIRM: 131 MOSS cycles later, one aerial alone; a second exceedance wakes the device where entry 6 allows it (R113,
R414). DESIGN CHOICE (log entry 78): where two aerials exceed in one ping, the first that is confirmed wakes the device and a
second confirmation is not made, so the trigger polls the first one's zones. -/
def execPingConfirm (r : PingResponse) (cycles : Nat) (s : State) : Host.Outcome State Fault Refusal :=
  .next (if s.wakesNow && s.pingsEnabled && s.field.exceeded.contains r.aerial && s.field.lastPing + 131 ≤ cycles then
      let s1 : State := { s with field := { s.field with
        exceeded := s.field.exceeded.filter (· != r.aerial), bursts := [s.pingBurst r.aerial] } }
      if (s.pingBurst r.aerial).target = 0 then s1
      else if r.trip then s1.pingTrip r.aerial
      else if s.pingExceeds r then
        State.wakeBy { s1 with field := { s1.field with confirmed := s1.field.confirmed ||| 2 ^ r.aerial } } .ping cycles
      else s1
    else s)

/-- VBAT is sampled in this MOSS cycle: before a ping, and every 16 s while pings are stopped (R199). -/
def State.vbatDue (s : State) (cycles : Nat) : Bool :=
  s.pings && (if s.field.pingStopped then decide (s.field.vbatAt.getD 0 + 524288 ≤ cycles) else s.pingDue cycles)

/-- STANDBY_VBAT_SAMPLE: battery override and stop; the first ping after resuming sets new baselines (R113, R199). -/
def execStandbyVbatSample (v : VbatSample) (s : State) : Host.Outcome State Fault Refusal :=
  let c := s.cfg.cur
  let exceed := if v.millivolts < batLow c then true else if batLow c + 400 ≤ v.millivolts then false else s.field.pingOverride
  let stop := if v.millivolts < batStop c then true else if batStop c + 400 ≤ v.millivolts then false else s.field.pingStopped
  let clear : Channel → Channel := fun x => if s.field.pingStopped && !stop then { x with base := none } else x
  .next (if s.vbatDue v.cycles then
      { s with
        field := { s.field with
          vbatAt := some v.cycles, pingOverride := exceed, pingStopped := stop, exceeded := if stop then [] else s.field.exceeded
          ch := s.field.ch.map clear }
        power := { s.power with pingLimited := s.power.pingLimited || exceed || stop } }
    else s)

/-! ### Sleep motion -/

/-- From sleep entry until MOTION restarts at a wake (R222). -/
def State.mossCounts (s : State) : Bool :=
  s.motion.counting && (s.power.life == .asleep || s.power.life == .starting || s.power.life == .bootStopped)

/-- An edge counted in an episode. -/
def Episode.count (second : Bool) (e : Episode) : Episode :=
  if second then { e with count1 := e.count1 + 1 } else { e with count0 := e.count0 + 1 }

/-- A new episode, or the 16th absorbs it (R223). -/
def openEpisodes (second : Bool) (cycle : Nat) (l : List Episode) : List Episode :=
  if l.length < 16 then l ++ [Episode.count second ⟨cycle / mossSecond, 0, 0, 0, false⟩]
  else l.modify 15 fun e => { e.count second with merged := true }

/-- The end of the episode that is open: 2 s after its last edge, in whole seconds (R223). -/
def Motion.endEpisode (m : Motion) : Motion :=
  match m.lastPulse with
  | none => m
  | some last =>
    { m with
      openEpisode := false
      episodes := m.episodes.modify (m.episodes.length - 1) fun e => { e with fin := (last + 2 * mossSecond) / mossSecond } }

/-- One edge counted by the moss domain at MOSS cycle `cycle` after the hand-over (R222, R223). -/
def Motion.sleepEdge (second : Bool) (cycle : Nat) (m : Motion) : Motion :=
  let near := fun (last : Option Nat) (d : Nat) => match last with
    | some c => decide (cycle < c + d)
    | none => false
  let goes := m.openEpisode && near m.lastPulse (2 * mossSecond)
  let m1 := if m.openEpisode && !goes then m.endEpisode else m
  let eps := if goes then m1.episodes.modify (m1.episodes.length - 1) (Episode.count second)
    else openEpisodes second cycle m1.episodes
  { m1 with
    sleepCount0 := if second then m.sleepCount0 else (m.sleepCount0 + 1) % 2 ^ 32
    sleepCount1 := if second then (m.sleepCount1 + 1) % 2 ^ 32 else m.sleepCount1
    overrate := m.overrate || near (if second then m.lastPulse1 else m.lastPulse0) 16
    episodes := eps, openEpisode := true, lastPulse := some cycle
    lastPulse0 := if second then m.lastPulse0 else some cycle
    lastPulse1 := if second then some cycle else m.lastPulse1 }

/-- SPD0 or SPD1 shows the moss domain a new level; the change that EDGE selects is counted (R222, R397). -/
def Motion.sleepLevel (falling second level : Bool) (cycle : Nat) (m : Motion) : Motion :=
  if level == (if second then m.level1 else m.level0) then m
  else
    let m1 : Motion := { m with level0 := if second then m.level0 else level, level1 := if second then level else m.level1 }
    if level == !falling then m1.sleepEdge second cycle else m1

/-- SLEEP_PULSE_EDGE on SPD0 or SPD1, whose new level holds for so many consecutive samples (R222, R223, R397). -/
def execSleepPulseEdge (second : Bool) (cycle : Nat) (x : SpeedSamples) (s : State) : Host.Outcome State Fault Refusal :=
  .next (if s.mossCounts && decide (2 ≤ x.count) then
      { s with motion := s.motion.sleepLevel (edgeFalling s.thal.cur (b2n second)) second x.level cycle }
    else s)

/-- EPISODE_END: 2 s have passed since the last edge (R223). -/
def execEpisodeEnd (cycle : Nat) (s : State) : Host.Outcome State Fault Refusal :=
  .next (match s.motion.lastPulse with
    | some last =>
      if s.mossCounts && s.motion.openEpisode && last + 2 * mossSecond ≤ cycle then { s with motion := s.motion.endEpisode } else s
    | none => s)

end Sys2Proof.Machine
end

