-- ==== Sys2Proof/Machine/Boot.lean ====
section
/-! DEFINITION. The boot (R407 to R412): crozier stages 0 to 7, bank selection (R332, R334, R335), tamper hold (R354, R409),
the log walk and its first records (R308, R342, R437), sleep motion (R224), the recovery poll (R205), BOOT_RETRY. -/

namespace Sys2Proof.Machine

open Sys2Proof

/-! ### Time -/

/-- The present start is a wake (Table 17.5). -/
def State.waking (s : State) : Bool := decide (0x20 ≤ s.power.nextCause)

/-- The boot that follows personalisation (R342). -/
def State.firstLife (s : State) : Bool := s.prot.personalised && !s.log.begun

/-- The number of the first tick of stage 1 (R342, R412, R413). -/
def State.firstTick (s : State) (mossCycles : Nat) : Nat :=
  if s.firstLife then 0
  else if s.power.mossAnew then s.power.storedTick
  else s.tick + 1 + mossCycles * 15625 / 131072

/-- The boot begins: its count, its cause, the tick number, UTC, which goes on when the tick number restarts (R83, R342, R411
to R413). DESIGN CHOICE (log entry 79): the evaluations of R216, one in 256 ticks, count from the first tick of the boot; the
spec gives only their interval. -/
def State.bootBegins (s : State) (mossCycles : Nat) : State :=
  let t := s.firstTick mossCycles
  let moss := s.power.mossAnew
  let anew := moss || decide (t ≤ s.tick)
  { s with
    tick := t
    utc := if anew then s.utcNow else s.utc
    utcBase := if anew then t else s.utcBase
    utcFree := s.utcFree || moss
    power := { s.power with
      bootCount := (s.power.bootCount + 1) % 2 ^ 32, bootCause := s.power.nextCause, startTick := t, crozier := 1, mossAnew := false }
    motion := { s.motion with lastEval := t }
    tamper := { s.tamper with mesh := meshAfter (mossCycles / 4) s.tamper.mesh } }

/-- The ticks of the boot have run; a multiple of 2^20 among them has been kept (R407, R413). -/
def State.passTicks (s : State) (n : Nat) : State :=
  let m := (s.tick + n) / 2 ^ 20 * 2 ^ 20
  { s with
    tick := s.tick + n
    tamper := { s.tamper with mesh := meshAfter (meshSteps n) s.tamper.mesh }
    power := { s.power with storedTick := if s.tick ≤ m then m + 2 ^ 21 else s.power.storedTick } }

/-! ### Lanes -/

/-- The boot lane test: after a reset or a power-on every lane is tried again; through a wake a lost lane stays lost
(R374). -/
def State.laneTest (s : State) (aOk bOk : Bool) : State :=
  let keepA := s.waking && s.lanes.causeA != 0
  let keepB := s.waking && s.lanes.causeB != 0
  { s with lanes := { s.lanes with
      causeA := if keepA then s.lanes.causeA else if aOk then 0 else 7
      causeB := if keepB then s.lanes.causeB else if bOk then 0 else 7 } }

/-- Record and notice of a lane that this boot's test has lost; the spec gives no fault or takeover tick for it (log entry
12). -/
def State.laneTestRecord (s : State) (l : LaneId) : State :=
  let f := s.free 11
  let t := s.drew.free 12
  (s.drew.drew.note 0x70 (leN 1 (laneByte l) ++ leN 1 7 ++ zeros 2 ++ leN 8 f ++ leN 8 t)).notify 5
    (0x05#8 :: (leN 1 (laneByte l) ++ leN 4 t))
where
  laneByte : LaneId → Nat
    | .a => 0x0A
    | .b => 0x0B

/-! ### Banks -/

/-- The current bank: the valid one with the greater SEQ, bank 0 when they are equal; without one, a default image (R332,
R335). -/
def Banks.select (dflt : Mem) (b : Banks) : Banks :=
  match b.bank0.cond == .valid, b.bank1.cond == .valid with
  | true, true => b.adopt (if serialNewer 32 b.bank1.seq b.bank0.seq then b.bank1 else b.bank0)
  | true, false => b.adopt b.bank0
  | false, true => b.adopt b.bank1
  | false, false => { b with cur := dflt, seq := 0, tick := 0, digest := [], current := false }

/-- Both kinds are read, tested and selected; the tamper entries go to the moss domain (R331, R332, R335, R354). -/
def State.selectBanks (s : State) (damage : List (List (Nat × Byte))) : State :=
  let d := fun i => damage.getD i []
  let hw := s.prot.highWater
  let cfg := { s.cfg with
    bank0 := s.cfg.bank0.tested .configuration 0 (d 0), bank1 := s.cfg.bank1.tested .configuration 0 (d 1) }
  let thal := { s.thal with bank0 := s.thal.bank0.tested .thallus hw (d 2), bank1 := s.thal.bank1.tested .thallus hw (d 3) }
  let th := thal.select factoryThallus
  { s with
    cfg := cfg.select defaultConfig
    thal := th
    prot := { s.prot with highWater := if th.current && serialNewer 32 th.seq hw then th.seq else hw }
    tamper := { s.tamper with entries := some ((List.range 16).map fun i => tamperEntry th.cur (i + 1)) } }

/-- The BANK record of a boot, which finds the banks anew (R334). -/
def State.bankAtBoot (k : BankKind) (s : State) : State :=
  let b := s.banks k
  let fresh : Bank → Bank := fun x => { x with noted := false }
  (s.setBanks k { b with bank0 := fresh b.bank0, bank1 := fresh b.bank1 }).bankFound k

/-! ### Tamper -/

/-- A ROOT_ERASE of a source that latched while the moss domain held no copy of the entries: it is carried out once the thallus
has been read; `old` is the state before (R354). -/
def State.owedErase (old s : State) : State :=
  if old.tamper.entries.isNone && s.tamper.due.any (fun d => s.eraseFor d.1) then s.eraseRoot else s

/-- Entries of a copy of the generation table that read otherwise than they were written. -/
def GenTable.reads (l : List (Nat × Bytes)) (t : GenTable) : GenTable :=
  { t with entries := l.foldl (fun es x => es.set x.1 (NodeGen.ofBytes x.2)) t.entries }

/-- The generation table is resumed from what its copies read now; a copy whose CRCs do not check is not in force (R273,
R407). -/
def State.readGens (l : List (Bool × Nat × Bytes)) (s : State) : State :=
  let of := fun second => (l.filter fun x => x.1 == second).map (·.2)
  { s with ks := { s.ks with
      table0 := s.ks.table0.map (GenTable.reads (of false)), table1 := s.ks.table1.map (GenTable.reads (of true)) } }

/-- A rhizome cell that fails its check is treated as erased (R355, R407). -/
def State.rhizomeCheck (s : State) (ok : Bool) : State := if ok || s.ks.rhizome.isNone then s else s.eraseRoot

/-- STORE latches: a MOTION or FIELDPORT tag fails, or a personalised device has no valid thallus (R335, Table 14.7). -/
def State.storeTest (s : State) (motionTagOk fieldTagOk : Bool) : State :=
  if (s.ks.rhizome.isSome && !(motionTagOk && fieldTagOk)) || (s.prot.personalised && !s.thal.current) then
    (s.latchEvent 9 (entryLevel (s.entryFor 9)) 0).respond (entryLevel (s.entryFor 9))
  else s

/-- The tamper latch and a hold flag are written, and a hold that begins gets its tick (R356, Table 14.11). -/
def State.writeLatch (s : State) : State :=
  { s with tamper := { s.tamper with
      written := s.tamper.latched, writtenCount := s.tamper.unacked, dueWritten := s.tamper.due, holdWritten := s.tamper.hold
      holdTick := if s.tamper.hold then (if s.tamper.holdWritten then s.tamper.holdTick else s.tick) else 0 } }

/-! ### Log -/

/-- The log is walked: up to `n` records not yet programmed are erased, and the newest seal that is left governs the next
one (R308, R310). A log that has lost its GENESIS has not begun (R437). -/
def Evidence.walk (n : Nat) (e : Evidence) : Evidence × Nat :=
  let k := min n e.unprogrammed.length
  let rs := e.records.drop k
  let seal_ := (rs.find? fun r => r.typ == 2).map fun r => (num r.body 0 4, num r.body 4 4)
  ({ e with
      records := rs, next := (e.next + 2 ^ 32 - k) % 2 ^ 32, begun := rs != [], unprogrammed := [], waiting := [], seals := []
      prevSeal := seal_ }, k)

/-- GENESIS and the THALLUS record of personalisation, in the boot that follows it (R307, R342, R437). -/
def State.genesis (s : State) : State :=
  let s1 : State := { s with log := { s.log with begun := true } }
  let q := s.log.public 3 1
  let kid := if s.tamper.hold then Config.freeBytes 13 s.freeCtr 8
    else match Crypto.curveOf 1 with
      | some cv => Crypto.keyId cv q.1 q.2
      | none => zeros 8
  ((s1.drew.note 0x01 (leN 8 Config.serial.toNat ++ kid ++ leN 4 Config.firmwareVersion.toNat)).note 0x61
    (leN 4 s.thal.seq ++ [0xFF, 0xFF] ++ leN 1 (s.thal.cur.num 0x40 1) ++ zeros 1 ++ s.thal.digest.take 24))

/-- The BOOT record (Table 12.7). -/
def State.bootRecord (s : State) (erased : Nat) : State :=
  s.note 0x04 (leN 4 s.power.bootCount ++ leN 1 s.power.bootCause ++ zeros 1 ++ leN 2 erased)

/-! ### Sleep motion -/

/-- One SLEEP_MOTION record (Table 08.8); the end of an episode still open is not stated (log entry 12). -/
def State.episodeRecord (s : State) (i : Nat) (e : Episode) : State :=
  let open_ := s.motion.openEpisode && i + 1 == s.motion.episodes.length
  let fin := if open_ then s.free 14 else e.fin
  (if open_ then s.drew else s).note 0x35 (leN 1 i ++ leN 1 (b2n e.merged + 2 * b2n s.motion.overrate) ++ zeros 2 ++
    leN 4 e.start ++ leN 4 fin ++ leN 4 e.count0 ++ leN 4 e.count1 ++ leN 8 s.power.entryTick)

/-- The SLEEP_MOTION records of all episodes but the first `done`. -/
def State.episodeRecords (s : State) (done : Nat) : State :=
  (s.motion.episodes.zipIdx.drop done).foldl (fun s x => s.episodeRecord x.2 x.1) s

/-- After a wake: the episodes, the sleep count of the odometer's source, the ODOMETER record (R224). The moss domain holds the
counts until a commit phase has them in the odometer, and what a system reset found waiting is made again (R398). -/
def State.wakeMotion (s : State) : State :=
  if s.motion.wakeDue then
    let n := if odoPrimary s.thal.cur = 0 then s.motion.sleepCount0 else s.motion.sleepCount1
    (((s.episodeRecords 0).odoCount n).odoNote 3 0 0).push .woken
  else if s.motion.owed = 0 then s
  else (s.episodeRecords (s.motion.episodes.length + 1 - s.motion.owed)).odoNote 3 0 0

/-- MOTION counts again, from the levels that the moss domain hands over (R222, R397). -/
def Motion.resume (m : Motion) : Motion :=
  if m.counting then
    { m with
      counting := false
      src := (m.src.modify 0 fun c => { c with level := m.level0 }).modify 1 fun c => { c with level := m.level1 } }
  else m

/-- The odometer goes on from its stored values; R of the secondary is rescaled to the primary, which counts (R218, R220; log
entry 87). -/
def State.odoResume (s : State) : State :=
  let k0 := kFactor s.thal.cur (odoSecondary s.thal.cur)
  let k1 := kFactor s.thal.cur (odoPrimary s.thal.cur)
  let m := s.motion.resume
  { s with motion := { m with
      odoR := if m.storedSecondary && k0 != 0 then m.odoR * k1 / k0 else m.odoR } }

/-- P_MAX held the ping period down in a sleep of `cycles` MOSS cycles after entry (R198, R200). -/
def State.ceilingHeld (s : State) (cycles : Nat) : Bool :=
  pingEn s.cfg.cur && s.handleAerials != [] && decide (pMax s.cfg.cur < 2 ^ min (s.standing cycles / mossDay) 6)

/-- What only a boot after a sleep does: the ping's trigger, LOOP_CLAMPED (R200, R420). -/
def State.afterWake (s : State) (clamped : Bool) : State :=
  let s2 := if s.power.bootCause = 0x27 && trigEn s.cfg.cur 6 then s.holdTrigger 6 s.field.confirmed else s
  { s2 with power := { s2.power with newClamp := s2.power.newClamp || clamped || s2.power.pingLimited, pingLimited := false } }

/-! ### READY -/

/-- An input keeps its qualified level through the boot (R195). -/
def InputQual.anew (q : InputQual) : InputQual := { level := q.level }

/-- The LF side starts: every enabled channel in service, the input levels as held (R111, R195). -/
def Field.start_ (f : Field) : Field :=
  { f with
    ch := List.replicate 16 {}, enginesOut := 0, exceeded := [], confirmed := 0, pingStopped := false, pingOverride := false
    scale := 256, bursts := []
    ign := f.ign.anew, start := f.start.anew, doors := f.doors.map InputQual.anew, wakePin := f.wakePin.anew }

/-- Entry to tamper hold raises a clear request at the first commit phase (R207). -/
def State.holdClears (s : State) : State := if s.tamper.hold then s.push .held else s

/-- A cell that the boot finds set: RECOVERY record; a RELEASED one has its recovery poll (R205). -/
def State.recovers (s : State) : State :=
  match s.cell.state with
  | .locked => s
  | c =>
    let s1 := s.note 0x38 (leN 1 (cellCode c) ++ leN 4 s.power.bootCount ++ leN 8 s.motion.odoM)
    { s1 with cell := { s1.cell with recoveryDue := c == .released && !s.tamper.hold } }

/-- Stage 6 is over, and the lanes' services begin; READY sets at the commit phase that ends stage 7 (R407, R410). -/
def State.servicesBegin (stage7 : Nat) (s : State) : State :=
  { s with
    power := { s.power with
      life := .awake, crozier := if s.tamper.hold then 4 else 6, readyDue := some (s.tick + stage7)
      servicesTick := some s.tick }
    fp := { s.fp with wrote := false } }

/-! ### Random numbers -/

/-- Window `j` of both sources ends with tick 6 + 4 j of a boot whose stage 6 ends in tick `n`, both counted from its first
tick `t`; its blocks enter the store two ticks later, and the DRBG is instantiated in the tick that finds two: seeded by the
commit phase of that tick, which is still to come where it is tick `n` (R314, R318, R321). Tamper hold draws no seed (R409). -/
def Rng.bootWindow (hold : Bool) (bootCount t n : Nat) (a b : List (List Bool)) (r : Rng) (j : Nat) : Rng :=
  let e := 6 + 4 * j
  if n < e then r
  else
    let one : LaneId → List (List Bool) → Rng → Rng := fun src l r => match l[j]? with
      | some w => r.window src w
      | none => r
    let r1 := one .b b (one .a a r)
    if n < e + 2 then r1
    else
      let r2 := (r1.enter (t + e + 2)).enter (t + e + 2)
      let r3 := if hold then r2 else r2.instantiate bootCount (t + e + 2)
      if n = e + 2 then r3 else r3.publishSeed

/-- The random-number block through a boot: its known-answer tests, then the windows that end by the end of stage 6 (R314, R316,
R321, R324, R330). -/
def State.bootNoise (s : State) (b : BootIn) : Rng :=
  let r := if b.rngKatOk then s.rng else s.rng.zeroise
  (List.range (max b.windowsA.length b.windowsB.length)).foldl
    (Rng.bootWindow s.tamper.hold s.power.bootCount s.tick b.ticks b.windowsA b.windowsB) r

/-! ### Inputs -/

/-- The inputs as the latch phases of a boot of `n` ticks see them, the first at the end of stage 1 (R195). -/
def State.bootInputs (n : Nat) (l : List (InputPin × List Bool)) (s : State) : State :=
  (List.range n).foldl (fun s j =>
    (l.filterMap fun x => x.2[j]?.map fun v => (x.1, v)).foldl (State.sampleInput (s.tick - n + j)) s) s

/-- What the MOTION domain sees in the ticks of a boot (R410). -/
def State.bootMotion (l : List MotionEvent) (s : State) : State :=
  let at_ : MotionEvent → Nat
    | .edge _ c _ | .count _ c | .linked c => c
    | .level _ _ _ => 0
  let s1 := l.foldl (fun (s : State) e => State.motionEvent { s with tick := s.power.startTick + at_ e / 25600 } e) s
  { s1 with tick := s.tick }

/-! ### BOOT -/

/-- The boot stops and starts again later (R374, R408). -/
def State.bootStops (s : State) (crozier : Nat) : State :=
  { s with power := { s.power with life := .bootStopped, crozier := crozier, nextCause := 0x0C } }

/-- Stages 5 and 6, with the records in the order of Table 17.4. -/
def State.bootOn (b : BootIn) (lostA lostB : Bool) (s : State) : State :=
  let clamped := s.motion.counting && s.ceilingHeld b.mossCycles
  let s1 := (((s.owedErase ((s.selectBanks b.damage).readGens b.gens)).rhizomeCheck b.rhizomeOk).odoResume.storeTest b.motionTagOk b.fieldTagOk).writeLatch
  let w := s1.log.walk b.lostRecords
  let confirmed := s1.field.confirmed
  let s2 : State := { s1 with
    log := { w.1 with publics := if s1.tamper.hold || s1.ks.rhizome.isNone then [] else s1.ks.publics }
    field := { s1.field.start_ with confirmed := confirmed }
    rng := s1.bootNoise b
    win := ({} : Window).snapshot (25600 * b.ticks)
    prot := { s1.prot with atlasBad := !s1.tamper.hold && atlasMismatch s1.thal.cur s1.cfg.cur }
    power := { s1.power with xtalFallback := !b.xinOk } }
  let s3 := (if s2.firstLife then s2.genesis else s2).bootRecord w.2
  let s4 := if s.motion.counting then s3.wakeMotion.afterWake clamped else s3.wakeMotion
  let s5 := (bitsIn 6 b.aesFailed.toNat).foldl (fun s n => s.fenceAes n 3) s4
  let s6 := (bitsIn 2 b.eccFailed.toNat).foldl (fun s n => s.dropEcc n 3) s5
  let s7 := (s6.bankAtBoot .configuration).bankAtBoot .thallus
  let s8 := if lostA then s7.laneTestRecord .a else s7
  let s9 := (if lostB then s8.laneTestRecord .b else s8).journalWaits
  (({ s9 with field := { s9.field with confirmed := 0 } } : State).holdClears.recovers.passTicks b.ticks).servicesBegin b.stage7
    |>.bootInputs b.ticks b.inputs |>.bootMotion b.motion |>.thermal b.dieTemp

/-- What the tamper sources see of stages 1 to 4; an event of stages 5 and 6 is a TAMPER_SOURCE_LATCH after them (R410, Table
14.10). -/
def State.bootTamper (l : List (TamperSource × TamperCondition)) (s : State) : State :=
  l.foldl (fun s e => if sourceCode e.1 = 9 then s else s.sourceSees (sourceCode e.1) e.2 0) s

/-- The boot of Table 17.3: both lanes lost, or stage 3 or 4 failed, stop it (R408). -/
def State.boot (b : BootIn) (s : State) : State :=
  let s1 := ((s.bootBegins b.mossCycles).bootTamper b.tamper).laneTest b.laneAOk b.laneBOk
  let lostA := s1.lanes.causeA != 0 && !(s.waking && s.lanes.causeA != 0)
  let lostB := s1.lanes.causeB != 0 && !(s.waking && s.lanes.causeB != 0)
  if s1.lanes.causeA != 0 && s1.lanes.causeB != 0 then s1.bootStops 2
  else if !b.anchorOk then s1.bootStops 3
  else if !b.firmwareOk then s1.bootStops 4
  else if inRange 6 9 b.resetBy then s1.systemReset b.resetBy
  else s1.bootOn b lostA lostB

/-- BOOT: crozier stages 0 to 7 once VBAT is valid (R403, R407). -/
def execBoot (b : BootIn) (s : State) : Host.Outcome State Fault Refusal :=
  .next (if s.power.life == .starting && s.power.vbatValid then s.boot b else s)

/-- BOOT_RETRY: 100 ms or 1 s after a boot that stopped (R408). -/
def execBootRetry (s : State) : Host.Outcome State Fault Refusal :=
  .next (if s.power.life == .bootStopped then { s with power := { s.power with life := .starting } } else s)

end Sys2Proof.Machine
end

