-- ==== Sys2Proof/Machine/Cipher.lean ====
section
/-! DEFINITION. ENCRYPT, DECRYPT and MAC and their contexts (R275, R276, R295 to R301). Arguments here are those after
the OP byte: MODE, CTX, SLOT, GEN (2), TAG_LEN, FLAGS, then the body (Tables 12.2, 12.3). -/

namespace Sys2Proof.Machine

open Sys2Proof

/-! ### Header and contexts -/

/-- The body of a cipher clause. -/
def cbody (args : Bytes) : Bytes := args.drop 7

/-- A tag length that a mode allows (Tables 12.1, 12.2). -/
def tagLenOk (mode n : Nat) : Bool :=
  if mode = 2 then [8, 10, 12, 14, 16].contains n else if mode = 3 then inRange 4 16 n else n == 16

/-- Header of ONESHOT and BEGIN (R296): the modes offered, and the FLAGS limit. -/
def headerBad (modes : List Nat) (oneshot : Bool) (flags : Nat) (args : Bytes) : Bool :=
  args.length < 7 || !modes.contains (oct args 0) || (if oneshot then oct args 1 != 0 else 1 < oct args 1) ||
    63 < oct args 2 || !tagLenOk (oct args 0) (oct args 5) || flags < oct args 6

/-- Header of UPDATE, FINAL, READ and ABORT: MODE, SLOT, GEN and TAG_LEN are 0 (R296). -/
def laterBad (flags : Nat) (args : Bytes) : Bool :=
  args.length < 7 || oct args 0 != 0 || 1 < oct args 1 || !zero args 2 4 || flags < oct args 6

/-- The named slot holds a host key without use bit `use` (R275). -/
def State.useLacks (s : State) (use : Nat) (args : Bytes) : Bool :=
  match (s.ks.slot (oct args 2)).content with
  | some c => c.owner.isNone && !c.usage.getLsbD use
  | none => false

/-- The named slot is empty or a device slot (R275). -/
def State.slotUnusable (s : State) (args : Bytes) : Bool := !(s.ks.slot (oct args 2)).isHost

/-- A context of a port. -/
def Port.ctx (q : Port) (n : Nat) : Option Ctx := if n = 0 then q.ctx0 else q.ctx1

/-- Open, change or close a context; a closed one keeps nothing (R297). -/
def Port.setCtx (n : Nat) (c : Option Ctx) (q : Port) : Port :=
  { q with ctx0 := if n = 0 then c else q.ctx0, ctx1 := if n = 0 then q.ctx1 else c }

/-- The context that a clause names is open, of this verb, and in a state that suits the OP (R297). -/
def State.ctxSuits (s : State) (tk : Ticket) (args : Bytes) (p : Ctx → Bool) : Bool :=
  match (s.port tk.port).ctx (oct args 1) with
  | some c => c.verb == tk.verb && p c
  | none => false

/-- Run on the named slot's key, or end with KEY_STALE; a slot that an engine has taken holds no host key any more (R275). -/
def State.withKey (s : State) (tk : Ticket) (args : Bytes) (f : Bytes → Nat → State → State) : State :=
  let x := s.ks.slot (oct args 2)
  match x.content with
  | some c =>
    if c.owner.isSome || (num args 3 2 != 0 && num args 3 2 != x.gen) then s.reply tk 0x31 [] else f c.key x.gen s
  | none => s.reply tk 0x31 []

/-- A clause of a context ends with a status other than DONE, and the context closes (R297). -/
def State.closeWith (s : State) (tk : Ticket) (n status : Nat) (results : Bytes) : State :=
  (s.onPort tk.port (Port.setCtx n none)).reply tk status results

/-- Run a later clause on its context and key, or end it with KEY_STALE, which closes the context (R298). -/
def State.withCtx (s : State) (tk : Ticket) (args : Bytes) (f : Ctx → Bytes → State → State) : State :=
  let n := oct args 1
  match (s.port tk.port).ctx n with
  | none => s.reply tk 0x31 []
  | some c =>
    match (s.ks.slot c.slot).content with
    | some k =>
      if k.owner.isSome || (s.ks.slot c.slot).gen != c.gen then s.closeWith tk n 0x31 []
      else f { c with lastTick := s.tick } k.key s
    | none => s.closeWith tk n 0x31 []

/-- The same for a clause that needs an AES operation: FAULT_RETRY_EXHAUSTED closes the context (R292, R297). -/
def State.withCtxAes (s : State) (tk : Ticket) (args : Bytes) (f : Ctx → Bytes → State → State) : State :=
  s.withCtx tk args fun c key s =>
    if s.cipher.loses (.clause tk.order) then (s.tookLoss (.clause tk.order)).closeWith tk (oct args 1) 0x33 []
    else f c key s

/-- Keep the changed context and answer DONE. -/
def State.keepCtx (s : State) (tk : Ticket) (args : Bytes) (c : Ctx) (results : Bytes) : State :=
  (s.onPort tk.port (Port.setCtx (oct args 1) (some c))).done tk results

/-- Close the context and answer DONE. -/
def State.endCtx (s : State) (tk : Ticket) (args : Bytes) (results : Bytes) : State :=
  s.closeWith tk (oct args 1) 0 results

/-- Count one GCM IV of a slot (R299). -/
def KeyStore.countIv (n : Nat) (k : KeyStore) : KeyStore :=
  { k with slots := k.slots.set n { k.slot n with ivs := (k.slot n).ivs + 1 } }

/-- No GCM IV is left for the slot (R299). -/
def State.ivsSpent (s : State) (args : Bytes) : Bool :=
  oct args 0 == 1 && 2 ^ 32 ≤ (s.ks.slot (oct args 2)).ivs

/-- The context that BEGIN names is open, and another clause opened it (R297). -/
def State.ctxTaken (s : State) (tk : Ticket) (args : Bytes) : Bool :=
  ((s.port tk.port).ctx (oct args 1)).any fun c => c.begun != tk.order

/-- A clause of a context finds it open and in a state that suits it when it runs, too (R297). -/
def Work.suits (args : Bytes) (p : Ctx → Bool) (w : Work) : Work := w.again fun tk s => stateFails !(s.ctxSuits tk args p)

/-- A BEGIN finds its context closed when it runs, too (R297). -/
def Work.opens (args : Bytes) (w : Work) : Work := w.again fun tk s => stateFails (s.ctxTaken tk args)

/-- No more than 2^32 GCM IVs are drawn for a slot, by clauses that were admitted together neither (R299). -/
def Work.spares (args : Bytes) (w : Work) : Work := w.again fun _ s => stateFails (s.ivsSpent args)

/-- The stream's output for `d`, which follows `c.text` under GCM. -/
def Ctx.stream (c : Ctx) (key d : Bytes) : Bytes := (Crypto.gcmCrypt key c.iv (c.text ++ d)).drop c.text.length

/-- ABORT: closes the context (R297). -/
def abortWork (verb : Nat) (args : Bytes) : Work := Work.suits args (fun _ => true) {
  need := fixedNeed verb
  check := fun tk s => { arg := laterBad (if verb = 0x4A then 1 else 0) args || cbody args != []
                         state := !s.ctxSuits tk args fun _ => true }
  run := fun tk s => s.withCtx tk args fun _ _ s => s.endCtx tk args [] }

/-- A clause of a stream whose BEGIN drew its IV in this tick is done again with it (R322). -/
def streamCommand (h : Hdr) (args : Bytes) (w : Work) (s : State) : State :=
  let begun := s.drawn.any fun q =>
    q.ticket.port == h.port && q.ticket.verb == 0x48 && oct q.args 0 == 1 && oct q.args 2 == oct args 2
  if begun then drawCommand 0x48 h args w s else command 0x48 h args w s

/-! ### ENCRYPT -/

/-- ENCRYPT ONESHOT: AAD_LEN, AAD, plaintext; IV or nonce, ciphertext, tag (Table 12.3). -/
def encryptOneshotWork (args : Bytes) : Work := Work.spares args <| Work.aes {
  need := fixedNeed 0x48
  check := fun tk s =>
    let b := cbody args
    let pl := b.length - 1 - oct b 0
    { arg := headerBad [1, 2] true 0 args || b == [] || b.length < 1 + oct b 0 || s.useLacks 0 args ||
        !tk.room ((if oct args 0 = 1 then 12 else 13) + pl + oct args 5)
      state := s.slotUnusable args || s.ivsSpent args }
  run := fun tk s => s.withKey tk args fun key _ s =>
    let b := cbody args
    let aad := slice b 1 (oct b 0)
    let pt := b.drop (1 + oct b 0)
    let d := s.draw .cipher (if oct args 0 = 1 then 12 else 13)
    if oct args 0 = 1 then
      let ct := Crypto.gcmCrypt key d.1 pt
      State.done { d.2 with ks := d.2.ks.countIv (oct args 2) } tk (d.1 ++ ct ++ Crypto.gcmTag key d.1 aad ct)
    else d.2.done tk (d.1 ++ Crypto.ccmCrypt key d.1 pt ++ Crypto.ccmTag key d.1 aad pt (oct args 5)) }

/-- ENCRYPT_ONESHOT. -/
def execEncryptOneshot (h : Hdr) (args : Bytes) (s : State) : Host.Outcome State Fault Refusal :=
  .next (drawCommand 0x48 h (0x00#8 :: args) (encryptOneshotWork args) s)

/-- ENCRYPT BEGIN: AAD; the IV that the device drew (R297, R299). -/
def encryptBeginWork (args : Bytes) : Work := Work.spares args <| Work.opens args <| Work.aes {
  need := fixedNeed 0x48
  check := fun tk s =>
    { arg := headerBad [1] false 0 args || s.useLacks 0 args
      state := s.slotUnusable args || s.ivsSpent args || ((s.port tk.port).ctx (oct args 1)).isSome }
  run := fun tk s => s.withKey tk args fun _ gen s =>
    let d := s.draw .cipher 12
    let c : Ctx := { verb := 0x48, mode := 1, slot := oct args 2, gen := gen, iv := d.1, aad := cbody args, tagLen := 16,
                     text := [], verified := false, lastTick := s.tick, begun := tk.order }
    State.keepCtx { d.2 with ks := d.2.ks.countIv (oct args 2) } tk args c d.1 }

/-- ENCRYPT_BEGIN. -/
def execEncryptBegin (h : Hdr) (args : Bytes) (s : State) : Host.Outcome State Fault Refusal :=
  .next (drawCommand 0x48 h (0x01#8 :: args) (encryptBeginWork args) s)

/-- ENCRYPT UPDATE: plaintext blocks; ciphertext. -/
def encryptUpdateWork (args : Bytes) : Work := Work.suits args (fun _ => true) {
  need := fixedNeed 0x48
  check := fun tk s =>
    { arg := laterBad 0 args || (cbody args).length % 16 != 0 || !tk.room (cbody args).length
      state := !s.ctxSuits tk args fun _ => true }
  run := fun tk s => s.withCtxAes tk args fun c key s =>
    s.keepCtx tk args { c with text := c.text ++ cbody args } (c.stream key (cbody args)) }

/-- ENCRYPT_UPDATE. -/
def execEncryptUpdate (h : Hdr) (args : Bytes) (s : State) : Host.Outcome State Fault Refusal :=
  .next (streamCommand h (0x02#8 :: args) (encryptUpdateWork args) s)

/-- ENCRYPT FINAL: the last plaintext; ciphertext and tag. -/
def encryptFinalWork (args : Bytes) : Work := Work.suits args (fun _ => true) {
  need := fixedNeed 0x48
  check := fun tk s =>
    { arg := laterBad 0 args || !tk.room ((cbody args).length + 16), state := !s.ctxSuits tk args fun _ => true }
  run := fun tk s => s.withCtxAes tk args fun c key s =>
    let ct := Crypto.gcmCrypt key c.iv (c.text ++ cbody args)
    s.endCtx tk args (ct.drop c.text.length ++ Crypto.gcmTag key c.iv c.aad ct) }

/-- ENCRYPT_FINAL. -/
def execEncryptFinal (h : Hdr) (args : Bytes) (s : State) : Host.Outcome State Fault Refusal :=
  .next (streamCommand h (0x03#8 :: args) (encryptFinalWork args) s)

/-- ENCRYPT_ABORT. -/
def execEncryptAbort (h : Hdr) (args : Bytes) (s : State) : Host.Outcome State Fault Refusal :=
  .next (streamCommand h (0x05#8 :: args) (abortWork 0x48 args) s)

/-! ### DECRYPT -/

/-- IV or nonce length of a mode. -/
def ivLen (mode : Nat) : Nat := if mode = 2 then 13 else 12

/-- DECRYPT ONESHOT: IV or nonce, AAD_LEN, AAD, ciphertext, tag; the plaintext, only when the tag verifies (R300). -/
def decryptOneshotWork (args : Bytes) : Work := Work.aes {
  need := fixedNeed 0x49
  check := fun tk s =>
    let b := cbody args
    let n := ivLen (oct args 0)
    let fixed := n + 1 + oct b n + oct args 5
    { arg := headerBad [1, 2] true 0 args || b.length < n + 1 || b.length < fixed || s.useLacks 1 args ||
        !tk.room (b.length - fixed)
      state := s.slotUnusable args }
  run := fun tk s => s.withKey tk args fun key _ s =>
    let b := cbody args
    let n := ivLen (oct args 0)
    let iv := b.take n
    let aad := slice b (n + 1) (oct b n)
    let rest := b.drop (n + 1 + oct b n)
    let ct := rest.take (rest.length - oct args 5)
    let tag := rest.drop (rest.length - oct args 5)
    let pt := if oct args 0 = 1 then Crypto.gcmCrypt key iv ct else Crypto.ccmCrypt key iv ct
    let want := if oct args 0 = 1 then Crypto.gcmTag key iv aad ct else Crypto.ccmTag key iv aad pt (oct args 5)
    if tag == want then s.done tk pt else s.reply tk 0x32 [] }

/-- DECRYPT_ONESHOT. -/
def execDecryptOneshot (h : Hdr) (args : Bytes) (s : State) : Host.Outcome State Fault Refusal :=
  .next (command 0x49 h (0x00#8 :: args) (decryptOneshotWork args) s)

/-- DECRYPT BEGIN: IV (12), AAD; the compatibility stream only while COMPAT_STREAM is 1 (R297, R301). -/
def decryptBeginWork (args : Bytes) : Work := Work.opens args <| Work.aes {
  need := fixedNeed 0x49
  check := fun tk s =>
    { arg := headerBad [1, 4] false 0 args || (cbody args).length < 12 || s.useLacks 1 args
      state := s.slotUnusable args || ((s.port tk.port).ctx (oct args 1)).isSome ||
        (oct args 0 == 4 && !thalCompat s.thal.cur) }
  run := fun tk s => s.withKey tk args fun _ gen s =>
    s.keepCtx tk args { verb := 0x49, mode := oct args 0, slot := oct args 2, gen := gen, iv := (cbody args).take 12,
                        aad := (cbody args).drop 12, tagLen := 16, text := [], verified := false, lastTick := s.tick, begun := tk.order } [] }

/-- DECRYPT_BEGIN. -/
def execDecryptBegin (h : Hdr) (args : Bytes) (s : State) : Host.Outcome State Fault Refusal :=
  .next (command 0x49 h (0x01#8 :: args) (decryptBeginWork args) s)

/-- The text a native decryption would hold, with `n` more bytes, overflows its buffer (R300); the last ciphertext of FINAL is
held to the same limit (log entry 64). -/
def State.overflows (s : State) (tk : Ticket) (args : Bytes) (n : Nat) : Bool :=
  match (s.port tk.port).ctx (oct args 1) with
  | some c => c.verb == tk.verb && c.mode == 1 && !c.verified && 4096 < c.text.length + n
  | none => false

/-- An UPDATE, or a FINAL, that would overflow the buffer when it runs is refused with REFUSED_ARG, and the context stays as it
was (R300). -/
def Work.holds (args : Bytes) (w : Work) : Work :=
  w.again fun tk s => if s.overflows tk args (cbody args).length then some 0x13 else none
def Work.holdsLast (args : Bytes) (w : Work) : Work :=
  w.again fun tk s => if s.overflows tk args ((cbody args).length - 16) then some 0x13 else none

/-- The named context is a compatibility stream. -/
def State.isCompat (s : State) (tk : Ticket) (args : Bytes) : Bool :=
  match (s.port tk.port).ctx (oct args 1) with
  | some c => c.verb == tk.verb && c.mode == 4
  | none => false

/-- DECRYPT UPDATE: native holds the text; compatibility returns STATE 0x00 and the plaintext (R300, R301). -/
def decryptUpdateWork (args : Bytes) : Work := Work.holds args <| Work.suits args (fun c => !c.verified) {
  need := fixedNeed 0x49
  check := fun tk s =>
    let n := (cbody args).length
    { arg := laterBad 0 args || n % 16 != 0 || s.overflows tk args n || (s.isCompat tk args && !tk.room (4 + n))
      state := !s.ctxSuits tk args fun c => !c.verified }
  run := fun tk s => s.withCtxAes tk args fun c key s =>
    s.keepCtx tk args { c with text := c.text ++ cbody args }
      (if c.mode = 4 then zeros 4 ++ c.stream key (cbody args) else []) }

/-- DECRYPT_UPDATE. -/
def execDecryptUpdate (h : Hdr) (args : Bytes) (s : State) : Host.Outcome State Fault Refusal :=
  .next (command 0x49 h (0x02#8 :: args) (decryptUpdateWork args) s)

/-- TOTAL in two bytes; open beyond them (log entry 12). -/
def State.total (s : State) (n : Nat) : Bytes := leN 2 (if n < 65536 then n else s.free 5)

/-- A COMPAT_FAIL record (Table 12.7). -/
def State.compatFail (s : State) (tk : Ticket) (n : Nat) (c : Ctx) : State :=
  s.recordReply tk 0x06 (leN 1 (portCode tk.port) ++ leN 1 n ++ leN 1 c.slot ++ zeros 1 ++ leN 2 c.gen ++ zeros 2 ++
    leN 4 c.text.length)

/-- DECRYPT FINAL: the last ciphertext (native) and the tag. A native context whose tag verifies stays open for READ; one
that fails releases nothing. A compatibility stream that fails is recorded (R297, R300, R301). -/
def decryptFinalWork (args : Bytes) : Work := Work.holdsLast args <| Work.suits args (fun c => !c.verified) {
  need := fixedNeed 0x49
  check := fun tk s =>
    let n := (cbody args).length
    { arg := laterBad 0 args || n < 16 || s.overflows tk args (n - 16) || (s.isCompat tk args && n != 16)
      state := !s.ctxSuits tk args fun c => !c.verified }
  run := fun tk s => s.withCtxAes tk args fun c key s =>
    let b := cbody args
    let text := c.text ++ b.take (b.length - 16)
    let ok := Crypto.gcmTag key c.iv c.aad text == b.drop (b.length - 16)
    if c.mode = 4 then
      let r := s.total text.length ++ leN 1 (b2n ok) ++ zeros 1
      if ok then s.drew.endCtx tk args r
      else (s.drew.compatFail tk (oct args 1) c).closeWith tk (oct args 1) 0x32 r
    else if ok then s.keepCtx tk args { c with text := text, verified := true } (leN 2 text.length ++ leN 1 1 ++ zeros 1)
    else s.closeWith tk (oct args 1) 0x32 [] }

/-- DECRYPT_FINAL. -/
def execDecryptFinal (h : Hdr) (args : Bytes) (s : State) : Host.Outcome State Fault Refusal :=
  .next (command 0x49 h (0x03#8 :: args) (decryptFinalWork args) s)

/-- DECRYPT READ: OFFSET, LEN, reserved; plaintext of a verified native context, which closes once it is read to the end
(R297, R300). -/
def decryptReadWork (args : Bytes) : Work := Work.suits args (Ctx.verified) {
  need := fixedNeed 0x49
  check := fun tk s =>
    let b := cbody args
    let past := match (s.port tk.port).ctx (oct args 1) with
      | some c => c.verified && c.text.length < num b 0 2 + oct b 2
      | none => false
    { arg := laterBad 0 args || b.length != 4 || !zero b 3 1 || !tk.room (4 + oct b 2) || past
      state := !s.ctxSuits tk args fun c => c.verified }
  run := fun tk s => s.withCtx tk args fun c key s =>
    let b := cbody args
    let r := b.take 3 ++ zeros 1 ++ slice (Crypto.gcmCrypt key c.iv c.text) (num b 0 2) (oct b 2)
    if num b 0 2 + oct b 2 = c.text.length then s.endCtx tk args r else s.keepCtx tk args c r }

/-- DECRYPT_READ. -/
def execDecryptRead (h : Hdr) (args : Bytes) (s : State) : Host.Outcome State Fault Refusal :=
  .next (command 0x49 h (0x04#8 :: args) (decryptReadWork args) s)

/-- DECRYPT_ABORT. -/
def execDecryptAbort (h : Hdr) (args : Bytes) (s : State) : Host.Outcome State Fault Refusal :=
  .next (command 0x49 h (0x05#8 :: args) (abortWork 0x49 args) s)

/-! ### MAC -/

/-- Data and, under VERIFY, the tag after it; the tag returned, or checked (Table 12.3). -/
def macAnswer (key text : Bytes) (tagLen : Nat) (verify : Bool) (tail : Bytes) : Nat × Bytes :=
  let t := (Crypto.cmac key text).take tagLen
  if verify then (if tail == t then (0, []) else (0x32, [])) else (0, t)

/-- Length of the data before the tag. -/
def macData (b : Bytes) (verify : Bool) (tagLen : Nat) : Nat := if verify then b.length - tagLen else b.length

/-- MAC ONESHOT. -/
def macOneshotWork (args : Bytes) : Work := Work.aes {
  need := fixedNeed 0x4A
  check := fun _ s =>
    { arg := headerBad [3] true 1 args || (oct args 6 == 1 && (cbody args).length < oct args 5) || s.useLacks 2 args
      state := s.slotUnusable args }
  run := fun tk s => s.withKey tk args fun key _ s =>
    let b := cbody args
    let n := macData b (oct args 6 == 1) (oct args 5)
    let r := macAnswer key (b.take n) (oct args 5) (oct args 6 == 1) (b.drop n)
    s.reply tk r.1 r.2 }

/-- MAC_ONESHOT. -/
def execMacOneshot (h : Hdr) (args : Bytes) (s : State) : Host.Outcome State Fault Refusal :=
  .next (command 0x4A h (0x00#8 :: args) (macOneshotWork args) s)

/-- MAC BEGIN: data. -/
def macBeginWork (args : Bytes) : Work := Work.opens args <| Work.aes {
  need := fixedNeed 0x4A
  check := fun tk s =>
    { arg := headerBad [3] false 1 args || s.useLacks 2 args
      state := s.slotUnusable args || ((s.port tk.port).ctx (oct args 1)).isSome }
  run := fun tk s => s.withKey tk args fun _ gen s =>
    s.keepCtx tk args { verb := 0x4A, mode := 3, slot := oct args 2, gen := gen, iv := [], aad := [], tagLen := oct args 5,
                        text := cbody args, verified := false, lastTick := s.tick, begun := tk.order } [] }

/-- MAC_BEGIN. -/
def execMacBegin (h : Hdr) (args : Bytes) (s : State) : Host.Outcome State Fault Refusal :=
  .next (command 0x4A h (0x01#8 :: args) (macBeginWork args) s)

/-- MAC UPDATE: data in whole blocks. -/
def macUpdateWork (args : Bytes) : Work := Work.suits args (fun _ => true) {
  need := fixedNeed 0x4A
  check := fun tk s => { arg := laterBad 1 args || (cbody args).length % 16 != 0, state := !s.ctxSuits tk args fun _ => true }
  run := fun tk s => s.withCtxAes tk args fun c _ s => s.keepCtx tk args { c with text := c.text ++ cbody args } [] }

/-- MAC_UPDATE. -/
def execMacUpdate (h : Hdr) (args : Bytes) (s : State) : Host.Outcome State Fault Refusal :=
  .next (command 0x4A h (0x02#8 :: args) (macUpdateWork args) s)

/-- Tag length of the named context, when it is one of MAC. -/
def State.ctxTagLen (s : State) (tk : Ticket) (args : Bytes) : Nat :=
  ((((s.port tk.port).ctx (oct args 1)).filter fun c => c.verb == tk.verb).map Ctx.tagLen).getD 0

/-- MAC FINAL: the last data and, under VERIFY, the tag. -/
def macFinalWork (args : Bytes) : Work := Work.suits args (fun _ => true) {
  need := fixedNeed 0x4A
  check := fun tk s =>
    { arg := laterBad 1 args || (oct args 6 == 1 && (cbody args).length < s.ctxTagLen tk args)
      state := !s.ctxSuits tk args fun _ => true }
  run := fun tk s => s.withCtxAes tk args fun c key s =>
    let b := cbody args
    let n := macData b (oct args 6 == 1) c.tagLen
    let r := macAnswer key (c.text ++ b.take n) c.tagLen (oct args 6 == 1) (b.drop n)
    s.closeWith tk (oct args 1) r.1 r.2 }

/-- MAC_FINAL. -/
def execMacFinal (h : Hdr) (args : Bytes) (s : State) : Host.Outcome State Fault Refusal :=
  .next (command 0x4A h (0x03#8 :: args) (macFinalWork args) s)

/-- MAC_ABORT. -/
def execMacAbort (h : Hdr) (args : Bytes) (s : State) : Host.Outcome State Fault Refusal :=
  .next (command 0x4A h (0x05#8 :: args) (abortWork 0x4A args) s)

/-- CONTEXT_TIMEOUT: 39,063 ticks after the last clause of a context (R297). -/
def execContextTimeout (p : PortId) (ctx : Nat) (s : State) : Host.Outcome State Fault Refusal :=
  .next (match (s.port p).ctx ctx with
    | some c => if c.lastTick + 39063 ≤ s.tick then s.onPort p (Port.setCtx ctx none) else s
    | none => s)

end Sys2Proof.Machine
end

