-- ==== Sys2Proof/Machine/Cores.lean ====
section
/-! DEFINITION. The scheduler of the AES cores and their parity faults (R291 to R294). -/

namespace Sys2Proof.Machine

open Sys2Proof

/-! ### Requests -/

/-- The link engines whose exchanges wait for a MAC check, in ascending order. -/
def State.macEngines (s : State) : List Nat :=
  (List.range 4).filter fun e => s.acts.any fun a => match a with
    | .judge x _ => x == e
    | _ => false

/-- The link engines whose exchanges wait for the key of a crown token, in ascending order. -/
def State.crownEngines (s : State) : List Nat :=
  (List.range 4).filter fun e =>
    (s.acts.any fun a => match a with
      | .lookup x => x == e
      | _ => false) &&
      (s.current e).any fun b => b.kind != .inventory && (s.lookup (identOf b.bits)).1 == .crown

/-- The sealed replies that wait for the commit phase. -/
def State.sealedReplies (s : State) : List AesUser :=
  let of : Port → List AesUser := fun q => (q.stagedReplies.filter fun r => r.sess.isSome).map fun r => .sealing r.order
  of s.portA ++ of s.portB

/-- The AES requests that wait, in the order in which they are served: MAC checks of exchanges, each on two cores, then
key-storage work, then host clauses in the order of R43 (R291, R294). One that is served at once finds the cores that these
leave; replies are sealed at the commit phase. -/
def State.aesWaiting (s : State) : List AesUser :=
  let clauses := fun (p : Nat → Bool) =>
    ((sortBy Queued.before s.work).filter fun q => p q.ticket.verb).map fun q => AesUser.clause q.ticket.order
  (s.macEngines.flatMap fun e => [.mac e, .mac e]) ++ s.crownEngines.map AesUser.crown ++ clauses aesOfKeys ++
    clauses aesOfHost ++ [.next] ++ s.sealedReplies

/-- The AES operations and their cores: those that keep theirs, then those that wait (R291, R292). -/
def State.aesCores (s : State) : List (AesUser × Nat) :=
  let busy := s.cipher.aesRetry.map (·.2)
  s.cipher.aesRetry ++ s.cipher.assign busy (s.cipher.aesRetry.foldl (fun l x => l.erase x.1) s.aesWaiting)

/-! ### Parity faults -/

/-- The operation that runs on a core, if one does (R291). -/
def State.aesUser (s : State) (core : Nat) : Option AesUser := (s.aesCores.find? fun x => x.2 == core).map (·.1)

/-- A parity fault stops the operation on `core`: it restarts on the lowest-numbered other core that is free and not fenced, or
has used up its attempts with the third, `attempt` 2; the others keep their cores (R291, R292). -/
def State.aesStops (s : State) (core attempt : Nat) : Cipher :=
  let c := s.cipher
  let keep := s.aesCores.filter fun x => x.2 != core && (x.1 != .next || c.aesRetry.contains x)
  match s.aesUser core with
  | none => c
  | some u =>
    if 2 ≤ attempt then { c with aesRetry := keep, aesLost := c.aesLost ++ [u] }
    else
      match c.freeCore (core :: s.aesCores.map (·.2)) with
      | some n => { c with aesRetry := keep ++ [(u, n)] }
      | none => { c with aesRetry := keep }

/-- AES_PARITY_FAULT on `core` in attempt `attempt` (0 to 2) of an operation (R292); in degraded service a difference of the
two runs of a MAC computation comes so too (R294; log entry 57). The second fault of a core within 65,536 ticks fences it; a
fenced core runs nothing (R293). -/
def execAesParityFault (core attempt : Nat) (s : State) : Host.Outcome State Fault Refusal :=
  let fs := s.cipher.aesFaults ++ [(core, s.tick)]
  let s1 : State := { s with cipher := { s.aesStops core attempt with aesFaults := fs } }
  .next (if !s.awake || 5 < core || s.cipher.aesFenced.getLsbD core then s
    else if 2 ≤ faultsWithin s.tick core fs then s1.fenceAes core 1 else s1)

end Sys2Proof.Machine
end

