-- ==== Sys2Proof/Machine/Lanes.lean ====
section
/-! DEFINITION. Lane faults, arbitration and takeover (R365 to R374), the lane probe (R380), clock, memory and
key-storage faults (R375 to R378), SELFTEST and KAT (R381, R382). -/

namespace Sys2Proof.Machine

open Sys2Proof

/-! ### Flags -/

/-- Record code of a lane: 0x0A, 0x0B (Table 15.6). -/
def laneCode : LaneId → Nat
  | .a => 0x0A
  | .b => 0x0B

/-- The present tick is an arbitration tick whose outcome is open (R367). -/
def State.arbitrating (s : State) : Bool :=
  match s.lanes.faultTick with
  | some f => decide (f < s.tick)
  | none => false

/-- One lane is found bad in this tick; it is taken over in the next (R366, R380). -/
def State.loseLane (s : State) (l : LaneId) (cause : Nat) : State :=
  { s with lanes := { s.lanes with takeoverDue := some (s.tick, l, cause) } }

/-- Lanes of `a`, `b` that are in service are flagged with a cause of Table 15.6: one is lost, both reset the device, and
so does the surviving one (R366, R374). A lane flagged in an arbitration tick fails its probe (R367). -/
def State.flagLanes (a b : Bool) (cause : Nat) (s : State) : State :=
  let a := a && s.lanes.causeA == 0
  let b := b && s.lanes.causeB == 0
  if !s.awake || !(a || b) then s
  else if s.arbitrating then
    { s with lanes := { s.lanes with flagged := (s.lanes.flagged.1 || a, s.lanes.flagged.2 || b) } }
  else if s.degraded then s.systemReset 0x0D
  else
    match s.lanes.takeoverDue with
    | none => if a && b then s.systemReset 6 else s.loseLane (if a then .a else .b) cause
    | some (f, l, _) =>
      if (l = .a && b) || (l = .b && a) then s.systemReset (if f = s.tick then 6 else 0x0D) else s

/-- LANE_FLAGGED: lockstep 0x01, private SRAM 0x02, PLL 0x03, late 0x04 (R365, R366, Table 15.6). -/
def execLaneFlagged (lanes : Bool × Bool) (cause : Byte) (s : State) : Host.Outcome State Fault Refusal :=
  .next (s.flagLanes lanes.1 lanes.2 cause.toNat)

/-! ### Arbitration -/

/-- Transients within the 65,536 ticks that end at `f` (R368, Table 15.6). -/
def Lanes.transientsWithin (f : Nat) (l : Lanes) : Nat := (l.transientTicks.filter fun t => f < t + 65536).length

/-- Last ticks of the work in flight, the clauses with a number below `n`, move by 2 (R5, R53, R369). -/
def State.extendWork (n : Nat) (s : State) : State :=
  { s with
    ledger := s.ledger.map fun d => if d.order < n then { d with last := d.last + 2 } else d
    work := s.work.map fun q => if q.ticket.order < n then { q with last := q.last + 2 } else q
    fp := { s.fp with held := s.fp.held.map fun h => if h.ticket.order < n then { h with last := h.last + 2 } else h } }

/-- Both lanes pass: a transient, unless it is the second within 65,536 ticks (R367 to R369). Last ticks move when the lanes
run again (`State.latchAgain`). -/
def State.transient (f : Nat) (s : State) : State :=
  if s.lanes.transientsWithin f != 0 then s.systemReset 7
  else
    let n := s.lanes.transientsWithin f + 1
    State.note { s with lanes := { s.lanes with
      transients := s.lanes.transients + 1, transientTicks := f :: s.lanes.transientTicks, faultTick := none
      flagged := (false, false), degradedUntil := f + 2 } } 0x71 (leN 8 f ++ leN 1 n)

/-- ARBITRATION: the outcome of the probe, decided in tick f + 1, or in the first later tick that it reaches; a lane flagged
during the probe fails it (R367, Table 15.2). -/
def execArbitration (aPasses bPasses : Bool) (s : State) : Host.Outcome State Fault Refusal :=
  .next (match s.lanes.faultTick with
    | none => s
    | some f =>
      if !s.awake || s.tick ≤ f then s
      else
        let lose := fun (l : LaneId) => ({ s with lanes := { s.lanes with
          faultTick := none, flagged := (false, false), takeoverDue := some (f, l, 5) } } : State)
        match aPasses && !s.lanes.flagged.1, bPasses && !s.lanes.flagged.2 with
        | true, true => s.transient f
        | true, false => lose .b
        | false, true => lose .a
        | false, false => s.systemReset 7)

/-! ### Takeover -/

/-- An admitted clause with LANE_HINT, latched in tick `f` and not yet published. -/
def Outst.hintedIn (f : Nat) (o : Outst) : Bool := o.admitted && !o.answered && o.hinted == some f

/-- The clauses of a port that the work of tick `f`, run again in degraded service, refuses, by their numbers (R373). -/
def Port.hintedIn (f : Nat) (q : Port) : List Nat := (q.outstanding.filter (Outst.hintedIn f)).map (·.order)

/-- The refusal of such a clause that has no staged reply yet. -/
def Port.hintRefusal (o : Outst) (q : Port) : Staged :=
  { seq := o.seq, verb := o.verb, status := 0x11, results := []
    sess := o.sess.bind fun i => (q.session.toList ++ q.oldSessions).find? (·.id == i), order := o.order }

/-- They are refused with REFUSED_STATE (R66, R373). -/
def Port.refuseHinted (f : Nat) (q : Port) : Port :=
  let l := q.hintedIn f
  let mine : Staged → Bool := fun r => r.admitted && l.contains r.order
  let rest := q.outstanding.filter fun o => o.hintedIn f && !q.stagedReplies.any fun r => r.admitted && r.order == o.order
  { q with
    outstanding := q.outstanding.map fun o => if o.hintedIn f then { o with admitted := false } else o
    stagedReplies := q.stagedReplies.map (fun r =>
      if mine r then { r with status := 0x11, results := [], admitted := false } else r) ++ rest.map q.hintRefusal }

/-- The work of tick `f` runs again in degraded service: its clauses with LANE_HINT are refused. Their work has not run, and
their bookings are taken back (R373; log entry 9). -/
def State.refuseHinted (f : Nat) (s : State) : State :=
  let hit : Nat → Bool := fun n => (s.portA.hintedIn f ++ s.portB.hintedIn f).contains n
  let s1 : State := { s with
    ledger := s.ledger.filter fun d => !hit d.order
    work := s.work.filter fun q => !hit q.ticket.order
    field := { s.field with loops := s.field.loops.filter fun l => !hit l.order }
    rng := s.rng.unreserve hit }
  let mine := s.field.bookings.filter fun b => b.phase == .booked && b.clause.any hit
  (mine.foldl State.release s1).onPorts (Port.refuseHinted f)

/-- The takeover tick of a lane lost in tick `f` (R366, R367, R380). -/
def takeoverAt (f cause : Nat) : Nat := if cause = 5 then f + 2 else f + 1

/-! ### Lane probe -/

/-- A short probe, or the lane test of SELFTEST, fails on lanes in service: one is lost with cause PROBE, both reset the
device; the surviving lane's failure is its second fault (R374, R380, R382). -/
def State.probeFails (a b : Bool) (s : State) : State :=
  let a := a && s.lanes.causeA == 0
  let b := b && s.lanes.causeB == 0
  if !(a || b) then s
  else if s.degraded then s.systemReset 0x0D
  else if a && b then s.systemReset 7
  else if s.lanes.takeoverDue.isSome then s
  else s.loseLane (if a then .a else .b) 6

/-- Units that the short probe needs at the beginning of this tick: one of 200 units starts at every multiple of 3,907
(R380). -/
def State.probeDue (s : State) : Nat := if s.tick % 3907 = 0 then 200 else s.lanes.probeLeft

/-- LANE_PROBE: the outcome of the short probe under way, which the commit phase of the tick in which it ends judges (R380). -/
def execLaneProbe (aPasses bPasses : Bool) (s : State) : Host.Outcome State Fault Refusal :=
  .next (if s.awake && s.probeDue != 0 then s.push (.probe aPasses bPasses) else s)

/-- The commit phase of the tick in which the last unit of the probe is spent (R380). -/
def State.probeEnds (s : State) (aPasses bPasses : Bool) : State :=
  if s.lanes.probeEnd = some s.tick then s.probeFails (!aPasses) (!bPasses) else s

/-! ### Clocks -/

/-- Running exchanges end under R371 when the carrier cannot be held (R375). -/
def State.endAllAgain (s : State) : State :=
  if s.power.xtalFallback && s.power.x32Failed then (List.range 4).foldl (fun s e => s.endAgain e) s else s

/-- XTAL_FAILURE: cause 1 no edge, 2 frequency; deviation in 0.01 % (R375, Table 15.6). -/
def execXtalFailure (cause : Byte) (deviation : Int) (s : State) : Host.Outcome State Fault Refusal :=
  .next (if !s.awake || s.power.xtalFallback then s
    else (State.note { s with power := { s.power with xtalFallback := true } } 0x72
      ([cause] ++ zeros 3 ++ leN 2 (twos 16 deviation) ++ zeros 2 ++ leN 8 s.tick)).endAllAgain)

/-- X32_CRYSTAL_FAILURE (R375). -/
def execX32CrystalFailure (s : State) : Host.Outcome State Fault Refusal :=
  .next (State.endAllAgain { s with power := { s.power with x32Failed := true } })

/-- PLL_LOCK_LOSS of the CRYPTO, LF or MOTION PLL: reset cause PLL_LOCK (R376). -/
def execPllLockLoss (_pll : PllId) (s : State) : Host.Outcome State Fault Refusal :=
  .next (if s.awake then s.systemReset 8 else s)

/-! ### Memory -/

/-- SRAM_SCRUB: a pass has corrected some errors (R377). -/
def execSramScrub (corrected : Nat) (s : State) : Host.Outcome State Fault Refusal :=
  .next (if s.awake then { s with lanes := { s.lanes with sramCorrected := s.lanes.sramCorrected + corrected } } else s)

/-- SRAM_UNCORRECTABLE: in a private SRAM it flags the lane, in shared SRAM it resets the device (R377). -/
def execSramUncorrectable (lane : Option LaneId) (s : State) : Host.Outcome State Fault Refusal :=
  .next (match lane with
    | some l => s.flagLanes (l == .a) (l == .b) 2
    | none => if s.awake then s.systemReset 9 else s)

/-- KEY_STORE_FAULT: reset cause KEY_STORE (R378). -/
def execKeyStoreFault (s : State) : Host.Outcome State Fault Refusal :=
  .next (if s.awake then s.systemReset 0x0A else s)

/-! ### SELFTEST and KAT -/

/-- Arguments: TESTS with a bit of 0 to 6 set and no other, 2 reserved (R382). -/
def testsBad (args : Bytes) : Bool :=
  args.length != 4 || num args 0 2 == 0 || 128 ≤ num args 0 2 || !zero args 2 2

/-- What fails among the elements in service: lanes, AES cores, ECC cores, link engines. -/
structure TestFail where
  lanes : Byte
  aes : Byte
  ecc : Byte
  link : Byte
  /-- FAILED and NOT_RUN. -/
  failed : BitVec 16
  notRun : BitVec 16
deriving DecidableEq, Repr

/-- An element's byte counts where its tests run, masked to the elements in service. -/
def testByte (run : Bool) (inService value : Byte) : Byte := if run then value &&& inService else 0

/-- The first tick from the next one to the last tick less 2 in which an engine has no booking (R381; log entry 80). -/
def State.loopTick (s : State) (last e : Nat) : Option Nat :=
  let l := s.field.loops.filterMap fun x => if x.engine = e then x.tick.map (· + 1) else none
  (sortBy (· ≤ ·) (s.starts (s.tick + 1) ++ l.filter (s.tick < ·))).find? fun t => t + 1 < last && s.engineFree t t e

/-- An admitted SELFTEST with LINK books a tick of every engine in service (R381). -/
def State.bookLoops (verb : Nat) (args : Bytes) (last : Nat) (tk : Ticket) (s : State) : State :=
  if verb = 0x68 ∧ bit (num args 0 2) 6 = true then
    { s with field := { s.field with loops := s.field.loops ++
      ((List.range 4).filter fun e => !s.field.enginesOut.getLsbD e).map fun e => ⟨tk.order, e, s.loopTick last e⟩ } }
  else s

/-- An engine in service has found no free tick for its loopback test (R381). -/
def State.loopMissing (s : State) (order : Nat) : Bool :=
  s.field.loops.any fun l => l.order == order && l.tick.isNone && !s.field.enginesOut.getLsbD l.engine

/-- The loopback tests of a clause are over. -/
def State.dropLoops (s : State) (order : Nat) : State :=
  { s with field := { s.field with loops := s.field.loops.filter fun l => l.order != order } }

/-- The results of SELFTEST (R381, Table 15.5): with one ECC core its test is not run, and the loopback test is not when an
engine has found no free tick. -/
def State.selftestFails (s : State) (order : Nat) (tests : BitVec 16) (r : TestResult) : TestFail :=
  let notRun := (bitAt 4 (s.cipher.eccOut != 0) ||| bitAt 6 (s.loopMissing order)) &&& tests
  let run := tests &&& ~~~ notRun
  let lanes := testByte (run.getLsbD 0)
    (BitVec.ofNat 8 (b2n (s.lanes.causeA == 0) + 2 * b2n (s.lanes.causeB == 0))) r.lanes
  let aes := testByte (run.getLsbD 3) (0x3F#8 &&& ~~~ s.cipher.aesFenced.zeroExtend 8) r.aes
  let ecc := testByte (run.getLsbD 4) 3 r.ecc
  let link := testByte (run.getLsbD 6) (0xF#8 &&& ~~~ s.field.enginesOut.zeroExtend 8) r.link
  let failed := ((r.failed ||| bitAt 1 r.sram.isSome ||| bitAt 2 r.nvm.isSome) &&& run &&& 0x26#16) ||| bitAt 0 (lanes != 0) |||
    bitAt 3 (aes != 0) ||| bitAt 4 (ecc != 0) ||| bitAt 6 (link != 0)
  { lanes := lanes, aes := aes, ecc := ecc, link := link, failed := failed, notRun := notRun }

/-- The results of KAT (R381, Table 15.5). The tests of ECDSA and ECDH fail on the cores that ECC_FAILED names, and on none
otherwise; where `r` says neither which of the two failed, both that run did. -/
def State.katFails (s : State) (tests : BitVec 16) (r : TestResult) : TestFail :=
  let notRun := (bitAt 2 (s.cipher.eccOut != 0) ||| bitAt 3 (s.cipher.eccOut != 0)) &&& tests
  let run := tests &&& ~~~ notRun
  let aes := testByte (run.getLsbD 0) (0x3F#8 &&& ~~~ s.cipher.aesFenced.zeroExtend 8) r.aes
  let ecc := testByte (run.getLsbD 2 || run.getLsbD 3) 3 r.ecc
  let curves := if ecc = 0 then 0 else if r.failed &&& run &&& 0xC#16 = 0 then run &&& 0xC#16 else r.failed &&& run &&& 0xC#16
  let failed := (r.failed &&& run &&& 0x72#16) ||| curves ||| bitAt 0 (aes != 0)
  { lanes := 0, aes := aes, ecc := ecc, link := 0, failed := failed, notRun := notRun }

/-- AES and ECC cores that fail a test go as in service: cause 3 (R293, R303, R382). -/
def State.dropCores (s : State) (f : TestFail) : State :=
  let s1 := (bitsIn 6 f.aes.toNat).foldl (fun s n => s.fenceAes n 3) s
  (bitsIn 2 f.ecc.toNat).foldl (fun s n => s.dropEcc n 3) s1

/-- A word of SRAM that the scrub pass of a SELFTEST cannot correct has the consequence of one that service meets (R377,
R382). -/
def State.sramFails (s : State) : Option (Option LaneId) → State
  | none => s
  | some (some l) => s.flagLanes (l == .a) (l == .b) 2
  | some none => s.systemReset 9

/-- LAST_TEST_TICK and LAST_TEST_FAILED (Table 15.4). -/
def State.lastTest (s : State) (failed : BitVec 16) (corrected : Nat) : State :=
  { s with lanes := { s.lanes with
      lastTestTick := s.tick, lastTestFailed := failed, sramCorrected := s.lanes.sramCorrected + corrected } }

/-- The tick in which the first unit was spent on a clause that ends now (Table 15.5). -/
def State.startTick (s : State) (tk : Ticket) : Nat :=
  ((s.work.find? fun q => q.ticket.order == tk.order).bind Queued.began).getD s.tick

/-- SELFTEST (R381, R382). -/
def selftestWork (args : Bytes) (r : TestResult) : Work where
  need := fixedNeed 0x68
  check := fun _ _ => { arg := testsBad args }
  run := fun tk s =>
    let tests := BitVec.ofNat 16 (num args 0 2)
    let f := s.selftestFails tk.order tests r
    let corrected := if tests.getLsbD 1 then r.sramCorrected else 0
    let refreshed := if tests.getLsbD 2 then r.nvmRefreshed else 0
    let results := args.take 2 ++ leN 2 f.failed.toNat ++ leN 2 f.notRun.toNat ++ zeros 2 ++ [f.lanes, f.aes, f.ecc, f.link] ++
      leN 2 (min 0xFFFF corrected) ++ leN 2 (min 0xFFFF refreshed) ++ tick4 (s.startTick tk) ++ tick4 s.tick
    if f.failed.getLsbD 5 then s.systemReset 0x0B
    else
      let s1 := (((s.dropLoops tk.order).lastTest f.failed corrected).recordReply tk 0x74 results).dropCores f
      let s2 := (bitsIn 4 f.link.toNat).foldl (fun s e => s.engineOut e) s1
      let s3 := if tests.getLsbD 2 then s2.readBanks r.nvm else s2
      let s4 := (s3.done tk results).probeFails (f.lanes.getLsbD 0) (f.lanes.getLsbD 1)
      if tests.getLsbD 1 then s4.sramFails r.sram else s4

/-- A clause of the MAINT class waits for its maintenance slack (R50, R381). -/
def maintCommand (verb : Nat) (h : Hdr) (args : Bytes) (w : Work) (r : TestResult) (s : State) : State :=
  let d := (w.need s).deadline
  commandWith verb h args w
    (fun tk s1 => (s1.bookLoops verb args (s.tick + d - 1) tk).enqueue args (.test r) (hdrHead h verb).prio s.tick d tk) s

/-- SELFTEST. -/
def execSelftest (h : Hdr) (args : Bytes) (r : TestResult) (s : State) : Host.Outcome State Fault Refusal :=
  .next (maintCommand 0x68 h args (selftestWork args r) r s)

/-- KAT (R381, R382). -/
def katWork (args : Bytes) (r : TestResult) : Work where
  need := fixedNeed 0x69
  check := fun _ _ => { arg := testsBad args }
  run := fun tk s =>
    let f := s.katFails (BitVec.ofNat 16 (num args 0 2)) r
    let results := args.take 2 ++ leN 2 f.failed.toNat ++ leN 2 f.notRun.toNat ++ zeros 2 ++ [f.aes, f.ecc] ++ zeros 2 ++
      tick4 (s.startTick tk) ++ tick4 s.tick
    if f.failed.getLsbD 1 then s.systemReset 0x0B
    else
      let s1 := ((s.lastTest f.failed 0).recordReply tk 0x75 results).dropCores f
      let s2 : State := if f.failed.getLsbD 5 || f.failed.getLsbD 6 then { s1 with rng := s1.rng.zeroise } else s1
      s2.done tk results

/-- KAT. -/
def execKat (h : Hdr) (args : Bytes) (r : TestResult) (s : State) : Host.Outcome State Fault Refusal :=
  .next (maintCommand 0x69 h args (katWork args r) r s)

end Sys2Proof.Machine
end

