-- ==== Sys2Proof/Machine/Pairing.lean ====
section
/-! DEFINITION. HOST_PAIR (R75 to R77). -/

namespace Sys2Proof.Machine

open Sys2Proof

/-- Coordinate size of a curve code. -/
def coordSize (code : Nat) : Nat := if code ≤ 2 then 32 else 48

/-- The message M_H (R75), from the arguments. -/
def pairMessage (p : PortId) (args : Bytes) : Bytes :=
  leN 1 (portCode p) ++ args.take 1 ++ slice args 4 (16 + 2 * coordSize (oct args 0))

/-- Q_H, or r and s, from the arguments: two integers of c bytes at an offset. -/
def pairInts (args : Bytes) (off c : Nat) : Nat × Nat := (ofBe (slice args off c), ofBe (slice args (off + c) c))

/-- The host's signature verifies and its ephemeral point is on the curve (R75, R302). -/
def pairVerifies (k : PubKey) (p : PortId) (args : Bytes) : Bool :=
  match Crypto.curveOf k.curve with
  | none => false
  | some cv =>
    let q := pairInts args 20 cv.c
    let rs := pairInts args (20 + 2 * cv.c) cv.c
    Crypto.onCurve cv q.1 q.2 && Crypto.ecdsaVerify cv k.x k.y (pairMessage p args) rs.1 rs.2

/-- The session key from the shared x-coordinate (R76). -/
def pairKey (z : Bytes) (id : BitVec 32) (nonce : Bytes) (p : PortId) : Bytes :=
  Crypto.kdf (Crypto.sha256 z) (Crypto.ascii "OTR9716-HOSTSESS") (leN 4 id.toNat ++ nonce ++ leN 1 (portCode p)) 256 2

/-- The exchange of an admitted HOST_PAIR, its secret scalars blinded (R302): ephemeral key, session identifier, device
signature, session key. The session becomes current at the commit phase of the reply (R77). -/
def State.pair (s : State) (tk : Ticket) (args : Bytes) : State :=
  match Crypto.curveOf (oct args 0) with
  | none => s.done tk []
  | some cv =>
    let d := s.mask.drawScalar cv
    let id := State.drawId 8 d.2
    let qh := pairInts args 20 cv.c
    let qd := (Crypto.ptMul cv d.1 (Crypto.ptG cv)).getD (0, 0)
    let z := ((Crypto.ptMul cv d.1 (some qh)).getD (0, 0)).1
    let m := pairMessage tk.port args ++ leN 4 id.1.toNat ++ Crypto.ptBytes cv qd.1 qd.2
    let k := State.signWith cv (s.ks.signScalar 6 (oct args 0) cv) m 8 id.2.mask
    let se : Sess := { id := id.1, key := pairKey (beN cv.c z) id.1 (slice args 4 16) tk.port }
    (k.2.onPort tk.port fun q => { q with newSession := some se }).done tk
      (leN 4 id.1.toNat ++ Crypto.ptBytes cv qd.1 qd.2 ++ beN cv.c k.1.1 ++ beN cv.c k.1.2)

/-- HOST_PAIR (R75). -/
def hostPairWork (args : Bytes) : Work := Work.aes (Work.signed (Work.hashed {
  need := fun _ =>
    let n := (verbNeed 0x78).getD {}
    if 2 < oct args 0 then { n with ecc := 2 * n.ecc } else n
  check := fun tk s =>
    { arg := !inRange 1 4 (oct args 0) || args.length != 20 + 4 * coordSize (oct args 0) || !zero args 1 3 ||
        (match hostKey s.thal.cur tk.port with
          | some k => k.curve != oct args 0
          | none => false)
      auth := match hostKey s.thal.cur tk.port with
        | some k => !pairVerifies k tk.port args
        | none => false
      state := (hostKey s.thal.cur tk.port).isNone || (s.port tk.port).oldSessions.any (·.replaced) }
  run := fun tk s => s.pair tk args }))

/-- HOST_PAIR. -/
def execHostPair (h : Hdr) (args : Bytes) (s : State) : Host.Outcome State Fault Refusal :=
  .next (drawCommand 0x78 h args (hostPairWork args) s)

end Sys2Proof.Machine
end

