-- ==== Sys2Proof/Machine/Service.lean ====
section
/-! DEFINITION. ECHO, STATUS, CLOCK, CLOCK_SET and LANE_STATUS (R81 to R84, R379). -/

namespace Sys2Proof.Machine

open Sys2Proof

/-- ECHO returns its arguments unchanged (R81). -/
def echoWork (args : Bytes) : Work := ⟨fixedNeed 0x01, fun _ _ => {}, fun tk s => s.done tk args⟩

/-- ECHO. -/
def execEcho (h : Hdr) (args : Bytes) (s : State) : Host.Outcome State Fault Refusal :=
  .next (command 0x01 h args (echoWork args) s)

/-- The 24 bytes of STATUS (Table 03.15). -/
def State.statusResults (s : State) : Bytes :=
  leN 8 s.tick ++ leN 1 s.stateCode ++ leN 1 s.power.crozier ++ leN 2 s.faults.toNat ++ leN 4 s.rng.fails ++
    leN 1 s.portA.credits ++ leN 1 s.portB.credits ++ leN 1 (cellCode s.cell.state) ++
    leN 1 (b2n s.portA.session.isSome + 2 * b2n s.portB.session.isSome) ++ leN 1 (b2n s.seeded) ++ zeros 3

/-- STATUS takes no arguments; its results are those of the commit phase that publishes it (R82). -/
def statusWork (args : Bytes) : Work :=
  ⟨fixedNeed 0x02, fun _ _ => { arg := args != [] }, fun tk s => s.done tk s.statusResults⟩

/-- STATUS. -/
def execStatus (h : Hdr) (args : Bytes) (s : State) : Host.Outcome State Fault Refusal :=
  .next (command 0x02 h args (statusWork args) s)

/-- The 24 bytes of CLOCK (R83). -/
def State.clockResults (s : State) : Bytes := leN 8 s.tick ++ leN 8 s.utcNow ++ leN 8 s.utcTick

/-- CLOCK takes no arguments (R83). -/
def clockWork (args : Bytes) : Work :=
  ⟨fixedNeed 0x03, fun _ _ => { arg := args != [] }, fun tk s => s.done tk s.clockResults⟩

/-- CLOCK. -/
def execClock (h : Hdr) (args : Bytes) (s : State) : Host.Outcome State Fault Refusal :=
  .next (command 0x03 h args (clockWork args) s)

/-- The step in milliseconds that a new UTC time applies (R84). -/
def State.clockStep (s : State) (new : Nat) : Int := (new : Int) - (s.utcNow : Int)

/-- UTC after a CLOCK_SET (R83, R84). -/
def State.setUtc (s : State) (new : Nat) : State :=
  { s with utc := new, utcTick := s.tick, utcBase := s.tick, utcSet := true, utcFree := false }

/-- UTC is set at the commit phase of the reply, with the record that goes with it (R83, R84, Table 12.7). -/
def State.applyClockSet (s : State) (tk : Ticket) (new : Nat) : State :=
  let times := leN 8 s.utcNow ++ leN 8 new ++ leN 8 (twos 64 (s.clockStep new))
  ((s.setUtc new).recordReply tk 0x05 (times ++ leN 1 (portCode tk.port))).amend tk 0
    (leN 8 s.utcNow ++ leN 8 (twos 64 (s.clockStep new)))

/-- UTC as the CLOCK_SETs admitted before will leave it: a later one is tested against that (R84). -/
def State.clockAhead (s : State) : State :=
  let made := s.acts.filterMap fun a => match a with
    | .clockSet tk t => some (tk.order, t)
    | _ => none
  let due := (s.work.filter fun q => q.ticket.verb == 0x04).map fun q => (q.ticket.order, num q.args 0 8)
  (sortBy (fun a b => decide (a.1 ≤ b.1)) (made ++ due)).foldl (fun s x => s.setUtc x.2) s

/-- The clock-step limit forbids a CLOCK_SET (R84, R413). -/
def State.stepTooFar (s : State) (new : Nat) : Bool :=
  !s.utcFree && decide (clockStepLimit s.thal.cur * 1000 < (s.clockStep new).natAbs)

/-- CLOCK_SET: refused beyond the clock-step limit, but for the first after personalisation or a moss power-on (R84,
R413). -/
def clockSetWork (args : Bytes) : Work where
  need := fixedNeed 0x04
  check := fun _ s => { arg := args.length != 8 || s.clockAhead.stepTooFar (num args 0 8) }
  run := fun tk s => (s.push (.clockSet tk (num args 0 8))).done tk
    (leN 8 s.utcNow ++ leN 8 (twos 64 (s.clockStep (num args 0 8))))

/-- CLOCK_SET. -/
def execClockSet (h : Hdr) (args : Bytes) (s : State) : Host.Outcome State Fault Refusal :=
  .next (command 0x04 h args (clockSetWork args) s)

/-- Bit n: engine LEn in service (Table 15.4). -/
def State.enginesIn (s : State) : Nat := (~~~ s.field.enginesOut).toNat

/-- Bits of the valid banks (Table 15.4). -/
def State.banksValid (s : State) : Nat :=
  let v : Bank → Nat := fun b => b2n (b.cond == .valid)
  v s.cfg.bank0 + 2 * v s.cfg.bank1 + 4 * v s.thal.bank0 + 8 * v s.thal.bank1

/-- The 40 bytes of LANE_STATUS (Table 15.4). -/
def State.laneStatusResults (s : State) : Bytes :=
  leN 1 s.serviceCode ++ leN 1 s.lanes.causeA ++ leN 1 s.lanes.causeB ++ leN 1 s.clockCode ++
    leN 8 s.lanes.takeoverTick ++ leN 2 (min 0xFFFF s.lanes.transients) ++ zeros 2 ++
    tick4 (s.lanes.transientTicks.headD 0) ++ leN 1 (~~~ s.cipher.aesFenced).toNat ++
    leN 1 (~~~ s.cipher.eccOut).toNat ++ leN 1 s.enginesIn ++
    leN 1 (b2n s.rng.srcA.passed + 2 * b2n s.rng.srcB.passed) ++
    leN 2 (maskOf ((List.range 16).filter s.inService)) ++ leN 1 s.banksValid ++ zeros 1 ++
    leN 2 (min 0xFFFF s.lanes.sramCorrected) ++ zeros 2 ++ tick4 s.lanes.lastTestTick ++
    leN 2 s.lanes.lastTestFailed.toNat ++ zeros 2

/-- LANE_STATUS takes no arguments (R379). -/
def laneStatusWork (args : Bytes) : Work :=
  ⟨fixedNeed 0x09, fun _ _ => { arg := args != [] }, fun tk s => s.done tk s.laneStatusResults⟩

/-- LANE_STATUS. -/
def execLaneStatus (h : Hdr) (args : Bytes) (s : State) : Host.Outcome State Fault Refusal :=
  .next (command 0x09 h args (laneStatusWork args) s)

end Sys2Proof.Machine
end

