-- ==== Sys2Proof/Machine/SessionVerbs.lean ====
section
/-! DEFINITION. SESSION_QUERY, SESSION_END, RELEASE_STATE and RELEASE_CLEAR (R180, R181, R210, R211). -/

namespace Sys2Proof.Machine

open Sys2Proof

/-- The 24 bytes of SESSION_QUERY (Table 06.15). -/
def State.sessionResults (s : State) : Bytes :=
  leN 1 (sesCode s.ses.state) ++ leN 1 s.ses.lastEnd ++ leN 2 s.ses.number ++ leN 8 s.ses.token.toNat ++
    tick4 s.ses.opened ++
    (match s.ses.expires with
      | some t => leN 4 (t - s.tick)
      | none => leN 4 0xFFFFFFFF) ++
    leN 1 s.ses.zone ++ leN 1 s.ses.location ++ zeros 2

/-- SESSION_QUERY takes no arguments (R180). -/
def sessionQueryWork (args : Bytes) : Work :=
  ⟨fixedNeed 0x2B, fun _ _ => { arg := args != [] }, fun tk s => s.done tk s.sessionResults⟩

/-- SESSION_QUERY. -/
def execSessionQuery (h : Hdr) (args : Bytes) (s : State) : Host.Outcome State Fault Refusal :=
  .next (command 0x2B h args (sessionQueryWork args) s)

/-- Results of SESSION_END: the release state after the commit phase of its reply (R181). -/
def State.sessionEndResults (s : State) : Bytes := leN 1 (cellCode s.cell.state) ++ zeros 3

/-- SESSION_END: refused with REFUSED_STATE when CLOSED or another number; at its commit phase it ends the session with HOST
and requests a clear (R179, R181, Table 06.14). -/
def sessionEndWork (args : Bytes) : Work where
  need := fixedNeed 0x2C
  check := fun _ s =>
    { arg := args.length != 4 || !zero args 2 2
      state := s.ses.state == .closed || num args 0 2 != s.ses.number }
  run := fun tk s => (s.push (.endSession tk)).done tk s.sessionEndResults

/-- SESSION_END. -/
def execSessionEnd (h : Hdr) (args : Bytes) (s : State) : Host.Outcome State Fault Refusal :=
  .next (command 0x2C h args (sessionEndWork args) s)

/-- The 24 bytes of RELEASE_STATE (Table 08.4). -/
def State.releaseResults (s : State) : Bytes :=
  leN 1 (cellCode s.cell.state) ++ leN 1 (motionCode s.motion.state) ++
    leN 1 (b2n s.cell.faultA + 2 * b2n s.cell.faultB + 4 * b2n s.cell.singleLane +
      8 * b2n (s.cell.recovery || s.cell.recoveryDue)) ++
    leN 1 s.cell.pendingReason ++ tick4 s.cell.setTick ++ tick4 s.cell.clearTick ++ tick4 s.cell.pendingSince ++
    leN 8 s.cell.token.toNat

/-- RELEASE_STATE takes no arguments (R210). -/
def releaseStateWork (args : Bytes) : Work :=
  ⟨fixedNeed 0x30, fun _ _ => { arg := args != [] }, fun tk s => s.done tk s.releaseResults⟩

/-- RELEASE_STATE. -/
def execReleaseState (h : Hdr) (args : Bytes) (s : State) : Host.Outcome State Fault Refusal :=
  .next (command 0x30 h args (releaseStateWork args) s)

/-- Results of RELEASE_CLEAR: cell and motion state after the commit phase of its reply (R211). -/
def State.releaseClearResults (s : State) : Bytes :=
  leN 1 (cellCode s.cell.state) ++ leN 1 (motionCode s.motion.state) ++ zeros 2

/-- RELEASE_CLEAR: a clear request with reason HOST_CLEAR at its commit phase; refused with REFUSED_STATE when the cell is
LOCKED (R203, R211). -/
def releaseClearWork (args : Bytes) : Work where
  need := fixedNeed 0x31
  check := fun _ s => { arg := args.length != 4 || !zero args 1 3, state := s.cell.state == .locked }
  run := fun tk s => (s.push (.clear tk (byteAt args 0))).done tk s.releaseClearResults

/-- RELEASE_CLEAR. -/
def execReleaseClear (h : Hdr) (args : Bytes) (s : State) : Host.Outcome State Fault Refusal :=
  .next (command 0x31 h args (releaseClearWork args) s)

end Sys2Proof.Machine
end

