-- ==== Sys2Proof/Machine/Supply.lean ====
section
/-! DEFINITION. The supply monitors and ceilings (R106, R403, R404, R406), VHOLD (R355, R403), and the tick value kept
against a loss of supply (R413). -/

namespace Sys2Proof.Machine

open Sys2Proof

/-! ### VBAT -/

/-- A new supply after the moss domain had stopped: a moss power-on (R406). -/
def State.mossOn (s : State) : State :=
  match s.power.life with
  | .unpowered => { s with power := { s.power with life := .starting, nextCause := 1, mossAnew := true } }
  | _ => s

/-- VBAT_VALID: crozier stage 0 may begin (R403). -/
def execVbatValid (s : State) : Host.Outcome State Fault Refusal :=
  let s1 := s.mossOn
  .next { s1 with power := { s1.power with vbatValid := true } }

/-- VBAT_RESET: every domain but MOSS resets, with cause BROWNOUT (R403); the lanes of a sleeping device do not run, and it
sleeps on (R419). A boot that is under way records it, too. -/
def execVbatReset (s : State) : Host.Outcome State Fault Refusal :=
  let s1 : State := { s with power := { s.power with vbatValid := false } }
  .next (match s.power.life with
    | .awake | .sleepPending | .bootStopped => s1.systemReset 2
    | .starting => if s.power.vbatValid then { s1 with power := { s1.power with nextCause := 2 } } else s1
    | .asleep | .unpowered => s1)

/-! ### Ceilings -/

/-- The supply ceiling is 0 W: every bridge is off, the exchanges in progress lose their keys, and LOOP_CLAMPED is set (R104,
R404). -/
def State.supplyCut (s : State) : State :=
  let s1 := (s.rescale 0 fun b => b.phase != .booked).onBookings (fun b => b.phase != .booked) fun b => { b with cut := true }
  { s1 with
    power := { s1.power with supplyOff := true, newClamp := s1.power.newClamp || s.awake }
    field := { s1.field with scale := 0 } }

/-- VBAT_LOW_DRIVE (R403, R404). -/
def execVbatLowDrive (s : State) : Host.Outcome State Fault Refusal := .next s.supplyCut

/-- VDRV_RANGE (R403, R404). -/
def execVdrvRange (s : State) : Host.Outcome State Fault Refusal := .next s.supplyCut

/-- VBAT_HIGH (R403, R404). -/
def execVbatHigh (s : State) : Host.Outcome State Fault Refusal := .next s.supplyCut

/-- SUPPLY_CEILING_RETURN: VBAT and VDRV were in range at four consecutive latch phases (R404). -/
def execSupplyCeilingReturn (s : State) : Host.Outcome State Fault Refusal :=
  .next (if s.awake && s.power.supplyOff then
      let s1 : State := { s with power := { s.power with supplyOff := false } }
      { s1 with field := { s1.field with scale := s1.supplyScale } }
    else s)

/-- BATTERY_CRITICAL: VBAT below 6.0 V at a latch phase (R106). -/
def execBatteryCritical (s : State) : Host.Outcome State Fault Refusal :=
  .next (if s.awake then { s with power := { s.power with batteryCritical := true } } else s)

/-- BATTERY_CRITICAL_END: VBAT at or above 6.5 V at four consecutive latch phases (R106). -/
def execBatteryCriticalEnd (s : State) : Host.Outcome State Fault Refusal :=
  .next (if s.awake then { s with power := { s.power with batteryCritical := false } } else s)

/-- The 16 MHz crystal runs: it is stopped until crozier stage 1 of a boot (R422, Table 17.3). -/
def State.xinRuns (s : State) : Bool := 1 ≤ s.power.crozier

/-! ### VHOLD -/

/-- VHOLD_LOW: less energy than a root erase needs (R355, R403). -/
def execVholdLow (s : State) : Host.Outcome State Fault Refusal :=
  .next { s with power := { s.power with vholdLow := true } }

/-- VHOLD_RECOVERED (R355). -/
def execVholdRecovered (s : State) : Host.Outcome State Fault Refusal :=
  .next { s with power := { s.power with vholdLow := false } }

/-- What the moss domain holds of the tamper block when it stops: events that no boot has written are lost, those written still
owe their records and notices (R354, R356). -/
def Tamper.mossStops (t : Tamper) : Tamper :=
  { t with
    latched := t.written, unacked := t.writtenCount, due := t.dueWritten, queued := 0, entries := none, mesh := 1
    hold := t.permanent || t.holdWritten }

/-- The moss domain stops: the cell is LOCKED at its next power-on, inputs are inactive and doors closed, the sleep counts
are gone (R195, R201, R354, R406). -/
def State.mossStops (s : State) : State :=
  let s1 := s.lanesStop.onPorts Port.close
  { s1 with
    power := { s1.power with
      life := .unpowered, nextCause := 1, mossAnew := true, x32Failed := false, xtalFallback := false, wakeTimer := 0, wakeCycle := none }
    cell := {}
    tamper := s1.tamper.mossStops
    motion := { s1.motion with
      sleepCount0 := 0, sleepCount1 := 0, overrate := false, episodes := [], openEpisode := false, lastPulse := none
      lastPulse0 := none, lastPulse1 := none, wakeDue := false, counting := false, owed := 0 }
    field := {}
    lanes := {} }

/-- VHOLD_STOP: below 3.0 V while VBAT is below VBAT_RESET (R403, R406). -/
def execVholdStop (s : State) : Host.Outcome State Fault Refusal :=
  .next (if s.power.vbatValid then s else s.mossStops)

/-! ### Tick number -/

/-- N + 2^21 is kept for a tick N (R413). -/
def State.storeTick (s : State) (n : Nat) : State := { s with power := { s.power with storedTick := n + 2 ^ 21 } }

/-- TICK_HIGHWATER_WRITE: at every tick N that is a multiple of 2^20; the commit phase writes it (R35, R413). -/
def execTickHighwaterWrite (s : State) : Host.Outcome State Fault Refusal :=
  .next (if s.awake && s.tick % 2 ^ 20 == 0 then s.push (.highwater s.tick) else s)

end Sys2Proof.Machine
end

