-- ==== Sys2Proof/Machine/Commit.lean ====
section
/-! DEFINITION. The lasting changes of a commit phase in the order of R179 (R16, R17, R35, R164, R172, R179, R204): revocations,
verdicts in ascending engine order, other clauses in admission order, then timer, door and motion events; then new banks (R350). -/

namespace Sys2Proof.Machine

open Sys2Proof

/-- The rank of R179. Lookups come before all, since a change of the directory is seen from the next tick on (R153, R172); a new
bank comes last, since work that completes in its tick uses the old settings (R90, R350). The end of a booking, and of a poll
without a decision, has the place of its engine's verdict (log entry 60). -/
def Act.rank : Act → Nat × Nat
  | .lookup e => (0, e)
  | .revoke tk _ => (1, tk.order)
  | .judge e _ | .bookingEnd e _ | .undecided e _ => (2, e)
  | .enrol tk _ _ | .phaseRef tk _ _ _ _ | .cal tk _ _ | .clockSet tk _ => (3, tk.order)
  | .odoInterval tk _ | .odoInit tk _ | .endSession tk | .clear tk _ | .sleep tk _ | .ack tk _ => (3, tk.order)
  | .timer | .door _ | .moved | .still | .hostSilent _ | .held | .probe _ _ => (4, 0)
  | .trigger _ _ | .repetition _ | .heldStart | .recovery | .repair _ | .highwater _ => (4, 0)
  | .odometer | .woken => (4, 0)
  | .config tk _ _ | .thallus tk _ _ _ => (5, tk.order)

/-- The clause that asks for a change. -/
def Act.clause : Act → Option Ticket
  | .revoke tk _ | .enrol tk _ _ | .phaseRef tk _ _ _ _ | .cal tk _ _ | .clockSet tk _ => some tk
  | .odoInterval tk _ | .odoInit tk _ | .endSession tk | .clear tk _ | .sleep tk _ | .ack tk _ => some tk
  | .config tk _ _ | .thallus tk _ _ _ => some tk
  | .lookup _ | .judge _ _ | .bookingEnd _ _ | .undecided _ _ | .timer | .door _ | .moved | .still | .hostSilent _ | .held => none
  | .probe _ _ | .trigger _ _ | .repetition _ | .heldStart | .recovery | .repair _ | .highwater _ | .odometer | .woken => none

/-- A record that a change brings takes the change's place in R179's order; in the commit phase of a clause reply it goes with
that reply (R39, R306). -/
def Waiting.of (a : Act) (w : Waiting) : Waiting :=
  let r := if a.rank.1 = 5 then 3 else a.rank.1
  match a.clause, w.cls with
  | some tk, .other => { w with cls := .reply, order := tk.order, rank := r }
  | _, _ => { w with rank := r }

/-- One change comes no later than another; those of equal rank keep their order of arrival. -/
def Act.before (a b : Act) : Bool :=
  decide (a.rank.1 < b.rank.1) || (a.rank.1 == b.rank.1 && decide (a.rank.2 ≤ b.rank.2))

/-- An exchange that its verdict leaves with nothing to send ends in the same commit phase (R371). -/
def State.endIfOver (s : State) (engine : Nat) : State :=
  match s.current engine with
  | some b =>
    if b.endCode.isSome && b.endFrom ≤ s.tick && b.todo == [] && b.await == .nothing && b.cur.isNone then
      (s.release b).publishEnd b ⟨[], [], []⟩
    else s
  | none => s

/-- An exchange's verdict (R161, R162). -/
def State.verdictEvent (s : State) (engine : Nat) (r : Response) : State := (s.judgeResponse engine r).endIfOver engine

/-- What one lasting change does. -/
def State.apply (s : State) (a : Act) : State :=
  match a with
  | .lookup e => s.identified e
  | .bookingEnd e m => s.bookingEnds e m
  | .revoke tk i => s.applyRevoke tk i
  | .judge e r => s.verdictEvent e r
  | .undecided _ recovery => if recovery then s.recoveryUndecided else s.doorUndecided
  | .enrol tk args key => s.applyEnrol tk args key
  | .phaseRef tk z i m sp => s.applyPhaseRef tk z i m sp
  | .cal tk b m => s.calEvent tk b m
  | .clockSet tk t => s.applyClockSet tk t
  | .config tk img nvm => s.applyConfig tk img nvm
  | .thallus tk img by_ nvm => s.applyThallusCommit tk img by_ nvm
  | .odoInterval _ km => { s with motion := { s.motion with interval := km } }
  | .odoInit tk m => s.applyOdoInit tk m
  | .endSession _ => s.endSessionClear 0x03
  | .clear _ reason => s.clearRequest 0x10 reason
  | .sleep _ wake => s.applySleep wake
  | .ack tk by_ => s.applyAck tk by_
  | .timer => s.timerEvent
  | .door opened => s.doorEvent opened
  | .moved => s.doorMotion
  | .still => s.storeOdo.pendingClear.doorCheckBegins
  | .hostSilent e => s.sporeTimeout e
  | .held => s.enterHold
  | .probe a b => s.probeEnds a b
  | .trigger i aerials => s.trigger i aerials
  | .repetition i => s.repetition i
  | .heldStart => s.heldStart
  | .recovery => s.recoveryPoll
  | .repair k => s.repairBank k
  | .highwater t => s.storeTick t
  | .odometer => s.storeOdo
  | .woken => State.storeOdo { s with motion := { s.motion with wakeDue := false } }

/-- One lasting change is made, unless one before it has reset the device; its records take their place (R306). -/
def State.act (s : State) (a : Act) : State :=
  if !s.awake then s
  else
    let t := s.apply a
    let n := s.log.waiting.length
    { t with log := { t.log with waiting := t.log.waiting.take n ++ (t.log.waiting.drop n).map (Waiting.of a) } }

/-- The changes that wait are made in order. -/
def State.actAll (s : State) : State := (sortBy Act.before s.acts).foldl State.act { s with acts := [] }

/-- The lasting changes of a commit phase: bookings that failed before they began, what waits, what that asks for, a pending
clear that the motion state lets take effect, the session timer (R179, R203, R204, R378). -/
def State.commitActs (s : State) : State := s.endFailed.actAll.actAll.pendingClear.sessionTimer

end Sys2Proof.Machine
end

