-- ==== Sys2Proof/Machine/Publish.lean ====
section
/-! DEFINITION. The commit phase of a published tick (R35, R58, R62 to R64, R68 to R72, R77 to R80): frames, notices,
cause words, evidence records, and everything that a rule ties to the commit phase. -/

namespace Sys2Proof.Machine

open Sys2Proof

/-! ### Frames -/

/-- The session of a port with an identifier (R77). -/
def Port.live (id : BitVec 32) (q : Port) : Option Sess :=
  (q.session.toList ++ q.oldSessions).find? (·.id == id)

/-- A session counts one sealed reply (R71). -/
def Sess.step (id : BitVec 32) (se : Sess) : Sess :=
  if se.id = id then { se with replyCounter := se.replyCounter + 1 } else se

/-- The first 11 bytes of a reply frame (Tables 03.6, 03.7). -/
def replyHead (r : Staged) (tick m : Nat) (more : Bool) : Bytes :=
  let flags := 16 * b2n more + 8 * b2n r.unverified + 4 * b2n r.duplicate + 2 * b2n r.notice + b2n r.sess.isSome
  leN 1 0xD1 ++ leN 1 flags ++ leN 2 r.seq.toNat ++ leN 1 r.verb ++ leN 1 r.status ++ tick4 tick ++ leN 1 m

/-- Close a frame with its CRC (R59). -/
def withCrc (b : Bytes) : Bytes := b ++ Crypto.crc32cBytes b

/-- The frame of a reply or notice; a sealed one takes the next reply counter of its session (R58, R70, R71). -/
def Port.form (tick : Nat) (r : Staged) (more : Bool) (q : Port) : Bytes × Port :=
  match r.sess with
  | none => (withCrc (replyHead r tick r.results.length more ++ r.results), q)
  | some se =>
    let c := ((q.live se.id).getD se).replyCounter
    let h := replyHead r tick (24 + r.results.length) more
    let iv := payloadIv se.id c
    let ct := Crypto.gcmCrypt se.key iv r.results
    let b := h ++ leN 8 c ++ ct ++ Crypto.gcmTag se.key iv h ct
    (withCrc b, { q with session := q.session.map (Sess.step se.id), oldSessions := q.oldSessions.map (Sess.step se.id) })

/-- DONE_DEGRADED for what would be DONE (R5, R369). -/
def Staged.grade (degraded : Bool) (r : Staged) : Staged :=
  if r.admitted && r.status == 0 && degraded then { r with status := 1 } else r

/-- The replies of a commit phase in the admission order of R18 (R64). -/
def Port.inOrder (q : Port) : List Staged := sortBy (fun a b => decide (a.order ≤ b.order)) q.stagedReplies

/-- The outstanding clause that a published reply answers. -/
def Port.answer (r : Staged) (q : Port) : Port :=
  { q with outstanding := q.outstanding.map fun o => if o.order = r.order then { o with answered := true } else o }

/-- Form the general frames of a commit phase in order (R58, R64). -/
def Port.formAll (tick : Nat) (degraded : Bool) : List Staged → Port → Port
  | [], q => q
  | r :: rest, q =>
    let f := q.form tick (r.grade degraded) (rest != [])
    let s : Stored := { bytes := f.1, clause := if r.notice then none else some r.seq, admitted := r.admitted
                        order := r.order }
    let q1 : Port := { f.2 with general := f.2.general ++ [s] }
    Port.formAll tick degraded rest (if r.notice then q1 else q1.answer r)

/-- Number the notices of a commit phase from `n` on (R68). -/
def numberNotices : BitVec 16 → List Staged → List Staged
  | _, [] => []
  | n, r :: rest =>
    if r.numbered then { r with seq := n } :: numberNotices (n + 1) rest else r :: numberNotices n rest

/-- A SPORE_NEEDED notice (Table 03.9). DESIGN CHOICE (log entry 74): its STATUS byte is 0x00; the spec names none. -/
def sporeNotice (n : BitVec 16) (x : Ident × Nat × Nat) : Staged :=
  { seq := n, verb := 0, status := 0, results := 0x01#8 :: (leN 8 x.1.toNat ++ tick4 x.2.1 ++ leN 1 x.2.2), notice := true }

/-- A new session becomes current; the one it replaces is kept while replies sealed under it are unread (R77). -/
def Port.promote (q : Port) : Port :=
  match q.newSession with
  | none => q
  | some se =>
    let old := q.session.toList.map fun x => { x with replaced := true }
    Port.dropOldSessions { q with session := some se, newSession := none, oldSessions := q.oldSessions ++ old }

/-- The notices of ended requests leave their stores (R69). -/
def Port.withdraw (q : Port) : Port :=
  { q with spores := q.spores.filter fun x => !q.gone.contains (x.ident, x.engine), gone := [] }

/-- The frames of a commit phase: clause replies, notices while a general store is free, SPORE_NEEDED notices (R60, R64,
R68, R69). -/
def Port.publishFrames (tick : Nat) (degraded : Bool) (q : Port) : Port :=
  let q0 := q.promote.withdraw
  let room := 12 - q0.boundStores
  let nS := q0.stagedSpores.length
  let notices := numberNotices (q0.noticeNo + BitVec.ofNat 16 nS) q0.stagedNotices
  let lost := notices.length - room
  let q1 := Port.formAll tick degraded (q0.inOrder ++ notices.take room) q0
  let sp := q0.stagedSpores.zipIdx.map fun x =>
    let more := decide (x.2 + 1 < nS) || q1.general != []
    ({ ident := x.1.1, engine := x.1.2.2
       bytes := (q1.form tick (sporeNotice (q0.noticeNo + BitVec.ofNat 16 x.2) x.1) more).1 } : SporeStore)
  { q1 with
    spores := q1.spores ++ sp
    stagedReplies := [], stagedNotices := [], stagedSpores := []
    noticeNo := q0.noticeNo + BitVec.ofNat 16 (nS + (notices.filter (·.numbered)).length)
    newLost := q1.newLost + lost
    newEvents := q1.newEvents ||| bitAt 13 (lost != 0) }

/-- The cause word, its counts, the interrupt line and the status byte of a commit phase (R78 to R80, R393). -/
def Port.publishCause (enable : BitVec 16) (tamper degraded : Bool) (q : Port) : Port :=
  let ev := (match q.clearing with
    | some m => q.events &&& ~~~ m
    | none => q.events) ||| q.newEvents
  let base := fun (n : Nat) => if q.clearing.isSome then 0 else n
  let cause := ev ||| q.stateBits tamper degraded
  let q1 : Port := { q with
    events := ev, newEvents := 0, clearing := none, cause := cause
    discards := min 0xFF (base q.discards + q.newDiscards), newDiscards := 0
    lost := min 0xFF (base q.lost + q.newLost), newLost := 0
    irq := cause &&& enable != 0 }
  { q1 with statusByte := q1.status }

/-- Credits of the refusals that this commit phase publishes (R62). -/
def Port.returnCredits (q : Port) : Port :=
  { q with credits := q.credits + (q.stagedReplies.filter fun r => !r.admitted).length }

/-! ### What a commit phase does -/

/-- Events of the tamper block: their records wait from this commit phase on, those of events before READY from the first one
after it; an unpersonalised device, which keeps no log, publishes the notice alone (R361, R437, Table 14.12). -/
def State.publishTamper (s : State) : State :=
  if s.power.readyDue.isSome then s
  else if !s.log.begun then
    s.tamper.due.foldl State.tamperNotice { s with tamper := { s.tamper with due := [], dueWritten := [], queued := 0 } }
  else
    (s.tamper.due.drop s.tamper.queued).foldl State.tamperRecord
      { s with tamper := { s.tamper with queued := s.tamper.due.length } }

/-- An admitted clause of a verb is answered DONE in this commit phase. -/
def State.answers (s : State) (verb : Nat) : Bool :=
  let p : Port → Bool := fun q => q.stagedReplies.any fun r => r.admitted && r.verb == verb && r.status == 0
  p s.portA || p s.portB

/-- Results that are those of the commit phase of the reply (R82, R181, R210, R211, R226, R227, R265, R379, R414). -/
def State.resultsNow (s : State) (verb : Nat) : Option Bytes :=
  match verb with
  | 0x02 => some s.statusResults
  | 0x08 => some s.sleepResults
  | 0x09 => some s.laneStatusResults
  | 0x2C => some s.sessionEndResults
  | 0x30 => some s.releaseResults
  | 0x31 => some s.releaseClearResults
  | 0x38 => some s.motionCfgResults
  | 0x39 => some s.motionResults
  | 0x60 => some s.fp.results
  | _ => none

/-- A staged reply takes the results of its commit phase. -/
def State.refreshReply (s : State) (r : Staged) : Staged :=
  if r.admitted && r.status == 0 then { r with results := (s.resultsNow r.verb).getD r.results } else r

/-- All staged replies take the results of their commit phase. -/
def State.refreshReplies (s : State) : State :=
  s.onPorts fun q => { q with stagedReplies := q.stagedReplies.map s.refreshReply }

/-- LOOP_CLAMPED and CROSSING_FLUSHED as this commit phase sets them (R104, R399, R404). -/
def State.setFlags (s : State) : State :=
  { s with power := { s.power with
      crossingFlushed := s.power.crossingFlushed || s.power.newFlush
      loopClamped := s.power.loopClamped || s.power.newClamp || s.power.supplyOff
      newFlush := false, newClamp := false } }

/-- FAULT is raised when a fault flag became 1; a STATUS reply that returns the two held flags clears them (R78, R82). -/
def State.settleFlags (s : State) : State :=
  let f := s.faults
  let s1 := if f &&& ~~~ s.power.faultsPublished != 0 then s.raise 7 else s
  let s2 : State := if s.answers 0x02 then
      { s1 with power := { s1.power with crossingFlushed := false, loopClamped := false } }
    else s1
  { s2 with power := { s2.power with faultsPublished := s2.faults } }

/-- BOOT at the first commit phase after READY (R78). -/
def State.firstPublished (s : State) : State :=
  let s1 := if s.power.firstCommit then s.raise 15 else s
  { s1 with power := { s1.power with firstCommit := false } }

/-- SLEEP takes effect at the commit phase of its reply (R415). -/
def State.sleepIfDone (s : State) : State := if s.answers 0x08 then s.sleepPublished else s

/-- The records of this commit phase (R39, R264). -/
def State.publishRecords (s : State) : State := s.appending (Evidence.commit s.tick s.degraded)

/-- Work that ran in this tick and goes on: clauses that wait with a unit spent, and running bookings with the clauses that
placed them, by their numbers (R369). -/
def State.ranOn (s : State) : List Nat :=
  (s.work.filter fun q => q.began.isSome).map (fun q => q.ticket.order) ++
    (s.field.bookings.filter fun b => b.phase != .booked).flatMap fun b => b.id :: b.clause.toList

/-- A number of a clause that is not yet answered, or of a booking that has not ended. -/
def State.stillDue (s : State) (n : Nat) : Bool :=
  let p : Port → Bool := fun q => q.outstanding.any fun o => o.order == n && !o.answered
  p s.portA || p s.portB || s.field.bookings.any fun b => b.id == n

/-- After an arbitration, work that ran in its ticks is noted until its reply comes (R369). -/
def State.noteGraded (s : State) : State :=
  let l := if s.lanes.degradedUntil != 0 && s.tick ≤ s.lanes.degradedUntil then s.lanes.graded ++ s.ranOn else s.lanes.graded
  { s with lanes := { s.lanes with graded := l.filter s.stillDue } }

/-- The replies of such work carry DONE_DEGRADED (R369). -/
def State.gradeReplies (s : State) : State :=
  let late : Staged → Staged := fun r => r.grade (s.lanes.graded.contains r.order)
  s.onPorts fun q => { q with stagedReplies := q.stagedReplies.map late }

/-- A reply whose sealing has used up its attempts carries FAULT_RETRY_EXHAUSTED and no results (R292). -/
def State.lostSeals (s : State) : State :=
  let lost : Staged → Staged := fun r =>
    if s.cipher.aesLost.contains (.sealing r.order) then { r with status := 0x33, results := [] } else r
  s.onPorts fun q => { q with stagedReplies := q.stagedReplies.map lost }

/-- The ports publish; before READY what they hold waits (R410). -/
def State.publishPorts (s : State) : State :=
  let pub : PortId → Port → Port := fun p q =>
    (q.publishFrames s.tick s.gradesDown).publishCause (irqEn s.cfg.cur p) s.tamperCause s.degraded
  if s.power.readyDue.isSome then s else { s with portA := pub .a s.portA, portB := pub .b s.portB }

/-- What the commit phase changes in the device (R35): the lasting changes in the order of R179, keys, field port, window,
seed, sleep, tamper events, records. -/
def State.commitEffects (s : State) : State :=
  let s1 := s.releaseReserved.publishNotes.commitKeys.commitPort.cfgAnswers.writeCycle.readEffects
  ({ s1 with rng := s1.rng.publishSeed } : State).sleepIfDone.publishTamper.publishRecords

/-- What the commit phase shows the hosts. DESIGN CHOICE (log entry 74): SESSIONS of a STATUS published in the commit phase of
a HOST_PAIR reply counts the sessions before the new one becomes current; the spec orders the two nowhere. -/
def State.commitReports (s : State) : State :=
  let s1 := (s.setFlags.onPorts Port.returnCredits).refreshReplies.settleFlags.firstPublished.gradeReplies.lostSeals.publishPorts.noteGraded
  { s1 with lanes := { s1.lanes with handoverMask := 0 } }

/-- The commit phase of a published tick; the one that ends stage 7 sets READY. -/
def State.publish (s : State) : State := s.commitEffects.commitReports.readyIfDue

end Sys2Proof.Machine
end

