-- ==== Sys2Proof/Machine/Latch.lean ====
section
/-! DEFINITION. The latch phase for frames that CLAUSE_WRITE has placed in a frame buffer (R18, R34, R41, R60, R392): each
frame goes to the work of its verb and operation. What the outside world supplies to a clause (the outcome of NVM
programming, of tests) is here the outcome without a fault (log entry 17). -/

namespace Sys2Proof.Machine

open Sys2Proof

/-- Every test passes. -/
def noFault : TestResult where
  failed := 0
  lanes := 0
  aes := 0
  ecc := 0
  link := 0
  sramCorrected := 0
  nvmRefreshed := 0

/-- The outcome of programming the banks. -/
def Supplied.bank : Supplied → BankOutcome
  | .nvm o | .staged o _ _ => o
  | _ => .ok

/-- The stage as its commit was admitted, and who has endorsed it. -/
def Supplied.stage : Supplied → Option (Mem × List Nat)
  | .staged _ m l => some (m, l)
  | _ => none

/-- What a clause that waits takes with it from the tick `t` of its latch: COMMIT the stage it commits, PEEK the window (R230,
R338, R349). -/
def State.supplied (verb t : Nat) (s : State) : Supplied :=
  match verb with
  | 0x11 => s.cfgSupplied .ok
  | 0x16 => s.thalSupplied .ok
  | 0x3B => s.seenIn t
  | _ => .nothing

/-- A readback that verifies. -/
def Supplied.ok : Supplied → Bool
  | .flag ok => ok
  | _ => true

/-- The results of tests. -/
def Supplied.tests : Supplied → TestResult
  | .test r => r
  | _ => noFault

/-- Verbs 0x10 to 0x16: banks and lichen; the first argument byte is OP where the verb has operations (Table 14.3). -/
def bankWork (verb : Nat) (args : Bytes) (sup : Supplied) : Work :=
  let rest := args.drop 1
  match verb, oct args 0 with
  | 0x10, 0 => configStageBeginWork rest
  | 0x10, 1 => configStageWriteWork rest
  | 0x10, 2 => configStageDiscardWork rest
  | 0x11, _ => configCommitWork args sup.bank sup.stage
  | 0x12, _ => configReadWork args
  | 0x14, 0 => thallusStageBeginWork rest
  | 0x14, 1 => thallusStageWriteWork rest
  | 0x14, 2 => thallusStageDiscardWork rest
  | 0x15, _ => lichenEndorseWork args
  | 0x16, _ => thallusCommitWork args sup.bank sup.stage
  | _, _ => .unknown

/-- Verbs 0x20 to 0x2F: field engine, tokens, exchanges and sessions. -/
def fieldWork (verb : Nat) (args : Bytes) : Work :=
  let rest := args.drop 1
  match verb, oct args 0 with
  | 0x20, _ => pollStartWork args
  | 0x21, _ => pollStopWork args
  | 0x22, _ => fieldVectorWork args
  | 0x23, _ => aerialCalWork args
  | 0x24, 0 => atlasLoadBeginWork rest
  | 0x24, 1 => atlasLoadPointsWork rest
  | 0x28, _ => inventoryWork args
  | 0x29, _ => authenticateWork args
  | 0x2A, _ => locateWork args
  | 0x2B, _ => sessionQueryWork args
  | 0x2C, _ => sessionEndWork args
  | 0x2D, _ => tokenEnrolWork args
  | 0x2E, _ => tokenRevokeWork args
  | 0x2F, _ => tokenQueryWork args
  | _, _ => .unknown

/-- Verbs 0x30 to 0x3C: release, motion, timers. -/
def motionWork (verb : Nat) (args : Bytes) (sup : Supplied) : Work :=
  let rest := args.drop 1
  match verb, oct args 0 with
  | 0x30, _ => releaseStateWork args
  | 0x31, _ => releaseClearWork args
  | 0x38, 0 => odoIntervalWork rest
  | 0x38, 1 => odoInitWork rest
  | 0x39, _ => motionReadWork args
  | 0x3A, _ => timerCfgWork args
  | 0x3B, _ => peekWork args sup
  | 0x3C, _ => pokeWork args
  | _, _ => .unknown

/-- Verbs 0x40 to 0x44: key storage. -/
def keyWork (verb : Nat) (args : Bytes) (sup : Supplied) : Work :=
  let rest := args.drop 1
  match verb, oct args 0 with
  | 0x40, 0 => sporeLoadNeededWork rest
  | 0x40, 1 => sporeLoadHostWork rest
  | 0x41, _ => sporeEvictWork args
  | 0x42, _ => sporeWrapWork args
  | 0x43, 0 => frondDeriveDeriveWork rest
  | 0x43, 1 => frondDerivePublicWork rest
  | 0x43, 2 => frondDeriveNodeWork rest
  | 0x44, _ => keyRetireWork args sup.ok
  | _, _ => .unknown

/-- Verbs 0x48 to 0x58: cipher cluster, evidence, random numbers. -/
def cryptoWork (verb : Nat) (args : Bytes) : Work :=
  let rest := args.drop 1
  match verb, oct args 0 with
  | 0x48, 0 => encryptOneshotWork rest
  | 0x48, 1 => encryptBeginWork rest
  | 0x48, 2 => encryptUpdateWork rest
  | 0x48, 3 => encryptFinalWork rest
  | 0x48, 5 => abortWork 0x48 rest
  | 0x49, 0 => decryptOneshotWork rest
  | 0x49, 1 => decryptBeginWork rest
  | 0x49, 2 => decryptUpdateWork rest
  | 0x49, 3 => decryptFinalWork rest
  | 0x49, 4 => decryptReadWork rest
  | 0x49, 5 => abortWork 0x49 rest
  | 0x4A, 0 => macOneshotWork rest
  | 0x4A, 1 => macBeginWork rest
  | 0x4A, 2 => macUpdateWork rest
  | 0x4A, 3 => macFinalWork rest
  | 0x4A, 5 => abortWork 0x4A rest
  | 0x50, _ => evidenceSignWork args
  | 0x51, _ => evidenceReadWork args
  | 0x58, _ => if bit (oct args 1) 0 then randomPrWork args else randomWork args
  | _, _ => .unknown

/-- Verbs 0x60 to 0x78: field port, tests, tamper, pairing. -/
def serviceWork (verb : Nat) (args : Bytes) (sup : Supplied) : Work :=
  let rest := args.drop 1
  match verb, oct args 0 with
  | 0x60, 0 => fieldportCfgPortWork rest sup.ok
  | 0x60, 1 => fieldportCfgReaderKeyWork rest sup.ok
  | 0x60, 2 => fieldportCfgQueryWork rest
  | 0x61, 0 => mailboxReadLocalWork rest
  | 0x61, 1 => mailboxReadReaderWork rest
  | 0x61, 2 => mailboxReadFetchWork rest
  | 0x62, 0 => mailboxWriteLocalWork rest sup.ok
  | 0x62, 1 => mailboxWriteReaderWork rest
  | 0x68, _ => selftestWork args sup.tests
  | 0x69, _ => katWork args sup.tests
  | 0x70, _ => tamperStatusWork args
  | 0x71, _ => tamperAckWork args
  | 0x78, _ => hostPairWork args
  | _, _ => .unknown

/-- The work of a clause by its verb and inner arguments (Table 03.13, R85). -/
def workOf (verb : Nat) (args : Bytes) (sup : Supplied := .nothing) : Work :=
  match verb with
  | 0x01 => echoWork args
  | 0x02 => statusWork args
  | 0x03 => clockWork args
  | 0x04 => clockSetWork args
  | 0x08 => sleepWork args
  | 0x09 => laneStatusWork args
  | v =>
    if v < 0x20 then bankWork v args sup
    else if v < 0x30 then fieldWork v args
    else if v < 0x40 then motionWork v args sup
    else if v < 0x48 then keyWork v args sup
    else if v < 0x60 then cryptoWork v args
    else serviceWork v args sup

/-- A clause whose place in the air calendar is taken when it is admitted (R45, R116, R266); its work runs at the latch. -/
def booksAir (verb : Nat) (args : Bytes) : Bool :=
  [0x22, 0x23, 0x28, 0x29, 0x2A].contains verb || ((verb == 0x61 || verb == 0x62) && oct args 0 == 1)

/-- What is done with an admitted clause latched in tick `t`: one that takes a place in the air calendar runs, the work of the
others waits for its needs (R41, R43, R53). -/
def frameGo (hd : Head) (args : Bytes) (w : Work) (t : Nat) (s : State) : Ticket → State → State :=
  if booksAir hd.verb args then w.run
  else fun tk s1 =>
    ((s1.reserveFor hd.verb args tk).bookLoops hd.verb args (t + (w.need s).deadline - 1) tk).enqueue args
      (s.supplied hd.verb t) hd.prio t (w.need s).deadline tk

/-- A complete frame latched in tick `t` is admitted or refused (R41, R60). -/
def State.latchFrame (p : PortId) (s : State) (x : Nat × Bytes) : State :=
  let f := x.2
  let flags := oct f 1
  let verb := oct f 4
  let hd : Head := ⟨p, BitVec.ofNat 8 flags, BitVec.ofNat 16 (num f 2 2), verb⟩
  let y := openFrame s p flags (num f 2 2) verb (slice f 6 (oct f 5))
  let w := workOf verb y.2
  admitClause hd y.1 w x.1 (frameGo hd y.2 w x.1 s) (s.keepLatched hd y.2 y.1 x.1)

/-- The frames of one port are latched in order (R18, R34). -/
def State.latchPort (p : PortId) (s : State) : State :=
  ((s.port p).frames.map fun f => (s.tick, f)).foldl (State.latchFrame p) (s.onPort p fun q => { q with frames := [] })

/-- The frames that an arbitration tick latched are admitted (R53, R367). -/
def State.latchLate (p : PortId) (s : State) : State :=
  let one := fun (s : State) (x : Nat × Bytes) =>
    let s1 := State.latchFrame p { s with lanes := { s.lanes with lateTick := some x.1 } } x
    { s1 with lanes := { s1.lanes with lateTick := none } }
  (s.port p).late.foldl one (s.onPort p fun q => { q with late := [] })

/-- In an arbitration tick the frames of a port are latched, and wait (R34, R53, R367). -/
def Port.holdFrames (tick : Nat) (q : Port) : Port :=
  { q with frames := [], late := q.late ++ q.frames.map fun f => (tick, f) }

/-- Frames cut by resets of the SPI side are counted, each of them (R61). -/
def Port.countCut (q : Port) : Port := (List.range q.cutFrames).foldl (fun q _ => q.discard 12) { q with cutFrames := 0 }

/-- A discarded frame is seen: counted, its event raised, its notice staged (R67, R392). -/
def Port.seeHeld (q : Port) (h : Held) : Port :=
  let q1 := q.discard h.bit
  { q1 with stagedNotices := q1.stagedNotices ++ h.notices }

/-- A latch phase sees every discard since the one before it (R34, R61, R392). -/
def Port.seeDiscards (q : Port) : Port := q.held.foldl Port.seeHeld { q.countCut with held := [] }

end Sys2Proof.Machine
end

