-- ==== Sys2Proof/Machine/Takeover.lean ====
section
/-! DEFINITION. The takeover of a lane's work by the surviving lane (R53, R366, R367, R370), which admits the clauses of the
withheld tick again (R373). -/

namespace Sys2Proof.Machine

open Sys2Proof

/-- A refusal of the clause that stands as `p` says. -/
def State.refused (s : State) (x : Latched) (p : Nat → Bool) : Bool :=
  (s.port x.port).stagedReplies.any fun r => r.order == x.order && !r.admitted && !r.duplicate && p r.status

/-- The clause has a booking that has not begun. -/
def State.booksStill (s : State) (x : Latched) : Bool := s.field.bookings.any fun b => b.phase == .booked && b.clause == some x.order

/-- A clause latched after the first one with LANE_HINT is admitted again when that one may have refused or moved it: it has a
place in the calendar, it was refused REFUSED_BUDGET, or REFUSED_STATE after a clause of its verb (R373; log entry 100). -/
def State.againDue (s : State) (hinted : List Latched) (x : Latched) : Bool :=
  hinted.any (fun h => h.order < x.order) && !hinted.contains x &&
    ((booksAir x.verb x.args && s.booksStill x) || s.refused x (· == 0x10) ||
      (s.refused x (· == 0x11) && hinted.any fun h => h.order < x.order && h.verb == x.verb))

/-- What the first admission of a clause left is taken back. -/
def State.unlatch (s : State) (x : Latched) : State :=
  let mine := s.field.bookings.filter fun b => b.phase == .booked && b.clause == some x.order
  let s1 := mine.foldl State.release s
  let q : Port → Port := fun q => { q with
    outstanding := q.outstanding.filter fun o => o.order != x.order
    stagedReplies := q.stagedReplies.filter fun r => r.order != x.order }
  { s1.onPort x.port q with
    ledger := s1.ledger.filter fun d => d.order != x.order
    field := { s1.field with readers := s1.field.readers.filter fun r => r.order != x.order } }

/-- The zones' rounds as the first clause with LANE_HINT found them, and as the bookings that stay have taken them (R131). -/
def State.rewindRounds (s : State) (first : Latched) : State :=
  let stay := s.field.bookings.filter fun b => first.order < b.id
  { s with field := { s.field with rounds := stay.foldl (fun l b => nextRounds l b.zones) first.rounds } }

/-- A clause is admitted again, in the order and with the tick of its latch (R18, R53, R373). -/
def State.readmit (s : State) (x : Latched) : State :=
  let hd : Head := ⟨x.port, x.flags, x.seq, x.verb⟩
  let o : Opened := match x.sess with
    | some se => .opened 0 se
    | none => .plain
  let w := workOf x.verb x.args
  let tk : Ticket := ⟨x.port, x.seq, x.verb, x.sess, x.order⟩
  let s0 : State := { s with lanes := { s.lanes with lateTick := some x.tick } }
  let s1 := match refusal hd o w tk x.tick s0 with
    | some code => s0.onPort x.port (Port.refuse hd x.order code x.sess false)
    | none =>
      frameGo hd x.args w x.tick s0 tk
        ((s0.bookNeed x.tick hd.prio (w.need s0)).onPort x.port (Port.enter (hd.entry x.sess x.tick x.order)))
  { s1 with lanes := { s1.lanes with lateTick := none } }

/-- The work of tick `f` runs again unless it was published: its clauses with LANE_HINT are refused, and those admitted again
that they had refused or moved (R66, R373). -/
def State.runAgain (f : Nat) (s : State) : State :=
  let hinted := s.latched.filter fun x => (s.port x.port).hintedIn f |>.contains x.order
  match hinted with
  | [] => s
  | first :: _ =>
    let again := s.latched.filter (s.againDue hinted)
    again.foldl State.readmit ((again.foldl State.unlatch (s.refuseHinted f)).rewindRounds first)

/-- The surviving lane takes over in the takeover tick: last ticks move, LANE_LOST record and notice (R53, R370, Tables
03.9 and 15.6), and the withheld tick's clauses with LANE_HINT are refused (R373). The FAULT and DEGRADED causes follow at
the commit phase. -/
def State.takeOver (s : State) : State :=
  match s.lanes.takeoverDue with
  | none => s
  | some (f, l, cause) =>
    if s.tick < takeoverAt f cause then s
    else
      let s1 : State := { s with lanes := { s.lanes with
        causeA := if l = .a then cause else s.lanes.causeA
        causeB := if l = .b then cause else s.lanes.causeB
        takeoverTick := s.tick, takeoverDue := none, handoverMask := 0 } }
      let s1 := s1.runAgain f
      let s2 := s1.note 0x70 (leN 1 (laneCode l) ++ leN 1 cause ++ zeros 2 ++ leN 8 f ++ leN 8 s.tick ++
        leN 1 s.lanes.handoverMask)
      (s2.notify 5 (0x05#8 :: (leN 1 (laneCode l) ++ tick4 s.tick))).extendWork s.lanes.tickOrder

/-- TAKEOVER (R370). -/
def execTakeover (s : State) : Host.Outcome State Fault Refusal := .next (if s.awake then s.takeOver else s)

end Sys2Proof.Machine
end

