-- ==== Sys2Proof/Machine/Tick.lean ====
section
/-! DEFINITION. TICK (R33): the commit phase that ends a tick, published or withheld (R16, R17, R366 to R369), and the latch
phase that begins the next one (R34, R105, R230). -/

namespace Sys2Proof.Machine

open Sys2Proof

/-! ### Ledgers -/

/-- Work waits in the order of R43: last tick, priority, admission order. -/
def Demand.before (a b : Demand) : Bool :=
  a.last < b.last || (a.last == b.last && (b.prio < a.prio || (a.prio == b.prio && a.order ≤ b.order)))

/-- What a tick has left of each ledger (Table 02.3): LANE, MAINT, ECC and NVM, the last two in half units. -/
structure Room where
  lane : Nat := 520
  maint : Nat := 40
  ecc : Nat := 1
  nvm : Nat := 1
deriving DecidableEq, Repr

/-- Spend a tick's capacity on work in order. -/
def spend : Room → List Demand → List Demand
  | _, [] => []
  | r, d :: rest =>
    let used : Room := { lane := min r.lane d.lane, maint := min r.maint d.maint, ecc := min r.ecc d.ecc
                         nvm := min r.nvm d.nvm }
    { d with lane := d.lane - used.lane, maint := d.maint - used.maint, ecc := d.ecc - used.ecc, nvm := d.nvm - used.nvm } ::
      spend { lane := r.lane - used.lane, maint := r.maint - used.maint, ecc := r.ecc - used.ecc, nvm := r.nvm - used.nvm }
        rest

/-- Admitted work proceeds by one tick, earliest last tick first (R42, R43). -/
def drain (r : Room) (l : List Demand) : List Demand :=
  (spend r (sortBy Demand.before l)).filter fun d => d.lane + d.maint + d.ecc + d.nvm != 0

/-- Refusals that a port publishes in this tick (R36). -/
def Port.refusals (q : Port) : Nat := (q.stagedReplies.filter fun r => !r.admitted).length

/-- A spore load that answers a request draws on the spore reserve (R36, R49). -/
def Queued.reserved (q : Queued) : Bool := q.ticket.verb == 0x40 && oct q.args 0 == 0

/-- Log-reserve work of this tick: records other than those of verdicts and replies, or seals (R36, R39). -/
def Evidence.busy (e : Evidence) : Bool := e.seals != [] || e.waiting.any fun w => !w.isAuth && !w.isReply

/-- Units that the shares of Table 02.2, the maintenance floor apart, use in this tick: the host pool, refusals, spore loads,
exchanges, and the log reserve, which any work of its own uses whole (log entry 61). -/
def State.unitsUsed (s : State) : Nat :=
  min 520 (s.ledger.map Demand.lane).sum + 5 * min 16 (s.portA.refusals + s.portB.refusals) +
    40 * min 3 ((s.work.filter Queued.reserved).length + s.ks.loadsStaged) +
    50 * (s.field.bookings.filter fun b => b.first ≤ s.tick && s.tick ≤ b.closing).length + 40 * b2n s.log.busy

/-- What MAINT work uses of its floor (R36). -/
def State.floorUsed (s : State) : Nat := min 40 (s.ledger.map Demand.maint).sum

/-- The slack of this tick beside the floor: the 6 units of phase 4 and what the other shares leave (R33, R36). -/
def State.spare (s : State) : Nat := 966 - s.unitsUsed

/-- What the lane probe has of it: it comes before MAINT work, but not into the part of the floor that this uses (R36, R380). -/
def State.probeRoom (s : State) : Nat := s.spare + (40 - s.floorUsed)

/-- What MAINT work has: its floor, and what the probe leaves of the slack (R36, R50, R380). -/
def State.slack (s : State) : Nat := 40 + (s.spare - s.probeDue)

/-- The capacities of this tick. -/
def State.room (s : State) : Room := { maint := s.slack }

/-- The first unit is spent in this tick on admitted work that had none yet (Table 15.5). -/
def Queued.starts (tick : Nat) (before after : List Demand) (q : Queued) : Queued :=
  let left := fun (l : List Demand) => l.find? fun d => d.order == q.ticket.order
  if q.began.isNone && left before != left after then { q with began := some tick } else q

/-- The ledgers are spent by one tick (R42, R43). -/
def State.spendTick (s : State) : State :=
  let l := drain s.room s.ledger
  { s with
    ledger := l, work := s.work.map (Queued.starts s.tick s.ledger l)
    lanes := { s.lanes with
      probeLeft := s.probeDue - s.probeRoom
      probeEnd := if s.probeDue != 0 && s.probeDue ≤ s.probeRoom then some s.tick else s.lanes.probeEnd } }

/-! ### Admitted work -/

/-- At most `n` spore loads on the spore reserve in one tick (R36). -/
def limitLoads : Nat → List Queued → List Queued
  | _, [] => []
  | n, q :: r => if !q.reserved then q :: limitLoads n r else if n = 0 then limitLoads 0 r else q :: limitLoads (n - 1) r

/-- The admitted work whose needs are spent and whose loopback tests are over, in the order of R43. The spore loads among it
that answer requests are chosen in that order and tested in the order of their admission (R283). -/
def State.ready (s : State) : List Queued :=
  let l := limitLoads (3 - s.ks.loadsStaged) (sortBy Queued.before (s.work.filter fun q =>
    !(s.ledger.any fun d => d.order == q.ticket.order) &&
      !s.field.loops.any fun l => l.order == q.ticket.order && l.tick.any (s.tick ≤ ·)))
  l.filter (fun q => !q.reserved) ++ sortBy (fun a b => decide (a.ticket.order ≤ b.ticket.order)) (l.filter Queued.reserved)

/-- The work of one admitted clause runs. -/
def State.runQueued (s : State) (q : Queued) : State :=
  if !s.awake then s
  else
    let s1 := (workOf q.ticket.verb q.args q.supplied).run q.ticket s
    { s1 with work := s1.work.filter fun x => x.ticket.order != q.ticket.order }

/-- The admitted work of a published tick (R35, R43). -/
def State.runReady (s : State) : State := s.ready.foldl State.runQueued s

/-! ### The end of a tick -/

/-- What becomes of the results of the present tick (R16, R17, R366 to R369). -/
inductive TickVerdict where
  | published
  /-- The lanes differ and neither is flagged: an arbitration follows (R367). -/
  | mismatch
  /-- The tick is not published: a lane is lost in it, or it is an arbitration tick. -/
  | withheld
  /-- The results differ again after a transient (R368). -/
  | unresolved
deriving DecidableEq, Repr

/-- The verdict on the present tick; in degraded service there is nothing to compare. -/
def State.verdictOn (s : State) (matched : Bool) : TickVerdict :=
  if s.arbitrationTick || s.lossWithholds then .withheld
  else if matched || s.degraded then .published
  else
    match s.lanes.transientTicks.head? with
    | some f => if s.tick = f + 2 then .unresolved else .mismatch
    | none => .mismatch

/-- A commit phase that is not published cancels the bookings whose carrier lead is under way, before their first start gap,
and an arbitration tick those whose lead was to begin in it; they end by R371, and their engines enter the mask (R146, R367,
R371, Table 15.6). -/
def State.endLeads (s : State) : State :=
  let due : Booking → Bool := fun b => b.phase == .booked && b.endCode.isNone && b.first ≤ s.tick && s.arbitrationTick
  let led := s.field.bookings.foldl (fun m b => if b.phase = .lead ∨ due b = true then m ||| 2 ^ b.engine else m) 0
  let s1 := (s.onBookings (fun b => b.phase == .lead) fun b => { b.stop 6 with again := true }).onBookings due
    (Booking.fail s.tick)
  { s1 with lanes := { s1.lanes with handoverMask := s1.lanes.handoverMask ||| led } }

/-- An exchange waits for lane work of this tick: an identifier reported, a response to be judged, or frames handed over
(R125, R144). -/
def State.awaitsLanes (s : State) (e : Nat) : Bool :=
  (s.acts.any fun a => match a with
    | .lookup x => x == e
    | .judge x _ => x == e
    | _ => false) ||
    (s.current e).any fun b => b.planned == some s.tick && !b.todo.all b.byHardware

/-- Its lookup, run in a tick that is not published, draws a nonce that is discarded (R322). -/
def State.drawLookup (s : State) (e : Nat) : State :=
  match s.current e with
  | none => s
  | some b =>
    let asks := match s.lookup (identOf b.bits) with
      | (.crown, some _) => true
      | (.ordinary, some _) => !b.hostSilent
      | _ => false
    if !s.arbitrationTick && b.await == .lookup && b.kind != .inventory && asks then (s.draw .link 8).2 else s

/-- An exchange that waits for the lane work of a tick that is not published: the engine gets no frame in time (R125, R371). -/
def State.missLanes (s : State) (e : Nat) : State :=
  if s.awaitsLanes e then
    let s1 := (s.drawLookup e).missHandover e
    { s1 with lanes := { s1.lanes with handoverMask := s1.lanes.handoverMask ||| 2 ^ e } }
  else s

/-- The work of a clause that drew random values is done again (R322). -/
def State.drawAgain (s : State) (q : Queued) : State :=
  (workOf q.ticket.verb q.args q.supplied).run q.ticket (s.onPort q.ticket.port fun p =>
    { p with stagedReplies := p.stagedReplies.filter fun r => r.order != q.ticket.order })

/-- The attempts of cipher operations end with their tick (R292, R303, R304). -/
def State.endOps (s : State) : State :=
  { s with
    drawn := []
    cipher := { s.cipher with aesRetry := [], aesLost := [], eccExhausted := false, hashExhausted := false } }

/-- A commit phase that is not published: carrier leads and exchanges that wait for its lane work end, random values drawn in
the tick are discarded and drawn again, the lane probe goes on after it (R16, R35, R146, R322, R371). -/
def State.notPublished (s : State) : State :=
  let s1 : State := { s.endLeads with log := s.log.abortSeals s.tick }
  let s2 := s1.drawn.foldl State.drawAgain ((List.range 4).foldl State.missLanes s1)
  { s2.endOps with lanes := { s2.lanes with probeLeft := s.probeDue } }

/-- The end of a published tick: the ledgers are spent, admitted work runs, the lasting changes are made, and the commit phase
publishes, unless one of them has reset the device (R17, R35, R42, R43, R204). -/
def State.endTick (s : State) : State :=
  let s1 := s.spendTick.runReady.commitActs
  { (if s1.awake then s1.publish else s1).endOps with latched := [] }

/-! ### The beginning of a tick -/

/-- The frames of an arbitration tick are admitted when the lanes run again; after a transient the last tick of all work in
flight moves by 2 (R53, R369). -/
def State.latchAgain (s : State) : State :=
  let s0 := (s.latchLate .a).latchLate .b
  let s1 : State := { s0 with lanes := { s0.lanes with tickOrder := s0.orderNo } }
  if s.lanes.transientTicks.head?.any fun f => f + 2 == s.tick then s1.extendWork s1.orderNo else s1

/-- The latch phase of the next tick: conditions, window snapshot, frames; in an arbitration tick no clause is admitted
(R34, R61, R230, R367). What the MOTION domain sees behind the write cycle comes before it (R394). -/
def State.beginTick (i : TickIn) (s : State) : State :=
  let s0 := i.motion.foldl State.motionEvent s
  let t := Tamper.meshTick { s0.tamper with present := i.present } (s0.tick - s0.power.startTick)
  let s1 := (State.thermal i.dieTemp { s0 with tick := s0.tick + 1, tamper := t }).measureSteps
  let s2 := State.onPorts { s1 with win := s1.win.snapshot (25600 * (s1.tick - s1.power.startTick)) } Port.seeDiscards
  if s2.arbitrationTick then s2.onPorts (Port.holdFrames s2.tick) else (s2.latchAgain.latchPort .a).latchPort .b

/-- TICK: the commit phase of the present tick and the latch phase of the next one. -/
def execTick (i : TickIn) (s : State) : Host.Outcome State Fault Refusal :=
  .next (if !s.awake then s
    else
      let s1 := s.takeOver
      match s1.verdictOn i.matched with
      | .published => if s1.endTick.awake then s1.endTick.beginTick i else s1.endTick
      | .mismatch => State.beginTick i (State.notPublished { s1 with lanes := { s1.lanes with faultTick := some s1.tick } })
      | .withheld => s1.notPublished.beginTick i
      | .unresolved => s1.systemReset 7)

end Sys2Proof.Machine
end

