-- ==== Sys2Proof/Machine/Dispatch.lean ====
section
/-! DEFINITION. One arm per command: each is one direct call of that command's own meaning. -/

namespace Sys2Proof.Machine

open Sys2Proof

def exec (i : Instr) (s : State) : Host.Outcome State Fault Refusal :=
  match i with
  | .clauseWrite p mosi => Sys2Proof.Machine.execClauseWrite p mosi s
  | .replyRead p clocked => Sys2Proof.Machine.execReplyRead p clocked s
  | .replyReread p clocked => Sys2Proof.Machine.execReplyReread p clocked s
  | .causeRead p clocked => Sys2Proof.Machine.execCauseRead p clocked s
  | .unknownTransaction p first clocked => Sys2Proof.Machine.execUnknownTransaction p first clocked s
  | .echo h args => Sys2Proof.Machine.execEcho h args s
  | .status h args => Sys2Proof.Machine.execStatus h args s
  | .clock h args => Sys2Proof.Machine.execClock h args s
  | .clockSet h args => Sys2Proof.Machine.execClockSet h args s
  | .sleep h args => Sys2Proof.Machine.execSleep h args s
  | .laneStatus h args => Sys2Proof.Machine.execLaneStatus h args s
  | .configStageBegin h args => Sys2Proof.Machine.execConfigStageBegin h args s
  | .configStageWrite h args => Sys2Proof.Machine.execConfigStageWrite h args s
  | .configStageDiscard h args => Sys2Proof.Machine.execConfigStageDiscard h args s
  | .configCommit h args nvm => Sys2Proof.Machine.execConfigCommit h args nvm s
  | .configRead h args => Sys2Proof.Machine.execConfigRead h args s
  | .thallusStageBegin h args => Sys2Proof.Machine.execThallusStageBegin h args s
  | .thallusStageWrite h args => Sys2Proof.Machine.execThallusStageWrite h args s
  | .thallusStageDiscard h args => Sys2Proof.Machine.execThallusStageDiscard h args s
  | .lichenEndorse h args => Sys2Proof.Machine.execLichenEndorse h args s
  | .thallusCommit h args nvm => Sys2Proof.Machine.execThallusCommit h args nvm s
  | .personalisationReset => Sys2Proof.Machine.execPersonalisationReset s
  | .lichenWindowExpiry => Sys2Proof.Machine.execLichenWindowExpiry s
  | .pollStart h args => Sys2Proof.Machine.execPollStart h args s
  | .pollStop h args => Sys2Proof.Machine.execPollStop h args s
  | .pollRepetition index => Sys2Proof.Machine.execPollRepetition index s
  | .fieldVector h args => Sys2Proof.Machine.execFieldVector h args s
  | .aerialCal h args => Sys2Proof.Machine.execAerialCal h args s
  | .atlasLoadBegin h args => Sys2Proof.Machine.execAtlasLoadBegin h args s
  | .atlasLoadPoints h args => Sys2Proof.Machine.execAtlasLoadPoints h args s
  | .inventory h args => Sys2Proof.Machine.execInventory h args s
  | .authenticate h args => Sys2Proof.Machine.execAuthenticate h args s
  | .locate h args => Sys2Proof.Machine.execLocate h args s
  | .sessionQuery h args => Sys2Proof.Machine.execSessionQuery h args s
  | .sessionEnd h args => Sys2Proof.Machine.execSessionEnd h args s
  | .tokenEnrol h args => Sys2Proof.Machine.execTokenEnrol h args s
  | .tokenRevoke h args => Sys2Proof.Machine.execTokenRevoke h args s
  | .tokenQuery h args => Sys2Proof.Machine.execTokenQuery h args s
  | .releaseState h args => Sys2Proof.Machine.execReleaseState h args s
  | .releaseClear h args => Sys2Proof.Machine.execReleaseClear h args s
  | .odoInterval h args => Sys2Proof.Machine.execOdoInterval h args s
  | .odoInit h args => Sys2Proof.Machine.execOdoInit h args s
  | .motionRead h args => Sys2Proof.Machine.execMotionRead h args s
  | .timerCfg h args => Sys2Proof.Machine.execTimerCfg h args s
  | .peek h args => Sys2Proof.Machine.execPeek h args s
  | .poke h args => Sys2Proof.Machine.execPoke h args s
  | .sporeLoadNeeded h args => Sys2Proof.Machine.execSporeLoadNeeded h args s
  | .sporeLoadHost h args => Sys2Proof.Machine.execSporeLoadHost h args s
  | .sporeEvict h args => Sys2Proof.Machine.execSporeEvict h args s
  | .sporeWrap h args => Sys2Proof.Machine.execSporeWrap h args s
  | .frondDeriveDerive h args => Sys2Proof.Machine.execFrondDeriveDerive h args s
  | .frondDerivePublic h args => Sys2Proof.Machine.execFrondDerivePublic h args s
  | .frondDeriveNode h args => Sys2Proof.Machine.execFrondDeriveNode h args s
  | .keyRetire h args verified => Sys2Proof.Machine.execKeyRetire h args verified s
  | .encryptOneshot h args => Sys2Proof.Machine.execEncryptOneshot h args s
  | .encryptBegin h args => Sys2Proof.Machine.execEncryptBegin h args s
  | .encryptUpdate h args => Sys2Proof.Machine.execEncryptUpdate h args s
  | .encryptFinal h args => Sys2Proof.Machine.execEncryptFinal h args s
  | .encryptAbort h args => Sys2Proof.Machine.execEncryptAbort h args s
  | .decryptOneshot h args => Sys2Proof.Machine.execDecryptOneshot h args s
  | .decryptBegin h args => Sys2Proof.Machine.execDecryptBegin h args s
  | .decryptUpdate h args => Sys2Proof.Machine.execDecryptUpdate h args s
  | .decryptFinal h args => Sys2Proof.Machine.execDecryptFinal h args s
  | .decryptRead h args => Sys2Proof.Machine.execDecryptRead h args s
  | .decryptAbort h args => Sys2Proof.Machine.execDecryptAbort h args s
  | .macOneshot h args => Sys2Proof.Machine.execMacOneshot h args s
  | .macBegin h args => Sys2Proof.Machine.execMacBegin h args s
  | .macUpdate h args => Sys2Proof.Machine.execMacUpdate h args s
  | .macFinal h args => Sys2Proof.Machine.execMacFinal h args s
  | .macAbort h args => Sys2Proof.Machine.execMacAbort h args s
  | .contextTimeout p ctx => Sys2Proof.Machine.execContextTimeout p ctx s
  | .evidenceSign h args => Sys2Proof.Machine.execEvidenceSign h args s
  | .evidenceRead h args => Sys2Proof.Machine.execEvidenceRead h args s
  | .random h args => Sys2Proof.Machine.execRandom h args s
  | .randomPr h args => Sys2Proof.Machine.execRandomPr h args s
  | .fieldportCfgPort h args nvmOk => Sys2Proof.Machine.execFieldportCfgPort h args nvmOk s
  | .fieldportCfgReaderKey h args nvmOk => Sys2Proof.Machine.execFieldportCfgReaderKey h args nvmOk s
  | .fieldportCfgQuery h args => Sys2Proof.Machine.execFieldportCfgQuery h args s
  | .mailboxReadLocal h args => Sys2Proof.Machine.execMailboxReadLocal h args s
  | .mailboxWriteLocal h args nvmOk => Sys2Proof.Machine.execMailboxWriteLocal h args nvmOk s
  | .mailboxReadReader h args => Sys2Proof.Machine.execMailboxReadReader h args s
  | .mailboxWriteReader h args => Sys2Proof.Machine.execMailboxWriteReader h args s
  | .mailboxReadFetch h args => Sys2Proof.Machine.execMailboxReadFetch h args s
  | .selftest h args r => Sys2Proof.Machine.execSelftest h args r s
  | .kat h args r => Sys2Proof.Machine.execKat h args r s
  | .tamperStatus h args => Sys2Proof.Machine.execTamperStatus h args s
  | .tamperAck h args => Sys2Proof.Machine.execTamperAck h args s
  | .tamperAckReset => Sys2Proof.Machine.execTamperAckReset s
  | .hostPair h args => Sys2Proof.Machine.execHostPair h args s
  | .tick inp => Sys2Proof.Machine.execTick inp s
  | .deferredRecordAppend => Sys2Proof.Machine.execDeferredRecordAppend s
  | .recordProgram => Sys2Proof.Machine.execRecordProgram s
  | .signaturePoint => Sys2Proof.Machine.execSignaturePoint s
  | .sealAppend => Sys2Proof.Machine.execSealAppend s
  | .eccSignCheckFail core second => Sys2Proof.Machine.execEccSignCheckFail core second s
  | .aesParityFault core attempt => Sys2Proof.Machine.execAesParityFault core attempt s
  | .bookingStart engine => Sys2Proof.Machine.execBookingStart engine s
  | .gainAndTrimSet engine m => Sys2Proof.Machine.execGainAndTrimSet engine m s
  | .amplitudeLoopUpdate m => Sys2Proof.Machine.execAmplitudeLoopUpdate m s
  | .openAerialDetect engine channel current => Sys2Proof.Machine.execOpenAerialDetect engine channel current s
  | .aerialOvercurrent engine channel k => Sys2Proof.Machine.execAerialOvercurrent engine channel k s
  | .downlinkFrameSent engine currents => Sys2Proof.Machine.execDownlinkFrameSent engine currents s
  | .identifierStream engine r => Sys2Proof.Machine.execIdentifierStream engine r s
  | .silentReply engine => Sys2Proof.Machine.execSilentReply engine s
  | .identifierComplete engine => Sys2Proof.Machine.execIdentifierComplete engine s
  | .responseReceived engine r => Sys2Proof.Machine.execResponseReceived engine r s
  | .selectStatusReply engine r => Sys2Proof.Machine.execSelectStatusReply engine r s
  | .readerReplyReceived engine r => Sys2Proof.Machine.execReaderReplyReceived engine r s
  | .sporeTimeout engine => Sys2Proof.Machine.execSporeTimeout engine s
  | .handoverMissed engine => Sys2Proof.Machine.execHandoverMissed engine s
  | .bookingEnd engine m => Sys2Proof.Machine.execBookingEnd engine m s
  | .linkEngineFault engine => Sys2Proof.Machine.execLinkEngineFault engine s
  | .triggerInput pin level => Sys2Proof.Machine.execTriggerInput pin level s
  | .heldTriggerStart => Sys2Proof.Machine.execHeldTriggerStart s
  | .recoveryPoll => Sys2Proof.Machine.execRecoveryPoll s
  | .sessionTimerExpiry => Sys2Proof.Machine.execSessionTimerExpiry s
  | .lockExpiry => Sys2Proof.Machine.execLockExpiry s
  | .speedEdge n cycle held => Sys2Proof.Machine.execSpeedEdge n cycle held s
  | .motionMoving => Sys2Proof.Machine.execMotionMoving s
  | .motionStationary => Sys2Proof.Machine.execMotionStationary s
  | .plausibilityEvaluation => Sys2Proof.Machine.execPlausibilityEvaluation s
  | .rlsFaultDetect out level matches8 => Sys2Proof.Machine.execRlsFaultDetect out level matches8 s
  | .gtCountEdge n cycle => Sys2Proof.Machine.execGtCountEdge n cycle s
  | .linkedAction cycle => Sys2Proof.Machine.execLinkedAction cycle s
  | .fieldPresent => Sys2Proof.Machine.execFieldPresent s
  | .fieldWake group => Sys2Proof.Machine.execFieldWake group s
  | .fieldInventoryBegin round => Sys2Proof.Machine.execFieldInventoryBegin round s
  | .fieldStopGap => Sys2Proof.Machine.execFieldStopGap s
  | .fieldTreeBit k v => Sys2Proof.Machine.execFieldTreeBit k v s
  | .fieldSelect ident => Sys2Proof.Machine.execFieldSelect ident s
  | .fieldQuiet scope => Sys2Proof.Machine.execFieldQuiet scope s
  | .fieldMailboxRead page flags challenge env => Sys2Proof.Machine.execFieldMailboxRead page flags challenge env s
  | .fieldMailboxWrite page flags data tag env => Sys2Proof.Machine.execFieldMailboxWrite page flags data tag env s
  | .harvestOn duration flags atVHarv => Sys2Proof.Machine.execHarvestOn duration flags atVHarv s
  | .harvTimeout => Sys2Proof.Machine.execHarvTimeout s
  | .fieldIdleTimeout => Sys2Proof.Machine.execFieldIdleTimeout s
  | .fieldCarrierLoss => Sys2Proof.Machine.execFieldCarrierLoss s
  | .hostMailboxUnheld => Sys2Proof.Machine.execHostMailboxUnheld s
  | .noiseWindowEnd src samples => Sys2Proof.Machine.execNoiseWindowEnd src samples s
  | .entropyBlockEntry => Sys2Proof.Machine.execEntropyBlockEntry s
  | .drbgInstantiate => Sys2Proof.Machine.execDrbgInstantiate s
  | .drbgStarved => Sys2Proof.Machine.execDrbgStarved s
  | .wireRefill w => Sys2Proof.Machine.execWireRefill w s
  | .rngCoreFault katFailure attempt => Sys2Proof.Machine.execRngCoreFault katFailure attempt s
  | .bankRepair k => Sys2Proof.Machine.execBankRepair k s
  | .nvmPatrol find => Sys2Proof.Machine.execNvmPatrol find s
  | .sramScrub corrected => Sys2Proof.Machine.execSramScrub corrected s
  | .sramUncorrectable lane => Sys2Proof.Machine.execSramUncorrectable lane s
  | .tamperSourceLatch src seen => Sys2Proof.Machine.execTamperSourceLatch src seen s
  | .laneFlagged lanes cause => Sys2Proof.Machine.execLaneFlagged lanes cause s
  | .arbitration aPasses bPasses => Sys2Proof.Machine.execArbitration aPasses bPasses s
  | .takeover => Sys2Proof.Machine.execTakeover s
  | .laneProbe aPasses bPasses => Sys2Proof.Machine.execLaneProbe aPasses bPasses s
  | .xtalFailure cause deviation => Sys2Proof.Machine.execXtalFailure cause deviation s
  | .pllLockLoss pll => Sys2Proof.Machine.execPllLockLoss pll s
  | .keyStoreFault => Sys2Proof.Machine.execKeyStoreFault s
  | .vbatValid => Sys2Proof.Machine.execVbatValid s
  | .vbatLowDrive => Sys2Proof.Machine.execVbatLowDrive s
  | .vbatReset => Sys2Proof.Machine.execVbatReset s
  | .vdrvRange => Sys2Proof.Machine.execVdrvRange s
  | .vbatHigh => Sys2Proof.Machine.execVbatHigh s
  | .supplyCeilingReturn => Sys2Proof.Machine.execSupplyCeilingReturn s
  | .batteryCritical => Sys2Proof.Machine.execBatteryCritical s
  | .batteryCriticalEnd => Sys2Proof.Machine.execBatteryCriticalEnd s
  | .vholdLow => Sys2Proof.Machine.execVholdLow s
  | .vholdStop => Sys2Proof.Machine.execVholdStop s
  | .spiSideReset p inFrame => Sys2Proof.Machine.execSpiSideReset p inFrame s
  | .crossingReopen p => Sys2Proof.Machine.execCrossingReopen p s
  | .boot b => Sys2Proof.Machine.execBoot b s
  | .bootRetry => Sys2Proof.Machine.execBootRetry s
  | .sleepEntry inputs => Sys2Proof.Machine.execSleepEntry inputs s
  | .wakeEvent src pin => Sys2Proof.Machine.execWakeEvent src pin s
  | .wakeTimerExpiry cycles => Sys2Proof.Machine.execWakeTimerExpiry cycles s
  | .detunePing r cycles => Sys2Proof.Machine.execDetunePing r cycles s
  | .pingConfirm r cycles => Sys2Proof.Machine.execPingConfirm r cycles s
  | .standbyVbatSample v => Sys2Proof.Machine.execStandbyVbatSample v s
  | .sleepPulseEdge second cycle x => Sys2Proof.Machine.execSleepPulseEdge second cycle x s
  | .episodeEnd cycle => Sys2Proof.Machine.execEpisodeEnd cycle s
  | .sleepMotionWake cycles => Sys2Proof.Machine.execSleepMotionWake cycles s
  | .tickHighwaterWrite => Sys2Proof.Machine.execTickHighwaterWrite s
  | .fieldFrameIgnored opcode => Sys2Proof.Machine.execFieldFrameIgnored opcode s
  | .speedInputLevelChange n level held => Sys2Proof.Machine.execSpeedInputLevelChange n level held s
  | .x32CrystalFailure => Sys2Proof.Machine.execX32CrystalFailure s
  | .hashParityFault attempt => Sys2Proof.Machine.execHashParityFault attempt s
  | .vholdRecovered => Sys2Proof.Machine.execVholdRecovered s

end Sys2Proof.Machine
end

