-- ==== Sys2Proof/Safety.lean ====
section
/-! DEFINITION. The vocabulary of the statements: a clause as its frame spells it, the checks of R41 that are common to
all verbs, the state in which an admitted clause runs, and what counts as a safe step. -/

namespace Sys2Proof.Machine

open Sys2Proof

/-- A clause: its verb, header and inner arguments, the operation byte of the verb included (Table 03.4). -/
structure Clause where
  verb : Nat
  hdr : Hdr
  args : Bytes
deriving DecidableEq, Repr

/-- The header as admission reads it. -/
def Clause.head (k : Clause) : Head := ⟨k.hdr.port, hdrFlags k.hdr, k.hdr.seq, k.verb⟩

/-- How the payload opens (R70 to R73). -/
def Clause.opened (k : Clause) (s : State) : Opened := hdrOpened k.hdr k.verb k.args s

/-- The clause as it is kept until a commit phase is published (R373). -/
def Clause.kept (k : Clause) (s : State) : Latched :=
  { port := k.hdr.port, flags := hdrFlags k.hdr, seq := k.hdr.seq, verb := k.verb
    args := match k.opened s with
      | .plain | .opened _ _ => k.args
      | .fails | .short => []
    sess := (k.opened s).sess, order := s.orderNo, tick := s.tick, rounds := s.field.rounds }

/-- The state once the frame holds its credit and the clause is kept until a commit phase is published (R60, R373). -/
def Clause.held (k : Clause) (s : State) : State :=
  (s.onPort k.hdr.port Port.takeCredit).keepLatched k.head k.args (k.opened s) s.tick

/-- The state once the counter of an opened payload is accepted (R71, R72). -/
def Clause.counted (k : Clause) (s : State) : State := (k.held s).onPort k.hdr.port (Port.accept (k.opened s))

/-- Who is answered: the clause, the session that opened it, its number in the order of latching (R18, R62, R70). -/
def Clause.ticket (k : Clause) (s : State) : Ticket := ⟨k.hdr.port, k.hdr.seq, k.verb, (k.opened s).sess, s.orderNo⟩

/-- The clause is latched: READY is set, a credit and a general store are free, the frame is not too long (R60). -/
def Clause.latched (k : Clause) (s : State) : Bool :=
  (s.port k.hdr.port).arrival == .latched && decide (hdrArgLen k.hdr k.args ≤ 240)

/-- The SEQ of the clause is that of an outstanding clause of its port (R65). -/
def Clause.duplicate (k : Clause) (s : State) : Bool :=
  (s.port k.hdr.port).outstanding.any fun x => x.seq == k.hdr.seq

/-- Every check of R41 that does not depend on the verb's own arguments and state passes for a clause with the need
`n`, in a tick that is no arbitration tick (R367): the frame (R14, R57, R72, R75, R85), authentication (R72, R74), lane hint,
personalisation and tamper hold (R66, R343, R357), the seed, the credit of R51 and the demand test of R42; and a core has opened
the payload of a sealed clause (R292). -/
def Clause.clear (k : Clause) (n : Need) (s : State) : Bool :=
  k.latched s && !s.arbitrationTick && !k.duplicate (k.held s) && !(k.held s).openingLost k.head && !outerBad k.head (k.opened s) &&
    !(k.opened s == .fails) && !authBad k.head (k.opened s) (k.counted s) && !stateBad k.head (k.counted s) &&
    !(verbSeeded k.verb && !(k.counted s).seeded) && !budgetBad k.head s.tick n (k.counted s)

/-- The state in which an admitted clause runs: its need entered in the ledgers (R42), the clause outstanding on its
port (R60, R65). -/
def Clause.begun (k : Clause) (n : Need) (s : State) : State :=
  ((k.counted s).bookNeed s.tick k.head.prio n).onPort k.hdr.port
    (Port.enter (k.head.entry (k.opened s).sess s.tick s.orderNo))

/-- LANE_HINT is set (Table 03.5, R66). -/
def Clause.hint (k : Clause) : Bool := hdrHint k.hdr

/-- The clause as it waits for the commit phase, with what the outside world supplies to it. -/
def Clause.queued (k : Clause) (n : Need) (sup : Supplied) (s : State) : Queued :=
  ⟨k.ticket s, k.args, sup, k.head.prio, s.tick, s.tick + n.deadline - 1, none⟩

/-- What becomes of an admitted clause from the state `b`: it runs, or, with LANE_HINT set, waits for the commit phase in which
it then runs, since a lane lost in this tick still refuses it (R66, R373; log entry 9). -/
def Clause.goesFrom (k : Clause) (b : State) (n : Need) (sup : Supplied) (run : Ticket → State → State) (s : State) : State :=
  if k.hint then { b with work := b.work ++ [k.queued n sup s] } else run (k.ticket s) b

/-- The same from the state in which admission leaves the device. -/
def Clause.goes (k : Clause) (n : Need) (sup : Supplied) (run : Ticket → State → State) (s : State) : State :=
  k.goesFrom (k.begun n s) n sup run s

/-- The state after an admission that may reserve an entropy block (R329, R342). -/
def Clause.reserved (k : Clause) (n : Need) (s : State) : State := (k.begun n s).reserveFor k.verb k.args (k.ticket s)

/-- What becomes of an admitted clause that draws random values: one that has run draws anew when its tick is not published
(R322). -/
def Clause.draws (k : Clause) (n : Need) (run : Ticket → State → State) (s : State) : State :=
  k.goesFrom (k.reserved n s) n .nothing
    (fun tk b => let r := run tk b; { r with drawn := r.drawn ++ [k.queued n .nothing s] }) s

/-- Work that needs the hash engine: once its operation has used up its attempts it ends with FAULT_RETRY_EXHAUSTED (R304). -/
def hashedRun (run : Ticket → State → State) (tk : Ticket) (b : State) : State :=
  if b.cipher.hashExhausted then State.reply { b with cipher := { b.cipher with hashExhausted := false } } tk 0x33 []
  else run tk b

/-- The same for work that needs an AES operation (R292). -/
def aesRun (run : Ticket → State → State) (tk : Ticket) (b : State) : State :=
  if b.cipher.loses (.clause tk.order) then (b.tookLoss (.clause tk.order)).reply tk 0x33 [] else run tk b

/-- The same for work that makes a signature (R303). -/
def signedRun (run : Ticket → State → State) (tk : Ticket) (b : State) : State :=
  if b.cipher.eccExhausted then State.reply { b with cipher := { b.cipher with eccExhausted := false } } tk 0x33 []
  else run tk b

/-- The clause of a clause command, none for the other rows: verb and operation of Table 03.13. -/
def clauseOf : Instr → Option Clause
  | .echo h a => some ⟨0x01, h, a⟩
  | .status h a => some ⟨0x02, h, a⟩
  | .clock h a => some ⟨0x03, h, a⟩
  | .clockSet h a => some ⟨0x04, h, a⟩
  | .sleep h a => some ⟨0x08, h, a⟩
  | .laneStatus h a => some ⟨0x09, h, a⟩
  | .configStageBegin h a => some ⟨0x10, h, 0#8 :: a⟩
  | .configStageWrite h a => some ⟨0x10, h, 1#8 :: a⟩
  | .configStageDiscard h a => some ⟨0x10, h, 2#8 :: a⟩
  | .configCommit h a _ => some ⟨0x11, h, a⟩
  | .configRead h a => some ⟨0x12, h, a⟩
  | .thallusStageBegin h a => some ⟨0x14, h, 0#8 :: a⟩
  | .thallusStageWrite h a => some ⟨0x14, h, 1#8 :: a⟩
  | .thallusStageDiscard h a => some ⟨0x14, h, 2#8 :: a⟩
  | .lichenEndorse h a => some ⟨0x15, h, a⟩
  | .thallusCommit h a _ => some ⟨0x16, h, a⟩
  | .pollStart h a => some ⟨0x20, h, a⟩
  | .pollStop h a => some ⟨0x21, h, a⟩
  | .fieldVector h a => some ⟨0x22, h, a⟩
  | .aerialCal h a => some ⟨0x23, h, a⟩
  | .atlasLoadBegin h a => some ⟨0x24, h, 0#8 :: a⟩
  | .atlasLoadPoints h a => some ⟨0x24, h, 1#8 :: a⟩
  | .inventory h a => some ⟨0x28, h, a⟩
  | .authenticate h a => some ⟨0x29, h, a⟩
  | .locate h a => some ⟨0x2A, h, a⟩
  | .sessionQuery h a => some ⟨0x2B, h, a⟩
  | .sessionEnd h a => some ⟨0x2C, h, a⟩
  | .tokenEnrol h a => some ⟨0x2D, h, a⟩
  | .tokenRevoke h a => some ⟨0x2E, h, a⟩
  | .tokenQuery h a => some ⟨0x2F, h, a⟩
  | .releaseState h a => some ⟨0x30, h, a⟩
  | .releaseClear h a => some ⟨0x31, h, a⟩
  | .odoInterval h a => some ⟨0x38, h, 0#8 :: a⟩
  | .odoInit h a => some ⟨0x38, h, 1#8 :: a⟩
  | .motionRead h a => some ⟨0x39, h, a⟩
  | .timerCfg h a => some ⟨0x3A, h, a⟩
  | .peek h a => some ⟨0x3B, h, a⟩
  | .poke h a => some ⟨0x3C, h, a⟩
  | .sporeLoadNeeded h a => some ⟨0x40, h, 0#8 :: a⟩
  | .sporeLoadHost h a => some ⟨0x40, h, 1#8 :: a⟩
  | .sporeEvict h a => some ⟨0x41, h, a⟩
  | .sporeWrap h a => some ⟨0x42, h, a⟩
  | .frondDeriveDerive h a => some ⟨0x43, h, 0#8 :: a⟩
  | .frondDerivePublic h a => some ⟨0x43, h, 1#8 :: a⟩
  | .frondDeriveNode h a => some ⟨0x43, h, 2#8 :: a⟩
  | .keyRetire h a _ => some ⟨0x44, h, a⟩
  | .encryptOneshot h a => some ⟨0x48, h, 0#8 :: a⟩
  | .encryptBegin h a => some ⟨0x48, h, 1#8 :: a⟩
  | .encryptUpdate h a => some ⟨0x48, h, 2#8 :: a⟩
  | .encryptFinal h a => some ⟨0x48, h, 3#8 :: a⟩
  | .encryptAbort h a => some ⟨0x48, h, 5#8 :: a⟩
  | .decryptOneshot h a => some ⟨0x49, h, 0#8 :: a⟩
  | .decryptBegin h a => some ⟨0x49, h, 1#8 :: a⟩
  | .decryptUpdate h a => some ⟨0x49, h, 2#8 :: a⟩
  | .decryptFinal h a => some ⟨0x49, h, 3#8 :: a⟩
  | .decryptRead h a => some ⟨0x49, h, 4#8 :: a⟩
  | .decryptAbort h a => some ⟨0x49, h, 5#8 :: a⟩
  | .macOneshot h a => some ⟨0x4A, h, 0#8 :: a⟩
  | .macBegin h a => some ⟨0x4A, h, 1#8 :: a⟩
  | .macUpdate h a => some ⟨0x4A, h, 2#8 :: a⟩
  | .macFinal h a => some ⟨0x4A, h, 3#8 :: a⟩
  | .macAbort h a => some ⟨0x4A, h, 5#8 :: a⟩
  | .evidenceSign h a => some ⟨0x50, h, a⟩
  | .evidenceRead h a => some ⟨0x51, h, a⟩
  | .random h a => some ⟨0x58, h, randomArgs false a⟩
  | .randomPr h a => some ⟨0x58, h, randomArgs true a⟩
  | .fieldportCfgPort h a _ => some ⟨0x60, h, 0#8 :: a⟩
  | .fieldportCfgReaderKey h a _ => some ⟨0x60, h, 1#8 :: a⟩
  | .fieldportCfgQuery h a => some ⟨0x60, h, 2#8 :: a⟩
  | .mailboxReadLocal h a => some ⟨0x61, h, 0#8 :: a⟩
  | .mailboxReadReader h a => some ⟨0x61, h, 1#8 :: a⟩
  | .mailboxReadFetch h a => some ⟨0x61, h, 2#8 :: a⟩
  | .mailboxWriteLocal h a _ => some ⟨0x62, h, 0#8 :: a⟩
  | .mailboxWriteReader h a => some ⟨0x62, h, 1#8 :: a⟩
  | .selftest h a _ => some ⟨0x68, h, a⟩
  | .kat h a _ => some ⟨0x69, h, a⟩
  | .tamperStatus h a => some ⟨0x70, h, a⟩
  | .tamperAck h a => some ⟨0x71, h, a⟩
  | .hostPair h a => some ⟨0x78, h, a⟩
  | .clauseWrite _ _ | .replyRead _ _ | .replyReread _ _ | .causeRead _ _ | .unknownTransaction _ _ _ => none
  | .personalisationReset | .lichenWindowExpiry | .pollRepetition _ | .contextTimeout _ _ | .tamperAckReset => none
  | .tick _ | .deferredRecordAppend | .recordProgram | .signaturePoint | .sealAppend | .eccSignCheckFail _ _ => none
  | .aesParityFault _ _ | .bookingStart _ | .gainAndTrimSet _ _ | .amplitudeLoopUpdate _ => none
  | .openAerialDetect _ _ _ | .aerialOvercurrent _ _ _ | .downlinkFrameSent _ _ | .identifierStream _ _ => none
  | .silentReply _ | .identifierComplete _ | .responseReceived _ _ | .selectStatusReply _ _ => none
  | .readerReplyReceived _ _ | .sporeTimeout _ | .handoverMissed _ | .bookingEnd _ _ | .linkEngineFault _ => none
  | .triggerInput _ _ | .heldTriggerStart | .recoveryPoll | .sessionTimerExpiry | .lockExpiry => none
  | .speedEdge _ _ _ | .motionMoving | .motionStationary | .plausibilityEvaluation | .rlsFaultDetect _ _ _ => none
  | .gtCountEdge _ _ | .linkedAction _ | .fieldPresent | .fieldWake _ | .fieldInventoryBegin _ | .fieldStopGap => none
  | .fieldTreeBit _ _ | .fieldSelect _ | .fieldQuiet _ | .fieldMailboxRead _ _ _ _ => none
  | .fieldMailboxWrite _ _ _ _ _ | .harvestOn _ _ _ | .harvTimeout | .fieldIdleTimeout | .fieldCarrierLoss => none
  | .hostMailboxUnheld | .noiseWindowEnd _ _ | .entropyBlockEntry | .drbgInstantiate | .drbgStarved => none
  | .wireRefill _ | .rngCoreFault _ _ | .bankRepair _ | .nvmPatrol _ | .sramScrub _ | .sramUncorrectable _ => none
  | .tamperSourceLatch _ _ | .laneFlagged _ _ | .arbitration _ _ | .takeover | .laneProbe _ _ => none
  | .xtalFailure _ _ | .pllLockLoss _ | .keyStoreFault | .vbatValid | .vbatLowDrive | .vbatReset | .vdrvRange => none
  | .vbatHigh | .supplyCeilingReturn | .batteryCritical | .batteryCriticalEnd | .vholdLow | .vholdStop => none
  | .spiSideReset _ _ | .crossingReopen _ | .boot _ | .bootRetry | .sleepEntry _ | .wakeEvent _ _ => none
  | .wakeTimerExpiry _ | .detunePing _ _ | .pingConfirm _ _ | .standbyVbatSample _ | .sleepPulseEdge _ _ _ => none
  | .episodeEnd _ | .sleepMotionWake _ | .tickHighwaterWrite | .fieldFrameIgnored _ => none
  | .speedInputLevelChange _ _ _ | .x32CrystalFailure | .hashParityFault _ | .vholdRecovered => none

/-- What the outside world supplies to the work of a clause command (log entry 17); to PEEK the snapshot of the tick (R230). -/
def suppliedOf (c : Instr) (s : State) : Supplied :=
  match c with
  | .configCommit _ _ o => s.cfgSupplied o
  | .thallusCommit _ _ o => s.thalSupplied o
  | .keyRetire _ _ ok | .fieldportCfgPort _ _ ok | .fieldportCfgReaderKey _ _ ok | .mailboxWriteLocal _ _ ok => .flag ok
  | .selftest _ _ r | .kat _ _ r => .test r
  | .peek _ _ => s.seenIn s.tick
  | _ => .nothing

/-- The work of the clause waits for the commit phase when it is admitted: LANE_HINT is set, it is SELFTEST or KAT, or a SPORE_LOAD
with MODE 0x00 beyond the three that a tick's spore reserve runs (R36, R50, R66). -/
def Clause.waits (k : Clause) (s : State) : Bool :=
  k.hint || k.verb == 0x68 || k.verb == 0x69 || (k.verb == 0x40 && oct k.args 0 == 0 && decide (3 ≤ s.ks.loadsStaged))

/-- The clause draws random values in its work: RANDOM, SPORE_WRAP, EVIDENCE_SIGN, HOST_PAIR, and ENCRYPT, whose ONESHOT and
BEGIN draw an IV, and whose later operations belong to a BEGIN of this tick (R322). -/
def Clause.drawsRandom (k : Clause) (s : State) : Bool :=
  [0x42, 0x50, 0x58, 0x78].contains k.verb || (k.verb == 0x48 && (oct k.args 0 == 0 || oct k.args 0 == 1 ||
    s.drawn.any fun q => q.ticket.port == k.hdr.port && q.ticket.verb == 0x48 && oct q.args 0 == 1 &&
      oct q.args 2 == oct k.args 2))

/-- An admitted clause goes on: its work runs, or waits for the commit phase. -/
def Clause.proceeds (k : Clause) (w : Work) (sup : Supplied) (s : State) : State :=
  let n := w.need (k.counted s)
  if booksAir k.verb k.args then w.run (k.ticket s) (k.begun n s)
  else
    let b := ((k.begun n s).reserveFor k.verb k.args (k.ticket s)).bookLoops k.verb k.args (s.tick + n.deadline - 1) (k.ticket s)
    if k.waits s then { b with work := b.work ++ [k.queued n sup s] }
    else
      let r := w.run (k.ticket s) b
      if k.drawsRandom s then { r with drawn := r.drawn ++ [k.queued n .nothing s] } else r

/-- The outside world supplies the fault-free outcome to the clause (log entry 17). -/
def faultFree : Instr → Bool
  | .configCommit _ _ nvm => nvm == .ok
  | .thallusCommit _ _ nvm => nvm == .ok
  | .keyRetire _ _ verified => verified
  | .mailboxWriteLocal _ _ nvmOk => nvmOk
  | .fieldportCfgPort _ _ nvmOk => nvmOk
  | .fieldportCfgReaderKey _ _ nvmOk => nvmOk
  | .selftest _ _ r => r == noFault
  | .kat _ _ r => r == noFault
  | _ => true

/-- A short sealed payload has fewer than 24 bytes (R72). -/
def Clause.wellSealed (k : Clause) : Bool :=
  match k.hdr.sealing with
  | .short => decide (k.args.length < 24)
  | _ => true

/-- The frame on the wire: marker, FLAGS, SEQ, VERB, ARG_LEN, payload, CRC (Table 03.4, R59). -/
def Clause.wire (k : Clause) (s : State) : Bytes := hdrFrame k.hdr k.verb k.args s

/-- `t` is `s` with one more booking in the air calendar, of engine `e` from tick `f` to tick `last`, waiting for its
start; it has the round of its zone, and each of its zones goes on to the next round (R44, R45, R131). -/
def TakesPlace (s : State) (e f last : Nat) (b : Booking) (t : State) : Prop :=
  t = { s with
        orderNo := s.orderNo + 1
        field := { s.field with
          bookings := s.field.bookings ++ [b]
          rounds := b.zones.foldl (fun l z => l.set z ((l.getD z 0 + 1) % 8)) s.field.rounds } } ∧
    b.id = s.orderNo ∧ b.engine = e ∧ b.first = f ∧ b.closing = last ∧ b.phase = .booked ∧ b.endCode = none ∧
    b.records = [] ∧ b.found = [] ∧ b.round = s.field.rounds.getD (b.zones.headD 0) 0

/-- The exchange of engine `e` becomes `b`, and nothing but the bookings of that engine changes. -/
def ExchangeBecomes (s : State) (e : Nat) (b : Booking) (t : State) : Prop :=
  t.current e = some b ∧ t = { s with field := { s.field with bookings := t.field.bookings } } ∧
    ∀ x ∈ s.field.bookings, x.engine ≠ e ∨ x.phase = .booked → x ∈ t.field.bookings

/-- The exchange of engine `e` ends with a code of Table 06.10, without a key being handled: it sends and awaits nothing
more, and its spore request goes. -/
def ExchangeEnds (s : State) (e code : Nat) (b : Booking) (t : State) : Prop :=
  t.current e = some { b with endCode := some code, phase := .ending, todo := [], await := .nothing } ∧
    t = { s with
          portA := t.portA, portB := t.portB
          field := { s.field with bookings := t.field.bookings }
          ks := { s.ks with requests := s.ks.requests.filter fun r => r.engine != e } } ∧
    (∀ p, (t.port p).general = (s.port p).general ∧ (t.port p).outstanding = (s.port p).outstanding ∧
      (t.port p).stagedReplies = (s.port p).stagedReplies ∧ (t.port p).stagedNotices = (s.port p).stagedNotices)

/-- The key that a cipher clause names: a host key of the slot with the use bit (R275, R296). -/
def keyNamed (s : State) (args : Bytes) (use : Nat) (c : SlotKey) : Prop :=
  (s.ks.slot (oct args 2)).content = some c ∧ c.owner = none ∧ c.usage.getLsbD use = true ∧ oct args 2 ≤ 63

/-- The retained records are chained: each carries the SEQ after the one before it and the first 16 bytes of that one's
SHA-256, and the next record will carry the SEQ after the newest (R306, R307). -/
def Chained (e : Evidence) : Prop :=
  (∀ (i : Nat) (r p : Record), e.records[i]? = some r → e.records[i + 1]? = some p →
    r.link = (Crypto.sha256 p.bytes).take 16 ∧ r.seq = (p.seq + 1) % 2 ^ 32) ∧
    ∀ r, e.records.head? = some r → e.next = (r.seq + 1) % 2 ^ 32

/-- The statuses with which a latched clause can be turned away (Table 03.7). -/
def isRefusalCode (code : Nat) : Prop := 0x10 ≤ code ∧ code ≤ 0x15

/-- The start lock's safety (R26): the cell does not pass to LOCKED unless the motion state is STATIONARY. -/
def SafeLock (s t : State) : Prop :=
  t.cell.state = .locked → s.cell.state = .locked ∨ s.motion.state = .stationary

/-- The image that a waiting change carries is in canonical form. -/
def Act.imageWf : Act → Bool
  | .config _ img _ => img.wf
  | .thallus _ img _ _ => img.wf
  | _ => true

/-- The image that a waiting clause carries is in canonical form. -/
def Supplied.imageWf : Supplied → Bool
  | .staged _ img _ => img.wf
  | .window img _ => img.wf
  | _ => true

/-- Every byte image of the block is in its canonical form, those that waiting clauses, changes and bookings carry among them (log
entry 5). -/
def State.imagesWf (s : State) : Bool :=
  s.cfg.bank0.img.wf && s.cfg.bank1.img.wf && s.cfg.cur.wf && (s.cfg.stage.getD []).wf &&
    s.thal.bank0.img.wf && s.thal.bank1.img.wf && s.thal.cur.wf && (s.thal.stage.getD []).wf &&
    s.win.regs.wf && s.win.snap.wf && s.win.prev.wf && s.acts.all Act.imageWf &&
    s.work.all (fun q => q.supplied.imageWf) && s.drawn.all (fun q => q.supplied.imageWf) &&
    s.field.bookings.all fun b => b.copied.wf

end Sys2Proof.Machine
end

