-- ==== Sys2Proof/Certificates/Slice0/Obligations.lean ====
section
/-! DEFINITION. The statements about the model, for the provers. Each names the rule of spec/ that it formalises; a
statement that rests on a choice of the model says so and names the log entry. -/

open Sys2Proof Sys2Proof.Machine


/-! ### The machine -/

/-- The command at the front of the queue runs on the state with the queue's rest; an empty queue leaves the block as
it is (log entry 4, the model's choice). -/
def Obligations.StepRunsTheFrontCommand : Prop :=
  (∀ (s : State) c rest, step { s with pending := c :: rest } = exec c { s with pending := rest }) ∧
    ∀ s, s.pending = [] → step s = .next s

/-- Before any boot: the tick count is 0, the cell LOCKED (R201), the session CLOSED, no lane flagged, no key, no
personalisation (R342), both ports not READY (R56), the defaults in force (R335); motion SETTLING (R407). That this is
the state in which the model starts, and the reset cause in it, is log entry 2. -/
def Sys2Proof.Claim.ResetIsAnUnpersonalisedDevice : Prop :=
  State.reset.pending = [] ∧ State.reset.tick = 0 ∧ State.reset.cell.state = .locked ∧
    State.reset.acts = [] ∧ State.reset.work = [] ∧ State.reset.ses.state = .closed ∧
    State.reset.motion.state = .settling ∧ State.reset.degraded = false ∧
    State.reset.prot.personalised = false ∧ State.reset.ks.rhizome = none ∧ State.reset.seeded = false ∧
    (∀ p, (State.reset.port p).ready = false ∧ (State.reset.port p).spiReset = true ∧ (State.reset.port p).outstanding = [] ∧
      (State.reset.port p).session = none) ∧
    State.reset.cfg.cur = defaultConfig ∧ State.reset.thal.cur = factoryThallus ∧
    State.reset.ks.slots = List.replicate 64 {} ∧ State.reset.log.records = [] ∧ State.reset.field.bookings = [] ∧
    State.reset.dir = []

/-- Byte images begin in their canonical form (log entry 5, the model's representation). -/
def Sys2Proof.Claim.ResetImagesAreCanonical : Prop := State.reset.imagesWf = true

/-- Reading an image after a write gives the byte at its address and leaves every other address alone, and a write
keeps the canonical form (log entry 5). -/
def Sys2Proof.Claim.ImagesReadWhatWasWritten : Prop :=
  ∀ (m : Mem) (a : Nat) (v : Byte), m.wf = true →
    (m.write a v).wf = true ∧ (m.write a v).read a = v ∧ ∀ b, b ≠ a → (m.write a v).read b = m.read b

/-- The state at reset, and byte images: together, `ResetIsAnUnpersonalisedDevice` and `ResetImagesAreCanonical` and
`ImagesReadWhatWasWritten`. -/
def Obligations.ResetIsANewDevice : Prop :=
  Claim.ResetIsAnUnpersonalisedDevice ∧ Claim.ResetImagesAreCanonical ∧ Claim.ImagesReadWhatWasWritten

/-- Every step keeps every byte image in its canonical form, so equal images are equal data (log entry 5). -/
def Obligations.EveryStepKeepsImagesCanonical : Prop :=
  ∀ s t, s.imagesWf = true → step s = .next t → t.imagesWf = true

/-- The release cell is not locked while the motion state is not STATIONARY (R26, R203): no command takes the cell to
LOCKED from another state unless the motion state is STATIONARY, but for the loss of the moss supply (R406), after
which there is no cell. -/
def Obligations.NoCommandLocksInMotion : Prop :=
  ∀ c s t, c ≠ .vholdStop → exec c s = .next t → SafeLock s t

/-! ### Clauses in general -/

/-- Every clause that is latched (R60) is answered. In an arbitration tick its frame waits (R53, R367). Else a
duplicate SEQ is turned away (R65), or a sealed clause that no core could open (R292), or the first check of R41 that
fails, with one of the statuses 0x10 to 0x15; a clause that fails none goes on: it is outstanding, its need is in the
ledgers (R42), and its work runs or waits (`Clause.proceeds`). -/
def Sys2Proof.Claim.LatchedClausesAreTested : Prop :=
  ∀ c k s, clauseOf c = some k → k.latched s = true →
    let w := workOf k.verb k.args (suppliedOf c s)
    let checked := refusal k.head (k.opened s) w (k.ticket s) s.tick (k.counted s)
    (s.arbitrationTick = true → exec c s = .next (s.onPort k.hdr.port fun q =>
      { q with credits := q.credits - 1, late := q.late ++ [(s.tick, k.wire s)] })) ∧
    (s.arbitrationTick = false →
      (k.duplicate (k.held s) = true → exec c s = .next ((k.held s).refuse k.head 0x11 none true)) ∧
      (k.duplicate (k.held s) = false → (k.held s).openingLost k.head = true →
        exec c s = .next (((k.held s).tookLoss .next).refuse k.head 0x33 none false)) ∧
      (k.duplicate (k.held s) = false → (k.held s).openingLost k.head = false →
        (∀ code, checked = some code →
          isRefusalCode code ∧ exec c s = .next ((k.counted s).refuse k.head code (k.opened s).sess false)) ∧
        (checked = none → exec c s = .next (k.proceeds w (suppliedOf c s) s))))

/-- A clause whose common checks pass (`Clause.clear`) and whose own checks fail nothing goes on, and one of these two
comes about: its work runs in the tick of its latch, or, with LANE_HINT set, for SELFTEST and KAT, and for a fourth
SPORE_LOAD of the spore reserve in one tick, it waits for the commit phase in which it runs (R36, R43, R50, R66, R373;
that the others run at once is log entry 7, the model's choice). What takes a place in the air calendar takes it when
admitted (R45); so does a loopback test of SELFTEST (R381). Completes (concludes `exec c s = .next t`): echo, status,
clock, clockSet, sleep, laneStatus, configStageBegin, configStageWrite, configStageDiscard, configCommit, configRead,
thallusStageBegin, thallusStageWrite, thallusStageDiscard, lichenEndorse, thallusCommit, pollStart, pollStop,
fieldVector, aerialCal, atlasLoadBegin, atlasLoadPoints, inventory, authenticate, locate, sessionQuery, sessionEnd,
tokenEnrol, tokenRevoke, tokenQuery, releaseState, releaseClear, odoInterval, odoInit, motionRead, timerCfg, peek,
poke, sporeLoadNeeded, sporeLoadHost, sporeEvict, sporeWrap, frondDeriveDerive, frondDerivePublic, frondDeriveNode,
keyRetire, encryptOneshot, encryptBegin, encryptUpdate, encryptFinal, encryptAbort, decryptOneshot, decryptBegin,
decryptUpdate, decryptFinal, decryptRead, decryptAbort, macOneshot, macBegin, macUpdate, macFinal, macAbort,
evidenceSign, evidenceRead, random, randomPr, fieldportCfgPort, fieldportCfgReaderKey, fieldportCfgQuery,
mailboxReadLocal, mailboxWriteLocal, mailboxReadReader, mailboxWriteReader, mailboxReadFetch, selftest, kat,
tamperStatus, tamperAck, hostPair. -/
def Sys2Proof.Claim.AdmittedClausesProceed : Prop :=
  ∀ c k s, clauseOf c = some k →
    let w := workOf k.verb k.args (suppliedOf c s)
    let n := w.need (k.counted s)
    let b := ((k.begun n s).reserveFor k.verb k.args (k.ticket s)).bookLoops k.verb k.args (s.tick + n.deadline - 1) (k.ticket s)
    k.clear n s = true → w.check (k.ticket s) (k.counted s) = {} →
      (booksAir k.verb k.args = true → exec c s = .next (w.run (k.ticket s) (k.begun n s))) ∧
      (booksAir k.verb k.args = false → (k.hint = true ∨ k.verb = 0x68 ∨ k.verb = 0x69 ∨
          (k.verb = 0x40 ∧ oct k.args 0 = 0 ∧ 3 ≤ s.ks.loadsStaged)) →
        exec c s = .next { b with work := b.work ++ [k.queued n (suppliedOf c s) s] }) ∧
      (booksAir k.verb k.args = false → k.hint = false → k.verb ≠ 0x68 → k.verb ≠ 0x69 →
        ¬ (k.verb = 0x40 ∧ oct k.args 0 = 0 ∧ 3 ≤ s.ks.loadsStaged) → ∃ d,
        exec c s = .next { w.run (k.ticket s) b with drawn := (w.run (k.ticket s) b).drawn ++ d } ∧
          (d = [] ∨ d = [k.queued n .nothing s]))

/-- Admitted work that has waited runs as that of a clause command does, and waits no more (R43, R50). -/
def Sys2Proof.Claim.WaitingWorkRuns : Prop :=
  ∀ (s : State) (q : Queued), s.awake = true →
    let t := (workOf q.ticket.verb q.args q.supplied).run q.ticket s
    s.runQueued q = { t with work := t.work.filter fun x => x.ticket.order != q.ticket.order }

/-- Every latched clause is refused or run as admitted, every clause row completes: together,
`LatchedClausesAreTested` and `AdmittedClausesProceed` and `WaitingWorkRuns`. Completes (concludes `exec c s = .next
t`): echo, status, clock, clockSet, sleep, laneStatus, configStageBegin, configStageWrite, configStageDiscard,
configCommit, configRead, thallusStageBegin, thallusStageWrite, thallusStageDiscard, lichenEndorse, thallusCommit,
pollStart, pollStop, fieldVector, aerialCal, atlasLoadBegin, atlasLoadPoints, inventory, authenticate, locate,
sessionQuery, sessionEnd, tokenEnrol, tokenRevoke, tokenQuery, releaseState, releaseClear, odoInterval, odoInit,
motionRead, timerCfg, peek, poke, sporeLoadNeeded, sporeLoadHost, sporeEvict, sporeWrap, frondDeriveDerive,
frondDerivePublic, frondDeriveNode, keyRetire, encryptOneshot, encryptBegin, encryptUpdate, encryptFinal,
encryptAbort, decryptOneshot, decryptBegin, decryptUpdate, decryptFinal, decryptRead, decryptAbort, macOneshot,
macBegin, macUpdate, macFinal, macAbort, evidenceSign, evidenceRead, random, randomPr, fieldportCfgPort,
fieldportCfgReaderKey, fieldportCfgQuery, mailboxReadLocal, mailboxWriteLocal, mailboxReadReader, mailboxWriteReader,
mailboxReadFetch, selftest, kat, tamperStatus, tamperAck, hostPair. -/
def Obligations.EveryLatchedClauseIsAnswered : Prop :=
  Claim.LatchedClausesAreTested ∧ Claim.AdmittedClausesProceed ∧ Claim.WaitingWorkRuns

/-- A clause with the SEQ of an outstanding clause of its port is refused with REFUSED_STATE and DUPLICATE, and
nothing else happens (R65), but that it is kept until a commit phase is published (R373). -/
def Sys2Proof.Claim.DuplicateSeqIsRefused : Prop :=
  ∀ c k s, clauseOf c = some k → k.latched s = true → s.arbitrationTick = false → k.duplicate s = true →
    exec c s = .next { s.onPort k.hdr.port fun q =>
      { q with
        credits := q.credits - 1
        outstanding := q.outstanding ++ [{ seq := k.hdr.seq, verb := k.verb, admitted := false, order := s.orderNo }]
        stagedReplies := q.stagedReplies ++
          [{ seq := k.hdr.seq, verb := k.verb, status := 0x11, results := [], duplicate := true, order := s.orderNo }] } with
      orderNo := s.orderNo + 1, latched := s.latched ++ [k.kept s] }

/-- A clause that is not latched changes nothing but its port, and there only the discard (R60, R67, Table 03.8):
nothing while READY is 0; a frame longer than 240 argument bytes is discarded with the FRAME_CRC notice, whatever the
credit or the store (that order of the tests is log entry 22, the model's choice); one without a credit or a store
raises CREDIT_OVERRUN. -/
def Sys2Proof.Claim.UnlatchedClausesAreDiscarded : Prop :=
  ∀ c k s, clauseOf c = some k →
    ((s.port k.hdr.port).arrival = .notReady → exec c s = .next s) ∧
    ((s.port k.hdr.port).arrival ≠ .notReady → 240 < hdrArgLen k.hdr k.args →
      exec c s = .next (s.onPort k.hdr.port fun q =>
        { q with
          newEvents := q.newEvents ||| 0x1000#16, newDiscards := q.newDiscards + 1
          stagedNotices := q.stagedNotices ++
            [{ seq := k.hdr.seq, verb := k.verb, status := 0x16, results := [0x03#8, 0x02#8], unverified := true,
               notice := true }] })) ∧
    ((s.port k.hdr.port).arrival = .overrun → hdrArgLen k.hdr k.args ≤ 240 →
      exec c s = .next (s.onPort k.hdr.port fun q =>
        { q with newEvents := q.newEvents ||| 0x0800#16, newDiscards := q.newDiscards + 1 }))

/-- The order of the checks (R41), shown on ECHO, which has no check of its own: the frame, then authentication, then
state, then the budget; the first that fails gives the status. A sealed clause that no core could open ends before
them (R292). Completes (concludes `exec c s = .next t`): echo. -/
def Sys2Proof.Claim.ChecksComeInOrder : Prop :=
  ∀ (h : Hdr) (args : Bytes) (s : State),
    let k : Clause := ⟨0x01, h, args⟩
    let turnedAway := fun status => (k.counted s).refuse k.head status (k.opened s).sess false
    k.latched s = true → s.arbitrationTick = false → k.duplicate s = false →
    exec (.echo h args) s = .next
      (if (k.held s).openingLost k.head then ((k.held s).tookLoss .next).refuse k.head 0x33 none false
       else if outerBad k.head (k.opened s) then turnedAway 0x13
       else if authBad k.head (k.opened s) (k.counted s) then turnedAway 0x12
       else if stateBad k.head (k.counted s) then turnedAway 0x11
       else if budgetBad k.head s.tick { lane := 4 } (k.counted s) then turnedAway 0x10
       else k.goes { lane := 4 } .nothing (fun tk b => b.done tk args) s)

/-- Duplicates, discarded frames and the order of the checks: together, `DuplicateSeqIsRefused` and
`UnlatchedClausesAreDiscarded` and `ChecksComeInOrder`. Completes (concludes `exec c s = .next t`): echo. -/
def Obligations.RefusedClausesChangeOnlyTheirPort : Prop :=
  Claim.DuplicateSeqIsRefused ∧ Claim.UnlatchedClausesAreDiscarded ∧ Claim.ChecksComeInOrder

/-- Admission changes nothing but the credit, the outstanding clauses and the session counters of its port, the
ledgers and the clauses kept until a commit phase is published (R42, R60, R65, R71, R373): the state in which an
admitted clause runs. -/
def Sys2Proof.Claim.AdmissionFrame : Prop :=
  ∀ (k : Clause) (n : Need) (s : State),
    k.begun n s =
      { s with
        portA := (k.begun n s).portA, portB := (k.begun n s).portB, ledger := (k.begun n s).ledger
        orderNo := s.orderNo + 1, latched := s.latched ++ [k.kept s] } ∧
    (∀ p, p ≠ k.hdr.port → (k.begun n s).port p = s.port p) ∧
    (k.begun n s).port k.hdr.port =
      { s.port k.hdr.port with
        credits := (s.port k.hdr.port).credits - 1
        outstanding := (s.port k.hdr.port).outstanding ++
          [{ seq := k.hdr.seq, verb := k.verb, admitted := true, sess := (k.opened s).sess.map Sess.id
             hinted := if k.hint then some s.tick else none, order := s.orderNo }]
        session := match k.opened s with
          | .opened counter _ => (s.port k.hdr.port).session.map fun se =>
              { se with lastCounter := counter, accepted := se.accepted + 1 }
          | _ => (s.port k.hdr.port).session } ∧
    (k.begun n s).ledger =
      (if n.lane + n.maint + n.ecc + n.nvm = 0 then s.ledger
       else s.ledger ++ [⟨s.tick + n.deadline - 1, (hdrFlags k.hdr).toNat / 4 % 4, s.orderNo, n.lane, n.maint, n.ecc,
        n.nvm⟩])

/-- A sealed clause that opens is accepted with its counter: greater than the last accepted, bit 63 clear; its tag is
that of AES-GCM under the session's key, over the six bytes before the payload and the encrypted arguments (R70 to
R72). -/
def Sys2Proof.Claim.SealedClausesCountUp : Prop :=
  ∀ (k : Clause) (s : State) (counter : Nat) (se : Sess), k.opened s = .opened counter se →
    (s.port k.hdr.port).session = some se ∧ counter < 2 ^ 63 ∧ se.lastCounter < counter ∧ se.accepted < 2 ^ 32 ∧
      ((k.counted s).port k.hdr.port).session = some { se with lastCounter := counter, accepted := se.accepted + 1 } ∧
      ∃ (c : BitVec 64) (tag : BitVec 128), k.hdr.sealing = .sealed c tag ∧ counter = c.toNat ∧
        Crypto.gcmTag se.key (leN 4 se.id.toNat ++ leN 8 counter)
          ([0xC1#8, k.hdr.flags ||| 1#8] ++ leN 2 k.hdr.seq.toNat ++ leN 1 k.verb ++ leN 1 (24 + k.args.length))
          (Crypto.gcmCrypt se.key (leN 4 se.id.toNat ++ leN 8 counter) k.args) = beN 16 tag.toNat

/-- What admission changes; sealed clauses count up: together, `AdmissionFrame` and `SealedClausesCountUp`. -/
def Obligations.AdmissionBooksTheClause : Prop :=
  Claim.AdmissionFrame ∧ Claim.SealedClausesCountUp

/-! ### The host port -/

/-- A written frame is placed in the frame buffer with a credit when it is complete, its CRC is correct, ARG_LEN is at
most 240 and a credit and a general store are free; else its discard waits for the next latch phase with the event bit
and the notice of Table 03.8 (R57, R59, R60, R67, R392). That it is tested in this order, completeness, CRC, ARG_LEN,
credit and store, is log entry 22, the model's choice. Completes (concludes `exec c s = .next t`): clauseWrite. -/
def Sys2Proof.Claim.ClauseWritePlacesOrDiscards : Prop :=
  ∀ (p : PortId) (m : Bytes) (s : State),
    let q := s.port p
    let f : Bytes := 0xC1#8 :: m
    let n := oct f 5
    let sdo := padTo (1 + m.length) [q.statusByte]
    let whole := 6 ≤ f.length ∧ 10 + n ≤ f.length
    let crcOk := Crypto.crc32cBytes (f.take (6 + n)) = slice f (6 + n) 4
    q.spiReset = false → q.ready = true →
      (whole → crcOk → n ≤ 240 → q.credits ≠ 0 → q.boundStores < 12 →
        exec (.clauseWrite p m) s = .next (s.setPort p
          { q with sdo := sdo, credits := q.credits - 1, frames := q.frames ++ [f.take (10 + n)] })) ∧
      (whole → crcOk → n ≤ 240 → (q.credits = 0 ∨ 12 ≤ q.boundStores) →
        exec (.clauseWrite p m) s = .next (s.setPort p
          { q with sdo := sdo, held := q.held ++ [{ bit := 11 }] })) ∧
      (¬ whole → exec (.clauseWrite p m) s = .next (s.setPort p
          { q with sdo := sdo, held := q.held ++ [{ bit := 12 }] })) ∧
      (whole → ¬ crcOk ∨ 240 < n → ∃ t, exec (.clauseWrite p m) s = .next t ∧
        t = s.setPort p
          { q with
            sdo := sdo
            held := q.held ++ [{
              bit := 12
              notices := [{
                seq := BitVec.ofNat 16 (num f 2 2), verb := oct f 4, status := 0x16
                results := [0x03#8, if Crypto.crc32cBytes (f.take (6 + n)) = slice f (6 + n) 4 then 0x02#8 else 0x01#8]
                unverified := true, notice := true }] }] })

/-- A reset of an SPI side discards the frame being shifted in, which is counted with every other one cut in the tick,
and empties the read latches and write buffers; the clauses outstanding, the stores and the sessions stay (R61, R245,
R398 to R400). While it lasts nothing is driven or taken in. A crossing that a system reset has closed opens only in
stage 7 of the boot, and not while VIO holds its SPI side in reset (R400, R401, R407). What the spec leaves open here
is read as log entries 23, 74 say. Completes (concludes `exec c s = .next t`): spiSideReset, crossingReopen,
clauseWrite, replyRead. -/
def Sys2Proof.Claim.SpiSideResetKeepsClauses : Prop :=
  ∀ (p : PortId) (inFrame : Bool) (s : State),
    exec (.spiSideReset p inFrame) s = .next
      { s.setPort p
          { s.port p with
            spiReset := true, vioLow := true
            cutFrames := (s.port p).cutFrames + (if inFrame = true ∧ (s.port p).spiReset = false then 1 else 0)
            latches := [], wbuf := [], sdo := [] } with
        power := { s.power with newFlush := s.power.newFlush || s.awake } } ∧
    (let closed := s.power.readyDue.isSome = true ∨ s.power.life = .starting ∨ s.power.life = .bootStopped ∨
        s.power.life = .unpowered
     (closed → exec (.crossingReopen p) s = .next (s.setPort p { s.port p with vioLow := false })) ∧
        (¬ closed → exec (.crossingReopen p) s = .next (s.setPort p { s.port p with vioLow := false, spiReset := false }))) ∧
    (∀ q : Port, q.open_.ready = true ∧ q.open_.credits = 8 ∧ q.open_.spiReset = q.vioLow) ∧
    ((s.port p).spiReset = true → ∀ m n, exec (.clauseWrite p m) s = .next (s.setPort p { s.port p with sdo := [] }) ∧
      exec (.replyRead p n) s = .next s)

/-- CLAUSE_WRITE and the reset of an SPI side: together, `ClauseWritePlacesOrDiscards` and `SpiSideResetKeepsClauses`.
Completes (concludes `exec c s = .next t`): clauseWrite, spiSideReset, crossingReopen, replyRead. -/
def Obligations.WrittenFramesAreHeld : Prop :=
  Claim.ClauseWritePlacesOrDiscards ∧ Claim.SpiSideResetKeepsClauses

/-- A reply read consumes the next reply, SPORE_NEEDED notices before the others, only when every byte is clocked; it
returns the credit of an admitted clause and ends its being outstanding, and a session that has ended goes with the
last reply sealed under it (R60, R62, R63, R64, R65, R77). Completes (concludes `exec c s = .next t`): replyRead. -/
def Sys2Proof.Claim.ReplyReadConsumesWhatWasClocked : Prop :=
  ∀ (p : PortId) (n : Nat) (s : State),
    let q := s.port p
    q.spiReset = false →
      (∀ m r, q.spores = m :: r → 1 + m.bytes.length ≤ n →
        exec (.replyRead p n) s = .next (s.setPort p
          { q with sdo := padTo n (q.statusByte :: m.bytes), spores := r, lastRead := m.bytes })) ∧
      (∀ f r, q.spores = [] → q.general = f :: r → f.clause = none → 1 + f.bytes.length ≤ n →
        exec (.replyRead p n) s = .next (s.setPort p
          { q with sdo := padTo n (q.statusByte :: f.bytes), general := r, lastRead := f.bytes })) ∧
      (∀ f r c, q.spores = [] → q.general = f :: r → f.clause = some c → 1 + f.bytes.length ≤ n →
        let out := q.outstanding.eraseP fun o => o.seq == c && o.answered && o.order == f.order
        exec (.replyRead p n) s = .next (s.setPort p
          { q with
            sdo := padTo n (q.statusByte :: f.bytes), general := r, lastRead := f.bytes
            oldSessions := q.oldSessions.filter fun se => out.any fun o => o.sess == some se.id
            credits := if f.admitted then q.credits + 1 else q.credits, outstanding := out })) ∧
      (∀ b, q.nextReply = some b → n < 1 + b.length →
        exec (.replyRead p n) s = .next (s.setPort p { q with sdo := padTo n (q.statusByte :: b) })) ∧
      (q.nextReply = none → exec (.replyRead p n) s = .next (s.setPort p { q with sdo := padTo n [q.statusByte] }))

/-- A re-read delivers the last consumed reply, a cause read the cause word, both counts and their CRC, an unknown
transaction the status byte alone; none of them consumes anything. A cause read clocked in full marks the event bits
it returned for clearing (R55, R63, R79, R80). Completes (concludes `exec c s = .next t`): replyReread,
unknownTransaction, causeRead. -/
def Sys2Proof.Claim.OtherReadsConsumeNothing : Prop :=
  ∀ (p : PortId) (n : Nat) (b : Byte) (s : State),
    let q := s.port p
    let body := leN 2 q.cause.toNat ++ leN 1 q.discards ++ leN 1 q.lost
    q.spiReset = false →
      exec (.replyReread p n) s = .next (s.setPort p { q with sdo := padTo n (q.statusByte :: q.lastRead) }) ∧
      exec (.unknownTransaction p b n) s = .next (s.setPort p { q with sdo := padTo n [q.statusByte] }) ∧
      exec (.causeRead p n) s = .next (s.setPort p
        { q with
          sdo := padTo n (q.statusByte :: (body ++ Crypto.crc32cBytes body))
          clearing := if n < 9 then q.clearing else some (q.clearing.getD 0 ||| (q.cause &&& 0xFF80#16)) })

/-- The reads of a port: together, `ReplyReadConsumesWhatWasClocked` and `OtherReadsConsumeNothing`. Completes
(concludes `exec c s = .next t`): replyRead, replyReread, unknownTransaction, causeRead. -/
def Obligations.ReplyReadsConsume : Prop :=
  Claim.ReplyReadConsumesWhatWasClocked ∧ Claim.OtherReadsConsumeNothing

/-- A clause command is the frame that spells it, once written and latched (R18, R34, R57 to R60, R70, R85): the frame
that `Clause.wire` forms decodes to the same verb, operation and inner arguments, opened with the same result, and is
turned away as the command is or admitted as the command is; the work of an admitted frame waits for its needs (R43),
but for what takes its place in the air calendar. Commands whose outcome depends on what the outside world supplies
are taken with a fault-free outcome (log entry 17). -/
def Sys2Proof.Claim.ClauseCommandsMatchFrames : Prop :=
  ∀ c k s, clauseOf c = some k → faultFree c = true → k.wellSealed = true → k.latched s = true →
    s.arbitrationTick = false →
    let w := workOf k.verb k.args (suppliedOf c s)
    let n := w.need (k.counted s)
    let sup := s.supplied k.verb s.tick
    let b := ((k.begun n s).reserveFor k.verb k.args (k.ticket s)).bookLoops k.verb k.args (s.tick + n.deadline - 1) (k.ticket s)
    (s.onPort k.hdr.port Port.takeCredit).latchFrame k.hdr.port (s.tick, k.wire s) =
      if k.duplicate (k.held s) then (k.held s).refuse k.head 0x11 none true
      else if (k.held s).openingLost k.head then ((k.held s).tookLoss .next).refuse k.head 0x33 none false
      else
        match refusal k.head (k.opened s) w (k.ticket s) s.tick (k.counted s) with
        | some code => (k.counted s).refuse k.head code (k.opened s).sess false
        | none => if booksAir k.verb k.args then w.run (k.ticket s) (k.begun n s)
          else { b with work := b.work ++ [k.queued n sup s] }

/-- Such a frame passes the checks of the frame buffer (R57, R59, R60): written to a port that can take it, it is
placed there whole. -/
def Sys2Proof.Claim.WrittenFramesArePlaced : Prop :=
  ∀ (k : Clause) (s : State), k.latched s = true →
    exec (.clauseWrite k.hdr.port ((k.wire s).drop 1)) s = .next (s.setPort k.hdr.port
      { s.port k.hdr.port with
        sdo := padTo (k.wire s).length [(s.port k.hdr.port).statusByte]
        credits := (s.port k.hdr.port).credits - 1
        frames := (s.port k.hdr.port).frames ++ [k.wire s] })

/-- A clause command is the frame that spells it: together, `ClauseCommandsMatchFrames` and `WrittenFramesArePlaced`.
-/
def Obligations.ClauseCommandsAreTheirFrames : Prop :=
  Claim.ClauseCommandsMatchFrames ∧ Claim.WrittenFramesArePlaced

/-! ### Services -/

/-- ECHO, STATUS, CLOCK and LANE_STATUS answer DONE with the results of Tables 03.15, R83 and Table 15.4 and change
nothing else (R81, R82, R83, R379). Completes (concludes `exec c s = .next t`): echo, status, clock, laneStatus. -/
def Sys2Proof.Claim.ServiceVerbsAnswer : Prop :=
  ∀ (h : Hdr) (args : Bytes) (s : State),
    ((⟨0x01, h, args⟩ : Clause).clear { lane := 4 } s = true →
      exec (.echo h args) s = .next ((⟨0x01, h, args⟩ : Clause).goes { lane := 4 } .nothing (fun tk b => b.done tk args) s)) ∧
    ((⟨0x02, h, []⟩ : Clause).clear { lane := 6 } s = true →
      exec (.status h []) s = .next ((⟨0x02, h, []⟩ : Clause).goes { lane := 6 } .nothing (fun tk b => b.done tk
        (leN 8 b.tick ++ leN 1 b.stateCode ++ leN 1 b.power.crozier ++ leN 2 b.faults.toNat ++ leN 4 b.rng.fails ++
          leN 1 b.portA.credits ++ leN 1 b.portB.credits ++ leN 1 (cellCode b.cell.state) ++
          leN 1 ((if b.portA.session.isSome then 1 else 0) + 2 * (if b.portB.session.isSome then 1 else 0)) ++
          leN 1 (if b.seeded then 1 else 0) ++ [0#8, 0#8, 0#8])) s)) ∧
    ((⟨0x03, h, []⟩ : Clause).clear { lane := 4 } s = true →
      exec (.clock h []) s = .next ((⟨0x03, h, []⟩ : Clause).goes { lane := 4 } .nothing
        (fun tk b => b.done tk (leN 8 b.tick ++ leN 8 b.utcNow ++ leN 8 b.utcTick)) s)) ∧
    ((⟨0x09, h, []⟩ : Clause).clear { lane := 6 } s = true →
      exec (.laneStatus h []) s = .next ((⟨0x09, h, []⟩ : Clause).goes { lane := 6 } .nothing
        (fun tk b => b.done tk b.laneStatusResults) s)) ∧
    (s.laneStatusResults.length = 40 ∧
      slice s.laneStatusResults 0 4 = leN 1 s.serviceCode ++ leN 1 s.lanes.causeA ++ leN 1 s.lanes.causeB ++ leN 1 s.clockCode ∧
      slice s.laneStatusResults 4 8 = leN 8 s.lanes.takeoverTick ∧
      slice s.laneStatusResults 16 4 = leN 4 (s.lanes.transientTicks.headD 0) ∧
      slice s.laneStatusResults 20 2 = leN 1 (~~~ s.cipher.aesFenced).toNat ++ leN 1 (~~~ s.cipher.eccOut).toNat)

/-- CLOCK_SET is accepted within the step limit, or without one when it is the first after personalisation or a moss
power-on, counted from the time that the CLOCK_SETs admitted before it leave; beyond the limit it is refused with
REFUSED_ARG (R84). At the commit phase of its reply it sets UTC, returns the old time and the step, and queues a CLOCK
record with them (R83, Table 12.7). What the spec leaves open here is read as log entries 56, 73 say. Completes
(concludes `exec c s = .next t`): clockSet. -/
def Sys2Proof.Claim.ClockSetSteps : Prop :=
  ∀ (h : Hdr) (args : Bytes) (s : State),
    let k : Clause := ⟨0x04, h, args⟩
    let n : Need := { lane := 20, nvm := 2, deadline := 8 }
    let new := num args 0 8
    let by_ : State → Int := fun b => (new : Int) - (b.utcNow : Int)
    let r : State → Bytes := fun b => leN 8 b.utcNow ++ leN 8 (twos 64 (by_ b))
    (k.clear n s = true → args.length = 8 →
      (s.clockAhead.utcFree = true ∨ (by_ s.clockAhead).natAbs ≤ clockStepLimit s.thal.cur * 1000) →
      exec (.clockSet h args) s = .next (k.goes n .nothing (fun tk b => (b.push (.clockSet tk new)).done tk (r b)) s)) ∧
    (k.clear n s = true → args.length = 8 → s.clockAhead.utcFree = false →
      clockStepLimit s.thal.cur * 1000 < (by_ s.clockAhead).natAbs →
      exec (.clockSet h args) s = .next ((k.counted s).refuse k.head 0x13 (k.opened s).sess false)) ∧
    ((∀ a ∈ s.acts, ∀ tk t, a ≠ .clockSet tk t) → (∀ q ∈ s.work, q.ticket.verb ≠ 0x04) → s.clockAhead = s) ∧
    (∀ tk t, (∀ a ∈ s.acts, ∀ tk t, a ≠ .clockSet tk t) → (∀ q ∈ s.work, q.ticket.verb ≠ 0x04) →
      (s.push (.clockSet tk t)).clockAhead.utcFree = false ∧ (s.push (.clockSet tk t)).clockAhead.utc = t) ∧
    ∀ tk, s.awake = true → s.act (.clockSet tk new) =
      (({ s with utc := new, utcTick := s.tick, utcBase := s.tick, utcSet := true, utcFree := false } : State).recordReply tk 0x05
        (leN 8 s.utcNow ++ leN 8 new ++ leN 8 (twos 64 (by_ s)) ++ leN 1 (portCode tk.port))).amend tk 0 (r s)

/-- ECHO, STATUS, CLOCK, LANE_STATUS and CLOCK_SET: together, `ServiceVerbsAnswer` and `ClockSetSteps`. Completes
(concludes `exec c s = .next t`): echo, status, clock, laneStatus, clockSet. -/
def Obligations.ServicesAnswer : Prop :=
  Claim.ServiceVerbsAnswer ∧ Claim.ClockSetSteps

/-! ### Banks -/

/-- CONFIG_STAGE: BEGIN copies the current bank into a new stage and drops a staged atlas header; WRITE stores its
data at OFFSET, within 0x0040 to 0x09E7, creating the stage first when none exists; DISCARD drops the stage. Nothing
else changes but the reply (R337). Completes (concludes `exec c s = .next t`): configStageBegin, configStageWrite,
configStageDiscard. -/
def Sys2Proof.Claim.ConfigStagingEdits : Prop :=
  ∀ (h : Hdr) (args : Bytes) (s : State),
    let n : Need := { lane := 40, deadline := 8 }
    let k : Byte → Clause := fun op => ⟨0x10, h, op :: args⟩
    byteAt args 0 = 0#8 →
      (args.length = 3 → (k 0).clear n s = true →
        exec (.configStageBegin h args) s = .next ((k 0).goes n .nothing (fun tk b =>
          ({ b with
              cfg := { b.cfg with stage := some b.cfg.cur }
              prot := { b.prot with atlasBegun := false, atlasLoaded := [] } } : State).done tk
            (slice args 1 2 ++ [0#8, 0#8])) s)) ∧
      (3 < args.length → 0x40 ≤ num args 1 2 → num args 1 2 + (args.length - 3) ≤ 0x9E8 → (k 1).clear n s = true →
        exec (.configStageWrite h args) s = .next ((k 1).goes n .nothing (fun tk b =>
          ({ b with
              cfg := { b.cfg with
                stage := some ((b.cfg.stage.getD b.cfg.cur).writeBytes (num args 1 2) (args.drop 3)) } } : State).done tk
            (slice args 1 2 ++ leN 1 (args.length - 3) ++ [0#8])) s)) ∧
      (args.length = 3 → (k 2).clear n s = true →
        exec (.configStageDiscard h args) s = .next ((k 2).goes n .nothing (fun tk b =>
          ({ b with
              cfg := { b.cfg with stage := none }
              prot := { b.prot with atlasBegun := false, atlasLoaded := [] } } : State).done tk
            (slice args 1 2 ++ [0#8, 0#8])) s))

/-- ATLAS_LOAD: BEGIN clears the atlas area of the configuration stage and writes the new header; POINTS stores its
records; both report how many points are loaded (R190). Completes (concludes `exec c s = .next t`): atlasLoadBegin,
atlasLoadPoints. -/
def Sys2Proof.Claim.AtlasLoadStages : Prop :=
  ∀ (h : Hdr) (args : Bytes) (s : State),
    let n : Need := { lane := 60, deadline := 8 }
    let k : Byte → Clause := fun op => ⟨0x24, h, op :: args⟩
    let stage : State → Mem := fun b => b.cfg.stage.getD b.cfg.cur
    let pts := oct args 1
    (args.length = 35 → slice args 0 3 = [0#8, 0#8, 0#8] → atlasHeaderOk (args.drop 3) = true → (k 0).clear n s = true →
      let m : State → Mem := fun b => ((stage b).clear 0x1000 0x5420).writeBytes 0x1000 (args.drop 3)
      exec (.atlasLoadBegin h args) s = .next ((k 0).goes n .nothing (fun tk b =>
        ({ b with
            cfg := { b.cfg with stage := some (m b) }
            prot := { b.prot with atlasBegun := true, atlasLoaded := [] } } : State).done tk
          (leN 2 0 ++ leN 2 (atlasCount (m b)))) s)) ∧
    (1 ≤ pts → pts ≤ 3 → args.length = 3 + 68 * pts → byteAt args 2 = 0#8 →
      (∀ i, i < pts → atlasPointOk (slice args (3 + 68 * i) 68) = true) → s.prot.atlasBegun = true →
      oct args 0 + pts ≤ atlasCount (stage s) → (k 1).clear n s = true →
      let m : State → Mem := fun b => (stage b).writeBytes (atlasPoint (oct args 0)) (args.drop 3)
      ∃ loaded : State → List Nat,
        exec (.atlasLoadPoints h args) s = .next ((k 1).goes n .nothing (fun tk b =>
          ({ b with
              cfg := { b.cfg with stage := some (m b) }
              prot := { b.prot with atlasLoaded := loaded b } } : State).done tk
            (leN 2 (loaded b).length ++ leN 2 (atlasCount (m b)))) s) ∧
        ∀ b p, p ∈ loaded b ↔ p ∈ b.prot.atlasLoaded ∨ (oct args 0 ≤ p ∧ p < oct args 0 + pts))

/-- CONFIG_STAGE and ATLAS_LOAD: together, `ConfigStagingEdits` and `AtlasLoadStages`. Completes (concludes `exec c s
= .next t`): configStageBegin, configStageWrite, configStageDiscard, atlasLoadBegin, atlasLoadPoints. -/
def Obligations.ConfigurationIsStaged : Prop :=
  Claim.ConfigStagingEdits ∧ Claim.AtlasLoadStages

/-- CONFIG_COMMIT of a stage that passes R338 with EXPECT_SEQ the current SEQ is accepted, and at the commit phase of
its reply the new bank has the next SEQ, the tick and the stage's bytes; written to both banks it comes into force and
the stage is consumed, and a CONFIG record goes with the reply. When the second bank fails it still does, with the
other bank invalid; when the first fails nothing is committed and the clause ends with FAULT_RETRY_EXHAUSTED; a loss
of supply in between resets the device with the old configuration in force (R333, R338). What the spec leaves open
here is read as log entries 55, 82 say. Completes (concludes `exec c s = .next t`): configCommit. -/
def Sys2Proof.Claim.ConfigCommitInstallsTheStage : Prop :=
  (∀ (h : Hdr) (args : Bytes) (m : Mem) (o : BankOutcome) (s : State),
    let k : Clause := ⟨0x11, h, args⟩
    let n : Need := { lane := 2000, nvm := 144, deadline := 256 }
    k.clear n s = true → args.length = 8 → num args 4 4 = 0 → num args 0 4 = s.cfg.seq → s.cfg.stage = some m →
      configOk m = true → (s.prot.atlasBegun = true → atlasCount m ≤ s.prot.atlasLoaded.length) →
      (s.thal.cur.zeroAt 0x68 32 = true ∨ Crypto.sha256 (atlasImage m) = atlasDigest s.thal.cur) →
      s.verbUnpublished 0x11 = false →
      exec (.configCommit h args o) s = .next (k.goes n (s.cfgSupplied o) (hashedRun fun tk b =>
        (b.push (.config tk (b.cfg.stage.getD b.cfg.cur) o)).done tk []) s)) ∧
  ∀ (tk : Ticket) (m : Mem) (o : BankOutcome) (s : State), s.awake = true →
    let seq := (s.cfg.seq + 1) % 2 ^ 32
    let nb := newBank "OCFG" 65536 seq s.tick m
    let t := s.act (.config tk m o)
    (o = .ok ∨ o = .secondFails →
      t.cfg.cur = nb.img ∧ t.cfg.seq = seq ∧ t.cfg.tick = s.tick ∧ t.cfg.digest = nb.digest ∧ t.cfg.stage = none ∧
      (o = .ok → t.cfg.bank0 = nb ∧ t.cfg.bank1 = nb) ∧
      (o = .secondFails → (seq % 2 = 0 → t.cfg.bank0 = nb ∧ t.cfg.bank1.cond = .badHeader) ∧
        (seq % 2 = 1 → t.cfg.bank1 = nb ∧ t.cfg.bank0.cond = .badHeader)) ∧
      t = State.amend
        { s with
          cfg := t.cfg
          log := (s.recordReply tk 0x60 (leN 4 seq ++ leN 1 (portCode tk.port) ++ zeros 3 ++ nb.digest.take 24)).log
          prot := { s.prot with
            atlasBegun := false, atlasLoaded := [], oldTables := t.prot.oldTables
            atlasBad := !(s.thal.cur.zeroAt 0x68 32) && Crypto.sha256 (atlasImage nb.img) != atlasDigest s.thal.cur } }
        tk 0 (leN 4 seq ++ zeros 4 ++ nb.digest)) ∧
    (o = .firstFails → t = s.amend tk 0x33 []) ∧
    (o = .lostInFirst ∨ o = .lostInSecond → ∃ u : State, t = u.systemReset 2 ∧ u.cfg.cur = s.cfg.cur)

/-- CONFIG_READ returns the SEQ of the bank read, OFFSET, LEN and the bytes of the current configuration, the stage,
the current thallus or its stage, and changes nothing (R339); the counter of open values advances (log entry 12). The
header of a kind without a valid bank is not stated by the spec. The bytes are those of the image named. Completes
(concludes `exec c s = .next t`): configRead. -/
def Sys2Proof.Claim.ConfigReadReturnsBytes : Prop :=
  ∀ (h : Hdr) (args : Bytes) (s : State),
    let k : Clause := ⟨0x12, h, args⟩
    let n : Need := { lane := 30, deadline := 8 }
    let sel := oct args 0
    let off := num args 2 2
    let len := oct args 4
    let image : State → Option Mem := fun b => if sel = 0 then some b.cfg.cur else if sel = 1 then b.cfg.stage
      else if sel = 2 then some b.thal.cur else b.thal.stage
    let seq : State → Nat := fun b => if sel = 0 then b.cfg.seq else if sel = 2 then b.thal.seq else 0
    k.clear n s = true → args.length = 8 → sel ≤ 3 → byteAt args 1 = 0#8 → slice args 5 3 = [0#8, 0#8, 0#8] →
      1 ≤ len → len ≤ 200 → off + len ≤ (if sel ≤ 1 then 65536 else 8192) → (image s).isSome = true →
      ∃ bytes : State → Bytes,
        exec (.configRead h args) s = .next (k.goes n .nothing (fun tk b =>
          ({ b with freeCtr := b.freeCtr + 1 } : State).done tk
            (leN 4 (seq b) ++ slice args 2 2 ++ leN 1 len ++ [0#8] ++ bytes b)) s) ∧
        ∀ b, (bytes b).length = len ∧
          ∀ i, i < len → (if sel ≤ 1 then b.cfg.current else b.thal.current) = true ∨ 64 ≤ off + i →
            (bytes b)[i]? = some (((image b).getD []).read (off + i))

/-- A bank is valid exactly when its MAGIC, FORMAT, HEADER_CRC and BODY_DIGEST hold and, for the thallus, its SEQ is
not older than the high-water mark (R331, R332); the test reads the bytes as they now are. What the spec leaves open
here is read as log entry 35 says. -/
def Sys2Proof.Claim.BanksAreTested : Prop :=
  ∀ (k : BankKind) (hw : Nat) (damage : List (Nat × Byte)) (b : Bank),
    let size := match k with
      | .configuration => 65536
      | .thallus => 8192
    let m := damage.foldl (fun m c => if c.1 < size then m.write c.1 c.2 else m) b.img
    let t := b.tested k hw damage
    t.img = m ∧ t.seq = m.num 8 4 ∧ t.tick = m.num 12 8 ∧ t.digest = m.readBytes 20 32 ∧
    (t.cond = .valid ↔
      m.readBytes 0 4 = Crypto.ascii (bankMagic k) ∧ m.num 4 1 = 1 ∧
        m.readBytes 60 4 = Crypto.crc32cBytes (m.readBytes 0 60) ∧
        Crypto.sha256 (m.readBytes 0x40 (size - 0x40)) = m.readBytes 20 32 ∧
        (k = .thallus → serialNewer 32 hw t.seq = false))

/-- BANK_REPAIR, in an idle writer-tick, waits for the commit phase, which copies the one valid bank into the other
and records it (R35). NVM_PATROL, in slack that no MAINT work and writer-ticks that no admitted work needs, tests a
bank; when it finds the other bank of its kind the only valid one, it records that, once (R50, R334, Table 14.12).
Completes (concludes `exec c s = .next t`): bankRepair, nvmPatrol. -/
def Sys2Proof.Claim.BanksAreRepaired : Prop :=
  ∀ (k : BankKind) (s : State),
    let b := s.banks k
    (s.awake = true → s.writerIdle = true → (b.bank0.cond = .valid ↔ b.bank1.cond ≠ .valid) →
      exec (.bankRepair k) s = .next (s.push (.repair k))) ∧
    (s.awake = true → b.bank0.cond = .valid → b.bank1.cond ≠ .valid → s.act (.repair k) =
      ((s.setBanks k { b with bank1 := b.bank0 }).note 0x66 ([BitVec.ofNat 8 (kindCode k), 1#8, 4#8, 0#8] ++ leN 4 b.seq))) ∧
    (s.awake = true → b.bank0.cond ≠ .valid → b.bank1.cond = .valid → s.act (.repair k) =
      ((s.setBanks k { b with bank0 := b.bank1 }).note 0x66 ([BitVec.ofNat 8 (kindCode k), 0#8, 4#8, 0#8] ++ leN 4 b.seq))) ∧
    ((s.awake = false ∨ s.writerIdle = false ∨ b.fallback = false) → exec (.bankRepair k) s = .next s) ∧
    (∀ find, (s.awake = false ∨ s.maintIdle = false ∨ s.writerIdle = false) → exec (.nvmPatrol find) s = .next s) ∧
    (s.cfg.fallback = false → s.thal.fallback = false → exec (.nvmPatrol none) s = .next s) ∧
    (∀ l, s.awake = true → s.maintIdle = true → s.writerIdle = true → (∀ k', k' ≠ k → (s.banks k').fallback = false) →
      (let x := b.bank0.tested k (s.waterOf k) l
       b.bank1.cond = .valid → x.cond ≠ .valid → x.noted = false →
        exec (.nvmPatrol (some (k, false, l))) s = .next
          ((s.setBanks k { b with bank0 := { x with noted := true } }).note 0x66
            ([BitVec.ofNat 8 (kindCode k), 0#8, BitVec.ofNat 8 (bankCause x.cond), 0#8] ++ leN 4 b.seq))) ∧
      (let x := b.bank1.tested k (s.waterOf k) l
       b.bank0.cond = .valid → x.cond ≠ .valid → x.noted = false →
        exec (.nvmPatrol (some (k, true, l))) s = .next
          ((s.setBanks k { b with bank1 := { x with noted := true } }).note 0x66
            ([BitVec.ofNat 8 (kindCode k), 1#8, BitVec.ofNat 8 (bankCause x.cond), 0#8] ++ leN 4 b.seq))))

/-- CONFIG_COMMIT, CONFIG_READ, the banks at boot, bank repair and patrol: together, `ConfigCommitInstallsTheStage`
and `ConfigReadReturnsBytes` and `BanksAreTested` and `BanksAreRepaired`. Completes (concludes `exec c s = .next t`):
configCommit, configRead, bankRepair, nvmPatrol. -/
def Obligations.ConfigurationComesIntoForce : Prop :=
  Claim.ConfigCommitInstallsTheStage ∧ Claim.ConfigReadReturnsBytes ∧ Claim.BanksAreTested ∧ Claim.BanksAreRepaired

/-- THALLUS_STAGE: BEGIN copies the current thallus and notes the tick, WRITE stores into the existing stage, DISCARD
drops it; each discards the endorsements. BEGIN and WRITE report STAGE_TICK and the stage's digest (R346); what
DISCARD reports there, with no stage left, is open (log entry 14, the model's choice). Completes (concludes `exec c s
= .next t`): thallusStageBegin, thallusStageWrite, thallusStageDiscard. -/
def Sys2Proof.Claim.ThallusStagingEdits : Prop :=
  ∀ (h : Hdr) (args : Bytes) (s : State),
    let n : Need := { lane := 40, deadline := 8 }
    let k : Byte → Clause := fun op => ⟨0x14, h, op :: args⟩
    byteAt args 0 = 0#8 →
      (args.length = 3 → (k 0).clear n s = true →
        exec (.thallusStageBegin h args) s = .next ((k 0).goes n .nothing (hashedRun fun tk b =>
          ({ b with
              thal := { b.thal with stage := some b.thal.cur }
              prot := { b.prot with endorsed := [], window := none, stageTick := b.tick } } : State).done tk
            (slice args 1 2 ++ [0#8, 0#8] ++ leN 8 b.tick ++ Crypto.sha256 (b.thal.cur.readBytes 0x40 0x1FC0))) s)) ∧
      (3 < args.length → 0x40 ≤ num args 1 2 → num args 1 2 + (args.length - 3) ≤ 0x390 → s.thal.stage.isSome = true →
        (k 1).clear n s = true →
        let m : State → Mem := fun b => (b.thal.stage.getD []).writeBytes (num args 1 2) (args.drop 3)
        exec (.thallusStageWrite h args) s = .next ((k 1).goes n .nothing (hashedRun fun tk b =>
          ({ b with
              thal := { b.thal with stage := some (m b) }
              prot := { b.prot with endorsed := [], window := none } } : State).done tk
            (slice args 1 2 ++ leN 1 (args.length - 3) ++ [0#8] ++ leN 8 b.prot.stageTick ++
              Crypto.sha256 ((m b).readBytes 0x40 0x1FC0))) s)) ∧
      (args.length = 3 → s.thal.stage.isSome = true → (k 2).clear n s = true →
        ∃ open_ : State → Bytes, (∀ b, (open_ b).length = 40) ∧
          exec (.thallusStageDiscard h args) s = .next ((k 2).goes n .nothing (fun tk b =>
            ({ b with
                thal := { b.thal with stage := none }
                prot := { b.prot with endorsed := [], window := none }
                freeCtr := b.freeCtr + 1 } : State).done tk (slice args 1 2 ++ [0#8, 0#8] ++ open_ b)) s))

/-- LICHEN_ENDORSE: endorsements that name enrolled parties not yet listed, that verify over the lichen message under
their parties' curves and leave at most one lichen, are noted; the window begins with the first (R344, R345, R347,
R348). Each is recorded, and the records go with the reply. Completes (concludes `exec c s = .next t`): lichenEndorse.
-/
def Sys2Proof.Claim.LichenEndorseNotesParties : Prop :=
  ∀ (h : Hdr) (args : Bytes) (l : List (Nat × Nat × Nat)) (m : Mem) (s : State),
    let k : Clause := ⟨0x15, h, args⟩
    let n := eccNeed s.thal.cur 0x15 (.ok l)
    k.clear n s = true → 4 ≤ args.length → 1 ≤ oct args 0 → oct args 0 ≤ 2 → slice args 1 3 = [0#8, 0#8, 0#8] →
      readEndorsements s.thal.cur (oct args 0) (args.drop 4) = .ok l → s.thal.stage = some m →
      (∀ e ∈ l, e.1 ∉ s.prot.endorsed) → lichenOk s.thal.cur (s.prot.endorsed ++ l.map (·.1)) = true →
      (∀ e ∈ l, endorsementOk s.thal.cur 1 s.thal.seq s.prot.stageTick (Crypto.sha256 (m.readBytes 0x40 0x1FC0)) e =
        true) →
      exec (.lichenEndorse h args) s = .next (k.goes n .nothing (hashedRun fun tk b =>
        let new := (readEndorsements b.thal.cur (oct args 0) (args.drop 4)).parties
        let parties := b.prot.endorsed ++ new
        let w0 := b.prot.window.getD b.tick
        let noted := new.foldl (fun (u : State) i => u.recordReply tk 0x62
          (leN 8 b.prot.stageTick ++ leN 1 i ++ leN 1 (partyClass b.thal.cur i) ++ zeros 2 ++ leN 4 b.thal.seq ++
            (Crypto.sha256 ((b.thal.stage.getD []).readBytes 0x40 0x1FC0)).take 16)) b
        ({ b with prot := { b.prot with endorsed := parties, window := some w0 }, log := noted.log } : State).done tk
          (leN 1 (maskOf parties) ++ leN 1 (if parties.length = 2 then 1 else 0) ++ zeros 2 ++ leN 4 (w0 + 2343750))) s)

/-- The endorsement window: at its last tick, with no THALLUS_COMMIT admitted and unpublished, the endorsements are
discarded and LICHEN_EXPIRED is recorded; else the event does nothing (R348). Completes (concludes `exec c s = .next
t`): lichenWindowExpiry. -/
def Sys2Proof.Claim.LichenWindowExpires : Prop :=
  ∀ s : State,
    (∀ w0, s.prot.window = some w0 → w0 + 2343750 ≤ s.tick → s.verbUnpublished 0x16 = false →
      exec .lichenWindowExpiry s = .next (({ s with prot := { s.prot with endorsed := [], window := none } } : State).note
        0x63 (leN 8 s.prot.stageTick ++ leN 1 (maskOf s.prot.endorsed)))) ∧
    ((s.prot.window = none ∨ s.verbUnpublished 0x16 = true ∨ ∃ w0, s.prot.window = some w0 ∧ s.tick < w0 + 2343750) →
      exec .lichenWindowExpiry s = .next s)

/-- THALLUS_STAGE, LICHEN_ENDORSE and the endorsement window: together, `ThallusStagingEdits` and
`LichenEndorseNotesParties` and `LichenWindowExpires`. Completes (concludes `exec c s = .next t`): thallusStageBegin,
thallusStageWrite, thallusStageDiscard, lichenEndorse, lichenWindowExpiry. -/
def Obligations.ThallusStageIsEndorsed : Prop :=
  Claim.ThallusStagingEdits ∧ Claim.LichenEndorseNotesParties ∧ Claim.LichenWindowExpires

/-- THALLUS_COMMIT with a complete lichen is accepted, and at the commit phase of its reply the stage comes into force
with the next SEQ, which becomes the high-water mark; the endorsements and the stage are consumed; the change is
recorded with the reply (R333, R341, R349, R350). A port whose host key it changes has no session from then on. When
the second bank fails it comes into force all the same, with the other bank invalid; when the first fails nothing is
committed and the clause ends with FAULT_RETRY_EXHAUSTED; a loss of supply resets the device, in the first bank with
the old thallus in force and in the second with the new high-water mark (R332, R333). What the spec leaves open here
is read as log entries 52, 55, 82 say. Completes (concludes `exec c s = .next t`): thallusCommit. -/
def Sys2Proof.Claim.ThallusCommitInstallsTheStage : Prop :=
  (∀ (h : Hdr) (args : Bytes) (m : Mem) (o : BankOutcome) (s : State),
    let k : Clause := ⟨0x16, h, args⟩
    let n : Need := { lane := 1200, nvm := 32, deadline := 256 }
    k.clear n s = true → args.length = 8 → num args 4 4 = 0 → s.thal.stage = some m → thallusOk m = true →
      s.prot.personalised = true → num args 0 4 = s.thal.seq → s.prot.endorsed.length = 2 →
      s.verbUnpublished 0x16 = false →
      exec (.thallusCommit h args o) s = .next (k.goes n (s.thalSupplied o) (hashedRun fun tk b =>
        (b.push (.thallus tk (b.thal.stage.getD []) b.prot.endorsed o)).done tk []) s)) ∧
  ∀ (tk : Ticket) (m : Mem) (by_ : List Nat) (s : State), s.awake = true → s.prot.personalised = true →
    let seq := (s.thal.seq + 1) % 2 ^ 32
    let nb := newBank "OTHL" 8192 seq s.tick m
    let t := s.act (.thallus tk m by_ .ok)
    t.thal = { s.thal with
      bank0 := nb, bank1 := nb, cur := nb.img, seq := seq, tick := s.tick, digest := nb.digest, current := true
      stage := none } ∧
    t.prot.highWater = seq ∧ t.prot.endorsed = [] ∧ t.prot.window = none ∧ t.prot.personalised = true ∧
    (∃ u : State, t = u.amend tk 0 (leN 4 seq ++ zeros 4 ++ nb.digest) ∧
      u = { s with
            portA := u.portA, portB := u.portB, thal := t.thal, log := u.log, motion := u.motion
            prot := { s.prot with endorsed := [], window := none, highWater := seq, atlasBad := u.prot.atlasBad }
            tamper := { s.tamper with entries := some ((List.range 16).map fun i => tamperEntry nb.img (i + 1)) } } ∧
      (u.motion = s.motion ∨
        (kFactor s.thal.cur s.odoSource ≠ kFactor nb.img u.odoSource ∨ odoSecondary nb.img = 0xFF)) ∧
      (s.log.begun = true → u.log.waiting.getLast? = some
        { cls := .reply, typ := 0x61, order := tk.order, rank := 3
          body := padTo 32 (leN 4 seq ++ leN 1 (by_.getD 0 0xFF) ++ leN 1 (by_.getD 1 0xFF) ++ leN 1 (nb.img.num 0x40 1) ++
            zeros 1 ++ nb.digest.take 24) }) ∧
      ∀ p, (hostKey s.thal.cur p ≠ hostKey nb.img p → (u.port p).session = none) ∧
        (hostKey s.thal.cur p = hostKey nb.img p → thalCompat nb.img = true → u.port p = s.port p)) ∧
    (let x := s.act (.thallus tk m by_ .secondFails)
     x = { t with thal := x.thal } ∧ x.thal = { t.thal with bank0 := x.thal.bank0, bank1 := x.thal.bank1 } ∧
      (seq % 2 = 0 → x.thal.bank0 = nb ∧ x.thal.bank1.cond = .badHeader) ∧
      (seq % 2 = 1 → x.thal.bank1 = nb ∧ x.thal.bank0.cond = .badHeader)) ∧
    (∃ u : State, s.act (.thallus tk m by_ .lostInFirst) = u.systemReset 2 ∧ u.thal.cur = s.thal.cur ∧
      u.prot.highWater = s.prot.highWater) ∧
    (∃ u : State, s.act (.thallus tk m by_ .lostInSecond) = u.systemReset 2 ∧ u.prot.highWater = seq ∧
      ((seq % 2 = 0 → u.thal.bank0 = nb) ∧ (seq % 2 = 1 → u.thal.bank1 = nb))) ∧
    s.act (.thallus tk m by_ .firstFails) = s.amend tk 0x33 []

/-- The first THALLUS_COMMIT personalises the device: no lichen is asked for, an entropy block is reserved, and at the
commit phase of its reply a 32-byte rhizome is drawn with prediction resistance from it, and the reset of R342 is due
within 8 ticks; once it is, PERSONALISATION_RESET resets with cause 3, and before that it does nothing (R269, R326,
R342). What the spec leaves open here is read as log entries 16, 52 say. Completes (concludes `exec c s = .next t`):
thallusCommit, personalisationReset. -/
def Sys2Proof.Claim.PersonalisationDrawsTheRhizome : Prop :=
  (∀ (h : Hdr) (args : Bytes) (m : Mem) (o : BankOutcome) (s : State),
    let k : Clause := ⟨0x16, h, args⟩
    let n : Need := { lane := 1200, nvm := 32, deadline := 256 }
    k.clear n s = true → args.length = 8 → num args 4 4 = 0 → s.thal.stage = some m → thallusOk m = true →
      s.prot.personalised = false → s.seeded = true → s.rng.credit ≠ 0 → s.verbUnpublished 0x16 = false →
      exec (.thallusCommit h args o) s = .next
        (k.goesFrom { k.begun n s with rng := s.rng.reserve s.orderNo } n (s.thalSupplied o) (hashedRun fun tk b =>
          (b.push (.thallus tk (b.thal.stage.getD []) b.prot.endorsed o)).done tk []) s)) ∧
  (∀ (tk : Ticket) (m : Mem) (by_ : List Nat) (s : State), s.awake = true → s.prot.personalised = false →
    let seq := (s.thal.seq + 1) % 2 ^ 32
    let nb := newBank "OTHL" 8192 seq s.tick m
    let t := s.act (.thallus tk m by_ .ok)
    let g := s.rng.generatePr tk.order 32 (leN 8 s.tick)
    t.prot.personalised = true ∧ t.ks.rhizome = some g.1 ∧ t.rng = g.2 ∧ t.thal.cur = nb.img ∧ t.prot.highWater = seq ∧
      t.utcFree = true ∧ t.power.resetDue = some (3, s.tick + 8) ∧ t.cfg = s.cfg ∧ t.dir = s.dir ∧ t.cell = s.cell) ∧
  ∀ s : State,
    let unread := ∃ p, ∃ o ∈ (s.port p).outstanding, o.verb = 0x16 ∧ o.admitted = true
    (∀ last, s.power.resetDue = some (3, last) → (¬ unread ∨ last ≤ s.tick) →
      exec .personalisationReset s = .next (s.systemReset 3)) ∧
    ((∀ last, s.power.resetDue = some (3, last) → unread ∧ s.tick < last) →
      exec .personalisationReset s = .next s)

/-- THALLUS_COMMIT and personalisation: together, `ThallusCommitInstallsTheStage` and
`PersonalisationDrawsTheRhizome`. Completes (concludes `exec c s = .next t`): thallusCommit, personalisationReset. -/
def Obligations.ThallusComesIntoForce : Prop :=
  Claim.ThallusCommitInstallsTheStage ∧ Claim.PersonalisationDrawsTheRhizome

/-! ### The air calendar -/

/-- A LINK clause takes the earliest start from the next tick on, within 64 ticks counted from the tick after its
latch, at which its zones are isolated from every overlapping booking, the caps of R95 hold and an engine in service
is free; it takes the lowest-numbered such engine; its deadline is at most 4,096 ticks (R44, R45, R48, R53, R145). A
loopback test holds its engine for its tick (R381). No start before it would do. What the spec leaves open here is
read as log entry 46 says. -/
def Obligations.PlacementIsEarliestAndFree : Prop :=
  ∀ (s : State) (a : Ask) (e f : Nat), s.placeLink a = some (e, f) →
    s.tick < f ∧ f ≤ s.latchTick + 65 ∧ a.deadline (f - s.latchTick - 1) ≤ 4096 ∧ s.fits a f = some e ∧ e < 4 ∧
      s.field.enginesOut.getLsbD e = false ∧
      (∀ b ∈ s.field.bookings, b.overlaps f (f + a.ticks) = true →
        b.engine ≠ e ∧ s.zonesClash a.zones b.zones = false) ∧
      (let tests := fun (g : Nat) => ∃ l ∈ s.field.loops, l.engine = g ∧ ∃ t, l.tick = some t ∧ f ≤ t ∧ t ≤ f + a.ticks
       ¬ tests e ∧ ∀ e', e' < e → s.field.enginesOut.getLsbD e' = true ∨
          (∃ b ∈ s.field.bookings, b.engine = e' ∧ b.overlaps f (f + a.ticks) = true) ∨ tests e') ∧
      ∀ g, s.tick < g → g < f → s.fits a g = none

/-- INVENTORY, AUTHENTICATE and LOCATE of an enabled, live zone take their place in the calendar: the booking runs K
keys of the zone's next round under the drive vector and options named, and is answered when it ends (R45, R46, R131,
R148, R168, R191). Nothing else changes. Completes (concludes `exec c s = .next t`): inventory, authenticate, locate.
-/
def Sys2Proof.Claim.WalkClausesTakeTheirPlace : Prop :=
  ∀ (h : Hdr) (args : Bytes) (s : State) (e f : Nat),
    let z := oct args 0
    let good := fun (kMax : Nat) (a : Ask) =>
      args.length = 8 ∧ zoneEnabled s.cfg.cur z = true ∧ 1 ≤ oct args 1 ∧ oct args 1 ≤ kMax ∧
        s.dvBad z (oct args 2) = false ∧ a.tooLong = false ∧ s.zoneDead z = false ∧ s.lfDead = false ∧
        s.placeLink a = some (e, f)
    let n := fun (lane : Nat) (a : Ask) => ({ lane := lane, deadline := a.deadline (f - s.latchTick - 1) } : Need)
    let dv := if oct args 2 = 0xFF then none else some (oct args 2)
    (let k : Clause := ⟨0x28, h, args⟩
      let a := askInventory args s
      good 16 a → oct args 3 ≤ 1 → num args 4 4 = 0 → k.clear (n 60 a) s = true →
        ∃ t b, exec (.inventory h args) s = .next t ∧ TakesPlace (k.begun (n 60 a) s) e f (f + a.ticks) b t ∧
          b.kind = .inventory ∧ b.zones = [z] ∧ b.keyLimit = oct args 1 ∧ b.ticket = some (k.ticket s) ∧ b.dv = dv ∧
          b.enrolWake = (oct args 3).testBit 0) ∧
    (let k : Clause := ⟨0x29, h, args⟩
      let a := askAuthenticate args s
      good 11 a → 1 ≤ oct args 3 → oct args 3 ≤ 3 → oct args 4 ≤ 7 → (oct args 4 ≤ 1 ∨ oct args 3 = 3) →
        slice args 5 3 = [0#8, 0#8, 0#8] → s.devLockRefuses = false → k.clear (n 80 a) s = true →
        ∃ t b, exec (.authenticate h args) s = .next t ∧ TakesPlace (k.begun (n 80 a) s) e f (f + a.ticks) b t ∧
          b.kind = .authenticate ∧ b.zones = [z] ∧ b.keyLimit = oct args 1 ∧ b.purpose = oct args 3 ∧
          b.ticket = some (k.ticket s) ∧ b.dv = dv ∧ b.repeatOk = (oct args 4).testBit 0 ∧
          b.enrolWake = (oct args 4).testBit 1 ∧ b.noSound = (oct args 4).testBit 2) ∧
    (let k : Clause := ⟨0x2A, h, args⟩
      let a := askLocate args s
      good 2 a → oct args 3 ≤ 7 →
        ((oct args 3).testBit 1 = true → oct args 1 = 1 ∧ (oct args 3).testBit 2 = false ∧ (k.ticket s).sess ≠ none) →
        num args 4 4 = 0 → s.devLockRefuses = false → k.clear (n 100 a) s = true →
        ∃ t b, exec (.locate h args) s = .next t ∧ TakesPlace (k.begun (n 100 a) s) e f (f + a.ticks) b t ∧
          b.kind = .locate ∧ b.zones = [z] ∧ b.keyLimit = oct args 1 ∧ b.purpose = 3 ∧ b.ticket = some (k.ticket s) ∧
          b.dv = dv ∧ b.repeatOk = (oct args 3).testBit 0 ∧ b.calPhase = (oct args 3).testBit 1 ∧
          b.noSound = (oct args 3).testBit 2)

/-- FIELD_VECTOR and AERIAL_CAL take their place in the calendar: the one on its zone for 192 cc, the other on every
zone at the first interval that no booking overlaps (R115, R116). What the spec leaves open here is read as log entry
67 says. Completes (concludes `exec c s = .next t`): fieldVector, aerialCal. -/
def Sys2Proof.Claim.MeasurementsTakeTheirPlace : Prop :=
  ∀ (h : Hdr) (args : Bytes) (s : State) (e f : Nat),
    (let k : Clause := ⟨0x22, h, args⟩
      let z := oct args 0
      let a := askFieldVector args s
      let n : Need := { lane := 120, deadline := a.deadline (f - s.latchTick - 1) }
      args.length = 8 → zoneEnabled s.cfg.cur z = true →
        (oct args 1 = 0 ∧ oct args 2 = 0 ∨
          oct args 1 = 1 ∧ oct args 2 ≤ 15 ∧ (zoneAerials s.cfg.cur z).testBit (oct args 2) = true) →
        num args 3 2 ≤ 1023 → slice args 5 3 = [0#8, 0#8, 0#8] → s.zoneDead z = false → s.lfDead = false →
        s.placeLink a = some (e, f) → k.clear n s = true →
        a.ticks = 6 ∧ ∃ t b, exec (.fieldVector h args) s = .next t ∧ TakesPlace (k.begun n s) e f (f + 6) b t ∧
          b.kind = .fieldVector (oct args 1) (oct args 2) (num args 3 2) ∧ b.zones = [z] ∧ b.ticket = some (k.ticket s)) ∧
    (let k : Clause := ⟨0x23, h, args⟩
      let n : Need := { maint := 30000, deadline := 4096 }
      let mask := num args 0 2
      let len := (64 + 128 * (bitsIn 16 mask).length + 31) / 32
      args.length = 6 → mask ≠ 0 → (∀ i ∈ bitsIn 16 mask, aeEnabled s.cfg.cur i = true) → oct args 2 ≤ 7 →
        byteAt args 3 = 0#8 → num args 4 2 ≤ 1023 → s.lfDead = false → s.placeCal mask = some (e, f) →
        k.clear n s = true →
        (∃ t b, exec (.aerialCal h args) s = .next t ∧ TakesPlace (k.begun n s) e f (f + len) b t ∧
          b.kind = .aerialCal mask (oct args 2) (num args 4 2) ∧ b.zones = List.range 8 ∧
          b.ticket = some (k.ticket s)) ∧
        s.tick < f ∧ f + len ≤ s.latchTick + 4000 ∧ ∀ x ∈ s.field.bookings, x.overlaps f (f + len) = false)

/-- INVENTORY, AUTHENTICATE, LOCATE, FIELD_VECTOR and AERIAL_CAL are booked: together, `WalkClausesTakeTheirPlace` and
`MeasurementsTakeTheirPlace`. Completes (concludes `exec c s = .next t`): inventory, authenticate, locate,
fieldVector, aerialCal. -/
def Obligations.ClausesTakeTheirPlace : Prop :=
  Claim.WalkClausesTakeTheirPlace ∧ Claim.MeasurementsTakeTheirPlace

/-- A poll books exchanges only on zones of its own that are enabled and not dead, later than the present tick, and
changes nothing but the calendar (R19, R29, R45, R110); that it is then its entry's last poll, whose end is still to
come, is noted for HOLDOFF when it has booked a zone (R194, R195). -/
def Sys2Proof.Claim.PollsBookOnlyTheirZones : Prop :=
  ∀ (s : State) (p : Poll), ∃ new : List Booking,
    (s.runPoll p).1 = { s with
      orderNo := s.orderNo + new.length
      field := { s.field with
        bookings := s.field.bookings ++ new, rounds := (s.runPoll p).1.field.rounds
        lastPoll := match p.index with
          | some i => if new = [] then s.field.lastPoll else s.field.lastPoll.set i s.orderNo
          | none => s.field.lastPoll
        pollEnd := match p.index with
          | some i => if new = [] then s.field.pollEnd else s.field.pollEnd.set i none
          | none => s.field.pollEnd } } ∧
    ∀ b ∈ new, ∃ z ∈ p.zones, b.zones = [z] ∧ zoneEnabled s.cfg.cur z = true ∧ s.zoneDead z = false ∧
      s.tick < b.first ∧ b.kind = .authenticate ∧ b.ticket = none ∧ b.phase = .booked ∧ b.keyLimit = p.k ∧
      b.purpose = p.purpose ∧ b.trigger = p.trigger ∧ b.pollPort = p.port ∧ b.index = p.index ∧
      b.poll = s.orderNo

/-- POLL_START books the polled zones, answers the first start, the zones booked and those joined, and replaces the
schedule of its entry, which a period of 0 removes (R196). Completes (concludes `exec c s = .next t`): pollStart. -/
def Sys2Proof.Claim.PollStartSchedules : Prop :=
  ∀ (h : Hdr) (args : Bytes) (s : State),
    let k : Clause := ⟨0x20, h, args⟩
    let n : Need := { lane := 40, deadline := 8 }
    let i := oct args 0
    let period := num args 2 2
    k.clear n s = true → args.length = 8 → i ≤ 6 → num args 4 4 = 0 → (period = 0 ∨ 64 ≤ period) →
      (∀ z ∈ bitsIn 8 (oct args 1), (trigZones s.cfg.cur i).testBit z = true) → trigEn s.cfg.cur i = true →
      s.lfDead = false → s.devLockRefuses = false →
      exec (.pollStart h args) s = .next (k.goes n .nothing (fun tk b =>
        let r := b.runPoll (entryPoll b.cfg.cur i
          (bitsIn 8 (if oct args 1 = 0 then trigZones b.cfg.cur i else oct args 1)) (some tk.port))
        let others := b.field.schedules.filter fun x => x.index != i
        ({ r.1 with field := { r.1.field with
            schedules := if period = 0 then others
              else others ++ [{ port := tk.port, index := i, zones := oct args 1, period := period, due := b.tick + period }] } } :
          State).done tk
          (leN 4 (r.2.first.getD 0) ++ leN 1 r.2.booked ++ leN 1 r.2.joined ++ [0#8, 0#8])) s)

/-- A repetition whose period is over waits for the commit phase (R34, R35). That moves its schedule on by the period;
then its poll runs, unless it is discarded (R28, R176, R357), or held because autonomous polls may not start yet
(R196, R410). Before its period is over it does nothing. That the poll goes by the entry as it stands now, on the
zones that were named, is log entry 78, the model's choice. Completes (concludes `exec c s = .next t`):
pollRepetition. -/
def Sys2Proof.Claim.PollsRepeat : Prop :=
  (∀ (i : Nat) (s : State),
    ((s.awake = false ∨ ∀ x ∈ s.field.schedules, x.index = i → s.tick < x.due) → exec (.pollRepetition i) s = .next s) ∧
    (s.awake = true → (∃ x ∈ s.field.schedules, x.index = i ∧ x.due ≤ s.tick) →
      exec (.pollRepetition i) s = .next (s.push (.repetition i)))) ∧
  ∀ (i : Nat) (x : Schedule) (s : State), s.awake = true → (s.field.schedules.find? fun x => x.index == i) = some x →
    let moved := s.onSchedule i fun x => { x with due := x.due + x.period }
    (s.tick < x.due → s.act (.repetition i) = s) ∧
    (x.due ≤ s.tick →
      (s.pollsDiscarded = true → s.act (.repetition i) = moved) ∧
      (s.pollsDiscarded = false → s.mayPoll = false →
        s.act (.repetition i) = moved.onSchedule i fun x => { x with held := true }) ∧
      (s.pollsDiscarded = false → s.mayPoll = true → x.held = true → s.act (.repetition i) = moved) ∧
      (s.pollsDiscarded = false → s.mayPoll = true → x.held = false →
        s.act (.repetition i) = (moved.runPoll (entryPoll s.cfg.cur i
          (bitsIn 8 (if x.zones = 0 then trigZones s.cfg.cur i else x.zones)) (some x.port))).1)) ∧
    (s.mayPoll = true ↔ s.seeded = true ∧ ∀ t, s.power.servicesTick = some t → t < s.tick)

/-- POLL_STOP ends the schedules it names, withdraws their bookings before the first start gap, stops those on air
after the present key, and answers how many of each; other bookings stay (R146, R147, R197). Completes (concludes
`exec c s = .next t`): pollStop. -/
def Sys2Proof.Claim.PollStopWithdraws : Prop :=
  ∀ (h : Hdr) (args : Bytes) (s : State),
    let k : Clause := ⟨0x21, h, args⟩
    let n : Need := { lane := 20, deadline := 8 }
    let i := oct args 0
    let named := fun (x : Nat) => i = 0xFF ∨ x = i
    let mine := fun (b : Booking) => b.pollPort ≠ none ∧ (∃ x, b.index = some x ∧ named x) ∧ b.endCode = none
    let early := fun (b : Booking) => mine b ∧ (b.phase = .booked ∨ b.phase = .lead)
    k.clear n s = true → args.length = 4 → (i ≤ 6 ∨ i = 0xFF) → slice args 1 3 = [0#8, 0#8, 0#8] →
      ∃ (stop : State → State) (nSched nEarly nLate : State → Nat),
        exec (.pollStop h args) s = .next (k.goes n .nothing (fun tk b =>
          (stop b).done tk (leN 1 (nSched b) ++ leN 1 (nEarly b) ++ leN 1 (nLate b) ++ [0#8])) s) ∧
        ∀ b : State,
          let t := stop b
          t.portA.stagedReplies = b.portA.stagedReplies ∧ t.portB.stagedReplies = b.portB.stagedReplies ∧
          t.cfg = b.cfg ∧ t.dir = b.dir ∧ t.cell = b.cell ∧ t.motion = b.motion ∧ t.ses = b.ses ∧ t.tick = b.tick ∧
          t.acts = b.acts ∧ (∀ x, x ∈ t.field.schedules ↔ x ∈ b.field.schedules ∧ ¬ named x.index) ∧
          b.field.schedules.length = nSched b + t.field.schedules.length ∧
          nEarly b = (b.field.bookings.filter fun x => x.pollPort.isSome && stopMatches i x.index && x.endCode.isNone &&
            (x.phase == .booked || x.phase == .lead)).length ∧
          nLate b = (b.field.bookings.filter fun x => x.pollPort.isSome && stopMatches i x.index && x.endCode.isNone &&
            x.phase == .running).length ∧
          (∀ x ∈ b.field.bookings, early x → ∀ y ∈ t.field.bookings, y.id ≠ x.id) ∧
          (∀ x ∈ b.field.bookings, ¬ (∃ c ∈ b.field.bookings, mine c ∧ (c.id = x.id ∨ c.engine = x.engine)) →
            x ∈ t.field.bookings)

/-- POLL_START, repetitions and POLL_STOP: together, `PollsBookOnlyTheirZones` and `PollStartSchedules` and
`PollsRepeat` and `PollStopWithdraws`. Completes (concludes `exec c s = .next t`): pollStart, pollRepetition,
pollStop. -/
def Obligations.PollsAreScheduled : Prop :=
  Claim.PollsBookOnlyTheirZones ∧ Claim.PollStartSchedules ∧ Claim.PollsRepeat ∧ Claim.PollStopWithdraws

/-! ### Exchanges on air -/

/-- BOOKING_START: an engine that is free begins the carrier lead of its next booking whose first tick has come: the
drive, the descriptors and the limits are copied, its channels are driven, the frames that open it are queued, to go
once this tick is published, and the bookings of polls that join one now running are withdrawn (R29, R35, R90, R102,
R117, R130, R131, R146; which polls join is log entry 69). In an arbitration tick, once SLEEP is published, and in
every other case nothing happens (R367, R415). Completes (concludes `exec c s = .next t`): bookingStart. -/
def Obligations.BookingsStart : Prop :=
  ∀ (e : Nat) (s : State),
    ((s.dueBooking e = none ∨ s.power.life ≠ .awake ∨ s.arbitrationTick = true ∨ s.current e ≠ none) →
      exec (.bookingStart e) s = .next s) ∧
    ∀ b, s.dueBooking e = some b → s.power.life = .awake → s.arbitrationTick = false → s.current e = none → s.lfDead = false →
      (b.kind.measures = true ∨ s.zoneDead b.zone = false) → b.reader = none →
      let gone := fun (x : Booking) =>
        b.isPoll = true ∧ x.joins = true ∧ x.phase = .booked ∧ x.id ≠ b.id ∧ x.zones = b.zones
      b.engine = e ∧ b.first ≤ s.tick ∧ b.phase = .booked ∧
      ∃ t, exec (.bookingStart e) s = .next t ∧
        t = { s with field := { s.field with bookings := t.field.bookings, ch := t.field.ch, pollEnd := t.field.pollEnd }
                     prot := { s.prot with oldTables := t.prot.oldTables }
                     power := { s.power with newClamp := t.power.newClamp } } ∧
        (∀ x ∈ s.field.bookings, gone x → ∀ y ∈ t.field.bookings, y.id ≠ x.id) ∧
        (∀ x ∈ s.field.bookings, x.id ≠ b.id → (∀ y ∈ s.field.bookings, y.id = x.id → ¬ gone y) →
          ∃ l, { x with foreign := x.foreign ++ l } ∈ t.field.bookings ∧ (x.await ≠ .response → l = [])) ∧
        ∃ x, t.current e = some x ∧ x.id = b.id ∧ x.drive = s.driveFor b ∧ x.copied = s.cfg.cur ∧ x.ss = s.supplyScale ∧
          x.aerials = s.zoneLive b.zone ∧ x.phase = .lead ∧ x.cut = s.power.supplyOff ∧ x.planned = some s.tick ∧
          (∀ d ∈ x.atLead, d.1 < s.field.ch.length → (t.field.ch.getD d.1 {}).driven = true) ∧
          x.todo = (if b.isWalk then [.wake (if b.enrolWake then 0 else vehicleGroup s.cfg.cur), .inventoryBegin b.round]
            else [])

/-- Gain and trim of a channel at the end of the lead or in a settle: the gain that the booking or another running one
holds, the fixed one, or the highest that leaves the input below half of full scale, which the booking then holds; the
trim is minus the phase error, clamped to 32 steps, and is set once (R98, R101, R117; whose gain a shared receiver has
is log entry 66). Completes (concludes `exec c s = .next t`): gainAndTrimSet. -/
def Sys2Proof.Claim.GainAndTrimAreSet : Prop :=
  ∀ (e : Nat) (m : LeadMeasure) (s : State),
    (s.current e = none → exec (.gainAndTrimSet e [m]) s = .next s) ∧
    ∀ b c, s.current e = some b →
      (b.settles s.tick = false → exec (.gainAndTrimSet e [m]) s = .next s) ∧
      (b.settles s.tick = true → s.settling b m.channel = true → s.field.ch[m.channel]? = some c →
        let others := s.field.bookings.findSome? fun x => if x.phase = .booked then none else x.gainOf m.channel
        let tuned := c.driven = true ∧ b.settled = false ∧ ∃ d ∈ b.drive, d.1 = m.channel
        ∃ t c' b', exec (.gainAndTrimSet e [m]) s = .next t ∧ t.current e = some b' ∧
          t = { s with field := { s.field with ch := s.field.ch.set m.channel c', bookings := t.field.bookings }
                       power := { s.power with newClamp := t.power.newClamp } } ∧
          c' = { c with gain := c'.gain, trim := c'.trim, status := c'.status } ∧
          b' = { b with gains := b'.gains, failed := b'.failed, settled := true } ∧
          b'.gainOf m.channel = some c'.gain ∧
          (∀ x ∈ s.field.bookings, x.engine ≠ e ∨ x.phase = .booked → x ∈ t.field.bookings) ∧
          (∀ g, b.gainOf m.channel = some g → c'.gain = g) ∧
          (∀ g, b.gainOf m.channel = none → others = some g → c'.gain = g) ∧
          (others = none → b.gainOf m.channel = none →
            (rxGainMode b.copied ≠ 0 → c'.gain = rxGainMode b.copied - 1) ∧
            (rxGainMode b.copied = 0 → c'.gain ≤ 3 ∧ (c'.gain ≠ 0 → m.inputPermille * 4 ^ c'.gain < 500) ∧
              (c'.gain < 3 → 500 ≤ m.inputPermille * 4 ^ (c'.gain + 1)))) ∧
          (¬ tuned → c'.trim = c.trim) ∧
          (tuned → (∃ mask o a, b.kind = .aerialCal mask o a) ∨ aeTrimPinned b.copied m.channel = false →
            c'.trim = max (-32) (min 32 (-m.phaseError))))

/-- The amplitude loop: a driven channel's current is what the last carrier cycle showed; where a booking that may
adjust drives it, its angle too, and CLAMPED is set at the largest angle more than 3 % below the target; a channel
driven at 0 shows nothing. The supply scale is computed anew from those currents, and bookings that may adjust take it
(R99, R102 to R104, R115). What the spec leaves open here is read as log entries 28, 47 say. Completes (concludes
`exec c s = .next t`): amplitudeLoopUpdate. -/
def Sys2Proof.Claim.AmplitudeLoopAdjusts : Prop :=
  ∀ (m : LoopMeasure) (s : State),
    (s.awake = false → exec (.amplitudeLoopUpdate [m]) s = .next s) ∧
    ∀ c, s.awake = true → s.field.ch[m.channel]? = some c → c.driven = true →
      let adjustable := ∃ b ∈ s.field.bookings, b.adjusts s.tick = true ∧ ∃ d ∈ b.drive, d.1 = m.channel
      let based := ∃ b ∈ s.field.bookings, b.adjusts s.tick = true ∧ ∃ x ∈ b.base, x.1 = m.channel
      let low := m.angle = 128 ∧ 100 * (m.current * 2 ^ 24) < 97 * c.target
      ∃ (t : State) (c1 c' : Channel), exec (.amplitudeLoopUpdate [m]) s = .next t ∧ t.field.ch[m.channel]? = some c' ∧
        (c.target = 0 → c1 = c) ∧
        (c.target ≠ 0 → ¬ adjustable → c1 = { c with current := m.current }) ∧
        (c.target ≠ 0 → adjustable → c1 = { c with
          current := m.current, angle := m.angle, status := if low then c.status ||| 1#8 else c.status }) ∧
        t.field.scale = State.supplyScale { s with field := { s.field with ch := s.field.ch.set m.channel c1 } } ∧
        t.field.scale ≤ 256 ∧ c'.angle = c1.angle ∧ c'.status = c1.status ∧ (¬ based → c' = c1) ∧
        (t.field.scale ≠ 0 → c'.current = c1.current) ∧ (based → t.field.scale = 0 → c'.current = 0) ∧
        t = { s with field := { s.field with ch := t.field.ch, bookings := t.field.bookings, scale := t.field.scale }
                     power := { s.power with newClamp := t.power.newClamp } } ∧
        (∀ b ∈ s.field.bookings, b.adjusts s.tick = false → b ∈ t.field.bookings) ∧
        ∀ b ∈ t.field.bookings, b.adjusts s.tick = true → b.ss = t.field.scale

/-- An open aerial found at the end of a lead or of a calibration's settle, and the third overcurrent trip of a
channel within its booking, put the channel out of service with its fault bit, undriven, and queue an AERIAL_FAULT
record, unless it is out of service already; an exchange of a zone that has thereby no live channel left ends with END
0x06 from the following tick on, a key it handles having the outcome AIR_FAIL, and the exchanges of other zones go on
(R108, R109, R110, R111; the tests of a calibration are log entry 66). Completes (concludes `exec c s = .next t`):
openAerialDetect, aerialOvercurrent. -/
def Sys2Proof.Claim.FaultyChannelsGoOut : Prop :=
  ∀ (e n current : Nat) (k : ShortKind) (b : Booking) (c : Channel) (s : State),
    s.current e = some b → s.field.ch[n]? = some c →
      let left := fun (x : Booking) => ∃ a ∈ bitsIn 16 (zoneAerials x.copied x.zone), a ≠ n ∧ s.oos a = false
      let ends := fun (t : State) => ∀ e' x, e' < 4 → s.current e' = some x → x.kind.measures = false →
        (∀ y ∈ s.field.bookings, y.id = x.id → y = x) →
          (left x → t.current e' = some x) ∧
          (¬ left x → x.await ≠ .verdict → ∃ y, t.current e' = some y ∧ y.endCode = some 6 ∧ y.phase = .ending ∧ y.todo = [] ∧
            y.await = .nothing ∧ y.cur = none ∧ s.tick + 1 ≤ y.endFrom ∧
            y.records = x.records ++ (x.cur.map fun c => c.plain 7).toList) ∧
          (¬ left x → x.await = .verdict → ∃ y, t.current e' = some y ∧ y.endCode = some (x.endCode.getD 6) ∧ y.todo = [] ∧
            y.await = .verdict ∧ y.records = x.records)
      let sound := b.isExchange = true ∧ b.noSound = false ∧ n ∈ b.aerials
      let drives := c.driven = true ∧ ∃ d ∈ b.drive, d.1 = n
      let out := fun (fault : Byte) (t : State) =>
        (∃ c', t.field.ch[n]? = some c' ∧ c'.status = c.status ||| 0x80#8 ||| fault ∧ c'.driven = false ∧ c'.target = 0) ∧
        (s.oos n = false → ∃ more, t.log.waiting =
          (s.note 0x20 (leN 1 n ++ [c.status ||| 0x80#8 ||| fault] ++ leN 1 e)).log.waiting ++ more) ∧
        (s.oos n = false → ends t) ∧
        (s.oos n = true → t = { s with field := { s.field with ch := t.field.ch, bookings := t.field.bookings } }) ∧
        t = { s with field := t.field, log := t.log, ks := t.ks, portA := t.portA, portB := t.portB }
      (drives → (b.phase = .lead ∨ (∃ mask o a, b.kind = .aerialCal mask o a) ∧ b.settles s.tick = true) →
        c.angle = 128 → 4 * (current * 2 ^ 24) < c.target →
        ∃ t, exec (.openAerialDetect e n current) s = .next t ∧ out 0x40#8 t) ∧
      ((c.angle ≠ 128 ∨ c.target ≤ 4 * (current * 2 ^ 24) ∨ ¬ drives) → exec (.openAerialDetect e n current) s = .next s) ∧
      (drives ∨ sound → 2 ≤ c.trips → ∃ t, exec (.aerialOvercurrent e n k) s = .next t ∧ out (shortBit k) t) ∧
      (drives ∨ sound → c.trips < 2 → exec (.aerialOvercurrent e n k) s = .next
        { s with field := { s.field with ch := s.field.ch.set n { c with trips := c.trips + 1 } } }) ∧
      (¬ drives → ¬ sound → exec (.aerialOvercurrent e n k) s = .next s)

/-- Gain, trim, the amplitude loop and aerial faults: together, `GainAndTrimAreSet` and `AmplitudeLoopAdjusts` and
`FaultyChannelsGoOut`. Completes (concludes `exec c s = .next t`): gainAndTrimSet, amplitudeLoopUpdate,
openAerialDetect, aerialOvercurrent. -/
def Obligations.LoopsAndAerialFaultsAct : Prop :=
  Claim.GainAndTrimAreSet ∧ Claim.AmplitudeLoopAdjusts ∧ Claim.FaultyChannelsGoOut

/-- The frames of an exchange are sent in order while no reply is awaited: those that the engine makes itself at once,
those that the lanes hand over once the tick that did so is published (R35, R144). A frame that solicits a reply makes
the exchange await it; its bits on air are those of Table 05.4 (R120, R127). What the spec leaves open here is read as
log entry 21 says. Completes (concludes `exec c s = .next t`): downlinkFrameSent. -/
def Sys2Proof.Claim.FramesAreSentInOrder : Prop :=
  ∀ (e : Nat) (cur : List (Int × Int)) (s : State) (b : Booking), s.current e = some b →
    let may := fun (f : Frame) => b.await = .nothing ∧ (b.byHardware f = true ∨ ∀ p, b.planned = some p → p < s.tick)
    (b.todo = [] → exec (.downlinkFrameSent e cur) s = .next s) ∧
    (∀ f rest, b.todo = f :: rest → ¬ may f → exec (.downlinkFrameSent e cur) s = .next s) ∧
    ∀ f rest, b.todo = f :: rest → may f →
      let sounds := ∃ n, f = .sound n
      ∃ t b', exec (.downlinkFrameSent e cur) s = .next t ∧ t.current e = some b' ∧
        t = { s with field := { s.field with bookings := t.field.bookings }
                     power := { s.power with newClamp := t.power.newClamp } } ∧
        (¬ sounds → ExchangeBecomes s e b' t) ∧
        (∀ x ∈ s.field.bookings, x.engine ≠ e ∨ x.phase = .booked →
          ∃ l, { x with foreign := x.foreign ++ l } ∈ t.field.bookings ∧ (x.await ≠ .response → l = [])) ∧
        b' = { b with
          todo := rest, sent := some f, air := f.bits b.group b.selected, phase := b'.phase, bits := b'.bits, await := b'.await
          cur := b'.cur, steps := b'.steps, sounding := b'.sounding, foreign := b'.foreign } ∧
        b'.await = (match f with
          | .inventoryBegin _ => .stream 0 []
          | .treeBit k v => .stream (k + 1) (b.bits.take k ++ [v])
          | .select _ => .selectStatus
          | .challenge _ => .response
          | .mailboxRead _ _ _ | .mailboxWrite _ _ _ _ => .readerReply
          | .harvest _ => .harvestReply
          | .wake _ | .sound _ | .confirm _ | .quiet _ | .stopGap => .nothing) ∧
        b'.phase = (match f with
          | .wake _ => if b.phase = .lead then .running else b.phase
          | _ => b.phase) ∧
        b'.bits = (match f with
          | .inventoryBegin _ => []
          | _ => b.bits) ∧
        b'.cur = (match f with
          | .sound _ => b.cur.map fun c => { c with sounded := true }
          | _ => b.cur) ∧
        (sounds → b'.steps.map Burst.aerial = b.aerials ∧ b'.sounding.length = b.aerials.length ∧
          ∀ x ∈ b'.steps,
            let a := min (aeSoundAmp b.copied x.aerial) (aeAmpCap b.copied x.aerial)
            x.phase = 0 ∧ x.target = if s.liveIn b.copied x.aerial then
              a * capScale (zoneCap b.copied b.zone) a * capScale (totalCap b.copied) a * b.ss else 0) ∧
        (¬ sounds → b'.steps = b.steps ∧ b'.sounding = b.sounding)

/-- The identifier walk: valid cells up to bit 63 complete the identifier, which an INVENTORY quiets at once, before
it goes on or ends on its key limit; a collided cell makes the walk branch to 0 at its bit; a void or missing cell
ends the exchange with END 0x02; a stop gap goes first while the stream still runs; a stream without a preamble is a
silent reply (R124, R132 to R135, R144). Completes (concludes `exec c s = .next t`): identifierStream. -/
def Sys2Proof.Claim.IdentifierWalkSteps : Prop :=
  ∀ (e k : Nat) (pre vs : List Bool) (rest : List CellClass) (r : Uplink) (s : State) (b : Booking),
    s.current e = some b →
      ((∀ k' pre', b.await ≠ .stream k' pre') → exec (.identifierStream e r) s = .next s) ∧
      (b.await = .stream k pre → k ≤ 64 →
      let cells := vs.map fun v => if v then CellClass.one else .zero
      let heard := b.heard ++ [(identOf (pre ++ vs.take (64 - k)), s.streamPhase b r)]
      let lost : Booking := { b with
        endCode := some 2, phase := .ending, await := .nothing
        todo := if k + vs.length ≤ 61 then [.stopGap] else [] }
      let becomes := fun (b' : Booking) =>
        ∃ t, exec (.identifierStream e r) s = .next t ∧ ExchangeBecomes (s.senseReply b r) e b' t
      (s.acquire b r = none → exec (.identifierStream e r) s = exec (.silentReply e) s) ∧
      (s.acquire b r = some (cells ++ rest) → 64 ≤ k + vs.length →
        (b.kind ≠ .inventory → becomes { b with bits := pre ++ vs.take (64 - k), await := .lookup }) ∧
        (b.kind = .inventory → b.found.length + heard.length < b.keyLimit → becomes
          { b with
            bits := pre ++ vs.take (64 - k), heard := heard, await := .nothing
            todo := [.quiet false, .inventoryBegin b.round] }) ∧
        (b.kind = .inventory → b.keyLimit ≤ b.found.length + heard.length → becomes
          { b with
            bits := pre ++ vs.take (64 - k), heard := heard, await := .nothing, endCode := some 1, phase := .ending
            todo := [.quiet false] })) ∧
      (k + vs.length < 64 →
        (s.acquire b r = some (cells ++ .collided :: rest) → becomes
          { b with
            bits := pre ++ vs, collisions := b.collisions + 1, await := .nothing
            todo := (if k + vs.length ≤ 61 then [.stopGap] else []) ++ [.treeBit (k + vs.length) false] }) ∧
        (s.acquire b r = some (cells ++ .void :: rest) → becomes lost) ∧
        (s.acquire b r = some cells → becomes lost)))

/-- A silent reply ends a walk at its opening (END 0x00), is a walk error later (END 0x02), and where the supply
ceiling has cut the carrier ends it with END 0x06; it repeats CHALLENGE once with a fresh nonce where that is
permitted and else ends the exchange with END 0x06, or, asked to stop by R164, with END 0x07 after a last QUIET (log
entry 70), the key having the outcome AIR_FAIL; and it fails a reader exchange (R124, R133, R135, R143, R163, R268,
R404). Completes (concludes `exec c s = .next t`): silentReply. -/
def Sys2Proof.Claim.SilenceEndsOrRepeats : Prop :=
  ∀ (e : Nat) (s : State) (b : Booking), s.current e = some b →
    (∀ pre, b.await = .stream 0 pre → b.cur = none →
      ∃ t, exec (.silentReply e) s = .next t ∧ ExchangeEnds s e (if b.cut then 6 else 0) b t) ∧
    (∀ k pre, b.await = .stream (k + 1) pre → b.cur = none →
      ∃ t, exec (.silentReply e) s = .next t ∧ ExchangeEnds s e (if b.cut then 6 else 2) b t) ∧
    (∀ c, b.await = .response → b.cur = some c → b.endCode = none →
      let nonce : BitVec 64 := BitVec.ofNat 64 (ofBe (s.draw .link 8).1)
      let failed := fun (t : State) (b' : Booking) => exec (.silentReply e) s = .next t ∧ t.current e = some b' ∧ b'.cur = none ∧
        b'.await = .nothing ∧ b'.phase = .ending ∧ b'.records = b.records ++ [c.plain 7] ∧
        t.log = (s.authRecord b (c.plain 7) c.tag 0).log ∧ t.cell = s.cell ∧ t.ses = s.ses ∧ t.rng = s.rng
      (b.repeatOk = true → c.repeated = false → ∃ t, exec (.silentReply e) s = .next t ∧
        ExchangeBecomes (s.draw .link 8).2 e
          { b with cur := some { c with nonce := nonce, repeated := true }, await := .nothing, todo := [.challenge nonce] } t) ∧
      ((b.repeatOk = false ∨ c.repeated = true) → b.stopping = none →
        ∃ t b', failed t b' ∧ b'.endCode = some 6 ∧ b'.todo = [] ∧ t.ks.requests = s.ks.requests.filter fun r => r.engine != e) ∧
      ((b.repeatOk = false ∨ c.repeated = true) → b.stopping ≠ none →
        ∃ t b', failed t b' ∧ b'.endCode = some 7 ∧ b'.todo = [.quiet true] ∧ b'.planned = some s.tick)) ∧
    (∀ r, (b.await = .selectStatus ∨ b.await = .readerReply ∨ b.await = .harvestReply) → b.reader = some r →
      ∃ t, exec (.silentReply e) s = .next t ∧ ExchangeBecomes s e
        { b with
          endCode := some 6, phase := .ending, todo := [], await := .nothing
          reader := some (if b.await = .selectStatus then { r with selectSilent := true, done := true }
            else { r with invalid := true, done := true }) } t) ∧
    ((b.await = .nothing ∨ b.await = .lookup ∨ b.await = .verdict) → exec (.silentReply e) s = .next s)

/-- An engine whose spore request has run out ends its exchange with END 0x05 at the commit phase and releases what it
holds, an AUTHENTICATE being answered TIMEOUT_HOST, and before that nothing happens; a frame not handed over in time
ends the exchange with END 0x06, to be booked once more, and is noted for the TAKEOVER record, a reply already
received being judged first; a lost engine is out of service and recorded (R22, R371, R378). What the spec leaves open
here is read as log entries 21, 51 say. Completes (concludes `exec c s = .next t`): sporeTimeout, handoverMissed,
linkEngineFault. -/
def Sys2Proof.Claim.ExchangesTimeOut : Prop :=
  ∀ (e : Nat) (s : State),
    ((s.awake = false ∨ ∀ r ∈ s.ks.requests, r.engine = e → s.tick ≤ r.deadline) →
      exec (.sporeTimeout e) s = .next s) ∧
    (s.awake = true → (∃ r ∈ s.ks.requests, r.engine = e ∧ r.deadline < s.tick) →
      exec (.sporeTimeout e) s = .next (s.push (.hostSilent e))) ∧
    (∀ b c tk, s.awake = true → s.current e = some b → b.cur = some c → b.ticket = some tk → b.kind = .authenticate →
      b.await ≠ .verdict → b.aborted = false → b.records = [] →
      b.calWrite = none → (∃ r ∈ s.ks.requests, r.engine = e ∧ r.deadline < s.tick) → s.ks.work = [] →
      let k : KeyRec := { ident := c.ident, outcome := 6, slotGen := c.gen, flags := c.flags false }
      ∃ (u : State) (b' : Booking), u.current e = some b' ∧ b'.id = b.id ∧
        s.act (.hostSilent e) = (u.release b').reply tk 0x23
          (leN 1 1 ++ leN 1 5 ++ leN 1 b.round ++ leN 1 b.purpose ++ leN 2 b.session ++ k.bytes) ∧
        (∀ r ∈ u.ks.requests, r.engine ≠ e) ∧ (∀ x ∈ (u.release b').field.bookings, x.id ≠ b.id) ∧
        u.cell = s.cell ∧ u.ses = s.ses ∧ u.cfg = s.cfg ∧ u.dir = s.dir ∧ u.motion = s.motion) ∧
    (s.current e = none → exec (.handoverMissed e) s = .next s) ∧
    (∀ b, s.current e = some b →
      let lanes : Lanes := { s.lanes with handoverMask := s.lanes.handoverMask ||| 2 ^ e }
      (b.phase = .lead → exec (.handoverMissed e) s = .next s) ∧
      (b.phase ≠ .lead → b.await ≠ .response → b.await ≠ .verdict →
        ∃ t b', exec (.handoverMissed e) s = .next t ∧ t.current e = some b' ∧ b'.endCode = some 6 ∧ b'.again = true ∧
          b'.todo = [] ∧ t.lanes = lanes ∧ t.cell = s.cell ∧ t.cfg = s.cfg ∧ t.motion = s.motion) ∧
      (b.phase ≠ .lead → (b.await = .response ∨ b.await = .verdict) →
        ∃ t, exec (.handoverMissed e) s = .next { t with lanes := lanes } ∧
          ExchangeBecomes s e { b with endCode := some 6, phase := .ending, todo := [], again := true } t)) ∧
    (s.awake = false → exec (.linkEngineFault e) s = .next s) ∧
    (s.awake = true → e < 4 → s.field.enginesOut.getLsbD e = false →
      ∃ t more, exec (.linkEngineFault e) s = .next t ∧ t.field.enginesOut = s.field.enginesOut ||| (1#4 <<< e) ∧
        t.log.waiting = (s.note 0x73 (leN 1 e ++ leN 1 (((s.current e).map Booking.zone).getD 0xFF) ++ zeros 2 ++
          leN 8 s.tick)).log.waiting ++ more ∧
        (∀ b, s.current e = some b → (∀ x ∈ s.field.bookings, x.phase = .booked → x.id ≠ b.id) →
          ∃ b', t.current e = some b' ∧ b'.endFrom = s.tick + 1 ∧ b'.ended s.tick = false) ∧
        t = { s with field := t.field, log := t.log, ks := t.ks, portA := t.portA, portB := t.portB })

/-- Downlink frames, the identifier walk, silence, timeouts and lost engines: together, `FramesAreSentInOrder` and
`IdentifierWalkSteps` and `SilenceEndsOrRepeats` and `ExchangesTimeOut`. Completes (concludes `exec c s = .next t`):
downlinkFrameSent, identifierStream, silentReply, sporeTimeout, handoverMissed, linkEngineFault. -/
def Obligations.WalksGoOnAirInOrder : Prop :=
  Claim.FramesAreSentInOrder ∧ Claim.IdentifierWalkSteps ∧ Claim.SilenceEndsOrRepeats ∧ Claim.ExchangesTimeOut

/-- What the lanes do with identifiers waits for the commit phase of a published tick. Those that an INVENTORY has
heard are listed, ENROLLED where the directory has an entry for them; in an exchange an unknown, revoked or locked one
is recorded and quieted, a crown or ordinary token challenged with a nonce drawn from the link-engine wire, behind its
sounding sequence of one step less than STEPS, the ordinary one with a spore request of 24 ticks, of which the port of
its clause or poll or else every port that asks for it has a notice, the crown one with its key in a device slot; a
crown token whose key cannot be derived has the outcome AIR_FAIL (R20, R34, R35, R134, R139, R148, R153, R155, R161,
R163). What the spec leaves open here is read as log entry 39 says. Completes (concludes `exec c s = .next t`):
identifierComplete. -/
def Obligations.IdentifiersAreLookedUp : Prop :=
  ∀ (e : Nat) (s : State) (b : Booking), s.current e = some b →
    let i := identOf b.bits
    let z := s.act (.lookup e)
    let nonce : BitVec 64 := BitVec.ofNat 64 (ofBe (s.draw .link 8).1)
    let opens : List Frame := (if b.noSound then [] else [.sound (b.aerials.length - 1)]) ++ [.challenge nonce]
    let asked := fun (p : PortId) => if s.sporePort b p then [(i, s.tick + 24, e)] else []
    let quieted := fun (outcome : Nat) => ∃ b', z.current e = some b' ∧ b'.cur = none ∧ b'.planned = some s.tick ∧
      b'.records = b.records ++ [{ ident := i, outcome := outcome }] ∧
      (b.endCode = none → b'.todo.head? = some (.quiet false)) ∧
      (s.log.begun = true → ∃ w, z.log.waiting = s.log.waiting ++ [w] ∧ w.typ = 0x10 ∧ w.cls = .auth e ∧
        w.body.take 9 = leN 8 i.toNat ++ leN 1 outcome) ∧
      z = { s with field := { s.field with bookings := z.field.bookings }, log := z.log }
    ((b.kind = .inventory ∨ b.await = .lookup) → exec (.identifierComplete e) s = .next (s.push (.lookup e))) ∧
    (b.kind ≠ .inventory → b.await ≠ .lookup → exec (.identifierComplete e) s = .next s) ∧
    (s.awake = true → b.kind = .inventory → ExchangeBecomes s e
      { b with
        heard := []
        found := b.found ++ b.heard.map fun h => (h.1, s.dir.any (fun x => x.2.ident == h.1), h.2) } z) ∧
    (s.awake = true → b.await = .lookup → b.kind ≠ .inventory →
      (∀ o en, s.lookup i = (o, en) → o = .unknown ∨ o = .revoked ∨ o = .locked → quieted o.outcome) ∧
      (∀ en, s.lookup i = (.ordinary, some en) → b.hostSilent = true → quieted 8) ∧
      (∀ en, s.lookup i = (.ordinary, some en) → b.hostSilent = false →
        ∃ b' c, z.current e = some b' ∧ b'.cur = some c ∧ c.ident = i ∧ c.entry = some en ∧ c.slot = none ∧ c.nonce = nonce ∧
          c.repeated = false ∧ c.sounded = false ∧ b'.await = .nothing ∧ b'.planned = some s.tick ∧ b'.todo = opens ∧
          z.ks = { s.ks with requests := s.ks.requests ++ [⟨i, e, s.tick + 24⟩] } ∧
          (∀ p, z.port p = { s.port p with stagedSpores := (s.port p).stagedSpores ++ asked p }) ∧
          z.rng = (s.draw .link 8).2.rng ∧ z.cell = s.cell ∧ z.ses = s.ses ∧ z.cfg = s.cfg ∧ z.dir = s.dir ∧ z.log = s.log) ∧
      (∀ en, s.lookup i = (.crown, some en) → s.cipher.loses (.crown e) = false →
        ∃ b' c, z.current e = some b' ∧ b'.cur = some c ∧ c.ident = i ∧ c.entry = some en ∧ c.slot = some s.ks.freeSlot ∧
          c.nonce = nonce ∧ b'.await = .nothing ∧ b'.planned = some s.tick ∧ b'.todo = opens ∧
          (s.ks.freeSlot < s.ks.slots.length → ∃ k, (z.ks.slot s.ks.freeSlot).content = some k ∧ k.kind = 1 ∧
            k.owner = some e ∧ k.key = s.crownToken en ∧ k.token = en.ident) ∧
          (∀ n, n ≠ s.ks.freeSlot → z.ks.slot n = s.ks.slot n) ∧ z.ks.requests = s.ks.requests ∧ z.portA = s.portA ∧
          z.portB = s.portB ∧ z.rng = (s.draw .link 8).2.rng ∧ z.cell = s.cell ∧ z.dir = s.dir ∧ z.log = s.log) ∧
      (∀ en, s.lookup i = (.crown, some en) → s.cipher.loses (.crown e) = true →
        ∃ b' c, z.current e = some b' ∧ b'.cur = none ∧ b'.endCode = some 6 ∧ b'.phase = .ending ∧ b'.todo = [] ∧
          b'.records = b.records ++ [c] ∧ c.ident = i ∧ c.outcome = 7 ∧ z.cell = s.cell ∧ z.dir = s.dir))

/-- A valid response waits for the commit phase of its tick; a silent or invalid one fails as silence does; none can
be heard while a spore request of its engine is unsettled (R22, R124, R143, R161). Completes (concludes `exec c s =
.next t`): responseReceived. -/
def Sys2Proof.Claim.ResponsesWaitForTheCommit : Prop :=
  ∀ (e : Nat) (r : Uplink) (s : State) (b : Booking) (c : CurKey) (en : Entry),
    s.current e = some b → b.cur = some c → c.entry = some en →
      let steps := if c.sounded then b.aerials.length else 0
      (b.await ≠ .response → exec (.responseReceived e r) s = .next s) ∧
      (b.await = .response → (∃ q ∈ s.ks.requests, q.engine = e) → exec (.responseReceived e r) s = .next s) ∧
      (b.await = .response → (∀ q ∈ s.ks.requests, q.engine ≠ e) →
        let u := s.senseReply b r
        (u.readResponse b steps en.macLength r = none →
          exec (.responseReceived e r) s = exec (.silentReply e) u) ∧
        ∀ y, u.readResponse b steps en.macLength r = some y →
          ∃ t, exec (.responseReceived e r) s = .next (t.push (.judge e y)) ∧
            ExchangeBecomes { u with freeCtr := s.freeCtr + 1 } e { b with await := .verdict } t)

/-- The relay checks of a verified MAC, in their order: the reply phase, both of its deviations within the token's
window, or with PHASE_CAL clear within 64 steps more where the thallus allows it; the reciprocity residual of a
sounded exchange, at most RECIP_THRESH; a failure of either is RELAY_SUSPECT, before the privilege is looked at. The
location is that of the nearest point of each class on the zone, the lower index first on a tie: INSIDE or OUTSIDE
where its distance is at most MATCH_MAX and MARGIN nearer than the other, INDETERMINATE else, and always so without an
atlas or under a vector other than the zone's. PHASE_DEV is the deviation of the larger magnitude, dev_pre on a tie.
The residual is blind to a common factor (R162, R183, R185, R187, R188, Tables 06.6, 06.11). What the spec leaves open
here is read as log entries 13, 77 say. -/
def Sys2Proof.Claim.RelayChecksComeInOrder : Prop :=
  ∀ (s : State) (b : Booking) (c : CurKey) (e : Entry) (r : Response),
    let v := s.relayVerdict b c e r
    let cfg := s.cfg.cur
    let window : Nat := if e.phaseWin = 0 then phaseWinDefault s.thal.cur else e.phaseWin.toNat
    let limit := if e.phaseCal = true then window else 64 + window
    let dev := fun (p : Int) => p - zonePhaseOfs s.thal.cur b.zone - (if e.phaseCal = true then (e.phaseRef : Int) else 0)
    let inPhase := b.calPhase = true ∨ ∃ p q, r.phasePre = some p ∧ r.phaseBody = some q ∧ (dev p).natAbs ≤ limit ∧
      (dev q).natAbs ≤ limit ∧ (e.phaseCal = true ∨ thalRequirePhaseCal s.thal.cur = false)
    let inRecip := c.sounded = false ∨ v.recip ≤ recipThresh s.thal.cur
    let steps := b.solverSteps r.v r.vector
    let listed := fun (cls p : Nat) => p < atlasCount cfg ∧ cfg.num (atlasPoint p) 1 = cls ∧ cfg.num (atlasPoint p + 1) 1 = b.zone
    let best := fun (cls : Nat) (d : Option (Nat × Nat)) =>
      (∀ x p, d = some (x, p) ↔ (listed cls p ∧ pointDistance cfg p r.v = some x ∧
        ∀ p' x', listed cls p' → pointDistance cfg p' r.v = some x' → x < x' ∨ (x = x' ∧ p ≤ p')))
    let solves := s.prot.atlasBad = false ∧ atlasCount cfg ≠ 0 ∧ ∀ w, b.dv = some w → w = zoneDv b.copied b.zone
    let i := (v.dist.1.map (·.1)).getD 65536
    let o := (v.dist.2.map (·.1)).getD 65536
    ((¬ inPhase ∨ ¬ inRecip) → v.outcome = 5) ∧
    (inPhase → inRecip → v.outcome = (if e.privileged b.purpose = true then 0 else 9)) ∧
    (c.sounded = false → v.recip = 0xFFFF) ∧ (c.sounded = true → steps.length < 2 → v.recip = 0xFFFF) ∧
    (c.sounded = true → 2 ≤ steps.length → v.recip ≤ 0xFFFE) ∧
    (∀ (l : List Step) (k : Cx) (n : Nat), k ≠ (0, 0) →
      recipOf (l.map fun x => { x with u := cmul k x.u }) n = recipOf l n) ∧
    (∀ p q, r.phasePre = some p → r.phaseBody = some q →
      v.phase.dev = if (dev p).natAbs < (dev q).natAbs then dev q else dev p) ∧
    (∀ p, r.phasePre = some p → r.phaseBody = none → v.phase.dev = dev p) ∧
    (∀ q, r.phasePre = none → r.phaseBody = some q → v.phase.dev = dev q) ∧
    (r.phasePre = none → r.phaseBody = none → v.phase.dev = -32768) ∧
    (¬ solves → v.dist = (none, none) ∧ v.cls = 3) ∧ (solves → best 1 v.dist.1 ∧ best 2 v.dist.2) ∧
    (i ≤ atlasMatchMax cfg → i + atlasMargin cfg ≤ o → v.cls = 1) ∧
    (¬ (i ≤ atlasMatchMax cfg ∧ i + atlasMargin cfg ≤ o) → o ≤ atlasMatchMax cfg → o + atlasMargin cfg ≤ i → v.cls = 2) ∧
    (¬ (i ≤ atlasMatchMax cfg ∧ i + atlasMargin cfg ≤ o) → ¬ (o ≤ atlasMatchMax cfg ∧ o + atlasMargin cfg ≤ i) → v.cls = 3) ∧
    (∀ p x, pointDistance cfg p r.v = some x → atlasMinElems cfg ≤ (common cfg p r.v).length ∧ x ≤ 65536) ∧
    (v.cls ≠ 0 → (s.keyRecord c r v).outcome = v.outcome ∧ (s.keyRecord c r v).location = v.cls ∧
      (s.keyRecord c r v).recip = v.recip ∧ (s.keyRecord c r v).phaseDev = v.phase.dev)

/-- A response is judged at the commit phase: a revoked token gives REVOKED, a key that is no longer held KEY_STALE; a
wrong MAC gives the outcome MAC_FAIL and counts against the identifier; a right one goes on to the relay checks and
the classification; the key is recorded and handled no more, its slot released; CONFIRM answers a right one, QUIET a
wrong one (R159, R161, R162, R172). What the spec leaves open here is read as log entry 51 says. -/
def Sys2Proof.Claim.VerdictsFollowTheResponse : Prop :=
  ∀ (e : Nat) (r : Response) (s : State) (b : Booking) (c : CurKey) (en : Entry),
    s.current e = some b → b.await = .verdict → b.cur = some c → c.entry = some en → s.cipher.loses (.mac e) = false →
      let t := s.judgeResponse e r
      let v := s.relayVerdict b c en r
      ∃ b' rec_, t.current e = some b' ∧ b'.cur = none ∧ b'.records = b.records ++ [rec_] ∧ rec_.ident = c.ident ∧
        t.cfg = s.cfg ∧ t.dir = s.dir ∧ t.motion = s.motion ∧ t.ks = s.ks.releaseEngine e ∧
        (c.revoked = true → rec_.outcome = 2 ∧ t.cell = s.cell ∧ t.ses = s.ses ∧ t.lock = s.lock) ∧
        (c.revoked = false → s.heldKey b c = none → rec_.outcome = 0xA ∧ t.cell = s.cell ∧ t.ses = s.ses ∧ t.lock = s.lock) ∧
        ∀ key, c.revoked = false → s.heldKey b c = some key →
          let good := (Crypto.cmac key (keyMacInput b.group c r)).take en.macLength = r.mac
          (¬ good → rec_.outcome = 4 ∧ t.cell = s.cell ∧ t.ses = s.ses ∧ t.lock = (s.countFailure c.ident).lock ∧
            (b.endCode = none → b'.todo.head? = some (.quiet false))) ∧
          (good → rec_.outcome = v.outcome ∧
            (b.endCode = none → v.outcome = 0 ∨ v.outcome = 9 → b'.todo.head? =
              some (.confirm ((Crypto.cmac key (deviceMacInput b.group c r)).take en.macLength))) ∧
            (v.outcome ≠ 0 → t.cell = s.cell ∧ t.ses = s.ses))

/-- A response is judged by its MAC and the relay checks: together, `ResponsesWaitForTheCommit` and
`RelayChecksComeInOrder` and `VerdictsFollowTheResponse`. Completes (concludes `exec c s = .next t`):
responseReceived. -/
def Obligations.ResponsesAreJudged : Prop :=
  Claim.ResponsesWaitForTheCommit ∧ Claim.RelayChecksComeInOrder ∧ Claim.VerdictsFollowTheResponse

/-- Release needs a proved key (R162, R202, R204). Of the lasting changes of a commit phase only the judgement of a
response of a START exchange takes the cell to RELEASED, whose key, not revoked, with the START privilege, gave the
right MAC under the key the exchange holds, was found inside, and, where one lane stands alone, where the thallus
allows it (R372). No command but TICK takes it there, and a TICK only by such a judgement of a response that has been
received, which waits in `acts` (R17), in its place among the lasting changes of that tick. Completes (concludes `exec
c s = .next t`): tick. -/
def Obligations.ReleaseNeedsAProvedKey : Prop :=
  (∀ (s : State) (a : Act), (s.act a).cell.state = .released → s.cell.state = .released ∨
    ∃ e r b k en key, a = .judge e r ∧ s.current e = some b ∧ b.await = .verdict ∧ b.cur = some k ∧ k.entry = some en ∧
      k.revoked = false ∧ b.purpose = 1 ∧ s.heldKey b k = some key ∧
      (Crypto.cmac key (keyMacInput b.group k r)).take en.macLength = r.mac ∧
      en.privileges.getLsbD 0 = true ∧ (s.relayVerdict b k en r).cls = 1 ∧
      (s.alone = true → thalSingleLane s.thal.cur = true)) ∧
  (∀ c (s t : State), (∀ i, c ≠ .tick i) → exec c s = .next t → t.cell.state = .released → s.cell.state = .released) ∧
  (∀ i (s t : State), exec (.tick i) s = .next t → t.cell.state = .released → s.cell.state = .released ∨
    ∃ (n e : Nat) (r : Response),
      let v := s.takeOver.spendTick.runReady.endFailed
      let l := sortBy Act.before v.acts
      let u := (l.take n).foldl State.act { v with acts := [] }
      .judge e r ∈ s.acts ∧ l[n]? = some (.judge e r) ∧ u.cell.state ≠ .released ∧
        (u.act (.judge e r)).cell.state = .released)

/-- BOOKING_END: at the commit phase of a published tick a booking that is over leaves the calendar and is answered;
what was still open has failed on air. An INVENTORY is answered with the keys it found, an exchange with its key
records and the status of R169, a measurement that lost its engine or carrier with TIMEOUT_AIR; the result of a reader
exchange is held, a poll's is published, and where its poll has no other booking HOLDOFF of its entry begins (R46,
R148, R163, R169, R170, R194, R195, R268, R378; log entry 69). One that is not over stays. Completes (concludes `exec
c s = .next t`): bookingEnd. -/
def Sys2Proof.Claim.BookingsEnd : Prop :=
  ∀ (e : Nat) (m : Measurement) (s : State) (b : Booking), s.current e = some b →
    ((s.awake = false ∨ b.ended s.tick = false) → exec (.bookingEnd e m) s = .next s) ∧
    (s.awake = true → b.ended s.tick = true →
      let z := s.act (.bookingEnd e m)
      let done_ : Bool := b.endCode.isSome && b.cur.isNone
      let code := b.endCode.getD 6
      let b1 : Booking := if done_ then b else
        { b with endCode := some code, phase := .ending, todo := [], await := .nothing, cur := none
                 records := b.records ++ (b.cur.map fun c => c.plain (if code = 5 then 6 else 7)).toList }
      let u := if done_ then s else s.endWith e code
      exec (.bookingEnd e m) s = .next (s.push (.bookingEnd e m)) ∧
      (∀ i, b.index = some i → b.reader = none → b.ticket = none → b.kind = .authenticate →
        (b.poll = s.field.lastPoll.getD i 0 ∧ ∀ x ∈ s.field.bookings, x.id ≠ b.id → ¬ (x.index = some i ∧ x.poll = b.poll)) →
          code ≠ 5 → b.again = false → z.field.pollEnd = s.field.pollEnd.set i (some s.tick)) ∧
      (∀ tk, b.ticket = some tk →
        let found := b.found ++ b.heard.map fun h => (h.1, s.dir.any (fun x => x.2.ident == h.1), h.2)
        (∀ x ∈ z.field.bookings, x.id ≠ b.id) ∧
        (b.kind = .inventory → z =
          (((s.listHeard b).release { b with heard := [], found := found }).reply tk
            (if code = 2 ∨ code = 6 then 0x24 else if found = [] then 0x20 else 0)
            (leN 1 found.length ++ leN 1 code ++ leN 1 b.round ++
              found.flatMap fun k => leN 8 k.1.toNat ++ leN 1 (if k.2.1 then 1 else 0) ++ leN 2 (twos 16 k.2.2)))) ∧
        ((b.kind = .authenticate ∨ b.kind = .locate) →
          let u1 := match b.calWrite with
            | none => u.release b1
            | some (i, mean, spread) => (u.release b1).push (.phaseRef tk b.zone i mean spread)
          u.current e = some b1 ∧
          (b.aborted = true → z = u1.reply tk 0x30 []) ∧
          (b.aborted = false → z = u1.reply tk
            (if (∃ r ∈ b1.records, r.outcome = 0 ∨ r.outcome = 9) then 0 else if code = 5 then 0x23
              else if code = 2 ∨ code = 6 then 0x24 else if (∃ r ∈ b1.records, r.outcome = 5) then 0x22
              else if (∃ r ∈ b1.records, r.outcome = 4) then 0x21 else if (∃ r ∈ b1.records, r.outcome = 0xA) then 0x31
              else 0x20)
            (leN 1 b1.records.length ++ leN 1 code ++ leN 1 b.round ++ leN 1 b.purpose ++ leN 2 b.session ++
              b1.records.flatMap fun r => if b.kind = .locate then r.locateBytes else r.bytes))) ∧
        (b.kind.measures = true → b.endCode ≠ none → ∃ b', (s.endStep b).current e = some b' ∧ b'.id = b.id ∧
          z = ((s.endStep b).release b').reply tk 0x24 [])) ∧
      (b.ticket = none → b.cur = none → b.endCode ≠ none →
        (∀ r, b.kind = .reader → b.reader = some r → z =
          { s.release b with field := { (s.release b).field with
              readers := s.field.readers ++ [if r.done then r else { r with invalid := true, done := true }] } }) ∧
        (b.kind = .authenticate → b.reader = none → code ≠ 5 → b.again = false → b.doorCheck = false → b.recoveryPoll = false →
          z = (s.release b).pollResult b)))

/-- PHASE_REF is written at the commit phase of the reply that calibrated it, PHASE_CAL set, with its record (R193).
-/
def Sys2Proof.Claim.PhaseRefIsWritten : Prop :=
  ∀ (tk : Ticket) (z spread n : Nat) (i : Ident) (mean : Int) (en : Entry) (s : State), s.awake = true →
    (s.validEntry i = some (n, en) → s.act (.phaseRef tk z i mean spread) =
      (s.writeEntry n { en with phaseRef := mean, flags := en.flags ||| 4#8 }).recordReply tk 0x15
        (leN 8 i.toNat ++ leN 2 (twos 16 en.phaseRef) ++ leN 2 (twos 16 mean) ++ leN 1 z ++ leN 1 8 ++ leN 1 spread)) ∧
    (s.validEntry i = none → s.act (.phaseRef tk z i mean spread) = s)

/-- FIELD_VECTOR answers the tick in which it began, gains, scale, channel states, currents and receivers (R114, Table
04.12). AERIAL_CAL's results wait for its ledger, and at the commit phase then it answers its channels in service and,
for every aerial of its mask, state, trim, TX_GAIN and RX_GAIN, returns the channels that passed to service and stages
what its options select (R50, R111, R116 to R118, Table 04.14; what the gains are where nothing was driven is log
entry 12, which channels pass log entries 48 and 66). -/
def Sys2Proof.Claim.MeasurementsAnswer : Prop :=
  (∀ (e : Nat) (m : Measurement) (s : State) (b : Booking) (tk : Ticket), s.current e = some b → s.awake = true →
    b.ended s.tick = true → b.endCode = none → b.ticket = some tk →
      let z := s.act (.bookingEnd e m)
      let u := s.endStep b
      ∃ b', u.current e = some b' ∧ b' = { b with steps := b'.steps, settled := false } ∧
      (∀ mode a amp, b.kind = .fieldVector mode a amp → ∃ r, z = (u.release b').done tk r ∧
        r.length = 156 ∧ slice r 0 4 = leN 4 b.measured ∧
        (∀ n, n < 16 → ofLe (slice r 4 4) / 4 ^ n % 4 = (s.gainOn b n) % 4 ∧
          slice r (12 + n) 1 = [(s.field.ch.getD n {}).status] ∧
          slice r (28 + 8 * n) 8 = if aeEnabled b.copied n then
            pair16 (m.currents.getD n (0, 0)) ++ pair16 (m.receivers.getD n (0, 0)) else zeros 8) ∧
        (b.sz = 256 → b.st = 256 → b.ss = 256 → slice r 8 2 = leN 2 256) ∧ slice r 10 2 = zeros 2) ∧
      (∀ mask options amp, b.kind = .aerialCal mask options amp → z = (u.release b').push (.cal tk b' m))) ∧
  ∀ (tk : Ticket) (b : Booking) (m : Measurement) (s : State) (mask options amp : Nat), s.awake = true →
    b.kind = .aerialCal mask options amp →
      ((∃ d ∈ s.ledger, d.order = tk.order) → s.act (.cal tk b m) = s.push (.cal tk b m)) ∧
      ((∀ d ∈ s.ledger, d.order ≠ tk.order) → ∃ (t : State) (r : Bytes), s.act (.cal tk b m) = t.done tk r ∧
        t = { s with field := t.field, cfg := { s.cfg with stage := t.cfg.stage }, freeCtr := s.freeCtr + 1 } ∧
        r.length = 196 ∧ t.field = { s.field with ch := t.field.ch, isolation := t.field.isolation } ∧
        slice r 0 2 = leN 2 (maskOf ((List.range 16).filter t.inService)) ∧
        (∀ n, n < 16 → slice r (8 + 10 * n) 10 = if mask.testBit n then
            [(t.field.ch.getD n {}).status] ++ sbyte (b.stepOf n).trim ++ gainBytes (s.txGainOf b m n) ++
              gainBytes (s.rxGainOf b m mask n)
          else zeros 10) ∧
        (∀ n c, n < 16 → mask.testBit n = true → s.calPasses b mask m n = true → s.field.ch[n]? = some c →
          t.field.ch[n]? = some { c with status := c.status &&& 1#8 }) ∧
        (options.testBit 0 = false → t.field.isolation = s.field.isolation) ∧
        (options.testBit 0 = true → t.field.isolation = zonePairs.map (s.measurePair b mask m)) ∧
        (options.testBit 1 = false → options.testBit 2 = false → t.cfg.stage = s.cfg.stage) ∧
        ((s.cfg.stage.getD s.cfg.cur).wf = true → ∀ n, n < 16 → mask.testBit n = true → options.testBit 1 = true →
          (t.cfg.stage.getD []).readBytes (0x46 + 16 * n) 1 = sbyte (b.stepOf n).trim) ∧
        ((s.cfg.stage.getD s.cfg.cur).wf = true → ∀ n, n < 16 → mask.testBit n = true → options.testBit 2 = true →
          (t.cfg.stage.getD []).readBytes (0x48 + 16 * n) 8 =
            gainBytes (s.txGainOf b m n) ++ gainBytes (s.rxGainOf b m mask n)))

/-- A booking that is over is answered: together, `BookingsEnd` and `PhaseRefIsWritten` and `MeasurementsAnswer`.
Completes (concludes `exec c s = .next t`): bookingEnd. -/
def Obligations.BookingsAreAnswered : Prop :=
  Claim.BookingsEnd ∧ Claim.PhaseRefIsWritten ∧ Claim.MeasurementsAnswer

/-- A mailbox exchange as a reader is placed at most 64 ticks after its latch and answered with its handle and its
first and closing ticks; the result is held until its fetch, which drops it; a fetch that finds it gone is refused
(R53, R267, R268; log entries 49 and 96). Completes (concludes `exec c s = .next t`): mailboxReadFetch,
mailboxReadReader, mailboxWriteReader. -/
def Sys2Proof.Claim.ReaderExchangesArePlaced : Prop :=
  ∀ (h : Hdr) (args : Bytes) (s : State) (e f : Nat),
    let a := s.askReader args
    let spore := slice args 15 96
    (∀ (write : Bool),
      let k : Clause := ⟨if write then 0x62 else 0x61, h, 1#8 :: args⟩
      let n : Need := if write then { lane := 40, deadline := 8 } else { lane := 20, deadline := 8 }
      let open_ := (oct args 2).testBit 3
      let hd := if 0 ∈ s.handles h.port then 1 else 0
      readerBad s.cfg.cur write args = false → s.zoneDead (oct args 0) = false → s.lfDead = false →
        (s.handles h.port).length < 2 → s.placeReader args = some (e, f) →
        (open_ = true ∨ s.cipher.loses (.clause s.orderNo) = false ∧ ∃ key, s.ks.unwrap spore = .key key) → k.clear n s = true →
        s.tick < f ∧ f ≤ s.latchTick + 64 ∧
        ∃ (t : State) (b : Booking) (r : Reader), exec (if write then .mailboxWriteReader h args else .mailboxReadReader h args) s = .next
            (t.done (k.ticket s) (leN 1 hd ++ zeros 3 ++ leN 4 f ++ leN 4 (f + a.ticks))) ∧
          TakesPlace (k.begun n s) e f (f + a.ticks) b t ∧ b.kind = .reader ∧ b.zones = [oct args 0] ∧
          b.reader = some r ∧ r.port = h.port ∧ r.handle = hd ∧ r.heldFrom = f + a.ticks ∧ r.write = write ∧
          r.page = oct args 1 ∧ r.done = false) ∧
    (let k : Clause := ⟨0x61, h, 2#8 :: args⟩
      let n : Need := { lane := 20, deadline := 8 }
      args.length = 3 → slice args 1 2 = [0#8, 0#8] → (s.heldReader h.port (oct args 0)).isSome = true → k.clear n s = true →
        ∃ fetch : State → Reader → Bytes, exec (.mailboxReadFetch h args) s = .next (k.goes n .nothing (fun tk b =>
          match b.heldReader tk.port (oct args 0) with
          | some r => State.reply { b with field := { b.field with
                readers := b.field.readers.filter fun x => !(x.port == tk.port && x.handle == r.handle) } }
              tk (if r.aborted then 0x30 else if r.stale then 0x31 else if r.selectSilent then 0x20 else if r.invalid then 0x24
                else if r.tagBad then 0x32 else 0) (fetch b r)
          | none => b.reply tk 0x11 []) s) ∧
          ∀ b r, fetch b r = if r.aborted then [] else leN 1 r.handle ++ leN 1 r.airStatus ++ zeros 2 ++
            if r.tagBad then zeros 36 else leN 4 r.resCounter ++ padTo 32 r.resData)

/-- On air a reader exchange goes from the SELECT reply, whose count its TAG covers, to HARVEST_ON where asked and the
mailbox frame, which wait for the tick to be published, a read's challenge drawn from the link-engine wire; the
mailbox reply ends it, its TAG tested; an invalid reply, and a TAG that no core could make, fail it (R124, R255, R267,
R268, R292, Table 05.5; log entry 49). Completes (concludes `exec c s = .next t`): selectStatusReply,
readerReplyReceived. -/
def Sys2Proof.Claim.ReaderExchangeOnAir : Prop :=
  ∀ (e : Nat) (u : Uplink) (s : State) (b : Booking) (r : Reader),
    s.current e = some b → b.reader = some r →
      let z := s.senseReply b u
      let failed := fun (r' : Reader) => ({ b with
        endCode := some 6, phase := .ending, todo := [], await := .nothing, reader := some r' } : Booking)
      let harvest : List Frame := if (r.flags).testBit 2 then [.harvest r.duration] else []
      (b.await = .selectStatus →
        (s.acquire b u = none → exec (.selectStatusReply e u) s = exec (.silentReply e) s) ∧
        (s.acquire b u ≠ none → s.replyOf b u 48 = none → ∃ t, exec (.selectStatusReply e u) s = .next t ∧
          ExchangeBecomes z e (failed { r with invalid := true, done := true }) t) ∧
        (∀ x, s.acquire b u ≠ none → s.replyOf b u 48 = some x →
          let count := ofBits ((x.drop 8).take 32)
          (∀ key, r.write = true → s.readerSlotKey e = some key → (r.flags.testBit 3 = true ∨ s.cipher.loses .next = false) →
            ∃ t, exec (.selectStatusReply e u) s = .next t ∧ ExchangeBecomes z e
              { b with
                reader := some { r with counter := count, keyTick := s.tick, challenge := 0 }, await := .nothing
                planned := some s.tick
                todo := harvest ++ [.mailboxWrite r.page r.airFlags r.data
                  (airTag key (tagMw r.ident r.page r.airFlags count r.data))] } t) ∧
          (r.write = true → r.flags.testBit 3 = false → s.cipher.loses .next = false → s.readerSlotKey e = none →
            ∃ t, exec (.selectStatusReply e u) s = .next t ∧
              ExchangeBecomes z e (failed { r with stale := true, done := true }) t) ∧
          (r.write = false →
            let ch : BitVec 64 := BitVec.ofNat 64 (ofBe (z.draw .link 8).1)
            ∃ t, exec (.selectStatusReply e u) s = .next t ∧ ExchangeBecomes (z.draw .link 8).2 e
              { b with
                reader := some { r with counter := count, challenge := ch }, await := .nothing, planned := some s.tick
                todo := harvest ++ [.mailboxRead r.page r.airFlags ch] } t) ∧
          (r.write = true → r.flags.testBit 3 = false → s.cipher.loses .next = true →
            ∃ t, exec (.selectStatusReply e u) s = .next t ∧ t.cipher = z.cipher.tookLoss .next ∧
              t.current e = some (failed { r with invalid := true, done := true })))) ∧
      (b.await ≠ .selectStatus → exec (.selectStatusReply e u) s = .next s) ∧
      (b.await = .harvestReply → ∀ x, s.replyOf b u 4 = some x → ∃ t, exec (.readerReplyReceived e u) s = .next t ∧
        ExchangeBecomes z e { b with await := .nothing } t) ∧
      (b.await = .readerReply → s.replyOf b u (if r.write then 100 else 356) = none →
        ∃ t, exec (.readerReplyReceived e u) s = .next t ∧
          ExchangeBecomes z e (failed { r with invalid := true, done := true }) t) ∧
      (∀ x key, b.await = .readerReply → s.replyOf b u (if r.write then 100 else 356) = some x →
        s.readerSlotKey e = some key → (r.flags.testBit 3 = true ∨ s.cipher.loses .next = false) →
        let status := ofBits (x.take 4)
        let counter := ofBits ((x.drop 4).take 32)
        let data := if r.write then [] else bitBytes ((x.drop 36).take 256)
        ∃ t r', exec (.readerReplyReceived e u) s = .next t ∧ ExchangeBecomes z e (failed r') t ∧
          r'.done = true ∧ r'.airStatus = status ∧ r'.resCounter = counter ∧ r'.resData = data ∧
          r'.tagBad = !r.tagOk key status counter data (bitBytes (x.drop (if r.write then 36 else 292)))) ∧
      (b.await ≠ .harvestReply → b.await ≠ .readerReply → exec (.readerReplyReceived e u) s = .next s)

/-- Mailbox exchanges as a reader: together, `ReaderExchangesArePlaced` and `ReaderExchangeOnAir`. Completes
(concludes `exec c s = .next t`): mailboxReadFetch, mailboxReadReader, mailboxWriteReader, selectStatusReply,
readerReplyReceived. -/
def Obligations.ReaderExchangesAreHeld : Prop :=
  Claim.ReaderExchangesArePlaced ∧ Claim.ReaderExchangeOnAir

/-! ### Tokens -/

/-- TOKEN_ENROL of a well-formed identifier that is not enrolled is accepted, its key plain (the clause must come
sealed) or in a spore. At the commit phase of its reply it writes one directory entry; a crown token gets the lowest
free crown index and its key wrapped under the crown key, an ordinary one the key check value. The enrolment's
TOKEN_ENROL record goes with the reply; no other entry changes (R39, R153 to R155, R157, R158, Table 12.7). Completes
(concludes `exec c s = .next t`): tokenEnrol. -/
def Sys2Proof.Claim.TokenEnrolWritesOneEntry : Prop :=
  (∀ (h : Hdr) (args : Bytes) (s : State),
    let k : Clause := ⟨0x2D, h, args⟩
    let need : Need := { lane := 60, nvm := 2, deadline := 8 }
    k.clear need s = true → enrolBad args = false → (oct args 11 = 1 → (k.ticket s).sess ≠ none) →
      s.ahead.validEntry (identAt args 0) = none → (s.ahead.enrolIndex (identAt args 0)).isSome = true →
      ((oct args 8).testBit 5 = true → s.ahead.crownsUsed.length < 32) →
      exec (.tokenEnrol h args) s = .next (k.goes need .nothing (aesRun fun tk b =>
        if oct args 11 = 1 then (b.push (.enrol tk args (args.drop 16))).done tk []
        else
          match b.ks.unwrap (args.drop 16) with
          | .key x => (b.push (.enrol tk args x)).done tk []
          | .bad r => b.reply tk (if r = 1 then 0x32 else 0x31) []) s)) ∧
  ∀ (tk : Ticket) (args key : Bytes) (s : State) (n : Nat), s.awake = true →
    let i := identAt args 0
    let crown := (oct args 8).testBit 5
    let ci := if crown then s.freeCrown else 0xFF
    (s.enrolIndex i = none → s.act (.enrol tk args key) = s) ∧
    (s.enrolIndex i = some n →
      ∃ (t : State) (e : Entry) (r : Bytes), s.act (.enrol tk args key) = t.amend tk 0 r ∧
        t = { s with dir := t.dir, log := t.log } ∧ t.entryAt n = some e ∧
        (∀ m, m ≠ n → t.entryAt m = s.entryAt m) ∧
        e.ident = i ∧ e.flags = byteAt args 8 ||| 0x80#8 ∧ e.privileges = byteAt args 9 ∧ e.phaseRef = 0 ∧
        e.crownIndex = BitVec.ofNat 8 ci ∧ e.hostTag = num args 12 2 ∧
        (crown = true → e.keyField = Crypto.aesEnc (s.ks.crownKey ci) key) ∧
        (crown = false → e.keyField = (Crypto.aesEnc key (zeros 16)).take 8 ++ zeros 8) ∧
        t.log = { s.log with waiting := s.log.waiting ++ if s.log.begun then
          [{ cls := .reply, typ := 0x13, order := tk.order, rank := 3
             body := padTo 32 (slice args 0 8 ++ leN 2 n ++ leN 1 e.crownIndex.toNat ++ [e.privileges, e.flags] ++
               slice args 11 1 ++ slice args 12 2 ++ (Crypto.aesEnc key (zeros 16)).take 8) }] else [] } ∧
        slice r 0 3 = leN 2 n ++ leN 1 (e.crownIndex.toNat))

/-- The entry an enrolment writes is the tombstone of its identifier, else an empty index below every other empty one,
else the lowest tombstone, always below 16,384 unless it is a tombstone of the identifier (R157). -/
def Sys2Proof.Claim.EnrolmentTakesTheLowestIndex : Prop :=
  ∀ (s : State) (i : Ident) (n : Nat), s.enrolIndex i = some n →
    (∃ e, (n, e) ∈ s.dir ∧ e.ident = i ∧ e.valid = false) ∨
      (n < 16384 ∧ (∀ p ∈ s.dir, p.2.ident = i → p.2.valid = true) ∧
        ((s.entryAt n = none ∧ ∀ m, m < n → s.entryAt m ≠ none) ∨
          ((∃ e, s.entryAt n = some e ∧ e.valid = false) ∧ (∀ m, m < 16384 → s.entryAt m ≠ none) ∧
            ∀ m e, m < n → s.entryAt m = some e → e.valid = true)))

/-- TOKEN_ENROL and the index it takes: together, `TokenEnrolWritesOneEntry` and `EnrolmentTakesTheLowestIndex`.
Completes (concludes `exec c s = .next t`): tokenEnrol. -/
def Obligations.TokensAreEnrolled : Prop :=
  Claim.TokenEnrolWritesOneEntry ∧ Claim.EnrolmentTakesTheLowestIndex

/-- TOKEN_REVOKE of an enrolled identifier is accepted; at the commit phase of its reply it leaves a tombstone with
nothing but the identifier, erases the token's key from the device slots, ends the session of that token with a clear
request, marks an exchange that handles it and ends its spore request; its TOKEN_REVOKE record, and behind it those of
the session's end and of the clear request, go with the reply, before those of verdicts (R39, R159, R179, R284, R306,
Tables 06.14, 12.7). Completes (concludes `exec c s = .next t`): tokenRevoke. -/
def Sys2Proof.Claim.TokenRevokeLeavesATombstone : Prop :=
  (∀ (h : Hdr) (args : Bytes) (s : State),
    let k : Clause := ⟨0x2E, h, args⟩
    let need : Need := { lane := 40, nvm := 2, deadline := 8 }
    k.clear need s = true → args.length = 8 → (s.ahead.validEntry (identAt args 0)).isSome = true →
      exec (.tokenRevoke h args) s = .next (k.goes need .nothing (fun tk b =>
        (b.push (.revoke tk (identAt args 0))).done tk []) s)) ∧
  ∀ (tk : Ticket) (i : Ident) (s : State) (n : Nat) (e : Entry), s.awake = true → s.validEntry i = some (n, e) →
      ∃ t : State, s.act (.revoke tk i) = t.amend tk 0 (leN 2 n ++ leN 1 (if e.crown then 1 else 0) ++ [0#8]) ∧
        (∃ x, t.entryAt n = some x ∧ x.ident = i ∧ x.valid = false ∧ x.privileges = 0 ∧ x.keyField = zeros 16) ∧
        (∀ m, m ≠ n → t.entryAt m = s.entryAt m) ∧
        t.ks = { s.ks.wipeSlots (fun c => c.owner.isSome && c.token == i) with requests := t.ks.requests } ∧
        (∀ b ∈ s.field.bookings, ∀ c, b.phase ≠ .booked → b.cur = some c → c.ident = i →
          (∀ r ∈ t.ks.requests, r.engine ≠ b.engine) ∧
          { b with cur := some { c with revoked := true } } ∈ t.field.bookings) ∧
        (∀ b ∈ s.field.bookings, b.phase = .booked ∨ (∀ c, b.cur = some c → c.ident ≠ i) → b ∈ t.field.bookings) ∧
        t.field = { s.field with bookings := t.field.bookings } ∧
        (s.ses.token ≠ i ∨ s.ses.state = .closed → t.cell = s.cell ∧ t.ses = s.ses) ∧
        (s.ses.token = i → s.ses.state ≠ .closed → t.ses.state = .closed ∧ t.ses.lastEnd = 0x07 ∧
          (s.cell.state = .released → s.motion.state = .stationary → t.cell.state = .locked) ∧
          (s.cell.state = .released → s.motion.state ≠ .stationary → t.cell.state = .clearPending) ∧
          (s.cell.state ≠ .released → t.cell = s.cell)) ∧
        t.cfg = s.cfg ∧ t.thal = s.thal ∧ t.motion = s.motion ∧ t.rng = s.rng ∧ t.tamper = s.tamper ∧
        (s.log.begun = true → ∃ w more, t.log = { s.log with waiting := s.log.waiting ++ w :: more } ∧ w.typ = 0x14 ∧
          w.body.take 11 = leN 8 i.toNat ++ leN 2 n ++ leN 1 (if e.crown then 1 else 0) ∧
          (∀ x ∈ w :: more, x.cls = .reply ∧ x.order = tk.order ∧ x.rank = 1) ∧
          more.map Waiting.typ = if s.ses.token = i ∧ s.ses.state ≠ .closed then
            0x12 :: (if s.cell.state = .released then [if s.motion.state = .stationary then 0x30 else 0x31] else []) else []) ∧
        (s.log.begun = false → t.log = s.log)

/-- TOKEN_QUERY answers an entry by identifier or index: its 32 bytes, without the wrapped key of a crown token, its
index, the next valid entry and its lock; 32 zero bytes for an empty entry. It changes nothing (R160). What the spec
leaves open here is read as log entry 54 says. Completes (concludes `exec c s = .next t`): tokenQuery. -/
def Sys2Proof.Claim.TokenQueryReadsOneEntry : Prop :=
  ∀ (h : Hdr) (args : Bytes) (s : State),
    let k : Clause := ⟨0x2F, h, args⟩
    let need : Need := { lane := 10 }
    let found : State → Option (Nat × Option Entry) := fun b =>
      if oct args 0 = 0 then (b.entryOf (identAt args 4)).map fun p => (p.1, some p.2)
      else some (num args 4 2, b.entryAt (num args 4 2))
    k.clear need s = true → args.length = 12 → slice args 1 3 = [0#8, 0#8, 0#8] →
      (oct args 0 = 0 ∨ oct args 0 = 1 ∧ num args 6 6 = 0 ∧ num args 4 2 < 16384) → (found s).isSome = true →
      exec (.tokenQuery h args) s = .next (k.goes need .nothing (fun tk b => b.done tk
        (match found b with
          | none => []
          | some (n, none) => zeros 32 ++ leN 2 n ++ leN 2 (b.nextValid n) ++ zeros 6
          | some (n, some e) => (if e.crown then { e with keyField := zeros 16 } else e).bytes ++ leN 2 n ++
              leN 2 (b.nextValid n) ++ b.lockReport e ++ [0#8])) s)

/-- TOKEN_REVOKE and TOKEN_QUERY: together, `TokenRevokeLeavesATombstone` and `TokenQueryReadsOneEntry`. Completes
(concludes `exec c s = .next t`): tokenRevoke, tokenQuery. -/
def Obligations.TokensAreRevokedAndQueried : Prop :=
  Claim.TokenRevokeLeavesATombstone ∧ Claim.TokenQueryReadsOneEntry

/-- Locks end at their expiry tick; those that have not reached it stay, and so does everything else (R172, R174).
What the spec leaves open here is read as log entry 54 says. Completes (concludes `exec c s = .next t`): lockExpiry.
-/
def Sys2Proof.Claim.LocksExpire : Prop :=
  ∀ s : State, ∃ t, exec .lockExpiry s = .next t ∧ t = { s with lock := t.lock } ∧
    t.lock.devFails = s.lock.devFails ∧ t.lock.devUntil = (if s.lock.devUntil ≤ s.tick then 0 else s.lock.devUntil) ∧
    t.lock.ids.map (fun l => (l.ident, l.fails)) = s.lock.ids.map (fun l => (l.ident, l.fails)) ∧
    ∀ l ∈ t.lock.ids, l.expiry = 0 ∨ s.tick < l.expiry

/-- A counted failure (R172 to R174; whether a window includes its ends, and which of equals is replaced, is log entry
54). The device keeps its last DEV_FAILS failures and locks when so many fall within the window of the newest; the
same holds for the identifier with ID_FAILS, which takes a place of the 64, where none is free that of an unlocked
identifier whose newest failure is oldest, and where all are locked none. A lock already running is not moved. Each
lock that begins is recorded and raises LOCKOUT. Nothing else changes. -/
def Sys2Proof.Claim.FailuresLock : Prop :=
  ∀ (s : State) (i : Ident),
    let t := s.countFailure i
    let th := s.thal.cur
    let kept := fun (fails : List Nat) => (s.tick :: fails).take (idFails th)
    let full := fun (fails : List Nat) => (kept fails).length = idFails th ∧ ∀ x ∈ kept fails, s.tick ≤ x + idWindow th
    let dev := (s.tick :: s.lock.devFails).take (devFails th)
    let devLocks := s.lock.devUntil ≤ s.tick ∧ dev.length = devFails th ∧ ∀ x ∈ dev, s.tick ≤ x + devWindow th
    let place : IdLock := ⟨i, kept [], if full [] then s.tick + idLock th else 0⟩
    let body := fun (scope fails who until_ : Nat) =>
      padTo 32 (leN 1 scope ++ leN 1 fails ++ zeros 2 ++ leN 8 who ++ leN 8 until_)
    let idRecord : Waiting := { cls := .other, typ := 0x11, body := body 1 (idFails th) i.toNat (s.tick + idLock th) }
    let devRecord : Waiting := { cls := .other, typ := 0x11, body := body 2 (devFails th) 0 (s.tick + devLock th) }
    let records := fun (idLocks : Prop) [Decidable idLocks] => s.log.begun = true → t.log.waiting = s.log.waiting ++
      (if idLocks then [idRecord] else []) ++ (if devLocks then [devRecord] else [])
    t = { s with lock := t.lock, log := t.log, portA := t.portA, portB := t.portB } ∧
    t.lock.devFails = dev ∧ t.lock.devUntil = (if devLocks then s.tick + devLock th else s.lock.devUntil) ∧
    (devLocks → ∀ p, (t.port p).newEvents.getLsbD 10 = true) ∧
    (∀ l ∈ s.lock.ids, l.ident = i → (∀ x ∈ s.lock.ids, x.ident = i → x = l) →
      let locks := l.expiry ≤ s.tick ∧ full l.fails
      ⟨i, kept l.fails, if locks then s.tick + idLock th else l.expiry⟩ ∈ t.lock.ids ∧
        (∀ x, x.ident ≠ i → (x ∈ t.lock.ids ↔ x ∈ s.lock.ids)) ∧ records locks ∧
        (locks → ∀ p, (t.port p).newEvents.getLsbD 10 = true)) ∧
    ((∀ x ∈ s.lock.ids, x.ident ≠ i) →
      (s.lock.ids.length < 64 → t.lock.ids = s.lock.ids ++ [place] ∧ records (full [])) ∧
      (64 ≤ s.lock.ids.length → (∀ x ∈ s.lock.ids, s.tick < x.expiry) → t.lock.ids = s.lock.ids ∧ records False) ∧
      (64 ≤ s.lock.ids.length → (∃ x ∈ s.lock.ids, x.expiry ≤ s.tick) →
        records (full []) ∧ ∃ r ∈ s.lock.ids, r.expiry ≤ s.tick ∧
          (∀ x ∈ s.lock.ids, x.expiry ≤ s.tick → r.fails.headD 0 ≤ x.fails.headD 0) ∧
          t.lock.ids = s.lock.ids.filter (fun x => x.ident != r.ident) ++ [place]))

/-- Failures lock, and locks expire: together, `LocksExpire` and `FailuresLock`. Completes (concludes `exec c s =
.next t`): lockExpiry. -/
def Obligations.FailuresLockForATime : Prop :=
  Claim.LocksExpire ∧ Claim.FailuresLock

/-! ### Sessions and release -/

/-- SESSION_QUERY, RELEASE_STATE and MOTION_READ answer their tables and change nothing (R180, R210, R227). What the
spec leaves open here is read as log entry 76 says. Completes (concludes `exec c s = .next t`): sessionQuery,
releaseState, motionRead. -/
def Sys2Proof.Claim.StateQueriesAnswer : Prop :=
  ∀ (h : Hdr) (s : State),
    (let k : Clause := ⟨0x2B, h, []⟩;
      k.clear { lane := 8 } s = true → exec (.sessionQuery h []) s = .next (k.goes { lane := 8 } .nothing (fun tk b => b.done tk
        (leN 1 (sesCode b.ses.state) ++ leN 1 b.ses.lastEnd ++ leN 2 b.ses.number ++ leN 8 b.ses.token.toNat ++
          leN 4 b.ses.opened ++ leN 4 ((b.ses.expires.map (· - b.tick)).getD 0xFFFFFFFF) ++ leN 1 b.ses.zone ++
          leN 1 b.ses.location ++ [0#8, 0#8])) s)) ∧
    (let k : Clause := ⟨0x30, h, []⟩;
      k.clear { lane := 4 } s = true → exec (.releaseState h []) s = .next (k.goes { lane := 4 } .nothing (fun tk b => b.done tk
        (leN 1 (cellCode b.cell.state) ++ leN 1 (motionCode b.motion.state) ++
          leN 1 ((if b.cell.faultA then 1 else 0) + (if b.cell.faultB then 2 else 0) +
            (if b.cell.singleLane then 4 else 0) + (if b.cell.recovery || b.cell.recoveryDue then 8 else 0)) ++
          leN 1 b.cell.pendingReason ++ leN 4 b.cell.setTick ++ leN 4 b.cell.clearTick ++ leN 4 b.cell.pendingSince ++
          leN 8 b.cell.token.toNat)) s)) ∧
    (let k : Clause := ⟨0x39, h, []⟩;
      k.clear { lane := 8 } s = true →
        ∃ r : State → Bytes, exec (.motionRead h []) s = .next (k.goes { lane := 8 } .nothing (fun tk b => b.done tk (r b)) s) ∧
          ∀ b, (r b).length = 56 ∧
          slice (r b) 0 1 = leN 1 (motionCode b.motion.state) ∧ slice (r b) 2 1 = leN 1 b.odoSource ∧
          slice (r b) 4 16 = leN 8 b.motion.odoM ++ leN 4 b.motion.odoR ++ leN 4 b.motion.lastEdgeTick ∧
          slice (r b) 44 8 = leN 4 b.motion.sleepCount0 ++ leN 4 b.motion.sleepCount1)

/-- RELEASE_CLEAR and SESSION_END act at the commit phase of their reply. A clear request of a RELEASED cell:
STATIONARY locks it at once, ends the session and records RELEASE_CLEAR; otherwise it becomes CLEAR_PENDING and
records CLEAR_HELD. RELEASE_CLEAR requests it with reason 0x10, SESSION_END ends the session first; the records, that
of the session's end among them, go with the reply (R26, R39, R179, R181, R203, R211). In another state of the cell
the request changes nothing. Completes (concludes `exec c s = .next t`): releaseClear, sessionEnd. -/
def Sys2Proof.Claim.ClearRequestsLockOnlyWhenStill : Prop :=
  (∀ (h : Hdr) (args : Bytes) (s : State),
    let n : Need := { lane := 20, deadline := 8 }
    (let k : Clause := ⟨0x31, h, args⟩;
      k.clear n s = true → args.length = 4 → slice args 1 3 = [0#8, 0#8, 0#8] → s.cell.state ≠ .locked →
        exec (.releaseClear h args) s = .next (k.goes n .nothing (fun tk b =>
          (b.push (.clear tk (byteAt args 0))).done tk
            (leN 1 (cellCode b.cell.state) ++ leN 1 (motionCode b.motion.state) ++ [0#8, 0#8])) s)) ∧
    (let k : Clause := ⟨0x2C, h, args⟩;
      k.clear n s = true → args.length = 4 → slice args 2 2 = [0#8, 0#8] → s.ses.state ≠ .closed →
        num args 0 2 = s.ses.number →
        exec (.sessionEnd h args) s = .next (k.goes n .nothing (fun tk b =>
          (b.push (.endSession tk)).done tk (leN 1 (cellCode b.cell.state) ++ [0#8, 0#8, 0#8])) s))) ∧
  ∀ (tk : Ticket) (host : Byte) (s : State), s.awake = true →
    let after := fun (reason : Nat) (hostReason : Byte) (ended : Bool) (t : State) =>
      (s.log.begun = true → ∃ l, t.log = { s.log with waiting := s.log.waiting ++ l } ∧
        (∀ w ∈ l, w.cls = .reply ∧ w.order = tk.order ∧ w.rank = 3) ∧
        (s.cell.state = .released → ∃ w ∈ l, w.typ = (if s.motion.state = .stationary then 0x30 else 0x31) ∧
          w.body.take 1 = leN 1 reason ∧ (s.motion.state = .stationary → slice w.body 1 1 = [hostReason])) ∧
        l.map Waiting.typ = (if ended then [0x12] else []) ++ if s.cell.state = .released then
          (if s.motion.state = .stationary then 0x30 :: (if ended ∨ s.ses.state = .closed then [] else [0x12]) else [0x31])
          else []) ∧
      (s.cell.state = .released → s.motion.state = .stationary →
        t.cell = { s.cell with
          state := .locked, pendingReason := 0, pendingSince := 0, clearTick := s.tick, living := false, hostReason := 0 } ∧
        t.ses.state = .closed) ∧
      (s.cell.state = .released → s.motion.state ≠ .stationary →
        t.cell = { s.cell with state := .clearPending, pendingReason := reason, pendingSince := s.tick
                               hostReason := t.cell.hostReason }) ∧
      (s.cell.state ≠ .released → t.cell = s.cell) ∧
      t = { t with tick := s.tick, cfg := s.cfg, thal := s.thal, dir := s.dir, motion := s.motion, field := s.field
                   rng := s.rng, ks := s.ks, tamper := s.tamper, win := s.win, fp := s.fp, lanes := s.lanes }
    after 0x10 host false (s.act (.clear tk host)) ∧
    (s.ses.state = .closed → s.act (.endSession tk) = s) ∧
    (s.ses.state ≠ .closed →
      let t := s.act (.endSession tk)
      t.ses.state = .closed ∧ t.ses.number = s.ses.number ∧
        t.ses.lastEnd = 0x03 ∧ after 0x03 0 true t)

/-- SESSION_QUERY, RELEASE_STATE, MOTION_READ, RELEASE_CLEAR, SESSION_END: together, `StateQueriesAnswer` and
`ClearRequestsLockOnlyWhenStill`. Completes (concludes `exec c s = .next t`): sessionQuery, releaseState, motionRead,
releaseClear, sessionEnd. -/
def Obligations.ReleaseAndSessionAreKept : Prop :=
  Claim.StateQueriesAnswer ∧ Claim.ClearRequestsLockOnlyWhenStill

/-- At its expiry tick the session timer acts at the commit phase: it ends an ENTRY session, ends a RELEASED one with
a clear request, and books the door-check poll of a DOOR_CHECK one, which stops it (log entry 76); before it, or while
it does not run, nothing happens (R178, R179, Table 06.14). Completes (concludes `exec c s = .next t`):
sessionTimerExpiry. -/
def Sys2Proof.Claim.SessionTimerExpires : Prop :=
  ∀ s : State,
    ((s.ses.expires = none ∨ ∃ x, s.ses.expires = some x ∧ s.tick < x) →
      exec .sessionTimerExpiry s = .next s ∧ s.act .timer = s) ∧
    (∀ x, s.ses.expires = some x → x ≤ s.tick → exec .sessionTimerExpiry s = .next (s.push .timer)) ∧
    ∀ x, s.awake = true → s.ses.expires = some x → x ≤ s.tick →
      let t := s.act .timer
      (s.ses.state = .closed → t = s) ∧
      (s.ses.state = .entry →
        t.ses = { s.ses with state := .closed, lastEnd := 0x01, expires := none, checking := false } ∧
        t = { s with ses := t.ses, log := t.log } ∧
        (s.log.begun = true → ∃ w, t.log = { s.log with waiting := s.log.waiting ++ [w] } ∧ w.typ = 0x12 ∧ w.cls = .other ∧
          w.body.take 5 = leN 2 s.ses.number ++ leN 1 (sesCode .entry) ++ leN 1 (sesCode .closed) ++ leN 1 1)) ∧
      (s.ses.state = .released → s.cell.state = .released → s.motion.state = .stationary →
        t.ses.state = .closed ∧ t.ses.lastEnd = 0x01 ∧ t.cell.state = .locked ∧ t.motion = s.motion ∧ t.field = s.field) ∧
      (s.ses.state = .doorCheck → s.ses.checking = false → s.pollsDiscarded = false → s.mayPoll = true →
        ((({ s with ses := { s.ses with checking := true, expires := none } } : State).runPoll
          (checkPoll s.cfg.cur false)).2.booked ≠ 0) →
        t = (({ s with ses := { s.ses with checking := true, expires := none } } : State).runPoll
          (checkPoll s.cfg.cur false)).1)

/-- A recovery poll is booked at a commit phase once the device is awake and seeded and stage 6 ended in an earlier
tick, with the zones of entry 0; when it books no zone, or is discarded, a clear request with reason 0x11 follows in
that commit phase (R16, R30, R203, R205, R410). Completes (concludes `exec c s = .next t`): recoveryPoll. -/
def Sys2Proof.Claim.RecoveryPollIsBooked : Prop :=
  ∀ s : State,
    let due : State := { s with cell := { s.cell with recoveryDue := false, recovery := true } }
    let r := due.runPoll (checkPoll s.cfg.cur true)
    let off := fun (t : State) => { t with cell := { t.cell with recoveryDue := false, recovery := false } }
    ((s.cell.recoveryDue = false ∨ s.awake = false ∨ s.mayPoll = false) → exec .recoveryPoll s = .next s) ∧
    (s.cell.recoveryDue = true → s.awake = true → s.mayPoll = true →
      exec .recoveryPoll s = .next (s.push .recovery) ∧
      (s.pollsDiscarded = false → r.2.booked ≠ 0 → s.act .recovery = r.1) ∧
      (s.pollsDiscarded = false → r.2.booked = 0 → s.act .recovery = (off r.1).clearRequest 0x11 0) ∧
      (s.pollsDiscarded = true → s.act .recovery = (off s).clearRequest 0x11 0))

/-- The session timer and the recovery poll: together, `SessionTimerExpires` and `RecoveryPollIsBooked`. Completes
(concludes `exec c s = .next t`): sessionTimerExpiry, recoveryPoll. -/
def Obligations.SessionTimersEndSessions : Prop :=
  Claim.SessionTimerExpires ∧ Claim.RecoveryPollIsBooked

/-- An input that four consecutive latch phases have seen at its other level changes; START active starts the poll of
entry 0, IGN that of entry 1, a door that of its entry, at the commit phase, where a door's change acts on the session
too; the first phases only count. Asleep, or once SLEEP is published, the levels stand (R34, R178, R195, R417, R423).
What the spec leaves open here is read as log entry 50 says. Completes (concludes `exec c s = .next t`): triggerInput.
-/
def Sys2Proof.Claim.InputsQualifyInFourPhases : Prop :=
  ∀ (s : State) (level : Bool) (n : Fin 4),
    let counted := fun (q : InputQual) => level ≠ q.level ∧ q.seen = 3 ∧ q.at_ + 1 = s.tick
    let set : InputQual := { level := level, seen := 0, at_ := s.tick }
    (s.power.life ≠ .awake → ∀ pin, exec (.triggerInput pin level) s = .next s) ∧
    (s.power.life = .awake →
      (counted s.field.start → exec (.triggerInput .start level) s = .next
        (let s1 : State := { s with field := { s.field with start := set } };
          if level then s1.push (.trigger 0 0) else s1)) ∧
      (counted s.field.ign → exec (.triggerInput .ign level) s = .next
        (let s1 : State := { s with field := { s.field with ign := set } };
          if level then s1.push (.trigger 1 0) else s1)) ∧
      (counted (s.field.doors.getD n.val {}) → exec (.triggerInput (.door n) level) s = .next
        (let s1 : State := { s with field := { s.field with doors := s.field.doors.set n.val set } };
          (s1.push (.door level)).push (.trigger (2 + n.val) 0))) ∧
      (counted s.field.wakePin → exec (.triggerInput .wake level) s = .next
        { s with field := { s.field with wakePin := set } }) ∧
      (s.field.start.seen = 0 → level ≠ s.field.start.level → exec (.triggerInput .start level) s = .next
        { s with field := { s.field with start := { s.field.start with seen := 1, at_ := s.tick } } }) ∧
      (level = s.field.start.level → exec (.triggerInput .start level) s = .next
        { s with field := { s.field with start := { s.field.start with seen := 0, at_ := s.tick } } })) ∧
    (s.awake = true → s.act (.door level) =
      if level then s.doorCheckBegins else if s.doorsClosed then s.doorCheck else s) ∧
    ∀ i a, s.awake = true → s.act (.trigger i a) = s.trigger i a

/-- A trigger of an enabled entry outside its hold-off books its poll once the device is seeded and stage 6 ended in
an earlier tick, and is held before that; a discarded one does nothing (R28, R30, R195, R410). HOLDOFF is counted from
the end of the entry's last poll. Held triggers start with the seed, at a commit phase. What the spec leaves open here
is read as log entry 50 says. Completes (concludes `exec c s = .next t`): heldTriggerStart. -/
def Sys2Proof.Claim.TriggersBookOrWait : Prop :=
  ∀ (s : State) (i a : Nat),
    ((trigEn s.cfg.cur i = false ∨ s.heldOff i = true ∨ s.pollsDiscarded = true) → s.trigger i a = s) ∧
    (s.heldOff i = true ↔ trigHoldoff s.cfg.cur i ≠ 0 ∧
      ∃ x, s.field.pollEnd.getD i none = some x ∧ s.tick ≤ x + trigHoldoff s.cfg.cur i) ∧
    (trigEn s.cfg.cur i = true → s.heldOff i = false → s.pollsDiscarded = false →
      (s.mayPoll = true → s.trigger i a = (s.runPoll (entryPoll s.cfg.cur i (triggerZones s.cfg.cur i a) none)).1) ∧
      (s.mayPoll = false → ∃ m, (i, m) ∈ (s.trigger i a).field.heldTriggers ∧
        s.trigger i a = { s with field := { s.field with heldTriggers := (s.trigger i a).field.heldTriggers } })) ∧
    ((s.awake = false ∨ s.mayPoll = false) → exec .heldTriggerStart s = .next s) ∧
    (s.awake = true → s.mayPoll = true →
      exec .heldTriggerStart s = .next (s.push .heldStart) ∧
      ∀ j m, j ≠ 7 → s.field.heldTriggers = [(j, m)] → s.field.schedules = [] → s.pollsDiscarded = false →
        s.act .heldStart = (({ s with field := { s.field with heldTriggers := [] } } : State).runPoll
          (entryPoll s.cfg.cur j (triggerZones s.cfg.cur j m) none)).1)

/-- Qualified inputs and triggers: together, `InputsQualifyInFourPhases` and `TriggersBookOrWait`. Completes
(concludes `exec c s = .next t`): triggerInput, heldTriggerStart. -/
def Obligations.InputsTriggerPolls : Prop :=
  Claim.InputsQualifyInFourPhases ∧ Claim.TriggersBookOrWait

/-! ### Motion -/

/-- A pulse counts once: an edge to the level that EDGE selects, held for FILTER times 40 ns while the filter still
shows the other, adds an edge with the present tick to its source, and the filter then shows its level; an edge that
is too short, or to the level that the filter shows already, does nothing. When the source counts for the odometer,
1,000 is added to the remainder, and each K_FACTOR in it is a metre; crossing a multiple of 100 m has it stored at the
commit phase, and each crossing of the interval makes a record (R35, R212, R218, R220, R225). Completes (concludes
`exec c s = .next t`): speedEdge. -/
def Sys2Proof.Claim.SpeedEdgesCount : Prop :=
  ∀ (n cycle held : Nat) (s : State),
    let long := 4 * filterOf s.thal.cur n ≤ held
    let k := kFactor s.thal.cur n
    ((s.awake = false ∨ 8 ≤ n ∨ ¬ long ∨ (s.motion.src.getD n {}).level ≠ edgeFalling s.thal.cur n) →
      exec (.speedEdge n cycle held) s = .next s) ∧
    ∀ c, s.awake = true → n < 8 → long → s.motion.src[n]? = some c → c.level = edgeFalling s.thal.cur n →
      ∃ t c', exec (.speedEdge n cycle held) s = .next t ∧ t.motion.src[n]? = some c' ∧ c'.count = c.count + 1 ∧
        c'.lastTick = some s.tick ∧ c'.edges.head? = some (cycle, s.tick) ∧ c'.level = !c.level ∧
        (∀ m, m ≠ n → t.motion.src[m]? = s.motion.src[m]?) ∧
        t = { s with win := s.win.speedEdge n cycle, motion := t.motion, log := t.log, acts := t.acts } ∧
        t.motion.state = s.motion.state ∧ t.motion.storedM = s.motion.storedM ∧ t.motion.storedR = s.motion.storedR ∧
        (n ≠ s.odoSource → t.motion.odoM = s.motion.odoM ∧ t.motion.odoR = s.motion.odoR ∧ t.log = s.log ∧
          t.acts = s.acts) ∧
        (n = s.odoSource → 0 < k →
          let m := s.motion.odoM + (s.motion.odoR + 1000) / k
          let step := 1000 * s.motion.interval
          t.motion.odoM = m ∧ t.motion.odoR = (s.motion.odoR + 1000) % k ∧
          (∃ l, t.acts = s.acts ++ l ∧ (∀ a ∈ l, a = .odometer) ∧ (s.motion.odoM / 100 ≠ m / 100 → l ≠ [])) ∧
          (s.log.begun = true → ∃ l, t.log = { s.log with waiting := s.log.waiting ++ l } ∧
            l.length = m / step - s.motion.odoM / step ∧ ∀ w ∈ l, w.typ = 0x36 ∧ w.body.take 1 = leN 1 1))

/-- Enough edges of one input of the motion group within the last 3,907 ticks make the state MOVING (R215); no edge of
the group within STILL_TIME makes it STATIONARY. At the commit phase MOVING ends a door check, and STATIONARY stores
the odometer and lets a pending clear take effect if the state still is STATIONARY (R178, R203, R204, R215, R220).
Otherwise the state stands. What the spec leaves open here is read as log entry 45 says. Completes (concludes `exec c
s = .next t`): motionMoving, motionStationary. -/
def Sys2Proof.Claim.MotionStateFollowsTheEdges : Prop :=
  ∀ s : State,
    ((s.awake = false ∨ s.motion.state = .moving ∨ s.movers = []) → exec .motionMoving s = .next s) ∧
    (s.awake = true → s.motion.state ≠ .moving → s.movers ≠ [] →
      ∃ t : State, exec .motionMoving s = .next (t.push .moved) ∧
        (s.log.begun = true → ∃ w, t.log = { s.log with waiting := s.log.waiting ++ [w] } ∧ w.typ = 0x33 ∧
          w.body.take 2 = leN 1 (motionCode s.motion.state) ++ leN 1 (motionCode .moving)) ∧
        (∀ p, (t.port p).newEvents.getLsbD 9 = true) ∧
        t = { s with motion := { s.motion with state := .moving }, log := t.log, portA := t.portA, portB := t.portB }) ∧
    ((s.awake = false ∨ s.motion.state = .stationary ∨ s.stillNow = false) → exec .motionStationary s = .next s) ∧
    (s.awake = true → s.motion.state ≠ .stationary → s.stillNow = true →
      ∃ t : State, exec .motionStationary s = .next (t.push .still) ∧
        (s.log.begun = true → ∃ w, t.log = { s.log with waiting := s.log.waiting ++ [w] } ∧ w.typ = 0x33 ∧
          w.body.take 3 = leN 1 (motionCode s.motion.state) ++ leN 1 (motionCode .stationary) ++ [0xFF#8]) ∧
        (∀ p, (t.port p).newEvents.getLsbD 9 = true) ∧
        t = { s with motion := { s.motion with state := .stationary }, log := t.log, portA := t.portA, portB := t.portB }) ∧
    (s.awake = true →
      let t := s.act .moved
      t.cell = s.cell ∧ t.motion = s.motion ∧ t.cfg = s.cfg ∧ t.dir = s.dir ∧
        (s.ses.state = .doorCheck → t.ses.state = .released) ∧ (s.ses.state ≠ .doorCheck → t.ses.state = s.ses.state)) ∧
    (s.awake = true →
      let t := s.act .still
      t.motion = { s.motion with
        storedM := s.motion.odoM, storedR := s.motion.odoR, storedSecondary := s.motion.onSecondary } ∧
        (s.cell.state = .clearPending → s.motion.state = .stationary →
          t.cell.state = .locked ∧ t.cell.clearTick = s.tick ∧ t.ses.state = .closed) ∧
        (s.cell.state ≠ .clearPending ∨ s.motion.state ≠ .stationary → t.cell = s.cell) ∧
        t.cfg = s.cfg ∧ t.dir = s.dir ∧ t.field = s.field)

/-- The plausibility evaluation runs every 256 ticks: each source of the group takes one more speed, from the edges of
its last 1,024 ticks, and its flags are judged. OVERSPEED is set by 2 evaluations in a row above V_MAX, ACCEL by one
whose speed differs by more than A_MAX or D_MAX allow, and V_TOL, from that 16 evaluations earlier, DISAGREE by 31 in
a row with one other source, both above 5 km/h, more than both tolerances apart, LOSS by 31 in a row at rest while
another source is above 5 km/h; a flag clears after 153 in a row without its condition (R216, R217). The motion state
and the cell are no concern of it. What the spec leaves open here is read as log entries 45, 79, 89 say. Completes
(concludes `exec c s = .next t`): plausibilityEvaluation. -/
def Sys2Proof.Claim.PlausibilityEvaluates : Prop :=
  ∀ s : State,
    ((s.awake = false ∨ s.tick < s.motion.lastEval + 256) → exec .plausibilityEvaluation s = .next s) ∧
    (s.awake = true → s.motion.lastEval + 256 ≤ s.tick →
      let th := s.thal.cur
      let v := s.evaluate
      let more := fun (a b : Nat × Nat) (c : Nat) => c * (a.2 * b.2) + 1000 * (b.1 * a.2) < 1000 * (a.1 * b.2)
      let fast := fun (i : Nat) => 5 * (v i).2 < (v i).1
      let others := fun (i j : Nat) => j ≠ i ∧ j < 8 ∧ (motionGroup th).testBit j = true
      let apart := fun (a b : Nat × Nat) =>
        more a b (1000 * vTol th) ∧ relTol th * (a.1 * b.2) + 100 * (b.1 * a.2) < 100 * (a.1 * b.2)
      ∃ t, exec .plausibilityEvaluation s = .next t ∧ t.motion.lastEval = s.tick ∧ t.motion.state = s.motion.state ∧
        t = { s with motion := t.motion, log := t.log, acts := t.acts } ∧ (∃ l, t.acts = s.acts ++ l ∧ ∀ a ∈ l, a = .odometer) ∧
        ∀ i c, (motionGroup th).testBit i = true → i < 8 → s.motion.src[i]? = some c →
          (∀ a m b, s.edgesWithin i 1024 = a :: m ++ [b] → a.1 ≠ b.1 →
            v i = (360000000000 * (m.length + 1), kFactor th i * (a.1 - b.1))) ∧
          let disagrees := fun (j : Nat) => others i j ∧ fast i ∧ fast j ∧
            if (v j).1 * (v i).2 ≤ (v i).1 * (v j).2 then apart (v i) (v j) else apart (v j) (v i)
          let holds : Nat → Prop := fun f => match f with
            | 0 => vMax th * (v i).2 < (v i).1
            | 1 => ∃ w, c.speeds[15]? = some w ∧
              (more (v i) w (377 * aMax th + 1000 * vTol th) ∨ more w (v i) (377 * dMax th + 1000 * vTol th))
            | 2 => ∃ j, disagrees j
            | _ => (v i).1 = 0 ∧ ∃ j, others i j ∧ fast j
          ∃ c', t.motion.src[i]? = some c' ∧ c'.speeds = (v i :: c.speeds).take 17 ∧ c'.edges = c.edges ∧ c'.count = c.count ∧
            (∀ j, j < 8 → (disagrees j → c'.pairs.getD j 0 = c.pairs.getD j 0 + 1) ∧ (¬ disagrees j → c'.pairs.getD j 0 = 0)) ∧
            (∀ f, f < 4 →
              (holds f → c'.runs.getD f 0 = c.runs.getD f 0 + 1 ∧ c'.gaps.getD f 0 = 0) ∧
              (¬ holds f → c'.runs.getD f 0 = 0 ∧ c'.gaps.getD f 0 = c.gaps.getD f 0 + 1) ∧
              (let sets := match f with
                | 0 => 2 ≤ c'.runs.getD 0 0
                | 1 => 1 ≤ c'.runs.getD 1 0
                | 2 => ∃ j, j < 8 ∧ 31 ≤ c'.pairs.getD j 0
                | _ => 31 ≤ c'.runs.getD 3 0
               (c'.flags.getLsbD f = true ↔ sets ∨ c.flags.getLsbD f = true ∧ c'.gaps.getD f 0 < 153)) ∧
              (s.log.begun = true → c'.flags.getLsbD f ≠ c.flags.getLsbD f → ∃ w ∈ t.log.waiting.drop s.log.waiting.length,
                w.typ = 0x34 ∧ w.body.take 3 = leN 1 i ++ leN 1 (2 ^ f) ++ leN 1 (if c'.flags.getLsbD f then 1 else 0))))

/-- Eight mismatched half periods of a living output set its fault flag, eight matching ones clear it; the record
waits for a commit phase, through a stop of the lanes too; the other output and the cell's state stand (R209, R225).
Completes (concludes `exec c s = .next t`): rlsFaultDetect. -/
def Sys2Proof.Claim.ReadbackFaultsAreNoted : Prop :=
  (∀ (o : LaneId) (level ok : Bool) (s : State),
    let was := match o with
      | .a => s.cell.faultA
      | .b => s.cell.faultB
    let body := leN 1 (match o with
          | .a => 0x0A
          | .b => 0x0B) ++ leN 1 (if ok then 0 else 1) ++ leN 1 (if level then 1 else 0) ++ [0#8]
    ((s.awake = false ∧ s.cell.living = false ∨ was = !ok) → exec (.rlsFaultDetect o level ok) s = .next s) ∧
    ((s.awake = true ∨ s.cell.living = true) → was = ok → exec (.rlsFaultDetect o level ok) s = .next
      { s with cell := (match o with
        | .a => { s.cell with faultA := !ok, notes := s.cell.notes ++ [body] }
        | .b => { s.cell with faultB := !ok, notes := s.cell.notes ++ [body] }) })) ∧
  ∀ s : State, s.publishNotes = { s with
    cell := { s.cell with notes := [] }
    log := { s.log with
      waiting := if s.log.begun then s.log.waiting ++ s.cell.notes.map fun b => { cls := .other, typ := 0x37, body := padTo 32 b, rank := 4 }
        else s.log.waiting } }

/-- MOTION_CFG sets the odometer interval, or the odometer once while it reads 0, which is stored and recorded; both
at the commit phase of the reply. An ODO_INIT that finds the odometer set or counted since ends with REFUSED_STATE
(R220, R221, R226; the last is log entry 94). Completes (concludes `exec c s = .next t`): odoInterval, odoInit. -/
def Sys2Proof.Claim.OdometerIsConfigured : Prop :=
  (∀ (h : Hdr) (args : Bytes) (s : State),
    let n : Need := { lane := 30, nvm := 2, deadline := 8 }
    (let k : Clause := ⟨0x38, h, 0#8 :: args⟩
      let km := num args 3 2
      k.clear n s = true → args.length = 7 → slice args 0 3 = [0#8, 0#8, 0#8] → 1 ≤ km → km ≤ 1000 →
        slice args 5 2 = [0#8, 0#8] →
        exec (.odoInterval h args) s = .next (k.goes n .nothing (fun tk b => (b.push (.odoInterval tk km)).done tk
          (leN 2 b.motion.interval ++ [0#8, 0#8] ++ leN 8 b.motion.odoM)) s)) ∧
    (let k : Clause := ⟨0x38, h, 1#8 :: args⟩
      let m := num args 3 8
      k.clear n s = true → args.length = 11 → slice args 0 3 = [0#8, 0#8, 0#8] → 1 ≤ m → m < 2 ^ 48 →
        s.motion.odoM = 0 → s.motion.initDone = false → (∀ tk x, .odoInit tk x ∉ s.acts) →
        (∀ q ∈ s.work, ¬ (q.ticket.verb = 0x38 ∧ oct q.args 0 = 1)) →
        exec (.odoInit h args) s = .next (k.goes n .nothing (fun tk b => (b.push (.odoInit tk m)).done tk
          (leN 2 b.motion.interval ++ [0#8, 0#8] ++ leN 8 b.motion.odoM)) s))) ∧
  ∀ (tk : Ticket) (x : Nat) (s : State), s.awake = true →
    s.act (.odoInterval tk x) = { s with motion := { s.motion with interval := x } } ∧
    ((s.motion.odoM ≠ 0 ∨ s.motion.initDone = true) → s.act (.odoInit tk x) = s.amend tk 0x11 []) ∧
    (s.motion.odoM = 0 → s.motion.initDone = false → ∃ t : State, s.act (.odoInit tk x) = t ∧
      t = { s with
            motion := { s.motion with odoM := x, initDone := true, storedM := x, storedR := s.motion.odoR
                                      storedSecondary := s.motion.onSecondary }
            log := t.log } ∧
      (s.log.begun = true → ∃ r, t.log = { s.log with waiting := s.log.waiting ++ [r] } ∧ r.typ = 0x36 ∧ r.cls = .reply ∧
        r.order = tk.order ∧ r.body.take 1 = leN 1 6 ∧ slice r.body 16 8 = leN 8 x))

/-- Speed edges, motion state, plausibility, readback and the odometer: together, `SpeedEdgesCount` and
`MotionStateFollowsTheEdges` and `PlausibilityEvaluates` and `ReadbackFaultsAreNoted` and `OdometerIsConfigured`.
Completes (concludes `exec c s = .next t`): speedEdge, motionMoving, motionStationary, plausibilityEvaluation,
rlsFaultDetect, odoInterval, odoInit. -/
def Obligations.MotionIsMeasured : Prop :=
  Claim.SpeedEdgesCount ∧ Claim.MotionStateFollowsTheEdges ∧ Claim.PlausibilityEvaluates ∧
    Claim.ReadbackFaultsAreNoted ∧ Claim.OdometerIsConfigured

/-! ### The timer window -/

/-- PEEK answers its words from the snapshot of the tick of its latch, word by word in ascending order: an upper word
of a wide register, or of a chained pair, from the snapshot where this PEEK has read the low word too, else from the
port's read latch, 0 where that was never loaded. It changes only what waits for the commit phase: captures to be
marked read, read latches to be loaded with the upper words of the low words read (R230, R231, R234, R247). Completes
(concludes `exec c s = .next t`): peek. -/
def Sys2Proof.Claim.PeekReadsTheSnapshot : Prop :=
  ∀ (h : Hdr) (args : Bytes) (s : State),
    let k : Clause := ⟨0x3B, h, args⟩
    let n : Need := { lane := 4 }
    let addr := num args 0 2
    let count := oct args 2
    let caps := ((List.range 8).filter fun x => decide (addr ≤ scBase x + 2) && decide (scBase x + 2 < addr + count)).map
      fun x => (⟨x, s.win.snapCaptures.getD x 0, (rword s.win.snap (scBase x + 4)).testBit 11⟩ : CapRead)
    let loads := (List.range count).filterMap fun i => match wide s.win.snap (addr + i) with
      | hd :: ups => if hd = addr + i then some (h.port, hd, ups.flatMap fun x => leN 2 (rword s.win.snap x)) else none
      | [] => none
    k.clear n s = true → args.length = 4 → byteAt args 3 = 0#8 → 1 ≤ count → count ≤ 118 → addr + count ≤ 0x1000 →
      (k.ticket s).room (4 + 2 * count) = true →
      ∃ r : State → Bytes,
        exec (.peek h args) s = .next (k.goes n (.window s.win.snap s.win.snapCaptures) (fun tk b =>
          ({ b with win := { b.win with
              capRead := b.win.capRead ++ caps, latchLoads := b.win.latchLoads ++ loads } } : State).done tk
            (args.take 3 ++ [0#8] ++ r b)) s) ∧
        ∀ b, (r b).length = 2 * count ∧
        ∀ i, i < count → slice (r b) (2 * i) 2 = match wide s.win.snap (addr + i) with
          | [] => leN 2 (rword s.win.snap (addr + i))
          | hd :: ups =>
            let latch := (((b.port h.port).latches.find? fun x => x.1 == hd).map (·.2)).getD []
            if addr ≤ hd then leN 2 (rword s.win.snap (addr + i))
            else padTo 2 (slice latch (2 * ups.findIdx (· == addr + i)) 2)

/-- The snapshot of a latch phase shows every word as it stands, but MOT_TIME, which is the MOTION cycle of the latch
phase, MOT_STAT, which gathers the events of the timers and the unread captures, and the STA of a chained odd timer,
which reads 0 (R230, R240, Tables 09.1, 09.2). -/
def Sys2Proof.Claim.SnapshotsShowTheWindow : Prop :=
  ∀ (w : Window) (time : Nat), w.regs.wf = true →
    let t := w.snapshot time
    let sta := fun (n : Nat) => (BitVec.ofNat 16 (rword w.regs (gtBase n + 9)))
    t = { w with snap := t.snap, snapCaptures := w.captures, prev := w.snap, prevCaptures := w.snapCaptures } ∧
    rwords t.snap [4, 5] = time % 2 ^ 32 ∧
    (∀ n, n < 8 →
      ((rword t.snap 0).testBit n ↔ (rword w.regs (scBase n + 4)).testBit 12) ∧
      ((rword t.snap 0).testBit (8 + n) ↔ gtUpper w.regs n = false ∧ sta n &&& 0x7000#16 ≠ 0) ∧
      rword t.snap (gtBase n + 9) = (if gtUpper w.regs n then 0 else rword w.regs (gtBase n + 9))) ∧
    ∀ a, a ≠ 0 → a ≠ 4 → a ≠ 5 → (∀ n, n < 8 → a ≠ gtBase n + 9) → rword t.snap a = rword w.regs a

/-- POKE and TIMER_CFG of legal values wait for the write cycle of their commit phase, in admission order, and change
nothing before it (R229, R248, R249). TIMER_CFG answers its target's GTn_STA, SCn_CTL or SPOn_CTL of the snapshot of
its tick, with what it writes applied. Completes (concludes `exec c s = .next t`): poke, timerCfg. -/
def Sys2Proof.Claim.TimerWritesWait : Prop :=
  ∀ (h : Hdr) (args : Bytes) (s : State),
    (let k : Clause := ⟨0x3C, h, args⟩
      let n : Need := { lane := 4 }
      let addr := num args 0 2
      let count := oct args 2
      let words := (List.range count).map fun i => num args (4 + 2 * i) 2
      k.clear n s = true → args.length = 4 + 2 * count → byteAt args 3 = 0#8 → 1 ≤ count → count ≤ 118 →
        addr + count ≤ 0x1000 → (k.ticket s).room (4 + 2 * count) = true →
        (∀ i, i < count → pokeOk (addr + i) (num args (4 + 2 * i) 2) = true) →
        exec (.poke h args) s = .next (k.goes n .nothing (fun tk b => ({ b with
          win := { b.win with writes := b.win.writes ++ [.poke tk.order tk.port addr words] } } : State).done tk
            (leN 1 count ++ [0#8, 0#8, 0#8])) s)) ∧
    (let k : Clause := ⟨0x3A, h, args⟩
      let n : Need := { lane := 20, deadline := 8 }
      let target := oct args 0
      let ctl := num args 4 2
      k.clear n s = true → timerCfgBad args = false → timerCfgBusy s.win.snap target = false →
        ∃ r : State → Bytes, exec (.timerCfg h args) s = .next (k.goes n .nothing (fun tk b => ({ b with
            win := { b.win with writes := b.win.writes ++
              [.cfg tk.order target ctl (num args 6 2) (num args 8 2) (num args 12 4) (num args 16 4)
                (if oct args 1 = 1 then some (num args 20 4) else none)] } } : State).done tk (r b)) s) ∧
          ∀ b, b.win.snap.wf = true →
            let word := fun (a : Nat) => BitVec.ofNat 16 (rword b.win.snap a)
            (target < 8 → r b = (if target % 2 = 1 ∧ ctl.testBit 14 = true then zeros 2
              else leN 2 (word (gtBase target + 9) &&& 0xF7FF#16).toNat) ++ [0#8, 0#8]) ∧
            (0x10 ≤ target → target < 0x18 →
              let old := word (scBase (target - 0x10) + 4)
              let new := BitVec.ofNat 16 ctl
              r b = leN 2 ((new &&& 0xE000#16) ||| (old &&& 0x1000#16) ||| (old &&& 0x0C00#16 &&& ~~~ new)).toNat ++
                [0#8, 0#8]) ∧
            (0x20 ≤ target → r b = leN 2 ctl ++ [0#8, 0#8]))

/-- The writes of a commit phase land in its write cycle, in the order of their clauses. A 16-bit register takes the
word, but read-only bits stand and W1C bits clear where 1 is written. A wide register covered whole takes its value at
once; an upper word alone goes into the port's buffer; the low word alone writes the register with what is buffered.
PER and CMP of a running timer with PRELOAD wait for its next wrap with PEND set, and take effect at once otherwise.
No other word changes (R229, R232, R237, Tables 09.4, 09.7). -/
def Sys2Proof.Claim.WindowWritesLand : Prop :=
  (∀ (s : State) (o : Nat) (p : PortId) (a : Nat) (ws : List Nat), s.win.writes = [.poke o p a ws] → s.win.regs.wf = true →
    (∀ v ∈ ws, v < 65536) →
    let t := s.writeCycle
    let m := s.win.regs
    let old := BitVec.ofNat 16 (rword m a)
    let same := fun (words : List Nat) => ∀ x, x ∉ words → rword t.win.regs x = rword m x
    (∀ q, q ≠ p → t.port q = s.port q) ∧ t.port p = { s.port p with wbuf := (t.port p).wbuf } ∧ t.win.writes = [] ∧
    (∀ v, ws = [v] → wide m a = [] → 2 ≤ a →
      (t.port p).wbuf = (s.port p).wbuf ∧ same [a] ∧
      let new := BitVec.ofNat 16 v
      rword t.win.regs a =
        if ∃ n, n < 8 ∧ a = scBase n + 4 then
          ((new &&& 0xE000#16) ||| (old &&& 0x1000#16) ||| (old &&& 0x0C00#16 &&& ~~~ new)).toNat
        else if ∃ n, n < 8 ∧ a = gtBase n + 9 then ((old &&& 0x8800#16) ||| (old &&& 0x7000#16 &&& ~~~ new)).toNat
        else if inRange 0x10 0x4F a then rword t.win.regs a else v) ∧
    ∀ n off, n < 8 → off = 0 ∨ off = 2 ∨ off = 4 → gtPaired m n = false → s.win.forcePer.length = 8 → s.win.forceCmp.length = 8 →
      let hd := gtBase n + off
      let waits := gtRun m n = true ∧ (rword m (gtBase n + 6)).testBit 13 = true
      let takes := fun (v : Nat) => rwords t.win.regs [hd, hd + 1] = v ∧ same [hd, hd + 1, gtBase n + 9] ∧
        (off ≠ 0 → waits → t.win.inForce n off = s.win.inForce n off ∧ (rword t.win.regs (gtBase n + 9)).testBit 11 = true) ∧
        (off ≠ 0 → ¬ waits → t.win.inForce n off = v)
      (∀ lo hi, a = hd → ws = [lo, hi] → takes (lo + 65536 * hi) ∧ (t.port p).wbuf = (s.port p).wbuf) ∧
      (∀ hi, a = hd + 1 → ws = [hi] → t.win = { s.win with writes := [] } ∧
        (t.port p).wbuf = ((s.port p).wbuf.filter fun x => x.1 != a) ++ [(a, hi)]) ∧
      (∀ lo, a = hd → ws = [lo] →
        let up := (((s.port p).wbuf.find? fun x => x.1 == hd + 1).map (·.2)).getD (rword m (hd + 1))
        takes (lo + 65536 * (up % 65536)) ∧ (t.port p).wbuf = (s.port p).wbuf.filter fun x => x.1 != hd + 1)) ∧
  (∀ (s : State) (n o o' v v' : Nat) (p p' : PortId), n < 8 → o < o' → v < 65536 → v' < 65536 → s.win.regs.wf = true →
    s.win.writes = [.poke o p (gtBase n + 8) [v], .poke o' p' (gtBase n + 8) [v']] ∨
      s.win.writes = [.poke o' p' (gtBase n + 8) [v'], .poke o p (gtBase n + 8) [v]] →
      rword s.writeCycle.win.regs (gtBase n + 8) = v') ∧
  ∀ (s : State) (n o ctl act psc per cmp : Nat) (cnt : Option Nat), n < 8 → s.win.regs.wf = true →
    s.win.forcePer.length = 8 → s.win.forceCmp.length = 8 → ctl < 65536 → act < 65536 → psc < 65536 → per < 2 ^ 32 →
    cmp < 2 ^ 32 → gtPaired s.win.regs n = false → ctl.testBit 14 = false →
    s.win.writes = [.cfg o n ctl act psc per cmp cnt] →
      let w := s.writeCycle.win
      rword w.regs (gtBase n + 6) = ctl ∧ rword w.regs (gtBase n + 7) = act ∧ rword w.regs (gtBase n + 8) = psc ∧
        w.inForce n 2 = per ∧ w.inForce n 4 = cmp ∧ (rword w.regs (gtBase n + 9)).testBit 11 = false ∧
        (∀ c, cnt = some c → c < 2 ^ 32 → rwords w.regs [gtBase n, gtBase n + 1] = c) ∧
        (cnt = none → rwords w.regs [gtBase n, gtBase n + 1] = rwords s.win.regs [gtBase n, gtBase n + 1])

/-- GSTART with GO set starts in one MOTION cycle every timer that is armed and not named in STOP, clears its ARM bit
and, unless it was running, restarts its prescaler; a timer named in STOP stops, and so it does without GO; every
count stands, and every other timer (R235, R243, Table 09.3; that a running timer's prescaler runs on is log entry
71). -/
def Sys2Proof.Claim.GroupStartsAndStops : Prop :=
  ∀ (s : State) (o v n : Nat) (p : PortId), s.win.writes = [.poke o p 1 [v]] → s.win.regs.wf = true → n < 8 →
    s.win.counted.length = 8 →
    let m := s.win.regs
    let t := s.writeCycle.win
    let stops := v.testBit (8 + n) = true
    let starts := ¬ stops ∧ v.testBit 0 = true ∧ (rword m (gtBase n + 6)).testBit 15 = true ∧ gtUpper m n = false
    (stops → (rword t.regs (gtBase n + 9)).testBit 15 = false ∧ t.counted.getD n 0 = s.win.counted.getD n 0 ∧
      rword t.regs (gtBase n + 6) = rword m (gtBase n + 6)) ∧
    (starts → gtRun t.regs n = true ∧ (rword t.regs (gtBase n + 6)).testBit 15 = false ∧
      t.counted.getD n 0 = if gtRun m n then s.win.counted.getD n 0 else s.writeTime) ∧
    (¬ stops → ¬ starts → rword t.regs (gtBase n + 9) = rword m (gtBase n + 9) ∧
      rword t.regs (gtBase n + 6) = rword m (gtBase n + 6) ∧ t.counted.getD n 0 = s.win.counted.getD n 0) ∧
    ∀ a, (∀ k, k < 8 → a ≠ gtBase k + 6 ∧ a ≠ gtBase k + 9) → rword t.regs a = rword m a

/-- PEEK, POKE and TIMER_CFG, the snapshot and the write cycle: together, `PeekReadsTheSnapshot` and
`SnapshotsShowTheWindow` and `TimerWritesWait` and `WindowWritesLand` and `GroupStartsAndStops`. Completes (concludes
`exec c s = .next t`): peek, poke, timerCfg. -/
def Obligations.WindowReadsAndWritesWait : Prop :=
  Claim.PeekReadsTheSnapshot ∧ Claim.SnapshotsShowTheWindow ∧ Claim.TimerWritesWait ∧ Claim.WindowWritesLand ∧
    Claim.GroupStartsAndStops

/-- A count edge of a running timer that counts the MOTION clock, once its prescaler has run, adds one to its count,
or at or above PER sets it to 0, a wrap, which loads what waits and sets WRAP, above PER LATE_WRAP too; the edge that
reaches CMP sets MATCH. WRAP_ACT on a wrap and MATCH_ACT on a match act: the timer stops, clears itself, or acts on
the linked timer in the next cycle; a ONESHOT timer stops at its wrap; outputs that toggle on it toggle (R235 to R237,
R240 to R242, R244). A timer that stands, that another source clocks, or that is a chained odd one does not move.
Completes (concludes `exec c s = .next t`): gtCountEdge. -/
def Sys2Proof.Claim.CountEdgesAdvance : Prop :=
  ∀ (n cycle : Nat) (s : State), n < 8 → s.win.regs.wf = true → s.win.forcePer.length = 8 → s.win.forceCmp.length = 8 →
    s.win.counted.length = 8 →
    let w := s.win
    let m := w.regs
    let cnt := gtWords m n 0
    let c := rwords m cnt
    let act := rword m (gtBase n + 7)
    let wrap : Bool := decide (w.inForce n 2 ≤ c)
    let c1 := if wrap then 0 else c + 1
    let hit : Bool := c1 == if wrap then rwords m (gtWords m n 4) else w.inForce n 4
    let stop : Bool := wrap && ((rword m (gtBase n + 6)).testBit 12 || act / 1024 % 8 == 1) || hit && act / 8192 == 1
    let clears : Bool := wrap && act / 1024 % 8 == 2 || hit && act / 8192 == 2
    let far := rword m (gtBase n + 7) / 128 % 8
    let link := fun (on : Bool) (code : Nat) => if on ∧ 3 ≤ code ∧ code ≤ 6 then
      [(⟨cycle + 1, code, if gtUpper m far then far - 1 else far, n⟩ : Linked)] else []
    let toggles := fun (k : Nat) => let c := rword m (2 + k)
      c / 1024 % 8 = n ∧ (c / 8192 = 3 ∧ hit = true ∨ c / 8192 = 4 ∧ wrap = true)
    let due := w.counted.getD n 0 + rword m (gtBase n + 8) + 1 ≤ cycle
    ((s.awake = false ∨ gtSrc m n ≠ 0 ∨ ¬ due ∨ gtRun m n = false ∨ gtUpper m n = true) →
      exec (.gtCountEdge n cycle) s = .next s) ∧
    (s.awake = true → gtSrc m n = 0 → due → gtRun m n = true → gtUpper m n = false → c1 < 65536 ^ cnt.length →
      ∃ t : State, exec (.gtCountEdge n cycle) s = .next t ∧
        rwords t.win.regs cnt = (if clears then 0 else c1) ∧ gtRun t.win.regs n = !stop ∧
        (let sta := rword t.win.regs (gtBase n + 9)
         let was := rword m (gtBase n + 9)
         sta.testBit 14 = (was.testBit 14 || hit) ∧ sta.testBit 13 = (was.testBit 13 || wrap) ∧
           sta.testBit 12 = (was.testBit 12 || decide (w.inForce n 2 < c)) ∧ (wrap = true → sta.testBit 11 = false)) ∧
        (∀ a, a ∉ cnt → a ≠ gtBase n + 9 → rword t.win.regs a = rword m a) ∧
        t = { s with win := { w with
          regs := t.win.regs, counted := w.counted.set n cycle
          spo0 := t.win.spo0, spo1 := t.win.spo1
          forcePer := if wrap then w.forcePer.set n none else w.forcePer
          forceCmp := if wrap then w.forceCmp.set n none else w.forceCmp
          linked := w.linked ++ link wrap (act / 1024 % 8) ++ link hit (act / 8192) } } ∧
        (toggles 0 → t.win.spo0 = !w.spo0) ∧ (¬ toggles 0 → t.win.spo0 = w.spo0) ∧
        (toggles 1 → t.win.spo1 = !w.spo1) ∧ (¬ toggles 1 → t.win.spo1 = w.spo1))

/-- A speed counter that is enabled and not the upper half of a pair adds one, at its top wraps to 0 with CNT_OVF, and
then adds one to the enabled upper half of its pair; with CAP_EN it captures MOT_TIME with CAP_VALID, and with OVR
where that was set (R233, R234; a chained odd counter captures nothing, log entry 92). A capture read by a PEEK clears
CAP_VALID unless a newer one was made since the snapshot, which then has not overwritten an unread one. -/
def Sys2Proof.Claim.SpeedCountersCount : Prop :=
  (∀ (n time : Nat) (w : Window), n < 8 → w.regs.wf = true → w.captures.length = 8 →
    let m := w.regs
    let ctl := rword m (scBase n + 4)
    let t := w.scEdge n time
    let c := rwords m [scBase n, scBase n + 1]
    let upper := n % 2 = 1 ∧ scPaired m n = true
    let now := rword t.regs (scBase n + 4)
    ((ctl.testBit 15 = false ∨ upper) → t = w) ∧
    (ctl.testBit 15 = true → ¬ upper →
      rwords t.regs [scBase n, scBase n + 1] = (c + 1) % 2 ^ 32 ∧
      now.testBit 10 = (ctl.testBit 10 || c == 2 ^ 32 - 1) ∧
      (ctl.testBit 13 = true → rwords t.regs [scBase n + 2, scBase n + 3] = time % 2 ^ 32 ∧ now.testBit 12 = true ∧
        now.testBit 11 = (ctl.testBit 11 || ctl.testBit 12) ∧ t.captures = w.captures.set n (w.captures.getD n 0 + 1)) ∧
      (ctl.testBit 13 = false → now.testBit 12 = ctl.testBit 12 ∧ now.testBit 11 = ctl.testBit 11 ∧ t.captures = w.captures ∧
        rwords t.regs [scBase n + 2, scBase n + 3] = rwords m [scBase n + 2, scBase n + 3]) ∧
      t = { w with regs := t.regs, captures := t.captures } ∧
      (n % 2 = 0 → scPaired m n = true → (rword m (scBase (n + 1) + 4)).testBit 15 = true →
        rwords t.regs [scBase (n + 1), scBase (n + 1) + 1] =
          (rwords m [scBase (n + 1), scBase (n + 1) + 1] + if c = 2 ^ 32 - 1 then 1 else 0) % 2 ^ 32))) ∧
  ∀ (m : Mem) (captures : List Nat) (r : CapRead), m.wf = true → r.counter < 8 →
    let now := rword (Window.capTaken m captures r) (scBase r.counter + 4)
    let old := rword m (scBase r.counter + 4)
    let since := captures.getD r.counter 0 - r.captures
    (since = 0 → now.testBit 12 = false ∧ now.testBit 11 = old.testBit 11) ∧
    (0 < since → now.testBit 12 = old.testBit 12 ∧
      now.testBit 11 = (old.testBit 11 && !(since == 1 && !r.ovr)))

/-- A pulse output is low, high, high while its timer's count is below CMP, its own toggle, or the filtered level of
its input, as MODE says, inverted by INVERT; it is low while the MOTION domain is not clocked (R244, Table 09.8; where
a toggle starts is log entry 90). -/
def Sys2Proof.Claim.OutputsFollowTheirMode : Prop :=
  ∀ (s : State) (k : Nat), k < 2 →
    let c := rword s.win.regs (2 + k)
    let n := c / 1024 % 8
    let raw : Bool := match c / 8192 with
      | 0 => false
      | 1 => true
      | 2 => decide (rwords s.win.regs (gtWords s.win.regs n 0) < s.win.inForce n 4)
      | 3 => if k = 0 then s.win.spo0 else s.win.spo1
      | 4 => if k = 0 then s.win.spo0 else s.win.spo1
      | 5 => (s.motion.src.getD (c / 128 % 8) {}).level
      | _ => false
    (s.awake = false → s.spoPin k = false) ∧
    (s.awake = true → s.spoPin k = if c.testBit 6 then !raw else raw)

/-- A linked action takes effect in the MOTION cycle in which it is due, and not before: START sets RUN, STOP clears
it, CLEAR sets the count to 0 (R241, R242). With none waiting, nothing happens. What the spec leaves open here is read
as log entry 71 says. Completes (concludes `exec c s = .next t`): linkedAction. -/
def Sys2Proof.Claim.LinkedActionsTakeEffect : Prop :=
  ∀ (s : State) (cycle : Nat) (a : Linked), a.target < 8 → a.sender < 8 → s.awake = true → s.win.regs.wf = true →
    let n := a.target
    (s.win.linked = [] → exec (.linkedAction cycle) s = .next s) ∧
    (s.win.linked = [a] → cycle < a.due → exec (.linkedAction cycle) s = .next s) ∧
    (s.win.linked = [a] → a.due ≤ cycle → a.code = 3 ∨ a.code = 4 ∨ a.code = 5 →
      ∃ t, exec (.linkedAction cycle) s = .next t ∧
        t = { s with win := { s.win with linked := [], regs := t.win.regs, counted := t.win.counted } } ∧
        (a.code = 3 → gtRun t.win.regs n = true ∧ (gtRun s.win.regs n = false → t.win.counted = s.win.counted.set n cycle)) ∧
        (a.code = 4 → (rword t.win.regs (gtBase n + 9)).testBit 15 = false) ∧
        (a.code = 5 → rwords t.win.regs (gtWords s.win.regs n 0) = 0))

/-- A change of level that is not counted, and that the glitch filter passes, is only kept as the level of its input
(R212, R244); any other changes nothing. Completes (concludes `exec c s = .next t`): speedInputLevelChange. -/
def Sys2Proof.Claim.UncountedEdgesKeepTheLevel : Prop :=
  ∀ (n held : Nat) (level : Bool) (s : State),
    exec (.speedInputLevelChange n level held) s = .next
      (if s.awake = true ∧ 4 * filterOf s.thal.cur n ≤ held ∧ level = edgeFalling s.thal.cur n then
        { s with motion := { s.motion with
            src := s.motion.src.set n { s.motion.src.getD n {} with level := level } } } else s)

/-- Timers, speed counters, outputs, linked actions and uncounted edges: together, `CountEdgesAdvance` and
`SpeedCountersCount` and `OutputsFollowTheirMode` and `LinkedActionsTakeEffect` and `UncountedEdgesKeepTheLevel`.
Completes (concludes `exec c s = .next t`): gtCountEdge, linkedAction, speedInputLevelChange. -/
def Obligations.TimersCount : Prop :=
  Claim.CountEdgesAdvance ∧ Claim.SpeedCountersCount ∧ Claim.OutputsFollowTheirMode ∧ Claim.LinkedActionsTakeEffect ∧
    Claim.UncountedEdgesKeepTheLevel

/-! ### Keys -/

/-- A spore load is admitted with an outstanding request (device load) or a slot to take it (host load), and its work
unwraps and stages the key, which takes no slot before the commit phase; the spore reserve runs three device loads in
a tick, and a further one waits (R36). A device load needs an ordinary entry with the key's check value, and is marked
when latched after its deadline; a spore that fails its tests is answered with its REASON (R21, R274, R280, R282,
R283, R285). What the spec leaves open here is read as log entries 39, 73, 93 say. Completes (concludes `exec c s =
.next t`): sporeLoadNeeded, sporeLoadHost. -/
def Sys2Proof.Claim.SporesAreStaged : Prop :=
  (∀ (h : Hdr) (args : Bytes) (s : State),
    let sp := args.drop 3
    args.length = 99 → slice args 1 2 = [0#8, 0#8] → sporeBad sp = false →
      (let k : Clause := ⟨0x40, h, 0#8 :: args⟩;
        k.clear { deadline := 2 } s = true → oct args 0 = 0xFF → oct sp 1 = 1 → (s.requestOf (sporeIdent sp)).isSome = true →
          (s.ks.loadsStaged < 3 → exec (.sporeLoadNeeded h args) s = .next (k.goes { deadline := 2 } .nothing
            (aesRun fun tk b => b.stageSpore tk false 0xFF sp) s)) ∧
          (3 ≤ s.ks.loadsStaged → exec (.sporeLoadNeeded h args) s = .next
            (let b := k.begun { deadline := 2 } s
             { b with work := b.work ++ [k.queued { deadline := 2 } .nothing s] }))) ∧
      (let k : Clause := ⟨0x40, h, 1#8 :: args⟩;
        k.clear { lane := 40 } s = true → (oct args 0 ≤ 63 ∨ oct args 0 = 0xFF) → 3 ≤ oct sp 1 →
          s.ks.slotRefused (oct args 0) = false →
          exec (.sporeLoadHost h args) s = .next (k.goes { lane := 40 } .nothing
            (aesRun fun tk b => b.stageSpore tk true (oct args 0) sp) s))) ∧
  ∀ (tk : Ticket) (sp : Bytes) (slot : Nat) (b : State),
    let i := sporeIdent sp
    let staged := fun (host late : Bool) (key : Bytes) =>
      (({ b with ks := { b.ks with work := b.ks.work ++ [.load tk host sp slot key late] } } : State).done tk
        ([0xFF#8, 0#8, 0#8, 0#8] ++ padTo 8 (Crypto.keyCheck key)))
    let turned := fun (status reason : Nat) (check : Bytes) =>
      b.reply tk status ([0xFF#8] ++ leN 1 reason ++ [0#8, 0#8] ++ padTo 8 check)
    (∀ key, b.ks.unwrap sp = .key key →
      (b.ks.slotRefused slot = false → b.stageSpore tk true slot sp = staged true false key) ∧
      (∀ r, b.requestOf i = some r →
        (b.entryTakes i key = true → b.stageSpore tk false slot sp = staged false (decide (r.deadline < b.latchedAt tk)) key) ∧
        (b.ordinary i = none → b.stageSpore tk false slot sp = turned 0x31 4 (Crypto.keyCheck key)) ∧
        (∀ e, b.ordinary i = some e → e.keyField.take 8 ≠ Crypto.keyCheck key →
          b.stageSpore tk false slot sp = turned 0x32 3 (Crypto.keyCheck key)))) ∧
    (∀ reason, reason = 1 ∨ reason = 2 → b.ks.unwrap sp = .bad reason → b.ks.slotRefused slot = false →
      b.stageSpore tk true slot sp = turned (if reason = 1 then 0x32 else 0x31) reason [])

/-- SPORE_WRAP answers the spore of its key under a nonce drawn from the key wire, for a sealed clause alone (R281).
Completes (concludes `exec c s = .next t`): sporeWrap. -/
def Sys2Proof.Claim.SporeWrapAnswersASpore : Prop :=
  ∀ (h : Hdr) (args : Bytes) (s : State),
    let k : Clause := ⟨0x42, h, args⟩
    let n : Need := { lane := 60, deadline := 8 }
    k.clear n s = true → wrapBad args = false → (k.ticket s).sess ≠ none →
      exec (.sporeWrap h args) s = .next (k.draws n (aesRun fun tk b =>
        let d := b.draw .key 12
        d.2.done tk (b.ks.wrap (oct args 0) (oct args 1) (oct args 2) (slice args 4 8) (args.drop 12) d.1 b.tick)) s)

/-- SPORE_LOAD and SPORE_WRAP: together, `SporesAreStaged` and `SporeWrapAnswersASpore`. Completes (concludes `exec c
s = .next t`): sporeLoadNeeded, sporeLoadHost, sporeWrap. -/
def Obligations.SporesAreStagedAndWrapped : Prop :=
  Claim.SporesAreStaged ∧ Claim.SporeWrapAnswersASpore

/-- What the device wraps it unwraps: a spore of SPORE_WRAP opens to its key while no node of its path is retired
(R278 to R281). -/
def Obligations.SporesUnwrapToTheirKey : Prop :=
  ∀ (ks : KeyStore) (kind domain usage : Nat) (binding key iv : Bytes) (tick : Nat),
    1 ≤ kind → kind ≤ 4 → domain < 16 → usage < 256 → binding.length = 8 → iv.length = 12 → key.length = keyLength kind →
      ks.ngen 1 5 0 0 < 65536 → ks.ngen 2 5 0 0 < 65536 → ks.ngen 3 5 0 domain < 65536 →
      ks.unwrap (ks.wrap kind domain usage binding key iv tick) = .key key

/-- SPORE_EVICT, KEY_RETIRE and FROND_DERIVE of a host key wait for the commit phase of their tick, in admission order
(R273, R276, R286 to R289). What an earlier clause of the tick has promised counts at the tests of a later one, and a
retirement outdated at the commit phase ends KEY_STALE, as the model reads it (log entries 38, 73). Completes
(concludes `exec c s = .next t`): sporeEvict, keyRetire, frondDeriveDerive. -/
def Sys2Proof.Claim.KeyClausesWait : Prop :=
  ∀ (h : Hdr) (args : Bytes) (verified : Bool) (s : State),
    let queued := fun (w : KeyWork) (tk : Ticket) (b : State) =>
      (({ b with ks := { b.ks with work := b.ks.work ++ [w] } } : State).done tk [])
    (let k : Clause := ⟨0x41, h, args⟩
      let x := s.ks.slot (oct args 0)
      k.clear { lane := 10 } s = true → args.length = 4 → oct args 0 ≤ 63 → byteAt args 1 = 0#8 → x.isHost = true →
        (num args 2 2 = 0 ∨ num args 2 2 = x.gen) →
        exec (.sporeEvict h args) s = .next (k.goes { lane := 10 } .nothing
          (fun tk b => queued (.evict tk (oct args 0) (num args 2 2)) tk b) s)) ∧
    (let k : Clause := ⟨0x44, h, args⟩
      let n : Need := { lane := 40, nvm := 2, deadline := 8 }
      let g := s.ks.ngen (oct args 0) (oct args 1) (oct args 2) (oct args 3)
      k.clear n s = true → args.length = 8 → slice args 6 2 = [0#8, 0#8] →
        nodeListed (oct args 0) (oct args 1) (oct args 2) (oct args 3) = true → nodeRetirable (oct args 1) = true →
        (k.ticket s).sess ≠ none → num args 4 2 = g → g ≠ 0xFFFF → s.ks.gensFull = false →
        s.crownHeld (oct args 0) (oct args 1) (oct args 2) (oct args 3) = false →
        exec (.keyRetire h args verified) s = .next (k.goes n (.flag verified) (fun tk b =>
          if b.ks.gensFull ∧ b.ks.retiring (oct args 0) (oct args 1) (oct args 2) (oct args 3) = false then b.reply tk 0x11 []
          else queued (.retire tk (oct args 0) (oct args 1) (oct args 2) (oct args 3) verified) tk b) s)) ∧
    (let k : Clause := ⟨0x43, h, 0#8 :: args⟩
      let n : Need := { lane := 40, deadline := 8 }
      let p := oct args 0
      let q := oct args 1
      k.clear n s = true → args.length = 23 → 0x10 ≤ p → p ≤ 0x1F → (oct args 2 = 3 ∨ oct args 2 = 4) →
        1 ≤ oct args 3 → oct args 3 ≤ 7 → (oct args 4 ≤ 63 ∨ oct args 4 = 0xFF) → slice args 5 2 = [0#8, 0#8] →
        s.ks.slotRefused (oct args 4) = false →
        exec (.frondDeriveDerive h args) s = .next (k.goes n .nothing (aesRun fun tk b =>
          if b.ks.slotRefused (oct args 4) then b.reply tk 0x11 []
          else queued (.derive tk (oct args 4)
            { kind := oct args 2, usage := byteAt args 3, owner := none
              key := (b.ks.nodeKey 1 p q (args.drop 7)).take (if oct args 2 = 4 then 32 else 16)
              origin := .node 1 p q (b.ks.ngen 1 1 0 0) (b.ks.ngen 2 1 p 0) (b.ks.ngen 3 1 p q) }) tk b) s))

/-- FROND_DERIVE answers a signing frond's public key with its KEY_ID, or a node's generations and whether it may be
retired (R272, R287, R288, R304, Table 11.5). What the spec leaves open here is read as log entry 38 says. Completes
(concludes `exec c s = .next t`): frondDerivePublic, frondDeriveNode. -/
def Sys2Proof.Claim.FrondQueriesAnswer : Prop :=
  ∀ (h : Hdr) (args : Bytes) (s : State),
    let n : Need := { lane := 40, deadline := 8 }
    (∀ cv, let k : Clause := ⟨0x43, h, 1#8 :: args⟩
      k.clear n s = true → args.length = 4 → (oct args 0 = 3 ∨ oct args 0 = 6) → Crypto.curveOf (oct args 1) = some cv →
        1 ≤ oct args 1 → oct args 1 ≤ 4 → slice args 2 2 = [0#8, 0#8] →
        exec (.frondDerivePublic h args) s = .next (k.goes n .nothing (hashedRun fun tk b =>
          let q := b.log.public (oct args 0) (oct args 1)
          b.done tk (slice args 1 1 ++ zeros 3 ++ Crypto.ptBytes cv q.1 q.2 ++ Crypto.keyId cv q.1 q.2)) s)) ∧
    (let k : Clause := ⟨0x43, h, 2#8 :: args⟩
      let l := oct args 0
      let f := oct args 1
      let p := oct args 2
      let q := oct args 3
      k.clear n s = true → args.length = 7 → nodeListed l f p q = true → slice args 4 3 = [0#8, 0#8, 0#8] →
        exec (.frondDeriveNode h args) s = .next (k.goes n .nothing (fun tk b => b.done tk
          (leN 2 (b.ks.ngen 1 f 0 0) ++ leN 2 (if 2 ≤ l then b.ks.ngen 2 f p 0 else 0) ++
            leN 2 (if l = 3 then b.ks.ngen 3 f p q else 0) ++
            leN 1 (if nodeRetirable f = true ∧ b.crownHeld l f p q = false then 1 else 0) ++ [0#8])) s))

/-- SPORE_EVICT, KEY_RETIRE and FROND_DERIVE: together, `KeyClausesWait` and `FrondQueriesAnswer`. Completes
(concludes `exec c s = .next t`): sporeEvict, keyRetire, frondDeriveDerive, frondDerivePublic, frondDeriveNode. -/
def Obligations.KeyWorkWaits : Prop :=
  Claim.KeyClausesWait ∧ Claim.FrondQueriesAnswer

/-! ### The tick -/

/-- Key work takes effect at the commit phase of its tick: a derived host key and an unwrapped host spore come into
the slot named, or the lowest empty one, under its next generation, unless an engine holds that slot by then or no
host slot is left; a device spore that its request's entry takes comes into the lowest empty slot, held by the engine
that asked, and is refused KEY_STALE otherwise; an eviction empties a slot and keeps its generation, unless the slot
no longer holds the key it names; a retirement that verifies raises the node's generation and wipes its keys, one that
does not changes nothing, and one that an earlier retirement has overtaken is answered KEY_STALE, as log entries 38
and 39 read it (R274 to R276, R283 to R290). That a test which no longer holds at the commit phase ends its clause
with that test's status is the model's choice (log entry 96). A retirement is remembered while a clause latched before
it waits. -/
def Sys2Proof.Claim.KeyWorkCommits : Prop :=
  ∀ (s : State) (tk : Ticket),
    let kept := fun (k : KeyStore) =>
      ({ k with work := [], retired := k.retired.filter fun r => s.work.any fun q => q.ticket.order < r.1 } : KeyStore)
    let place := fun (slot : Nat) => if slot = 0xFF then s.ks.slots.findIdx (fun x => x.content.isNone) else slot
    let gen := fun (i : Nat) => if (s.ks.slot i).gen % 65536 = 65535 then 1 else (s.ks.slot i).gen % 65536 + 1
    let filled := fun (i : Nat) (c : SlotKey) => s.ks.slots.set i { gen := gen i, content := some c, ivs := 0 }
    let taken := fun (slot : Nat) => (slot ≠ 0xFF ∧ ∃ c, (s.ks.slot slot).content = some c ∧ c.owner ≠ none) ∨
      (56 ≤ (s.ks.slots.filter fun x => x.content.any fun c => c.owner.isNone).length ∧
        (slot = 0xFF ∨ (s.ks.slot slot).content = none))
    let turned := fun (status : Nat) => ({ s with ks := kept s.ks } : State).amend tk status []
    (∀ slot c, s.ks.work = [.derive tk slot c] → taken slot → s.commitKeys = turned 0x11) ∧
    (∀ slot sp key late, s.ks.work = [.load tk true sp slot key late] → taken slot → s.commitKeys = turned 0x11) ∧
    (∀ slot c f a b x y z, s.ks.work = [.derive tk slot c] → c.origin = .node f a b x y z → ¬ taken slot →
      place slot < s.ks.slots.length →
      s.commitKeys = ({ s with ks := kept { s.ks with slots := filled (place slot) c } } : State).amend tk 0
        (leN 1 (place slot) ++ [0#8] ++ leN 2 (gen (place slot)) ++ (leN 2 x ++ leN 2 y ++ leN 2 z) ++ zeros 2 ++
          Crypto.keyCheck c.key)) ∧
    (∀ slot sp key late, s.ks.work = [.load tk true sp slot key late] → ¬ taken slot → place slot < s.ks.slots.length →
      ∃ c : SlotKey, c.kind = oct sp 1 ∧ c.usage = byteAt sp 3 ∧ c.key = key ∧ c.owner = none ∧
        s.commitKeys = ({ s with ks := kept { s.ks with slots := filled (place slot) c } } : State).amend
          tk 0 (leN 1 (place slot) ++ [0#8] ++ leN 2 (gen (place slot)) ++ padTo 8 (Crypto.keyCheck key))) ∧
    (∀ sp key late, s.ks.work = [.load tk false sp 0xFF key late] →
      let i := sporeIdent sp
      let stale := ({ s with ks := kept s.ks } : State).amend tk 0x31 ([0xFF#8, 4#8, 0#8, 0#8] ++ padTo 8 (Crypto.keyCheck key))
      ((s.requestsOf i = [] ∨ late = true ∨ s.entryTakes i key = false) → s.commitKeys = stale) ∧
      (∀ r rest, s.requestsOf i = r :: rest → late = false → s.entryTakes i key = true → place 0xFF < s.ks.slots.length →
        ∃ c : SlotKey, c.owner = some r.engine ∧ c.token = i ∧ c.key = key ∧
          s.commitKeys.ks = kept { s.ks with
            slots := filled (place 0xFF) c, requests := s.ks.requests.filter fun x => x.engine != r.engine } ∧
          (∀ b, s.current r.engine = some b → b.phase = .running → ∃ b', s.commitKeys.current r.engine = some b' ∧
            b'.cur = b.cur.map fun y => { y with slot := some (place 0xFF), gen := gen (place 0xFF) }))) ∧
    (∀ slot expected, s.ks.work = [.evict tk slot expected] →
      (s.ks.slot slot).content = none ∨ (∃ c, (s.ks.slot slot).content = some c ∧ c.owner ≠ none) ∨
        (expected ≠ 0 ∧ expected ≠ (s.ks.slot slot).gen) → s.commitKeys = turned 0x11) ∧
    (∀ slot expected c, s.ks.work = [.evict tk slot expected] → (s.ks.slot slot).content = some c → c.owner = none →
      expected = 0 ∨ expected = (s.ks.slot slot).gen → s.commitKeys = ({ s with ks := kept { s.ks with
          slots := s.ks.slots.set slot { s.ks.slot slot with content := none } } } : State).amend tk 0
        (leN 1 slot ++ [0#8] ++ leN 2 (s.ks.slot slot).gen)) ∧
    (∀ l f a b, s.ks.work = [.retire tk l f a b true] →
      (s.ks.overtaken tk l f a b = false → ∃ wiped, ∃ u : State,
        s.commitKeys = u.amend tk 0 (leN 2 (s.ks.ngen l f a b + 1) ++ leN 1 wiped ++ [0#8] ++ leN 4 s.tick) ∧
        u.ks = kept (({ s.ks with work := [] } : KeyStore).retireNode l f a b s.orderNo) ∧
        u = { s.recordReply tk 0x50 (leN 1 l ++ leN 1 f ++ leN 1 a ++ leN 1 b ++ leN 2 (s.ks.ngen l f a b + 1) ++ leN 1 wiped ++
          zeros 1) with ks := u.ks })) ∧
    (∀ l f a b ok, s.ks.work = [.retire tk l f a b ok] → s.ks.overtaken tk l f a b = true →
        s.commitKeys = ({ s with ks := kept s.ks } : State).amend tk 0x31 (zeros 4 ++ leN 4 s.tick)) ∧
    (∀ l f a b, s.ks.work = [.retire tk l f a b false] → s.ks.overtaken tk l f a b = false → ∃ k : KeyStore,
      s.commitKeys = ({ s with ks := kept k } : State).amend tk 0x33 [] ∧ k.slots = s.ks.slots ∧ k.rhizome = s.ks.rhizome ∧
        k.retired = s.ks.retired ∧ ∀ l' f' a' b', k.ngen l' f' a' b' = s.ks.ngen l' f' a' b')

/-- A retirement raises the node's generation by one in a new copy of the generation table, and leaves in the cache no
key of the node or of a descendant; keys of other nodes stay (R273, R288, R289, R290). -/
def Sys2Proof.Claim.RetirementWipesTheSubtree : Prop :=
  ∀ (k : KeyStore) (l f a b order : Nat),
    let r := k.retireNode l f a b order
    r.ngen l f a b = k.ngen l f a b + 1 ∧
      (∀ x ∈ r.slots, ∀ c, x.content = some c → c.origin.under l f a b = false) ∧
      (∀ (i : Nat) (x : Slot) (c : SlotKey), k.slots[i]? = some x → x.content = some c → c.origin.under l f a b = false →
        r.slots[i]? = some x) ∧
      r.slots.length = k.slots.length ∧ r.rhizome = k.rhizome ∧ r.retired = k.retired ++ [(order, l, f, a, b)] ∧
      (∀ l' f' a' b', nodeCovers l f a b l' f' a' b' = false → r.ngen l' f' a' b' = k.ngen l' f' a' b')

/-- Key work at the commit phase; retirement: together, `KeyWorkCommits` and `RetirementWipesTheSubtree`. -/
def Obligations.KeyWorkTakesEffect : Prop :=
  Claim.KeyWorkCommits ∧ Claim.RetirementWipesTheSubtree

/-! ### The cipher cluster -/

/-- ENCRYPT and DECRYPT in one clause, GCM and CCM: encryption answers a drawn IV or nonce, the ciphertext and the
tag; decryption the plaintext when the tag verifies, AUTH_FAIL and no byte of it otherwise (R296, R299, R300).
Completes (concludes `exec c s = .next t`): encryptOneshot, decryptOneshot. -/
def Sys2Proof.Claim.OneshotCiphersAnswer : Prop :=
  ∀ (h : Hdr) (args : Bytes) (c : SlotKey) (s : State),
    let n : Need := { lane := 35, deadline := 8 }
    let b := args.drop 7
    let m := oct args 0
    let tl := oct args 5
    let kE : Clause := ⟨0x48, h, 0#8 :: args⟩
    let kD : Clause := ⟨0x49, h, 0#8 :: args⟩
    7 ≤ args.length → (m = 1 ∧ tl = 16 ∨ m = 2 ∧ tl ∈ [8, 10, 12, 14, 16]) → oct args 1 = 0 → oct args 6 = 0 →
      (let aad := slice b 1 (oct b 0)
        let pt := b.drop (1 + oct b 0)
        let nl := if m = 1 then 12 else 13
        keyNamed s args 0 c → b ≠ [] → 1 + oct b 0 ≤ b.length → (kE.ticket s).room (nl + pt.length + tl) = true →
          (m = 1 → (s.ks.slot (oct args 2)).ivs < 2 ^ 32) → kE.clear n s = true →
          exec (.encryptOneshot h args) s = .next (kE.draws n (aesRun fun tk b => b.withKey tk args fun key _ b =>
            let d := b.draw .cipher nl
            if m = 1 then ({ d.2 with ks := d.2.ks.countIv (oct args 2) } : State).done tk
              (d.1 ++ Crypto.gcmCrypt key d.1 pt ++ Crypto.gcmTag key d.1 aad (Crypto.gcmCrypt key d.1 pt))
            else d.2.done tk (d.1 ++ Crypto.ccmCrypt key d.1 pt ++ Crypto.ccmTag key d.1 aad pt tl)) s)) ∧
      (let nl := if m = 2 then 13 else 12
        let iv := b.take nl
        let aad := slice b (nl + 1) (oct b nl)
        let rest := b.drop (nl + 1 + oct b nl)
        let ct := rest.take (rest.length - tl)
        let tag := rest.drop (rest.length - tl)
        keyNamed s args 1 c → nl + 1 + oct b nl + tl ≤ b.length → nl < b.length →
          (kD.ticket s).room (b.length - (nl + 1 + oct b nl + tl)) = true → kD.clear n s = true →
          exec (.decryptOneshot h args) s = .next (kD.goes n .nothing (aesRun fun tk b => b.withKey tk args fun key _ b =>
            let pt := if m = 1 then Crypto.gcmCrypt key iv ct else Crypto.ccmCrypt key iv ct
            let want := if m = 1 then Crypto.gcmTag key iv aad ct else Crypto.ccmTag key iv aad pt tl
            if tag = want then b.done tk pt else b.reply tk 0x32 []) s))

/-- MAC in one clause answers the CMAC of its data, cut to the tag length; under VERIFY it compares it and answers
nothing (R296). Completes (concludes `exec c s = .next t`): macOneshot. -/
def Sys2Proof.Claim.OneshotMacAnswers : Prop :=
  ∀ (h : Hdr) (args : Bytes) (c : SlotKey) (s : State),
    let n : Need := { lane := 30, deadline := 8 }
    let k : Clause := ⟨0x4A, h, 0#8 :: args⟩
    let b := args.drop 7
    let tl := oct args 5
    7 ≤ args.length → oct args 0 = 3 → oct args 1 = 0 → 4 ≤ tl → tl ≤ 16 → keyNamed s args 2 c →
      k.clear n s = true →
      (oct args 6 = 0 → exec (.macOneshot h args) s = .next (k.goes n .nothing (aesRun fun tk w =>
        w.withKey tk args fun key _ w => w.done tk ((Crypto.cmac key b).take tl)) s)) ∧
      (oct args 6 = 1 → tl ≤ b.length → exec (.macOneshot h args) s = .next (k.goes n .nothing (aesRun fun tk w =>
        w.withKey tk args fun key _ w => w.reply tk
          (if b.drop (b.length - tl) = (Crypto.cmac key (b.take (b.length - tl))).take tl then 0 else 0x32) []) s))

/-- GCM text deciphers to what was enciphered, keeps its length, and can be enciphered in pieces of whole blocks
(R297, R300). -/
def Sys2Proof.Claim.TextDeciphers : Prop :=
  ∀ (key iv text : Bytes), Crypto.gcmCrypt key iv (Crypto.gcmCrypt key iv text) = text ∧
    (Crypto.gcmCrypt key iv text).length = text.length ∧
    ∀ (more : Bytes), text.length % 16 = 0 →
      Crypto.gcmCrypt key iv (text ++ more) =
        Crypto.gcmCrypt key iv text ++ (Crypto.gcmCrypt key iv (text ++ more)).drop text.length

/-- The key of a cipher clause, or none: a clause whose slot is empty when it runs, or a device slot, or whose GEN is
neither 0 nor the slot's, is answered KEY_STALE; so is a later clause of a context whose key has gone or changed, and
the context closes (R274, R275, R276, R298). -/
def Sys2Proof.Claim.KeysOfClausesAreTested : Prop :=
  ∀ (tk : Ticket) (args : Bytes) (f : Bytes → Nat → State → State) (g : Ctx → Bytes → State → State) (b : State),
    let x := b.ks.slot (oct args 2)
    let shut := (b.onPort tk.port (Port.setCtx (oct args 1) none)).reply tk 0x31 []
    (∀ c, x.content = some c → c.owner = none → num args 3 2 = 0 ∨ num args 3 2 = x.gen → b.withKey tk args f = f c.key x.gen b) ∧
    (x.content = none ∨ (∃ c, x.content = some c ∧ c.owner ≠ none) ∨ (num args 3 2 ≠ 0 ∧ num args 3 2 ≠ x.gen) → b.withKey tk args f = b.reply tk 0x31 []) ∧
    ∀ cx, (b.port tk.port).ctx (oct args 1) = some cx →
      (∀ c, (b.ks.slot cx.slot).content = some c → c.owner = none → (b.ks.slot cx.slot).gen = cx.gen →
        b.withCtx tk args g = g { cx with lastTick := b.tick } c.key b) ∧
      ((b.ks.slot cx.slot).content = none ∨ (∃ c, (b.ks.slot cx.slot).content = some c ∧ c.owner ≠ none) ∨ (b.ks.slot cx.slot).gen ≠ cx.gen → b.withCtx tk args g = shut)

/-- ENCRYPT, DECRYPT and MAC in one clause: together, `OneshotCiphersAnswer` and `OneshotMacAnswers` and
`TextDeciphers` and `KeysOfClausesAreTested`. Completes (concludes `exec c s = .next t`): encryptOneshot,
decryptOneshot, macOneshot. -/
def Obligations.OneshotsCipher : Prop :=
  Claim.OneshotCiphersAnswer ∧ Claim.OneshotMacAnswers ∧ Claim.TextDeciphers ∧ Claim.KeysOfClausesAreTested

/-- BEGIN opens a closed context of its port under the named key: ENCRYPT with a drawn IV, which it answers; DECRYPT
with the IV given, as native GCM or, where the thallus allows it, as a compatibility stream; MAC with its first data
(R297, R298, R299, R301). Completes (concludes `exec c s = .next t`): encryptBegin, decryptBegin, macBegin. -/
def Sys2Proof.Claim.BeginOpensAContext : Prop :=
  ∀ (h : Hdr) (args : Bytes) (c : SlotKey) (s : State),
    let b := args.drop 7
    let x := oct args 1
    let n : Need := { lane := 35, deadline := 8 }
    let nM : Need := { lane := 30, deadline := 8 }
    7 ≤ args.length → x ≤ 1 → (s.port h.port).ctx x = none →
      (let k : Clause := ⟨0x48, h, 1#8 :: args⟩;
        oct args 0 = 1 → oct args 5 = 16 → oct args 6 = 0 → keyNamed s args 0 c →
          (s.ks.slot (oct args 2)).ivs < 2 ^ 32 → k.clear n s = true →
          exec (.encryptBegin h args) s = .next (k.draws n (aesRun fun tk w => w.withKey tk args fun _ gen w =>
            let d := w.draw .cipher 12
            (({ d.2 with ks := d.2.ks.countIv (oct args 2) } : State).onPort tk.port
              (Port.setCtx x (some { verb := 0x48, mode := 1, slot := oct args 2, gen := gen, iv := d.1, aad := b
                                     tagLen := 16, text := [], verified := false, lastTick := w.tick, begun := tk.order }))).done tk d.1) s)) ∧
      (let k : Clause := ⟨0x49, h, 1#8 :: args⟩;
        (oct args 0 = 1 ∨ oct args 0 = 4 ∧ thalCompat s.thal.cur = true) → oct args 5 = 16 → oct args 6 = 0 →
          12 ≤ b.length → keyNamed s args 1 c → k.clear n s = true →
          exec (.decryptBegin h args) s = .next (k.goes n .nothing (aesRun fun tk w => w.withKey tk args fun _ gen w =>
            (w.onPort tk.port (Port.setCtx x
              (some { verb := 0x49, mode := oct args 0, slot := oct args 2, gen := gen, iv := b.take 12, aad := b.drop 12
                      tagLen := 16, text := [], verified := false, lastTick := w.tick, begun := tk.order }))).done tk []) s)) ∧
      (let k : Clause := ⟨0x4A, h, 1#8 :: args⟩;
        oct args 0 = 3 → 4 ≤ oct args 5 → oct args 5 ≤ 16 → oct args 6 ≤ 1 → keyNamed s args 2 c →
          k.clear nM s = true →
          exec (.macBegin h args) s = .next (k.goes nM .nothing (aesRun fun tk w => w.withKey tk args fun _ gen w =>
            (w.onPort tk.port (Port.setCtx x
              (some { verb := 0x4A, mode := 3, slot := oct args 2, gen := gen, iv := [], aad := [], tagLen := oct args 5
                      text := b, verified := false, lastTick := w.tick, begun := tk.order }))).done tk []) s))

/-- A later clause of an open context: UPDATE takes whole blocks and answers their text (a native decryption holds it
back, a compatibility stream puts STATE before it), FINAL answers or tests the tag and closes the context (a native
decryption that verifies stays open, to be read), READ answers verified plaintext, ABORT closes (R297, R298, R300,
R301). What the spec leaves open here is read as log entries 40, 64 say. Completes (concludes `exec c s = .next t`):
encryptUpdate, encryptFinal, decryptUpdate, decryptFinal, decryptRead, macUpdate, macFinal, encryptAbort,
decryptAbort, macAbort. -/
def Sys2Proof.Claim.ContextsRun : Prop :=
  ∀ (h : Hdr) (args : Bytes) (cx : Ctx) (s : State),
    let b := args.drop 7
    let x := oct args 1
    let n : Need := { lane := 35, deadline := 8 }
    let nM : Need := { lane := 30, deadline := 8 }
    let keep := fun (w : State) (tk : Ticket) (c : Ctx) (r : Bytes) =>
      (w.onPort tk.port (Port.setCtx x (some c))).done tk r
    let close := fun (w : State) (tk : Ticket) (status : Nat) (r : Bytes) =>
      (w.onPort tk.port (Port.setCtx x none)).reply tk status r
    let ct := fun (key : Bytes) (c : Ctx) => Crypto.gcmCrypt key c.iv (c.text ++ b)
    let stream := fun (k : Clause) (run : Ticket → State → State) =>
      if k.drawsRandom s then k.draws n run s else k.goes n .nothing run s
    7 ≤ args.length → oct args 0 = 0 → x ≤ 1 → slice args 2 4 = zeros 4 → oct args 6 = 0 →
      (s.port h.port).ctx x = some cx →
      (let k : Clause := ⟨0x48, h, 2#8 :: args⟩;
        cx.verb = 0x48 → b.length % 16 = 0 → (k.ticket s).room b.length = true → k.clear n s = true →
          exec (.encryptUpdate h args) s = .next (stream k fun tk w => w.withCtxAes tk args fun c key w =>
            keep w tk { c with text := c.text ++ b } ((ct key c).drop c.text.length))) ∧
      (let k : Clause := ⟨0x48, h, 3#8 :: args⟩;
        cx.verb = 0x48 → (k.ticket s).room (b.length + 16) = true → k.clear n s = true →
          exec (.encryptFinal h args) s = .next (stream k fun tk w => w.withCtxAes tk args fun c key w =>
            close w tk 0 ((ct key c).drop c.text.length ++ Crypto.gcmTag key c.iv c.aad (ct key c)))) ∧
      (let k : Clause := ⟨0x49, h, 2#8 :: args⟩;
        cx.verb = 0x49 → cx.verified = false → b.length % 16 = 0 →
          (cx.mode = 1 ∧ cx.text.length + b.length ≤ 4096 ∨ cx.mode = 4 ∧ (k.ticket s).room (4 + b.length) = true) →
          k.clear n s = true →
          exec (.decryptUpdate h args) s = .next (k.goes n .nothing (fun tk w => w.withCtxAes tk args fun c key w =>
            keep w tk { c with text := c.text ++ b }
              (if c.mode = 4 then zeros 4 ++ (ct key c).drop c.text.length else [])) s)) ∧
      (let k : Clause := ⟨0x49, h, 3#8 :: args⟩;
        cx.verb = 0x49 → cx.verified = false → 16 ≤ b.length → k.clear n s = true →
          (cx.mode = 1 ∧ cx.text.length + (b.length - 16) ≤ 4096 ∨ cx.mode = 4 ∧ b.length = 16) →
          exec (.decryptFinal h args) s = .next (k.goes n .nothing (fun tk w => w.withCtxAes tk args fun c key w =>
            let text := c.text ++ b.take (b.length - 16)
            let ok := decide (Crypto.gcmTag key c.iv c.aad text = b.drop (b.length - 16))
            let r := w.total text.length ++ [if ok then 1#8 else 0#8, 0#8]
            if c.mode = 4 then
              if ok then close w.drew tk 0 r else close (w.drew.compatFail tk x c) tk 0x32 r
            else if ok then keep w tk { c with text := text, verified := true } (leN 2 text.length ++ [1#8, 0#8])
            else close w tk 0x32 []) s)) ∧
      (let k : Clause := ⟨0x49, h, 4#8 :: args⟩;
        cx.verb = 0x49 → cx.verified = true → b.length = 4 → byteAt b 3 = 0#8 → num b 0 2 + oct b 2 ≤ cx.text.length →
          (k.ticket s).room (4 + oct b 2) = true → k.clear n s = true →
          exec (.decryptRead h args) s = .next (k.goes n .nothing (fun tk w => w.withCtx tk args fun c key w =>
            let r := b.take 3 ++ [0#8] ++ slice (Crypto.gcmCrypt key c.iv c.text) (num b 0 2) (oct b 2)
            if num b 0 2 + oct b 2 = c.text.length then close w tk 0 r else keep w tk c r) s)) ∧
      (let k : Clause := ⟨0x4A, h, 2#8 :: args⟩;
        cx.verb = 0x4A → b.length % 16 = 0 → k.clear nM s = true →
          exec (.macUpdate h args) s = .next (k.goes nM .nothing (fun tk w => w.withCtxAes tk args fun c _ w =>
            keep w tk { c with text := c.text ++ b } []) s)) ∧
      (let k : Clause := ⟨0x4A, h, 3#8 :: args⟩;
        cx.verb = 0x4A → k.clear nM s = true →
          exec (.macFinal h args) s = .next (k.goes nM .nothing (fun tk w => w.withCtxAes tk args fun c key w =>
            close w tk 0 ((Crypto.cmac key (c.text ++ b)).take c.tagLen)) s)) ∧
      (b = [] →
        (let k : Clause := ⟨0x48, h, 5#8 :: args⟩;
          cx.verb = 0x48 → k.clear n s = true → exec (.encryptAbort h args) s = .next (stream k fun tk w =>
            w.withCtx tk args fun _ _ w => close w tk 0 [])) ∧
        (let k : Clause := ⟨0x49, h, 5#8 :: args⟩;
          cx.verb = 0x49 → k.clear n s = true → exec (.decryptAbort h args) s = .next (k.goes n .nothing
            (fun tk w => w.withCtx tk args fun _ _ w => close w tk 0 []) s)) ∧
        (let k : Clause := ⟨0x4A, h, 5#8 :: args⟩;
          cx.verb = 0x4A → k.clear nM s = true → exec (.macAbort h args) s = .next (k.goes nM .nothing
            (fun tk w => w.withCtx tk args fun _ _ w => close w tk 0 []) s)))

/-- What the clauses admitted before may have changed is tested again when a clause runs: a BEGIN whose context
another clause has opened, a later clause whose context is closed or no longer suits it, and an ENCRYPT whose slot has
no GCM IV left end with REFUSED_STATE, an UPDATE that would overflow the held plaintext with REFUSED_ARG; nothing else
changes (R297, R299, R300; log entry 96). -/
def Sys2Proof.Claim.ContextsAreTestedAgain : Prop :=
  ∀ (tk : Ticket) (verb op : Nat) (args : Bytes) (s : State),
    let all := BitVec.ofNat 8 op :: args
    let run := (workOf verb all .nothing).run tk s
    let cx := (s.port tk.port).ctx (oct args 1)
    tk.verb = verb →
    (verb = 0x48 ∨ verb = 0x49 ∨ verb = 0x4A → op = 1 → (verb = 0x48 → s.ivsSpent args = false) →
      (∃ c, cx = some c ∧ c.begun ≠ tk.order) → run = s.reply tk 0x11 []) ∧
    (verb = 0x48 → op = 0 ∨ op = 1 → oct args 0 = 1 → 2 ^ 32 ≤ (s.ks.slot (oct args 2)).ivs → run = s.reply tk 0x11 []) ∧
    (verb = 0x48 ∨ verb = 0x49 ∨ verb = 0x4A → op = 2 ∨ op = 3 ∨ op = 5 → (cx = none ∨ ∃ c, cx = some c ∧ c.verb ≠ verb) →
      run = s.reply tk 0x11 []) ∧
    (∀ c, verb = 0x49 → op = 2 ∨ op = 3 → cx = some c → c.verb = verb → c.verified = true → run = s.reply tk 0x11 []) ∧
    (∀ c, verb = 0x49 → op = 4 → cx = some c → c.verb ≠ verb ∨ c.verified = false → run = s.reply tk 0x11 []) ∧
    ∀ c, verb = 0x49 → op = 2 → cx = some c → c.verb = verb → c.verified = false → c.mode = 1 →
      4096 < c.text.length + (args.length - 7) → run = s.reply tk 0x13 []

/-- MAC FINAL under VERIFY compares the tag after its last data with the CMAC of all of it, answers DONE or AUTH_FAIL
and closes the context (R296, R297). Completes (concludes `exec c s = .next t`): macFinal. -/
def Sys2Proof.Claim.MacFinalVerifies : Prop :=
  ∀ (h : Hdr) (args : Bytes) (cx : Ctx) (s : State),
    let b := args.drop 7
    let n : Need := { lane := 30, deadline := 8 }
    let k : Clause := ⟨0x4A, h, 3#8 :: args⟩
    7 ≤ args.length → oct args 0 = 0 → oct args 1 ≤ 1 → slice args 2 4 = zeros 4 → oct args 6 = 1 →
      (s.port h.port).ctx (oct args 1) = some cx → cx.verb = 0x4A → cx.tagLen ≤ b.length → k.clear n s = true →
      exec (.macFinal h args) s = .next (k.goes n .nothing (fun tk w => w.withCtxAes tk args fun c key w =>
        let data := b.take (b.length - c.tagLen)
        (w.onPort tk.port (Port.setCtx (oct args 1) none)).reply tk
          (if b.drop (b.length - c.tagLen) = (Crypto.cmac key (c.text ++ data)).take c.tagLen then 0 else 0x32) []) s)

/-- A context 39,063 ticks old closes; a younger one, or none, stands (R297). Completes (concludes `exec c s = .next
t`): contextTimeout. -/
def Sys2Proof.Claim.ContextsTimeOut : Prop :=
  ∀ (p : PortId) (x : Nat) (s : State),
    (∀ c, (s.port p).ctx x = some c → c.lastTick + 39063 ≤ s.tick →
      ∃ t, exec (.contextTimeout p x) s = .next t ∧ t = s.setPort p (Port.setCtx x none (s.port p)) ∧
        (t.port p).ctx x = none) ∧
    ((∀ c, (s.port p).ctx x = some c → s.tick < c.lastTick + 39063) → exec (.contextTimeout p x) s = .next s)

/-- Cipher contexts: together, `BeginOpensAContext` and `ContextsRun` and `ContextsAreTestedAgain` and
`MacFinalVerifies` and `ContextsTimeOut`. Completes (concludes `exec c s = .next t`): encryptBegin, decryptBegin,
macBegin, encryptUpdate, encryptFinal, decryptUpdate, decryptFinal, decryptRead, macUpdate, macFinal, encryptAbort,
decryptAbort, macAbort, contextTimeout. -/
def Obligations.ContextsCipher : Prop :=
  Claim.BeginOpensAContext ∧ Claim.ContextsRun ∧ Claim.ContextsAreTestedAgain ∧ Claim.MacFinalVerifies ∧
    Claim.ContextsTimeOut

/-- A parity fault of an AES core that is not fenced counts: the second within 65,536 ticks fences the core and is
recorded. The operation on the core, if one runs there, restarts on the lowest-numbered other core that is free, or,
with its third attempt, is lost. A third failed attempt of the hash engine loses its operation. A signature that fails
its check counts on its ECC core likewise, unless that is out of service, and its second attempt is its last (R291 to
R293, R303, R304). Completes (concludes `exec c s = .next t`): aesParityFault, hashParityFault, eccSignCheckFail. -/
def Sys2Proof.Claim.CoresFailAfterThreeFaults : Prop :=
  ∀ (core attempt : Nat) (second : Bool) (s : State),
    (s.awake = false → exec (.aesParityFault core attempt) s = .next s ∧ exec (.hashParityFault attempt) s = .next s ∧
      exec (.eccSignCheckFail core second) s = .next s) ∧
    (5 < core ∨ s.cipher.aesFenced.getLsbD core = true → exec (.aesParityFault core attempt) s = .next s) ∧
    (1 < core ∨ s.cipher.eccOut.getLsbD core = true → exec (.eccSignCheckFail core second) s = .next s) ∧
    (s.awake = true →
      let aes := s.cipher.aesFaults ++ [(core, s.tick)]
      let ecc := s.cipher.eccFaults ++ [(core, s.tick)]
      let recent := fun (l : List (Nat × Nat)) => (l.filter fun p => p.1 == core && decide (s.tick < p.2 + 65536)).length
      let free := fun (n : Nat) => n < 6 ∧ n ≠ core ∧ s.cipher.aesFenced.getLsbD n = false ∧ ∀ x ∈ s.aesCores, x.2 ≠ n
      (core ≤ 5 → s.cipher.aesFenced.getLsbD core = false →
        ∃ t, exec (.aesParityFault core attempt) s = .next t ∧ t = { s with cipher := t.cipher, log := t.log } ∧
          t.cipher.aesFaults = aes ∧
          t.cipher.aesFenced = (if 2 ≤ recent aes then s.cipher.aesFenced ||| (1#6 <<< core) else s.cipher.aesFenced) ∧
          (2 ≤ recent aes → t.log = (s.note 0x07 (leN 1 core ++ [1#8])).log) ∧ (recent aes < 2 → t.log = s.log) ∧
          (2 ≤ attempt → t.cipher.aesLost = s.cipher.aesLost ++ (s.aesUser core).toList) ∧
          (attempt < 2 → t.cipher.aesLost = s.cipher.aesLost ∧ ∀ u, s.aesUser core = some u →
            ∀ n, free n → (∀ m, m < n → ¬ free m) → (u, n) ∈ t.cipher.aesRetry) ∧
          (∀ u, s.aesUser core = some u → ∀ x ∈ s.aesCores, x.2 ≠ core → x.1 ≠ .next → x ∈ t.cipher.aesRetry)) ∧
      (2 ≤ attempt → exec (.hashParityFault attempt) s = .next
        { s with cipher := { s.cipher with hashExhausted := true } }) ∧
      (attempt < 2 → exec (.hashParityFault attempt) s = .next s) ∧
      (core ≤ 1 → s.cipher.eccOut.getLsbD core = false →
        ∃ t, exec (.eccSignCheckFail core second) s = .next t ∧ t = { s with cipher := t.cipher, log := t.log } ∧
          t.cipher.eccFaults = ecc ∧ t.cipher.eccExhausted = (s.cipher.eccExhausted || second) ∧
          t.cipher.eccOut = (if 2 ≤ recent ecc then s.cipher.eccOut ||| (1#2 <<< core) else s.cipher.eccOut) ∧
          (2 ≤ recent ecc → t.log = (s.note 0x07 (leN 1 (0x10 + core) ++ [2#8])).log) ∧ (recent ecc < 2 → t.log = s.log)))

/-- Which operations the AES cores run: those that a fault has moved keep their core, and the waiting ones take the
lowest-numbered core that is free and not fenced, MAC checks of exchanges first, each on two cores, in ascending
engine order, then key-storage work, then host clauses by last tick, priority and admission order (R43, R291, R293).
-/
def Sys2Proof.Claim.CoresAreAssigned : Prop :=
  ∀ s : State,
    (∀ x ∈ s.cipher.aesRetry, x ∈ s.aesCores) ∧
    (∀ e, e < 4 → (∃ r, .judge e r ∈ s.acts) → s.aesWaiting.count (.mac e) = 2) ∧
    (∀ e f, e < f → f < 4 → (∃ r, .judge e r ∈ s.acts) → (∃ r, .judge f r ∈ s.acts) →
      s.aesWaiting.idxOf (.mac e) < s.aesWaiting.idxOf (.mac f)) ∧
    (∀ e q, e < 4 → (∃ r, .judge e r ∈ s.acts) → q ∈ s.work → aesOfKeys q.ticket.verb = true ∨ aesOfHost q.ticket.verb = true →
      s.aesWaiting.idxOf (.mac e) < s.aesWaiting.idxOf (.clause q.ticket.order)) ∧
    ∀ (busy : List Nat) (u : AesUser) (r : List AesUser) (n : Nat),
      n < 6 → s.cipher.aesFenced.getLsbD n = false → n ∉ busy →
      (∀ m, m < n → s.cipher.aesFenced.getLsbD m = true ∨ m ∈ busy) →
        s.cipher.assign busy (u :: r) = (u, n) :: s.cipher.assign (n :: busy) r

/-- Faults of the cipher cluster's cores: together, `CoresFailAfterThreeFaults` and `CoresAreAssigned`. Completes
(concludes `exec c s = .next t`): aesParityFault, hashParityFault, eccSignCheckFail. -/
def Obligations.EngineFaultsCount : Prop :=
  Claim.CoresFailAfterThreeFaults ∧ Claim.CoresAreAssigned

/-! ### Evidence -/

/-- Appending keeps the chain: each record carries the next SEQ and the hash of the record before it, by whichever of
the ways records are appended (R306, R307, R310). -/
def Sys2Proof.Claim.AppendingKeepsTheChain : Prop :=
  ∀ (e : Evidence) (tick typ aux : Nat) (degraded : Bool) (body : Bytes), Chained e →
    Chained (e.append tick degraded typ aux body) ∧ Chained (e.commit tick degraded) ∧
      Chained (e.appendDeferred degraded) ∧ Chained (e.appendSeal degraded)

/-- A commit phase appends at most four records and loses none: what it does not append waits, deferred;
authentication records go before those of replies, and those before the others (R39). -/
def Sys2Proof.Claim.CommitAppendsAtMostFour : Prop :=
  ∀ (e : Evidence) (tick : Nat) (degraded : Bool), e.records.length + 4 ≤ 16384 →
    let c := e.commit tick degraded
    c.appended ≤ 4 ∧ c.records.length = e.records.length + c.appended ∧ c.commitTick = tick ∧ c.seals = e.seals ∧
      c.waiting.length + c.appended = e.waiting.length ∧ (∀ w ∈ c.waiting, w.deferred = true) ∧
      ((∃ w ∈ c.waiting, w.isAuth = true) → c.appended = 4 ∧ ∀ r ∈ c.records.take 4,
        ∃ w ∈ e.waiting, w.isAuth = true ∧ r.typ = w.typ ∧ r.body = w.body)

/-- What a commit phase appends it appends in order: authentication records by ascending engine, then the records of
replies, then the others. Of replies, and of the others, those that an earlier commit phase had no room for go first;
the rest follow the order of results that R179 gives a commit phase, revocations first, and within that the order of
admission (R39, R179, R306). -/
def Sys2Proof.Claim.CommitFollowsTheOrder : Prop :=
  ∀ (e : Evidence) (tick : Nat) (degraded : Bool), e.records.length + 4 ≤ 16384 →
    let c := e.commit tick degraded
    ∃ l : List Waiting, l.Perm e.waiting ∧
      (c.records.take c.appended).reverse.map (fun r => (r.typ, r.body)) = (l.take c.appended).map (fun w => (w.typ, w.body)) ∧
      l.Pairwise fun a b =>
        (b.isAuth = true → a.isAuth = true ∧ a.engine ≤ b.engine) ∧
        (b.isAuth = false → (b.isReply = true → a.isAuth = true ∨ a.isReply = true) ∧
          (a.isAuth = false → a.isReply = b.isReply → (b.deferred = true → a.deferred = true) ∧
            (a.deferred = false → a.rank ≤ b.rank ∧ (a.rank = b.rank → a.order ≤ b.order))))

/-- The evidence chain: together, `AppendingKeepsTheChain` and `CommitAppendsAtMostFour` and `CommitFollowsTheOrder`.
-/
def Obligations.EvidenceIsChained : Prop :=
  Claim.AppendingKeepsTheChain ∧ Claim.CommitAppendsAtMostFour ∧ Claim.CommitFollowsTheOrder

/-- A deferred record is appended in the last commit phase when that has room, a seal that fits there going first, but
not before the records of authentications and replies, and a record that has not yet seen its own commit phase is not;
the record of a journal entry takes the entry's body, and the entry is freed; that of a tamper event brings the
event's notice (log entry 99). The oldest unprogrammed record is programmed; a complete seal, whose signature was
complete by that commit phase, is appended whole, with nothing between its parts, when all of them fit and the log has
been begun (R39, R264, R308, R310, R361, R437). Nothing else changes. What the spec leaves open here is read as log
entry 29 says. Completes (concludes `exec c s = .next t`): deferredRecordAppend, recordProgram, sealAppend. -/
def Sys2Proof.Claim.LogWorkProceeds : Prop :=
  ∀ s : State,
    let l := fillBodies s.log.waiting s.fp.journal
    (∀ w rest, l = w :: rest → w.deferred = true → s.log.appended < 4 →
      (w.isAuth = true ∨ w.isReply = true ∨ ∀ x ∈ s.log.seals, 4 < s.log.appended + (if x.curve ≤ 2 then 3 else 4)) →
      exec .deferredRecordAppend s = .next (State.eventsAppended
        { s with
          log := ({ s.log with waiting := rest } : Evidence).append s.log.commitTick s.degraded w.typ 0 w.body
          fp := { s.fp with journal := s.fp.journal.drop (if w.typ = 0x40 then 1 else 0) } }
        (if w.typ = 0x64 then 1 else 0))) ∧
    ((l = [] ∨ 4 ≤ s.log.appended ∨ (∃ w, l.head? = some w ∧ w.deferred = false) ∨
        (∃ x ∈ s.log.seals, s.log.appended + (if x.curve ≤ 2 then 3 else 4) ≤ 4) ∧
          ∃ w, l.head? = some w ∧ w.isAuth = false ∧ w.isReply = false) →
      exec .deferredRecordAppend s = .next { s with log := { s.log with waiting := l } }) ∧
    (∀ (e : Nat × Nat × Nat × Nat × Nat × Nat) rest, s.tamper.due = e :: rest →
      s.eventsAppended 1 = State.notify
        { s with tamper := { s.tamper with
            due := rest, dueWritten := s.tamper.dueWritten.tail, queued := s.tamper.queued - 1 } }
        6 (0x04#8 :: (leN 1 e.1 ++ leN 1 e.2.1 ++ leN 1 e.2.2.1 ++ zeros 1 ++ leN 4 e.2.2.2.1 ++ tick4 e.2.2.2.2.1))) ∧
    (∀ (w : Waiting) (r : List Waiting) (j : JournalEntry) (js : List JournalEntry), w.typ = 0x40 →
      fillBodies (w :: r) (j :: js) = { w with body := padTo 32 j.body } :: fillBodies r js) ∧
    exec .recordProgram s = .next { s with log := { s.log with unprogrammed := s.log.unprogrammed.tail } } ∧
    (∀ x rest, s.log.seals = x :: rest → s.log.begun = true → x.tick ≤ s.log.commitTick → s.log.appended + x.parts.length ≤ 4 →
      (∀ w ∈ s.log.waiting, w.deferred = true → w.isAuth = false ∧ w.isReply = false) → s.log.records.length + 4 ≤ 16384 →
      ∃ t, exec .sealAppend s = .next t ∧ t = { s with log := t.log } ∧ t.log.seals = rest ∧
        t.log.appended = s.log.appended + x.parts.length ∧ t.log.waiting = s.log.waiting ∧
        (t.log.records.take x.parts.length).reverse.map (fun r => (r.typ, r.aux, r.body)) = x.parts ∧
        t.log.records.drop x.parts.length = s.log.records) ∧
    ((s.log.seals = [] ∨ s.log.begun = false ∨ ∃ x, s.log.seals.head? = some x ∧ (s.log.commitTick < x.tick ∨ 4 < s.log.appended + x.parts.length)) →
      exec .sealAppend s = .next s)

/-- A seal covers the log from the record after the last seal up to the one named, under the curve of the thallus, its
KEY_ID and its challenge, and bears the tick of its signing. EVIDENCE_SIGN makes one up to the newest record and
answers it; an automatic signature point makes one with a zero challenge once 32 records have come since the last, the
device awake and seeded; an attempt of it that has used up its operations is made again from the next tick on (R292,
R303, R304, R310, R311, R312). Completes (concludes `exec c s = .next t`): evidenceSign, signaturePoint. -/
def Sys2Proof.Claim.SealsCoverTheLog : Prop :=
  ∀ (h : Hdr) (args : Bytes) (cv : Crypto.Curve) (s : State),
    let k : Clause := ⟨0x50, h, args⟩
    let code := evidenceCurve s.thal.cur
    let n : Need := { lane := 60, ecc := if 2 < code then 8 else 4, deadline := 8 }
    let ready := ∀ last, s.log.point = some last → s.awake = true → s.seeded = true → s.log.pointFrom ≤ s.tick →
      (s.cipher.eccExhausted = false → s.cipher.hashExhausted = false → s.cipher.loses .next = false →
        exec .signaturePoint s = .next (s.makeSeal last (zeros 16)).2) ∧
      (s.cipher.eccExhausted = true ∨ s.cipher.hashExhausted = true ∨ s.cipher.loses .next = true → exec .signaturePoint s = .next
        { s with
          cipher := { s.cipher.tookLoss .next with eccExhausted := false, hashExhausted := false }
          log := { s.log with pointFrom := s.tick + 1 } })
    ready ∧
    (s.log.point = none ∨ s.awake = false ∨ s.seeded = false ∨ s.tick < s.log.pointFrom →
      exec .signaturePoint s = .next s) ∧
    (args.length = 16 → k.clear n s = true →
      exec (.evidenceSign h args) s = .next (k.draws n (aesRun (signedRun (hashedRun fun tk w =>
        let r := w.makeSeal w.log.newest args
        r.2.done tk (match r.1 with
          | some x => leN 1 x.curve ++ zeros 3 ++ leN 4 x.first ++ leN 4 x.last ++ x.keyId ++ x.sig
          | none => [])))) s)) ∧
    (Crypto.curveOf code = some cv → ∀ (last : Nat) (challenge : Bytes),
      let q := s.log.public 3 code
      ∃ (t : State) (x : Seal), s.makeSeal last challenge = (some x, t) ∧
        x.curve = code ∧ x.last = last ∧ x.first = s.log.firstSeq last ∧ x.challenge = challenge ∧
        x.keyId = Crypto.keyId cv q.1 q.2 ∧ x.tick = s.tick ∧
        t = { s with
              rng := t.rng, freeCtr := t.freeCtr
              log := { s.log with seals := s.log.seals ++ [x], prevSeal := some (s.log.firstSeq last, last) } })

/-- EVIDENCE_READ answers OLDEST, NEWEST and up to three retained records by their SEQ, and changes nothing (R313).
Completes (concludes `exec c s = .next t`): evidenceRead. -/
def Sys2Proof.Claim.EvidenceReadAnswersRecords : Prop :=
  ∀ (h : Hdr) (args : Bytes) (s : State),
    let k : Clause := ⟨0x51, h, args⟩
    let n : Need := { lane := 30, deadline := 8 }
    let start := num args 0 4
    let count := oct args 4
    k.clear n s = true → args.length = 8 → 1 ≤ count → count ≤ 3 → slice args 5 3 = [0#8, 0#8, 0#8] →
      (k.ticket s).room (12 + 64 * count) = true → s.log.rangeBad start count = false →
      exec (.evidenceRead h args) s = .next (k.goes n .nothing (fun tk w => w.done tk
        (leN 4 ((w.log.records.getLast?.map (·.seq)).getD 0) ++ leN 4 ((w.log.records.head?.map (·.seq)).getD 0) ++
          leN 1 count ++ zeros 3 ++
          (List.range count).flatMap fun i => w.log.recordAt ((start + i) % 2 ^ 32))) s)

/-- Deferred records, programming, seals, EVIDENCE_SIGN and EVIDENCE_READ: together, `LogWorkProceeds` and
`SealsCoverTheLog` and `EvidenceReadAnswersRecords`. Completes (concludes `exec c s = .next t`): deferredRecordAppend,
recordProgram, sealAppend, evidenceSign, signaturePoint, evidenceRead. -/
def Obligations.EvidenceIsWorkedAndRead : Prop :=
  Claim.LogWorkProceeds ∧ Claim.SealsCoverTheLog ∧ Claim.EvidenceReadAnswersRecords

/-! ### Random numbers -/

/-- RANDOM answers N bytes of one generate request with its additional input, after the private wires are served;
RANDOM_PR reserves the oldest block of the store at its admission (log entry 16), reseeds from it and answers N bytes;
without entropy credit it is refused REFUSED_BUDGET. Only the generator changes (R318 to R322, R327 to R329). A
generator zeroised meanwhile answers open bytes (R324; log entry 12). Completes (concludes `exec c s = .next t`):
random, randomPr. -/
def Sys2Proof.Claim.RandomAnswersGeneratedBytes : Prop :=
  ∀ (h : Hdr) (args : Bytes) (s : State),
    let serve := fun (tk : Ticket) (w : State) (n : Nat) (g : Rng → Bytes × Rng) =>
      if w.rng.live then
        let x := g (w.rng.serveWires w.tick)
        ({ w with rng := x.2 } : State).done tk x.1
      else w.drew.done tk (padTo n (Config.freeBytes 16 w.freeCtr n))
    (let a := randomArgs false args
      let k : Clause := ⟨0x58, h, a⟩
      let n : Need := { lane := 10 }
      4 ≤ a.length → a.length ≤ 36 → 1 ≤ oct a 0 → (k.ticket s).room (oct a 0) = true → oct a 1 = 0 →
        slice a 2 2 = [0#8, 0#8] → k.clear n s = true →
        exec (.random h args) s = .next (k.draws n
          (fun tk w => serve tk w (oct a 0) fun r => r.generate w.tick (oct a 0) (a.drop 4)) s)) ∧
    (let a := randomArgs true args
      let k : Clause := ⟨0x58, h, a⟩
      let n : Need := { lane := 20, deadline := 8 }
      4 ≤ a.length → a.length ≤ 36 → 1 ≤ oct a 0 → (k.ticket s).room (oct a 0) = true → oct a 1 = 1 →
        slice a 2 2 = [0#8, 0#8] → k.clear n s = true →
        (2 ≤ s.rng.store.length → exec (.randomPr h args) s = .next (k.draws n
          (fun tk w => serve tk w (oct a 0) fun r => r.generatePr tk.order (oct a 0) (a.drop 4)) s)) ∧
        (s.rng.store.length ≤ 1 → exec (.randomPr h args) s = .next
          ((k.counted s).refuse k.head 0x10 (k.opened s).sess false))) ∧
    ∀ (r : Rng) (order n : Nat) (addin blk : Bytes) (rest : List Bytes), r.store = blk :: rest →
      (∀ x ∈ r.reserved, x.1 ≠ order) →
      let kv := Crypto.drbgReseed r.key r.v blk addin
      let g := Crypto.drbgGenerate kv.1 kv.2 n []
      (r.reserve order).generatePr order n addin =
        (g.1, { r with store := rest, key := g.2.1, v := g.2.2, count := 1 })

/-- What a private wire delivers it does not deliver again: a draw takes the first bytes of the buffer and leaves the
rest. A generator that has been zeroised delivers nothing of its own, and what work already admitted draws is open
(R324, R325, Table 13.3; log entry 12). -/
def Sys2Proof.Claim.WiresDeliverOnce : Prop :=
  ∀ (s : State) (w : Wire) (n : Nat),
    (s.rng.live = true → n ≤ (s.rng.wire w).length →
      (s.draw w n).1 = (s.rng.wire w).take n ∧ (s.draw w n).2.rng.wire w = (s.rng.wire w).drop n ∧
        (s.draw w n).2 = { s with rng := (s.draw w n).2.rng } ∧
        ∀ w', w' ≠ w → (s.draw w n).2.rng.wire w' = s.rng.wire w') ∧
    (s.rng.live = false → s.draw w n = (padTo n (Config.freeBytes 15 s.freeCtr n), s.drew))

/-- RANDOM and the private wires: together, `RandomAnswersGeneratedBytes` and `WiresDeliverOnce`. Completes (concludes
`exec c s = .next t`): random, randomPr. -/
def Obligations.RandomBytesAreGenerated : Prop :=
  Claim.RandomAnswersGeneratedBytes ∧ Claim.WiresDeliverOnce

/-- A window of a noise source passes when no sample repeats 61 times and the first sample's value comes fewer than
810 times; a window that fails is counted and gives no block; one that passes gives its conditioned block unless it is
the source's first (R314 to R317). The other source stands. What the spec leaves open here is read as log entry 53
says. Completes (concludes `exec c s = .next t`): noiseWindowEnd. -/
def Sys2Proof.Claim.NoiseWindowsAreTested : Prop :=
  ∀ (w : List Bool) (s : State),
    (s.awake = false → ∀ src, exec (.noiseWindowEnd src w) s = .next s) ∧
    (s.awake = true →
      let r := w.foldl repStep (s.rng.srcA.rep, s.rng.srcA.last, false)
      let pass := !r.2.2 && decide ((w.filter (· == w.headD false)).length < 810)
      exec (.noiseWindowEnd .a w) s = .next { s with rng := { s.rng with
        srcA := { rep := r.1, last := r.2.1, windows := s.rng.srcA.windows + 1, passed := pass }
        fails := if pass then s.rng.fails else min 0xFFFFFFFF (s.rng.fails + 1)
        conditioned := if pass && s.rng.srcA.windows != 0 then s.rng.conditioned ++ [condition (packWindow w)]
          else s.rng.conditioned } }) ∧
    (s.awake = true → ∃ t, exec (.noiseWindowEnd .b w) s = .next t ∧ t.rng.srcA = s.rng.srcA ∧
      t.rng.srcB.windows = s.rng.srcB.windows + 1 ∧ t = { s with rng := t.rng } ∧
      (t.rng.srcB.passed = false → t.rng.conditioned = s.rng.conditioned)) ∧
    ∀ (v : Bool) (n : Nat) (last : Bool), 61 ≤ n →
      ((List.replicate n v).foldl repStep (0, last, false)).2.2 = true

/-- A conditioned block enters the store of four, replacing the oldest that no clause has reserved when it is full,
and is discarded when all are reserved; a starved generator reseeds from it; two blocks instantiate a generator that
has none, outside tamper hold; one that has used up its requests with an empty store starves; a private wire with
fewer than 128 bytes takes 128 more; a core fault zeroises the generator (R318 to R325). Completes (concludes `exec c
s = .next t`): wireRefill, rngCoreFault, entropyBlockEntry, drbgInstantiate, drbgStarved. -/
def Sys2Proof.Claim.GeneratorEventsAct : Prop :=
  ∀ s : State,
    (s.awake = false → exec .entropyBlockEntry s = .next s ∧ exec .drbgInstantiate s = .next s) ∧
    (∀ blk rest, s.awake = true → s.rng.conditioned = blk :: rest → s.rng.starved = false →
      exec .entropyBlockEntry s = .next { s with rng := { s.rng with
        conditioned := rest
        store := if s.rng.store.length + s.rng.reserved.length < 4 then s.rng.store ++ [blk]
          else if s.rng.store = [] then [] else s.rng.store.tail ++ [blk] } }) ∧
    (∀ blk rest, s.awake = true → s.rng.conditioned = blk :: rest → s.rng.starved = true → s.rng.live = true →
      s.rng.store = [] → s.rng.reserved.length < 4 →
      let kv := Crypto.drbgReseed s.rng.key s.rng.v blk (leN 8 s.tick)
      exec .entropyBlockEntry s = .next { s with rng := { s.rng with
        conditioned := rest, store := [], key := kv.1, v := kv.2, count := 0, starved := false } }) ∧
    (∀ b0 b1 rest, s.awake = true → s.tamper.hold = false → s.rng.live = false → s.rng.store = b0 :: b1 :: rest →
      ∃ t, exec .drbgInstantiate s = .next t ∧ t = { s with rng := t.rng } ∧ t.rng.live = true ∧
        t.rng.seedTick = some s.tick ∧ t.rng.store = rest ∧ t.rng.seeded = false ∧ t.rng.starved = false) ∧
    ((s.rng.live = true ∨ s.tamper.hold = true ∨ s.rng.store.length ≤ 1) → exec .drbgInstantiate s = .next s) ∧
    (s.rng.live = true → 65536 ≤ s.rng.count → s.rng.store = [] →
      exec .drbgStarved s = .next { s with rng := { s.rng with starved := true } }) ∧
    ((s.rng.live = false ∨ s.rng.count < 65536 ∨ s.rng.store ≠ []) → exec .drbgStarved s = .next s) ∧
    (∀ w, (s.rng.live = false ∨ 128 ≤ (s.rng.wire w).length) → exec (.wireRefill w) s = .next s) ∧
    (∀ w, s.rng.live = true → (s.rng.wire w).length < 128 → ∃ t, exec (.wireRefill w) s = .next t ∧
      t = { s with rng := t.rng } ∧ t.rng.wire w = s.rng.wire w ++ (s.rng.generate s.tick 128 []).1 ∧
      ∀ w', w' ≠ w → t.rng.wire w' = s.rng.wire w') ∧
    (∀ kat n, (kat = true ∨ 2 ≤ n) → ∃ t, exec (.rngCoreFault kat n) s = .next t ∧ t = { s with rng := t.rng } ∧
      t.rng.live = false ∧ t.rng.store = [] ∧ t.rng.reserved = [] ∧ t.rng.key = [] ∧ t.rng.v = 0 ∧ t.rng.starved = true ∧
      ∀ w, t.rng.wire w = []) ∧
    ∀ n, n < 2 → exec (.rngCoreFault false n) s = .next s

/-- Noise windows, the entropy store and the generator: together, `NoiseWindowsAreTested` and `GeneratorEventsAct`.
Completes (concludes `exec c s = .next t`): noiseWindowEnd, wireRefill, rngCoreFault, entropyBlockEntry,
drbgInstantiate, drbgStarved. -/
def Obligations.EntropyFeedsTheGenerator : Prop :=
  Claim.NoiseWindowsAreTested ∧ Claim.GeneratorEventsAct

/-! ### The field port -/

/-- The responder follows the walk: WAKE of its group, INVENTORY_BEGIN and TREE_BIT stream its identifier after the
preamble, from the bit after the one named, a gap halts the stream, SELECT of its identifier selects it and is
answered, QUIET silences it for its round; each frame, answered or not, restarts the idle timer with the limit of its
opcode (R123, R129 to R134, R138, R149, R250, R253). How QUIET and a whole frame find the responder is the reading of
log entry 43. Completes (concludes `exec c s = .next t`): fieldWake, fieldInventoryBegin, fieldTreeBit, fieldSelect,
fieldQuiet, fieldFrameIgnored, fieldStopGap. -/
def Sys2Proof.Claim.TagStatesFollowFrames : Prop :=
  ∀ (s : State), s.fp.field = true → s.tagDeaf = false →
    let f := s.fp
    let heard := fun (limit : Nat) => ({ f with idleLimit := limit, reply := [] } : FieldPort)
    let streams := fun (limit k round : Nat) =>
      ({ f with
         idleLimit := limit, round := round, state := .streaming k
         reply := [true, true, false, true] ++ (airBits 64 f.ident.toNat).drop k } : FieldPort)
    let chosen := f.state = .selected ∨ ∃ k, f.state = .streaming k
    (∀ g, exec (.fieldWake g) s = .next { s with fp := { heard 256 with
      state := if g = f.group then .awake else .listen } }) ∧
    (∀ r, f.state ≠ .listen → f.state ≠ .quiet r →
      exec (.fieldInventoryBegin r) s = .next { s with fp := streams 1472 0 r }) ∧
    (∀ r, f.state = .listen ∨ f.state = .quiet r → exec (.fieldInventoryBegin r) s = .next { s with fp := heard 1472 }) ∧
    (∀ k, f.state = .streaming k → exec .fieldStopGap s = .next { s with fp := { heard 256 with state := .halted } }) ∧
    ((∀ k, f.state ≠ .streaming k) → exec .fieldStopGap s = .next { s with fp := heard 256 }) ∧
    (∀ k v, k < 64 → chosen ∨ f.state = .halted →
      ((airBits 64 f.ident.toNat)[k]? = some v →
        exec (.fieldTreeBit k v) s = .next { s with fp := streams 1456 (k + 1) f.round }) ∧
      ((airBits 64 f.ident.toNat)[k]? ≠ some v →
        exec (.fieldTreeBit k v) s = .next { s with fp := { heard 1456 with state := .lost } })) ∧
    (∀ k v, ¬ chosen → f.state ≠ .halted → exec (.fieldTreeBit k v) s = .next { s with fp := heard 1456 }) ∧
    (f.state ≠ .listen → exec (.fieldSelect f.ident) s = .next { s with fp := { heard 1472 with
      state := .selected
      reply := f.crcReply (airBits 8 (if s.awake then 0 else 128) ++ airBits 32 f.counter ++ airBits 8 0xF3) } }) ∧
    (∀ i, i ≠ f.ident → exec (.fieldSelect i) s = .next { s with fp :=
      { heard 1472 with state := if f.now = .selected then .awake else f.state } }) ∧
    (f.state = .listen → exec (.fieldSelect f.ident) s = .next { s with fp := heard 1472 }) ∧
    (∀ scope, f.state ≠ .listen → scope = true ∨ chosen →
      exec (.fieldQuiet scope) s = .next { s with fp := { heard 256 with state := .quiet f.round } }) ∧
    (∀ scope, f.state = .listen ∨ (scope = false ∧ ¬ chosen) →
      exec (.fieldQuiet scope) s = .next { s with fp := heard 256 }) ∧
    ∀ opcode, exec (.fieldFrameIgnored opcode) s = .next { s with fp := heard (if opcode = 5 then 544
      else if opcode = 2 ∨ opcode = 4 then 1472 else if opcode = 3 then 1456 else if opcode = 6 then 6880
      else if opcode = 9 then 6400 else if opcode = 10 then 2304 else if opcode = 11 then 768 else 256) }

/-- A reply that carries a CRC is the preamble, its fields and the CRC-16 over the identifier and them (R123, R126,
R128). -/
def Sys2Proof.Claim.RepliesCarryPreambleAndCrc : Prop :=
  ∀ (f : FieldPort) (bits : List Bool),
    f.crcReply bits = [true, true, false, true] ++ bits ++ crcBits (airBits 64 f.ident.toNat) bits ∧
      (crcBits (airBits 64 f.ident.toNat) bits).length = 16 ∧ (f.crcReply bits).length = bits.length + 20

/-- A field wakes the responder in LISTEN, its loss and an idle timeout return it there; without a field it hears
nothing, and with EN clear, or while the device drives its own carrier, it answers nothing and stands (R149, R250 to
R253). Completes (concludes `exec c s = .next t`): fieldPresent, fieldIdleTimeout, fieldCarrierLoss, harvTimeout. -/
def Sys2Proof.Claim.TagNeedsAField : Prop :=
  ∀ s : State,
    exec .fieldPresent s = .next { s with fp := { s.fp with
      field := true, state := .listen, idleLimit := 256, reply := [] } } ∧
    exec .fieldIdleTimeout s = .next { s with fp := { s.fp with state := .listen, idleLimit := 256 } } ∧
    exec .fieldCarrierLoss s = .next { s with fp := { s.fp with
      field := false, state := .listen, idleLimit := 256, reply := [], harv := false, harvLeft := 0 } } ∧
    exec .harvTimeout s = .next { s with fp := { s.fp with harv := false, harvLeft := 0 } } ∧
    ∀ c, (∃ g, c = .fieldWake g) ∨ (∃ r, c = .fieldInventoryBegin r) ∨ c = .fieldStopGap ∨ (∃ k v, c = .fieldTreeBit k v) ∨
        (∃ i, c = .fieldSelect i) ∨ (∃ q, c = .fieldQuiet q) ∨ (∃ d n v, c = .harvestOn d n v) ∨
        (∃ p n ch e, c = .fieldMailboxRead p n ch e) ∨ (∃ p n d g e, c = .fieldMailboxWrite p n d g e) ∨
        (∃ opcode, c = .fieldFrameIgnored opcode) →
      (s.fp.field = false → exec c s = .next s) ∧
      (s.fp.field = true → s.tagDeaf = true → ∃ limit, exec c s = .next
        { s with fp := { s.fp with idleLimit := limit, reply := [] } })

/-- HARVEST_ON to the selected tag, outside tamper hold: HARV is driven for DURATION when it is enabled and the coil
at V_HARV, switched off by a DURATION of 0, and refused with FORMAT, DENIED or LOW_FIELD otherwise (R252, Table 10.3);
the order of the three is the reading of log entry 43. Completes (concludes `exec c s = .next t`): harvestOn. -/
def Sys2Proof.Claim.HarvestIsAnswered : Prop :=
  ∀ (d flags : Nat) (v : Bool) (s : State), s.fp.field = true → s.tagDeaf = false → s.fp.now = .selected →
    s.tamper.hold = false →
    let out := fun (code : Nat) (on : Bool) (left : Nat) => { s with fp := { s.fp with
      idleLimit := 768, state := .selected, reply := s.fp.crcReply (airBits 4 code), harv := on, harvLeft := left } }
    (flags ≠ 0 → exec (.harvestOn d flags v) s = .next (out 8 s.fp.harv s.fp.harvLeft)) ∧
      (flags = 0 → d = 0 → exec (.harvestOn d flags v) s = .next (out 0 false 0)) ∧
      (flags = 0 → d ≠ 0 → s.fp.harvEn = false → exec (.harvestOn d flags v) s = .next (out 1 s.fp.harv s.fp.harvLeft)) ∧
      (flags = 0 → d ≠ 0 → s.fp.harvEn = true → v = false →
        exec (.harvestOn d flags v) s = .next (out 5 s.fp.harv s.fp.harvLeft)) ∧
      (flags = 0 → d ≠ 0 → s.fp.harvEn = true → v = true → exec (.harvestOn d flags v) s = .next (out 0 true d))

/-- The device as a tag: walk frames, field and harvesting: together, `TagStatesFollowFrames` and
`RepliesCarryPreambleAndCrc` and `TagNeedsAField` and `HarvestIsAnswered`. Completes (concludes `exec c s = .next t`):
fieldWake, fieldInventoryBegin, fieldTreeBit, fieldSelect, fieldQuiet, fieldFrameIgnored, fieldStopGap, fieldPresent,
fieldIdleTimeout, fieldCarrierLoss, harvTimeout, harvestOn. -/
def Obligations.TagFollowsTheWalk : Prop :=
  Claim.TagStatesFollowFrames ∧ Claim.RepliesCarryPreambleAndCrc ∧ Claim.TagNeedsAField ∧ Claim.HarvestIsAnswered

/-- The counter C is the greater valid cell; a step writes C + 1 into the cell that does not hold C, and one that does
not verify leaves C (R254). -/
def Sys2Proof.Claim.CounterSteps : Prop :=
  ∀ (f : FieldPort) (ok : Bool),
    (f.stepCounter ok).counter = (if ok then f.counter + 1 else f.counter) ∧
      f.stepCounter ok = { f with cell0 := (f.stepCounter ok).cell0, cell1 := (f.stepCounter ok).cell1 }

/-- MAILBOX_READ to the selected tag: an untagged read of an open page answers its data without a tag and does not
step C; a tagged one needs its reader key, the page in its mask, C below its end and the field at V_WR, steps C and
answers the data under the key's tag. Every other one answers the first status that applies and no data, under the tag
of the key it names where that slot holds one (R254 to R256, R357). Completes (concludes `exec c s = .next t`):
fieldMailboxRead. -/
def Sys2Proof.Claim.MailboxReadsAreAnswered : Prop :=
  ∀ (page flags : Nat) (ch : BitVec 64) (env : FieldEnv) (s : State), s.fp.field = true → s.tagDeaf = false →
    s.fp.now = .selected →
    let f := s.fp
    let untagged := flags.testBit 3
    let key : Option ReaderKey := if s.tamper.hold then none else f.keys.getD (flags % 4) none
    let stepped := f.stepCounter env.stepOk
    let answers := fun (status : Nat) (g : FieldPort) (data tag : Bytes) => { s with fp := { g with
      idleLimit := 6400, state := .selected
      reply := f.crcReply (airBits 4 status ++ airBits 32 g.counter ++ byteBits data ++ byteBits tag) } }
    let tagOf := fun (status : Nat) (g : FieldPort) (data : Bytes) => match key with
      | some k => (Crypto.cmac k.key (tagMr f.ident page flags ch status g.counter data)).take 8
      | none => zeros 8
    let closed := fun (status : Nat) => answers status f (zeros 32) (tagOf status f (zeros 32))
    (flags.testBit 2 = false → untagged = true → flags % 4 = 0 →
      (page < f.openPages →
        exec (.fieldMailboxRead page flags ch env) s = .next (answers 0 f (f.page page).data (zeros 8))) ∧
      (f.openPages ≤ page → exec (.fieldMailboxRead page flags ch env) s = .next (answers 1 f (zeros 32) (zeros 8)))) ∧
    (∀ k, flags.testBit 2 = false → untagged = false → key = some k → k.readMask.getLsbD (page / 32) = true →
      f.counter ≠ 0xFFFFFFFF → env.atVWr = true →
      (env.stepOk = true → exec (.fieldMailboxRead page flags ch env) s = .next
        (answers 0 stepped (f.page page).data (tagOf 0 stepped (f.page page).data))) ∧
      (env.stepOk = false → exec (.fieldMailboxRead page flags ch env) s = .next
        (answers 7 stepped (zeros 32) (tagOf 7 stepped (zeros 32))))) ∧
    (∀ k, flags.testBit 2 = false → untagged = false → key = some k → k.readMask.getLsbD (page / 32) = false →
      exec (.fieldMailboxRead page flags ch env) s = .next (closed 1)) ∧
    (∀ k, flags.testBit 2 = false → untagged = false → key = some k → k.readMask.getLsbD (page / 32) = true →
      (f.counter = 0xFFFFFFFF → exec (.fieldMailboxRead page flags ch env) s = .next (closed 6)) ∧
      (f.counter ≠ 0xFFFFFFFF → env.atVWr = false → exec (.fieldMailboxRead page flags ch env) s = .next (closed 5))) ∧
    (flags.testBit 2 = false → untagged = false → key = none →
      exec (.fieldMailboxRead page flags ch env) s = .next (closed 2)) ∧
    (flags.testBit 2 = true ∨ (untagged = true ∧ flags % 4 ≠ 0) →
      exec (.fieldMailboxRead page flags ch env) s = .next (closed 8))

/-- MAILBOX_WRITE to the selected tag under a right tag: C is stepped, the page gets the data and its next generation,
no other page changes, and a journal entry is made; its answer carries the tag over the tag it verified. A wrong tag
is answered 3 and journalled, and neither C nor a page changes. While the lanes run, a new journal entry waits for the
log as one FIELD_ACCESS record (R39, R255, R257, R258, R264). What the spec leaves open here is read as log entry 44
says. Completes (concludes `exec c s = .next t`): fieldMailboxWrite. -/
def Sys2Proof.Claim.MailboxWritesAreStored : Prop :=
  ∀ (page flags : Nat) (data tag : Bytes) (env : FieldEnv) (k : ReaderKey) (s : State), s.fp.field = true →
    s.tagDeaf = false → s.fp.now = .selected → s.tamper.hold = false → flags.testBit 2 = false → flags.testBit 3 = false →
    s.fp.keys.getD (flags % 4) none = some k → k.writeMask.getLsbD (page / 32) = true → s.fp.counter ≠ 0xFFFFFFFF →
    let f := s.fp
    let right := (Crypto.cmac k.key (tagMw f.ident page flags f.counter data)).take 8 = tag
    let answer := fun (status counter : Nat) => f.crcReply (airBits 4 status ++ airBits 32 counter ++
      byteBits ((Crypto.cmac k.key (tagMa f.ident page status counter tag)).take 8))
    let stands := fun (t : State) =>
      t = { s with fp := t.fp, log := { s.log with waiting := s.log.waiting ++
        (if s.awake = true ∧ s.log.begun = true ∧ f.journal.length < 16 then
          [{ cls := .other, typ := 0x40, body := zeros 32 }] else []) } }
    (right → (s.awake = true → s.pageBusy page = false) → env.atVWr = true → env.stepOk = true →
      ∃ t, exec (.fieldMailboxWrite page flags data tag env) s = .next t ∧ stands t ∧
        t.fp.counter = f.counter + 1 ∧ t.fp.state = .selected ∧ t.fp.keys = f.keys ∧ t.fp.ident = f.ident ∧
        (∀ n, n ≠ page → t.fp.page n = f.page n) ∧
        t.fp.page page = ((f.page page).program (padTo 32 data) (((f.page page).gen + 1) % 65536) env.slotOk env.entryOk).1 ∧
        t.fp.reply = answer (if env.slotOk && env.entryOk then 0 else 7) (f.counter + 1) ∧
        (f.journal.length < 16 → ∃ e, t.fp.journal = f.journal ++ [e] ∧ e.page = page ∧ e.key = flags % 4 ∧
          e.counter = f.counter + 1 ∧ e.gen = (t.fp.page page).gen)) ∧
    (¬ right → ∃ t, exec (.fieldMailboxWrite page flags data tag env) s = .next t ∧ stands t ∧
      t.fp.counter = f.counter ∧ t.fp.pages = f.pages ∧ t.fp.reply = answer 3 f.counter ∧
      (f.journal.length < 16 → ∃ e, t.fp.journal = f.journal ++ [e] ∧ e.status = 3))

/-- A page changes whole or not at all: programming that verifies leaves the new data under the next generation, one
that does not leaves the old (R258, R259). -/
def Sys2Proof.Claim.PagesChangeWhole : Prop :=
  ∀ (p : Page) (d : Bytes) (slotOk entryOk : Bool), (p.current ≠ none ∨ p.e1 = none) →
    let r := p.program d ((p.gen + 1) % 65536) slotOk entryOk
    r.2 = (slotOk && entryOk) ∧ (r.2 = true → r.1.data = d ∧ r.1.gen = (p.gen + 1) % 65536) ∧
      (r.2 = false → r.1.data = p.data ∧ r.1.gen = p.gen) ∧ (r.1.current ≠ none ∨ r.1.e1 = none)

/-- Mailbox frames of the field port: together, `CounterSteps` and `MailboxReadsAreAnswered` and
`MailboxWritesAreStored` and `PagesChangeWhole`. Completes (concludes `exec c s = .next t`): fieldMailboxRead,
fieldMailboxWrite. -/
def Obligations.MailboxIsReadAndWritten : Prop :=
  Claim.CounterSteps ∧ Claim.MailboxReadsAreAnswered ∧ Claim.MailboxWritesAreStored ∧ Claim.PagesChangeWhole

/-- FIELDPORT_CFG waits for the commit phase, where it sets the record or a reader key, a key of zeros removing it, by
a new copy over the one not in force; a copy that does not verify leaves the record, and its clause ends with
FAULT_RETRY_EXHAUSTED (R258, R259, R265; the unchanged record is the model's choice, log entry 72). Setting a key
needs a sealed clause. The reply shows the port as the commit phase leaves it. Completes (concludes `exec c s = .next
t`): fieldportCfgPort, fieldportCfgReaderKey, fieldportCfgQuery. -/
def Sys2Proof.Claim.FieldPortIsConfigured : Prop :=
  (∀ (h : Hdr) (args : Bytes) (ok : Bool) (s : State),
    let n : Need := { lane := 30, nvm := 2, deadline := 8 }
    let queues := fun (w : Ticket → PortWork) (tk : Ticket) (b : State) =>
      (({ b with fp := { b.fp with work := b.fp.work ++ [w tk] } } : State).done tk [])
    (let k : Clause := ⟨0x60, h, 0#8 :: args⟩;
      k.clear n s = true → args.length = 19 → slice args 0 3 = [0#8, 0#8, 0#8] → num args 3 8 ≠ 0 →
        num args 3 8 ≠ 2 ^ 64 - 1 → oct args 14 % 32 = 0 → slice args 16 3 = [0#8, 0#8, 0#8] →
        exec (.fieldportCfgPort h args ok) s = .next (k.goes n (.flag ok) (queues fun tk => .port tk (args.drop 3) ok) s)) ∧
    (let k : Clause := ⟨0x60, h, 1#8 :: args⟩;
      k.clear n s = true → (k.ticket s).sess ≠ none → args.length = 23 → slice args 0 3 = [0#8, 0#8, 0#8] →
        oct args 3 ≤ 3 → byteAt args 6 = 0#8 →
        exec (.fieldportCfgReaderKey h args ok) s = .next (k.goes n (.flag ok) (queues fun tk => .key tk (args.drop 3) ok) s)) ∧
    (let k : Clause := ⟨0x60, h, 2#8 :: args⟩;
      k.clear n s = true → args = [0#8, 0#8, 0#8] →
        exec (.fieldportCfgQuery h args) s = .next (k.goes n .nothing (queues fun tk => .query tk) s))) ∧
  ∀ (s : State) (tk : Ticket) (b : Bytes) (ok : Bool), 20 ≤ b.length →
    let f := s.fp
    let t := s.commitPort
    let becomes := fun (r : PortRecord) => t.fp.body = (if ok then r else f.body) ∧
      t = ({ s with fp := { f with
        work := [], copy0 := t.fp.copy0, copy1 := t.fp.copy1, harv := t.fp.harv, harvLeft := t.fp.harvLeft } } : State).amend tk
          (if ok then 0 else 0x33) []
    (f.work = [.query tk] → t = { s with fp := { f with work := [] } }) ∧
    (f.work = [.key tk b ok] → t.fp.harv = f.harv ∧ t.fp.harvLeft = f.harvLeft ∧ becomes { f.body with
      keys := f.keys.set (oct b 0) (if slice b 4 16 = zeros 16 then none
        else some ⟨slice b 4 16, byteAt b 1, byteAt b 2⟩) }) ∧
    (f.work = [.port tk b ok] →
      t.fp.harv = (f.harv && t.fp.harvEn) ∧ t.fp.harvLeft = (if t.fp.harvEn then f.harvLeft else 0) ∧ becomes { f.body with
        ident := identAt b 0, group := num b 8 3, en := (oct b 11).testBit 7, harvEn := (oct b 11).testBit 6
        wakeOnWrite := (oct b 11).testBit 5, openPages := oct b 12 }) ∧
    s.resultsNow 0x60 = some (leN 8 f.ident.toNat ++ leN 3 f.group ++ leN 1 f.flags ++ leN 1 f.openPages ++
      leN 1 (maskOf ((List.range 4).filter fun i => (f.keys.getD i none).isSome)) ++ zeros 2 ++ leN 4 f.counter ++
      leN 1 f.journal.length ++ zeros 3)

/-- Local mailbox clauses reach the port at the commit phase unless a field lock holds a page they name; then they
wait for the tick after the lock, and go before those of that tick. A read answers generation and data of its pages, a
write programs its page, its generation raised by one; two writes of a page in one commit phase take their generations
in the order of their admission, and the page is programmed once, with the data of the later (R43, R260, R263, R266).
What the spec leaves open here is read as log entry 44 says. Completes (concludes `exec c s = .next t`):
mailboxReadLocal, mailboxWriteLocal, hostMailboxUnheld. -/
def Sys2Proof.Claim.HostMailboxWaitsForLocks : Prop :=
  ∀ (h : Hdr) (args : Bytes) (s : State),
    let run := fun (count : Nat) (data : Option Bytes) (ok : Bool) (tk : Ticket) (b : State) =>
      match b.fp.lockedUntil (oct args 0) count b.tick with
      | some last => { b with fp := { b.fp with held := b.fp.held ++
          [⟨tk, oct args 0, count, data, ok, last + 1, (b.rankOf tk).1, (b.rankOf tk).2⟩] } }
      | none => (({ b with fp := { b.fp with work := b.fp.work ++ [match data with
          | some d => .write tk (oct args 0) d ok
          | none => .read tk (oct args 0) count] } } : State).done tk [])
    (let k : Clause := ⟨0x61, h, 0#8 :: args⟩
      let n : Need := { lane := 20, deadline := 8 }
      let count := oct args 1
      k.clear n s = true → args.length = 3 → 1 ≤ count → count ≤ 5 → byteAt args 2 = 0#8 → oct args 0 + count ≤ 256 →
        exec (.mailboxReadLocal h args) s = .next (k.goes n .nothing (run count none true) s)) ∧
    (∀ ok : Bool, let k : Clause := ⟨0x62, h, 0#8 :: args⟩
      let n : Need := { lane := 40, deadline := 8 }
      k.clear n s = true → args.length = 35 → slice args 1 2 = [0#8, 0#8] →
        exec (.mailboxWriteLocal h args ok) s = .next (k.goes n (.flag ok) (run 1 (some (args.drop 3)) ok) s)) ∧
    (s.awake = true →
      let due := s.fp.held.filter fun x => x.due ≤ s.tick
      ∃ (t : State) (ws : List PortWork), exec .hostMailboxUnheld s = .next t ∧
        t.fp = { s.fp with held := s.fp.held.filter fun x => s.tick < x.due, work := ws ++ s.fp.work } ∧
        ws.Perm (due.map fun x => match x.data with
          | some d => .write x.ticket x.page d x.nvmOk
          | none => .read x.ticket x.page x.count) ∧
        t = { s with fp := t.fp, portA := t.portA, portB := t.portB } ∧
        ((t.portA.stagedReplies.length + t.portB.stagedReplies.length) =
          s.portA.stagedReplies.length + s.portB.stagedReplies.length + due.length)) ∧
    (s.awake = false → exec .hostMailboxUnheld s = .next s) ∧
    (∀ (tk : Ticket) (p : Nat) (d : Bytes), s.fp.work = [.write tk p d true] →
      let g := ((s.fp.page p).gen + 1) % 65536
      s.commitPort = ({ s with fp := { s.fp with
          work := [], pages := setPage p ((s.fp.page p).program (padTo 32 d) g true true).1 s.fp.pages } } : State).amend
        tk 0 (leN 1 p ++ [0#8] ++ leN 2 g)) ∧
    (∀ (tk : Ticket) (p : Nat) (d : Bytes), s.fp.work = [.write tk p d false] →
      s.commitPort = ({ s with fp := { s.fp with work := [] } } : State).amend tk 0x33 []) ∧
    (∀ (tk tk' : Ticket) (p : Nat) (d d' : Bytes) (ws : List PortWork), tk.order < tk'.order →
      ws = [.write tk p d true, .write tk' p d' true] → s.fp.work = ws ∨ s.fp.work = ws.reverse →
      let g := (s.fp.page p).gen
      s.commitPort = (({ s with fp := { s.fp with
          work := []
          pages := setPage p ((s.fp.page p).program (padTo 32 d') ((g + 2) % 65536) true true).1 s.fp.pages } } : State).amend
        tk 0 (leN 1 p ++ [0#8] ++ leN 2 ((g + 1) % 65536))).amend tk' 0 (leN 1 p ++ [0#8] ++ leN 2 ((g + 2) % 65536))) ∧
    ∀ (tk : Ticket) (p count : Nat), s.fp.work = [.read tk p count] →
      s.commitPort = ({ s with fp := { s.fp with work := [] } } : State).amend tk 0
        (leN 1 p ++ leN 1 count ++ zeros 2 ++ (List.range count).flatMap fun i =>
          leN 2 (s.fp.page (p + i)).gen ++ zeros 2 ++ (s.fp.page (p + i)).data)

/-- FIELDPORT_CFG and local mailbox clauses: together, `FieldPortIsConfigured` and `HostMailboxWaitsForLocks`.
Completes (concludes `exec c s = .next t`): fieldportCfgPort, fieldportCfgReaderKey, fieldportCfgQuery,
mailboxReadLocal, mailboxWriteLocal, hostMailboxUnheld. -/
def Obligations.FieldPortServesTheHost : Prop :=
  Claim.FieldPortIsConfigured ∧ Claim.HostMailboxWaitsForLocks

/-! ### Tests, tamper, pairing -/

/-- SELFTEST and KAT wait for their maintenance slack, and then run the tests asked for on the elements in service:
what was not asked or not run does not fail. A core or engine that fails goes out of service, a lane that fails its
probe is lost; a failed key-storage or link test resets the device; the results, from the tick of their first unit to
the tick of their end, are recorded and answered; a word of SRAM or a block of a bank that a test finds bad has the
consequence that it has in service (R50, R293, R303, R334, R377, R381, R382, Table 15.5); that they are so when the
clause ends is the reading of log entry 18. A loopback test takes the first tick, two before the last tick at the
latest, in which its engine has no booking; without one LINK is not run (R381; that it is the first is the model's
choice, log entry 80). Completes (concludes `exec c s = .next t`): selftest, kat, sramUncorrectable. -/
def Obligations.TestsDropWhatFails : Prop :=
  ∀ (h : Hdr) (args : Bytes) (r : TestResult) (s b : State) (tk : Ticket),
    let asked := num args 0 2
    let tests := BitVec.ofNat 16 asked
    let wellFormed := args.length = 4 ∧ 1 ≤ asked ∧ asked < 128 ∧ slice args 2 2 = [0#8, 0#8]
    let waits := fun (k : Clause) (n : Need) =>
      { k.begun n s with work := (k.begun n s).work ++ [k.queued n (.test r) s] }
    (let k : Clause := ⟨0x68, h, args⟩
      let n : Need := { maint := 60000, deadline := 4096 }
      wellFormed → k.clear n s = true → exec (.selftest h args r) s = .next
        { waits k n with field := ((k.begun n s).bookLoops 0x68 args (s.tick + 4095) (k.ticket s)).field }) ∧
    (∀ e last,
      (∀ x, s.loopTick last e = some x → s.tick < x ∧ x + 1 < last ∧ s.engineFree x x e = true ∧
        ∀ y, s.tick < y → y < x → s.engineFree y y e = false) ∧
      (s.loopTick last e = none → ∀ y, s.tick < y → y + 1 < last → s.engineFree y y e = false)) ∧
    (let k : Clause := ⟨0x69, h, args⟩
      let n : Need := { maint := 12000, deadline := 4096 }
      wellFormed → k.clear n s = true → exec (.kat h args r) s = .next (waits k n)) ∧
    (let f := b.selftestFails tk.order tests r
      let run := (selftestWork args r).run tk b
      let corrected := if tests.getLsbD 1 then r.sramCorrected else 0
      let results := args.take 2 ++ leN 2 f.failed.toNat ++ leN 2 f.notRun.toNat ++ zeros 2 ++
        [f.lanes, f.aes, f.ecc, f.link] ++ leN 2 (min 0xFFFF corrected) ++
        leN 2 (min 0xFFFF (if tests.getLsbD 2 then r.nvmRefreshed else 0)) ++ leN 4 (b.startTick tk) ++ leN 4 b.tick
      f.failed &&& ~~~(tests &&& ~~~f.notRun) = 0 ∧ f.aes &&& b.cipher.aesFenced.zeroExtend 8 = 0 ∧
      (f.notRun.getLsbD 6 = true ↔ tests.getLsbD 6 = true ∧
        ∃ l ∈ b.field.loops, l.order = tk.order ∧ l.tick = none ∧ b.field.enginesOut.getLsbD l.engine = false) ∧
      (f.failed.getLsbD 5 = true → run = b.systemReset 0x0B) ∧
      (f.failed.getLsbD 5 = false → f.lanes = 0 → b.awake = true →
        ∃ t : State,
          let ends : State := State.done (if tests.getLsbD 2 then t.readBanks r.nvm else t) tk results
          (match (if tests.getLsbD 1 then r.sram else none) with
            | none => run = ends
            | some l => exec (.sramUncorrectable l) ends = .next run) ∧
          t.cipher = { b.cipher with
            aesFenced := b.cipher.aesFenced ||| f.aes.setWidth 6, eccOut := b.cipher.eccOut ||| f.ecc.setWidth 2 } ∧
          t.field.enginesOut = b.field.enginesOut ||| f.link.setWidth 4 ∧
          t.lanes = { b.lanes with
            lastTestTick := b.tick, lastTestFailed := f.failed, sramCorrected := b.lanes.sramCorrected + corrected } ∧
          t.cfg = b.cfg ∧ t.dir = b.dir ∧ t.cell = b.cell ∧ t.motion = b.motion ∧ t.rng = b.rng) ∧
      (f.failed.getLsbD 5 = false → f.lanes = 1#8 → b.degraded = false → b.lanes.takeoverDue = none →
        tests.getLsbD 1 = false ∨ r.sram = none →
        run.lanes.takeoverDue = some (b.tick, .a, 6) ∧ run.power.life = b.power.life)) ∧
    (let f := b.katFails tests r
      let run := (katWork args r).run tk b
      let results := args.take 2 ++ leN 2 f.failed.toNat ++ leN 2 f.notRun.toNat ++ zeros 2 ++ [f.aes, f.ecc] ++
        zeros 2 ++ leN 4 (b.startTick tk) ++ leN 4 b.tick
      f.failed &&& ~~~(tests &&& ~~~f.notRun) = 0 ∧
      ((f.failed.getLsbD 2 = true ∨ f.failed.getLsbD 3 = true) ↔ f.ecc ≠ 0) ∧
      (f.failed.getLsbD 1 = true → run = b.systemReset 0x0B) ∧
      (f.failed.getLsbD 1 = false → ∃ t : State, run = t.done tk results ∧
        t = { b with
              cipher := { b.cipher with
                aesFenced := b.cipher.aesFenced ||| f.aes.setWidth 6, eccOut := b.cipher.eccOut ||| f.ecc.setWidth 2 }
              lanes := { b.lanes with lastTestTick := b.tick, lastTestFailed := f.failed }
              log := t.log
              rng := if f.failed.getLsbD 5 || f.failed.getLsbD 6 then b.rng.zeroise else b.rng }))

/-- A source whose entry is enabled and whose condition is met latches: two successive comparisons of a mesh that
differ, or a line of it broken; eight samples of a switch at its OPEN_LEVEL; a rail beyond 15 % for more than 200 ns;
a PLL cycle under 75 % or XIN over 20 MHz; four temperatures under −55 °C or over 175 °C; a broken die shield. The
event is counted, noted as the last, and due for record and notice. At level RECORD the operations with keys of the
tick end with TAMPER_ABORT, those whose clauses wait too; at HOLD the device resets into tamper hold; a level that
zeroises keys ends an open cab session at the first commit phase of the hold; at level ROOT_ERASE the rhizome and
every cached key are erased first. A source that is not watched, or whose condition is not met, does nothing; STORE is
checked at boot alone. The mesh outputs carry the pattern while their source is enabled, else they are low (R6, R351
to R355, R422, Tables 06.14, 14.7, 14.10). What counts as in flight at level RECORD, and when the session end of a
zeroising level is published, is the reading of log entries 62 and 63, when a source is watched that of log entry 98.
Completes (concludes `exec c s = .next t`): tamperSourceLatch. -/
def Sys2Proof.Claim.TamperSourcesAct : Prop :=
  ∀ (src : TamperSource) (c : TamperCondition) (seconds : Nat) (s : State),
    let code := sourceCode src
    let entry := s.entryFor code
    let level := entryLevel entry
    let mesh := src = .mesh0 ∨ src = .mesh1
    let met := (∃ r x y, c = .compared (r ++ [x, y]) ∧ mesh ∧ x.1 ≠ x.2 ∧ y.1 ≠ y.2) ∨
      (c = .lineBroken ∧ (mesh ∨ src = .shield)) ∨
      (∃ r, c = .levels (r ++ List.replicate 8 (entry.testBit 10)) ∧ (src = .sw0 ∨ src = .sw1)) ∨
      (∃ p ns, c = .rail p ns ∧ src = .voltage ∧ (p < 850 ∨ 1150 < p) ∧ 200 < ns) ∨
      (∃ p, c = .pllCycle p ∧ src = .clock ∧ p < 750) ∨ (∃ f, c = .xin f ∧ src = .clock ∧ 20000 < f) ∨
      (∃ r l : List Int, c = .temperatures (r ++ l) ∧ src = .temp ∧ l.length = 4 ∧ ∀ t ∈ l, t < -55000 ∨ 175000 < t)
    let sees := s.watched code = true ∧ met
    let latched := fun (t : State) =>
      t.tamper.latched = s.tamper.latched ||| (1#16 <<< (code - 1)) ∧ t.tamper.eventSeq = (s.tamper.eventSeq + 1) % 2 ^ 32 ∧
        t.tamper.unacked = s.tamper.unacked + 1 ∧ t.tamper.lastSource = code ∧ t.tamper.lastLevel = level
    (¬ sees → exec (.tamperSourceLatch src ⟨c, seconds⟩) s = .next s) ∧ s.watched 9 = false ∧
    (∀ n, s.meshPin n = (s.power.life != .unpowered && entryEn (s.entryFor (n + 1)) && Config.meshOut n s.tamper.mesh)) ∧
    (sees → ∃ t, exec (.tamperSourceLatch src ⟨c, seconds⟩) s = .next t ∧ latched t ∧ t.dir = s.dir ∧
      t.cfg.cur = s.cfg.cur ∧ t.thal.cur = s.thal.cur) ∧
    (sees → s.awake = true → s.tamper.hold = false → level = 0 →
      s.tamper.entries ≠ none →
      ∃ t, exec (.tamperSourceLatch src ⟨c, seconds⟩) s = .next t ∧ t.tamper.hold = false ∧ t.power = s.power ∧
        t.ks.slots = s.ks.slots ∧ t.ks.rhizome = s.ks.rhizome ∧ t.work = s.work.filter (fun q => !q.keyed) ∧
        t.acts = s.acts.filter (fun a => !a.keyed) ∧
        ∀ p, (t.port p).stagedReplies = ((s.port p).stagedReplies.map fun r =>
            if r.admitted = true ∧ (r.verb ∈ [0x2D, 0x40, 0x42, 0x48, 0x49, 0x4A, 0x50, 0x58, 0x78] ∨ r.order ∈ s.keyOrders)
              then { r with status := 0x30, results := [] } else r) ++
          ((s.work.filter fun q => q.keyed && q.ticket.port == p).map fun q =>
            { seq := q.ticket.seq, verb := q.ticket.verb, status := 0x30, results := [], sess := q.ticket.sess
              admitted := true, order := q.ticket.order })) ∧
    (sees → s.awake = true → s.tamper.hold = false → 1 ≤ level →
      ∃ t, exec (.tamperSourceLatch src ⟨c, seconds⟩) s = .next t ∧ t.tamper.hold = true ∧ t.power.life = .starting ∧
        t.power.nextCause = 4 ∧ t.cell.state = s.cell.state ∧ t.acts = [] ∧ t.work = [] ∧
        (2 ≤ level → s.ses.state ≠ .closed → t.cell.tamperEnd = s.tamperEndBody ∧ t.cell.tamperEnd.isSome = true) ∧
        (level = 3 → s.ks.rhizome ≠ none → t.ks.rhizome = none ∧ t.ks.slots = List.replicate 64 {} ∧
          t.tamper.permanent = true ∧ t.tamper.erased = true)) ∧
    (sees → (s.power.life = .asleep ∧ 1 ≤ level) ∨ s.power.life = .starting ∨ s.power.life = .bootStopped ∨
        (s.awake = true ∧ s.tamper.hold = true) →
      ∃ t, exec (.tamperSourceLatch src ⟨c, seconds⟩) s = .next t ∧ t.tamper.hold = true ∧ t.power = s.power)

/-- While the moss domain holds no copy of the tamper entries, an enabled source acts as HOLD at start-up; a
ROOT_ERASE that its entry asks for is carried out once the boot has read the thallus (R354, Table 14.10). What the
spec leaves open here is read as log entry 42 says. Completes (concludes `exec c s = .next t`): tamperSourceLatch. -/
def Sys2Proof.Claim.OwedErasesAreCarriedOut : Prop :=
  (∀ (src : TamperSource) (c : TamperCondition) (seconds : Nat) (s : State), s.power.life = .starting →
    s.tamper.entries = none → s.watched (sourceCode src) = true →
    conditionMet (sourceCode src) (s.entryFor (sourceCode src)) c = true →
    ∃ t, exec (.tamperSourceLatch src ⟨c, seconds⟩) s = .next t ∧ t.tamper.hold = true ∧ t.tamper.lastLevel = 1 ∧
      (∃ d ∈ t.tamper.due, d.1 = sourceCode src) ∧ t = { s with tamper := t.tamper }) ∧
  ∀ old s : State,
    let t := old.owedErase s
    let owed := old.tamper.entries = none ∧ ∃ d ∈ s.tamper.due, s.eraseFor d.1 = true
    (¬ owed → t = s) ∧
      (owed → s.ks.rhizome ≠ none → t.ks.rhizome = none ∧ t.ks.erased = true ∧ t.tamper.permanent = true ∧
        t.ks.slots = List.replicate 64 {})

/-- The first commit phase of a tamper hold makes the end of the session that the zeroising response has ended: its
record, then its clear request with reason 0x06, then that of the hold with 0x12, each acting on a RELEASED cell alone
(R203, R207, R225, Table 06.14; that it comes in that commit phase is the model's choice, log entry 63). What the spec
leaves open here is read as log entry 42 says. -/
def Sys2Proof.Claim.HoldEndsTheSession : Prop :=
  ∀ s : State, s.awake = true →
    (∀ body, s.cell.tamperEnd = some body → s.cell.state = .released →
      let t := s.act .held
      t.cell.tamperEnd = none ∧ (s.still = true → t.cell.state = .locked) ∧
        (s.still = false → t.cell.state = .clearPending ∧ t.cell.pendingReason = 6 ∧ t.cell.pendingSince = s.tick)) ∧
    (s.cell.tamperEnd = none → s.cell.state = .released → s.still = false →
      (s.act .held).cell.state = .clearPending ∧ (s.act .held).cell.pendingReason = 0x12) ∧
    (s.cell.tamperEnd = none → s.cell.state ≠ .released → s.act .held = s)

/-- An event whose record is due waits for it once the boot is over: each new one is queued as a TAMPER_EVENT record,
and its notice goes with the commit phase that appends the record (log entry 99); an unpersonalised device, which
keeps no log, publishes the notice alone (R361, R437, Table 14.12). -/
def Sys2Proof.Claim.TamperEventsAreRecorded : Prop :=
  ∀ s : State,
    let head := fun (e : Nat × Nat × Nat × Nat × Nat × Nat) =>
      leN 1 e.1 ++ leN 1 e.2.1 ++ leN 1 e.2.2.1 ++ zeros 1 ++ leN 4 e.2.2.2.1
    let notice : Nat × Nat × Nat × Nat × Nat × Nat → Staged := fun e =>
      { seq := 0, verb := 0, status := 0, results := 0x04#8 :: (head e ++ tick4 e.2.2.2.2.1), notice := true, numbered := true }
    let told := fun (l : List (Nat × Nat × Nat × Nat × Nat × Nat)) (t : State) => ∀ p, (t.port p).stagedNotices =
      (s.port p).stagedNotices ++ if (irqEn s.cfg.cur p).getLsbD 6 then l.map notice else []
    (s.power.readyDue ≠ none → s.publishTamper = s) ∧
    (s.power.readyDue = none → s.log.begun = true → s.publishTamper = { s with
      tamper := { s.tamper with queued := s.tamper.due.length }
      log := { s.log with waiting := s.log.waiting ++ (s.tamper.due.drop s.tamper.queued).map fun e =>
        { cls := .other, typ := 0x64
          body := padTo 32 (head e ++ leN 8 e.2.2.2.2.1 ++ leN 4 e.2.2.2.2.2 ++ leN 2 s.tamper.present.toNat) } } }) ∧
    (s.power.readyDue = none → s.log.begun = false →
      let t := s.publishTamper
      t.tamper = { s.tamper with due := [], dueWritten := [], queued := 0 } ∧ t.log = s.log ∧ told s.tamper.due t) ∧
    let t := s.publishRecords
    let k := s.log.events - t.log.events
    t.log = ({ s.log with waiting := fillBodies s.log.waiting s.fp.journal } : Evidence).commit s.tick s.degraded ∧
      t.tamper.due = s.tamper.due.drop k ∧ t.fp.journal = s.fp.journal.drop (s.log.accesses - t.log.accesses) ∧
      told (s.tamper.due.take k) t

/-- TAMPER_STATUS answers Table 14.11. TAMPER_ACK of the present EVENT_SEQ, endorsed by a lichen or, outside hold,
from a session, waits for the commit phase, which clears the latch, records who acknowledged and, in hold, makes a
reset due within 8 ticks; when it comes the hold ends, unless it has become permanent or another event has latched
meanwhile (R354, R356, R358 to R361). What the spec leaves open here is read as log entry 41 says. Completes
(concludes `exec c s = .next t`): tamperStatus, tamperAck, tamperAckReset. -/
def Sys2Proof.Claim.TamperIsAcknowledged : Prop :=
  (∀ (h : Hdr) (s : State), let k : Clause := ⟨0x70, h, []⟩;
    (k.clear { lane := 6 } s = true → exec (.tamperStatus h []) s =
      .next (k.goes { lane := 6 } .nothing (fun tk b => b.done tk b.tamperResults) s)) ∧
    let r := s.tamperResults
    r.length = 48 ∧ slice r 0 2 = leN 1 s.tamper.code ++ leN 1 s.tamper.lastSource ∧
      slice r 2 2 = leN 2 s.tamper.latched.toNat ∧ slice r 4 2 = leN 2 s.tamper.present.toNat ∧
      slice r 8 8 = leN 4 s.tamper.eventSeq ++ leN 4 s.tamper.unacked) ∧
  (∀ (h : Hdr) (args : Bytes) (s : State),
    let k : Clause := ⟨0x71, h, args⟩
    let e := readEndorsements s.thal.cur (oct args 0) (args.drop 8)
    let n := eccNeed s.thal.cur 0x71 e
    k.clear n s = true → 8 ≤ args.length → slice args 1 3 = [0#8, 0#8, 0#8] → num args 4 4 = s.tamper.eventSeq →
      s.tamper.permanent = false → s.stillPresent = false →
      (s.tamper.hold = true ∨ s.tamper.unacked ≠ 0) →
      ((oct args 0 = 0 ∧ args.length = 8 ∧ (s.tamper.hold = false ∨ s.prot.personalised = false) ∧
          ((k.ticket s).sess ≠ none ∨ thalSeal s.thal.cur h.port = false ∨ s.prot.personalised = false)) ∨
        (oct args 0 = 2 ∧ ∃ l, e = .ok l ∧ s.ackVerifies e = true)) →
      exec (.tamperAck h args) s = .next (k.goes n .nothing (hashedRun fun tk b =>
        (b.push (.ack tk (readEndorsements b.thal.cur (oct args 0) (args.drop 8)).parties)).done tk []) s)) ∧
  (∀ (s : State) (tk : Ticket) (by_ : List Nat), s.awake = true → s.tamper.permanent = false →
    let held := s.tamper.hold
    ∃ t : State, s.act (.ack tk by_) = t.amend tk 0 (leN 2 s.tamper.latched.toNat ++ leN 1 (if held then 2 else 0) ++ [0#8] ++
          if held then leN 4 (s.tick + 8) else zeros 4) ∧
      t = { s.recordReply tk 0x65 (leN 4 s.tamper.eventSeq ++ leN 2 s.tamper.latched.toNat ++ leN 1 (by_.getD 0 0xFF) ++
            leN 1 (by_.getD 1 0xFF) ++ leN 8 (if held then s.tamper.holdTick else 0)) with
          tamper := { s.tamper with latched := 0, unacked := 0, written := 0, writtenCount := 0 }
          power := if held then { s.power with resetDue := some (5, s.tick + 8) } else s.power }) ∧
  ∀ s : State,
    let unread := ∃ p, ∃ o ∈ (s.port p).outstanding, o.verb = 0x71 ∧ o.admitted = true
    (∀ last, s.power.resetDue = some (5, last) → (¬ unread ∨ last ≤ s.tick) →
      exec .tamperAckReset s = .next
        (({ s with tamper := if s.tamper.permanent = true ∨ s.tamper.latched ≠ 0 then s.tamper
            else { s.tamper with hold := false, holdTick := 0, holdWritten := false } } : State).systemReset 5)) ∧
    ((∀ last, s.power.resetDue = some (5, last) → unread ∧ s.tick < last) → exec .tamperAckReset s = .next s)

/-- Tamper sources, TAMPER_STATUS, TAMPER_ACK and its reset: together, `TamperSourcesAct` and
`OwedErasesAreCarriedOut` and `HoldEndsTheSession` and `TamperEventsAreRecorded` and `TamperIsAcknowledged`. Completes
(concludes `exec c s = .next t`): tamperSourceLatch, tamperStatus, tamperAck, tamperAckReset. -/
def Obligations.TamperIsHandled : Prop :=
  Claim.TamperSourcesAct ∧ Claim.OwedErasesAreCarriedOut ∧ Claim.HoldEndsTheSession ∧ Claim.TamperEventsAreRecorded ∧
    Claim.TamperIsAcknowledged

/-- HOST_PAIR with the port's host key and a signature that verifies draws an ephemeral scalar and a session
identifier, answers its own point and signature, and keeps the session of the shared secret for the commit phase; the
present session stands until then. It waits for no session but one that another HOST_PAIR has replaced (R75 to R77,
R302). Completes (concludes `exec c s = .next t`): hostPair. -/
def Obligations.PairingMakesASession : Prop :=
  ∀ (h : Hdr) (args : Bytes) (key : PubKey) (cv : Crypto.Curve) (s : State), Crypto.curveOf (oct args 0) = some cv →
    (let k : Clause := ⟨0x78, h, args⟩
      let n : Need := { lane := 120, ecc := if 2 < oct args 0 then 16 else 8, deadline := 256 }
      k.clear n s = true → hostKey s.thal.cur h.port = some key → key.curve = oct args 0 → 1 ≤ key.curve → key.curve ≤ 4 →
        args.length = 20 + 4 * cv.c → slice args 1 3 = [0#8, 0#8, 0#8] → pairVerifies key h.port args = true →
        (∀ x ∈ (s.port h.port).oldSessions, x.replaced = false) →
        exec (.hostPair h args) s = .next (k.draws n (aesRun (signedRun (hashedRun fun tk b => b.pair tk args))) s)) ∧
    ∀ tk : Ticket,
      let d := s.mask.drawScalar cv
      let qh := (ofBe (slice args 20 cv.c), ofBe (slice args (20 + cv.c) cv.c))
      let z := ((Crypto.ptMul cv d.1 (some qh)).getD (0, 0)).1
      let qd := (Crypto.ptMul cv d.1 (Crypto.ptG cv)).getD (0, 0)
      ∃ (t : State) (id : BitVec 32) (sig : Bytes),
        s.pair tk args = t.done tk (leN 4 id.toNat ++ Crypto.ptBytes cv qd.1 qd.2 ++ sig) ∧ sig.length = 2 * cv.c ∧
        t = { s with portA := t.portA, portB := t.portB, rng := t.rng, freeCtr := t.freeCtr } ∧
        ∃ se : Sess, t.port tk.port = { s.port tk.port with newSession := some se } ∧ se.id = id ∧
          se.key = pairKey (beN cv.c z) id (slice args 4 16) tk.port ∧ se.lastCounter = 0 ∧
          se.replyCounter = 0x8000000000000001

/-! ### Lanes and clocks -/

/-- A flagged lane is taken over in the next tick: both flagged in one tick, or one more while one is lost, reset the
device; the survivor's fault does too. A flag counts for nothing while the device does not run or the lane is out
already; in an arbitration tick it is kept, and its lane fails the probe (R365 to R367, R374). Completes (concludes
`exec c s = .next t`): laneFlagged, sramUncorrectable. -/
def Sys2Proof.Claim.FlaggedLanesAreLost : Prop :=
  ∀ (a b : Bool) (cause : Byte) (s : State),
    let inA := s.lanes.causeA = 0
    let inB := s.lanes.causeB = 0
    ((s.awake = false ∨ (a = false ∧ b = false)) → exec (.laneFlagged (a, b) cause) s = .next s) ∧
    (s.awake = true → s.arbitrating = false → inA → inB → s.lanes.takeoverDue = none →
      exec (.laneFlagged (true, false) cause) s = .next
          { s with lanes := { s.lanes with takeoverDue := some (s.tick, .a, cause.toNat) } } ∧
        exec (.laneFlagged (false, true) cause) s = .next
          { s with lanes := { s.lanes with takeoverDue := some (s.tick, .b, cause.toNat) } } ∧
        exec (.laneFlagged (true, true) cause) s = .next (s.systemReset 6)) ∧
    (s.awake = true → s.arbitrating = false → inA → inB → ∀ f c, s.lanes.takeoverDue = some (f, .a, c) →
      exec (.laneFlagged (false, true) cause) s = .next (s.systemReset (if f = s.tick then 6 else 0x0D))) ∧
    (s.awake = true → s.arbitrating = false → s.lanes.causeA ≠ 0 → inB →
      exec (.laneFlagged (a, true) cause) s = .next (s.systemReset 0x0D) ∧
        exec (.laneFlagged (true, false) cause) s = .next s) ∧
    (s.awake = true → s.arbitrating = true → inA → inB → (a = true ∨ b = true) → exec (.laneFlagged (a, b) cause) s = .next
      { s with lanes := { s.lanes with flagged := (s.lanes.flagged.1 || a, s.lanes.flagged.2 || b) } }) ∧
    (∀ l, exec (.sramUncorrectable (some l)) s = exec (.laneFlagged (l == .a, l == .b) 2) s) ∧
    exec (.sramUncorrectable none) s = .next (if s.awake then s.systemReset 9 else s)

/-- An arbitration after a mismatch: both lanes pass is a transient, recorded, and the second within 65,536 ticks
resets the device; one that fails, or was flagged during the probe, is to be taken over; both failing reset it. Before
its tick, or with no mismatch, nothing happens (R367, R368). What the spec leaves open here is read as log entries 19,
83 say. Completes (concludes `exec c s = .next t`): arbitration. -/
def Sys2Proof.Claim.ArbitrationDecides : Prop :=
  ∀ (a b : Bool) (s : State),
    ((s.lanes.faultTick = none ∨ s.awake = false ∨ ∃ f, s.lanes.faultTick = some f ∧ s.tick ≤ f) →
      exec (.arbitration a b) s = .next s) ∧
    ∀ f, s.lanes.faultTick = some f → s.awake = true → f < s.tick →
      let lost := fun (l : LaneId) => ({ s with lanes := { s.lanes with
        faultTick := none, flagged := (false, false), takeoverDue := some (f, l, 5) } } : State)
      let recent := ∃ x ∈ s.lanes.transientTicks, f < x + 65536
      let passA := a = true ∧ s.lanes.flagged.1 = false
      let passB := b = true ∧ s.lanes.flagged.2 = false
      (passA → ¬ passB → exec (.arbitration a b) s = .next (lost .b)) ∧
      (¬ passA → passB → exec (.arbitration a b) s = .next (lost .a)) ∧
      (¬ passA → ¬ passB → exec (.arbitration a b) s = .next (s.systemReset 7)) ∧
      (passA → passB → recent → exec (.arbitration a b) s = .next (s.systemReset 7)) ∧
      (passA → passB → ¬ recent → exec (.arbitration a b) s = .next
        { s.note 0x71 (leN 8 f ++ leN 1 1) with
          lanes := { s.lanes with
            transients := s.lanes.transients + 1, transientTicks := f :: s.lanes.transientTicks, faultTick := none
            flagged := (false, false), degradedUntil := f + 2 } })

/-- A takeover leaves the lost lane's cause and the tick, moves the last ticks of the work that was in flight before
its tick by 2, and is recorded and noticed. A clause with LANE_HINT of the withheld tick is refused with
REFUSED_STATE, and its waiting work, its needs and its bookings go; those that it had refused or moved are admitted
again (R373; which these are is the model's reading, log entry 100). Before its tick, or with none due, nothing
happens (R53, R366, R370). The lasting changes that wait stand, to be made in the next published commit phase (R372);
nothing else changes. What the spec leaves open here is read as log entry 21 says. Completes (concludes `exec c s =
.next t`): takeover. -/
def Sys2Proof.Claim.TakeoverFlagsTheLostLane : Prop :=
  ∀ s : State,
    ((s.awake = false ∨ s.lanes.takeoverDue = none ∨
        ∃ f l c, s.lanes.takeoverDue = some (f, l, c) ∧ s.tick < f + (if c = 5 then 2 else 1)) →
      exec .takeover s = .next s) ∧
    ∀ f l c, s.awake = true → s.lanes.takeoverDue = some (f, l, c) → f + (if c = 5 then 2 else 1) ≤ s.tick →
      let lane : Nat := match l with
        | .a => 0x0A
        | .b => 0x0B
      let lost := { s.lanes with
        causeA := if l = .a then c else s.lanes.causeA, causeB := if l = .b then c else s.lanes.causeB
        takeoverTick := s.tick, takeoverDue := none, handoverMask := 0 }
      let hinted := fun (o : Outst) => o.admitted = true ∧ o.answered = false ∧ o.hinted = some f
      let first := ∃ x ∈ s.latched, ∃ o ∈ (s.port x.port).outstanding, hinted o ∧ o.order = x.order
      let refused := fun (n : Nat) => first ∧ ∃ p, ∃ o ∈ (s.port p).outstanding, hinted o ∧ o.order = n
      let again := fun (x : Latched) => s.againDue
        (s.latched.filter fun x => ((s.port x.port).hintedIn f).contains x.order) x = true
      let moved := fun (n m : Nat) => if n < s.lanes.tickOrder then m + 2 else m;
      (let u := ({ s with lanes := lost } : State).runAgain f;
        exec .takeover s = .next (((u.note 0x70 (leN 1 lane ++ leN 1 c ++ zeros 2 ++ leN 8 f ++ leN 8 s.tick ++
          leN 1 s.lanes.handoverMask)).notify 5 (0x05#8 :: (leN 1 lane ++ leN 4 s.tick))).extendWork s.lanes.tickOrder)) ∧
      ((∀ x ∈ s.latched, ¬ again x) → ∃ t, exec .takeover s = .next t ∧
        t.lanes = lost ∧
        (∀ d, d ∈ t.ledger ↔ ∃ d' ∈ s.ledger, ¬ refused d'.order ∧ d = { d' with last := moved d'.order d'.last }) ∧
        (∀ q, q ∈ t.work ↔ ∃ q' ∈ s.work, ¬ refused q'.ticket.order ∧ q = { q' with last := moved q'.ticket.order q'.last }) ∧
        t.fp = { s.fp with held := s.fp.held.map fun h => { h with last := moved h.ticket.order h.last } } ∧
        t.log = (s.note 0x70 (leN 1 lane ++ leN 1 c ++ zeros 2 ++ leN 8 f ++ leN 8 s.tick ++ leN 1 s.lanes.handoverMask)).log ∧
        (∀ p, (irqEn s.cfg.cur p).getLsbD 5 = true → (t.port p).stagedNotices = (s.port p).stagedNotices ++
          [{ seq := 0, verb := 0, status := 0, results := 0x05#8 :: (leN 1 lane ++ leN 4 s.tick), notice := true
             numbered := true }]) ∧
        (first → ∀ p, ∀ o ∈ (s.port p).outstanding, hinted o →
          ∃ r ∈ (t.port p).stagedReplies, r.order = o.order ∧ r.status = 0x11 ∧ r.results = [] ∧ r.admitted = false) ∧
        (∀ b ∈ t.field.bookings, b ∈ s.field.bookings ∧ (b.phase = .booked → ∀ n, b.clause = some n → ¬ refused n)) ∧
        (¬ first → (∀ p, (t.port p).stagedReplies = (s.port p).stagedReplies) ∧
          t = { s with
            lanes := t.lanes, ledger := t.ledger, work := t.work, log := t.log, portA := t.portA, portB := t.portB, fp := t.fp }) ∧
        t = { s with
          lanes := t.lanes, ledger := t.ledger, work := t.work, log := t.log, portA := t.portA, portB := t.portB, rng := t.rng
          fp := t.fp
          field := { s.field with
            bookings := t.field.bookings, loops := t.field.loops, rounds := t.field.rounds, pollEnd := t.field.pollEnd }
          prot := { s.prot with oldTables := t.prot.oldTables } })

/-- Replies of an arbitration's ticks carry DONE_DEGRADED where they would be DONE; so do those that come later of
work that ran in them: waiting clauses with a unit spent, running exchanges and measurements (R5, R369). Which work of
an exchange counts as run is the model's reading (log entry 81). -/
def Sys2Proof.Claim.ArbitratedWorkIsGraded : Prop :=
  ∀ s : State,
    let t := s.noteGraded
    let graded := s.gradeReplies
    let inTime := s.lanes.degradedUntil ≠ 0 ∧ s.tick ≤ s.lanes.degradedUntil
    t = { s with lanes := { s.lanes with graded := t.lanes.graded } } ∧
    (inTime → s.gradesDown = true ∧
      (∀ q ∈ s.work, q.began.isSome = true → s.stillDue q.ticket.order = true → q.ticket.order ∈ t.lanes.graded) ∧
      ∀ b ∈ s.field.bookings, b.phase ≠ .booked → b.id ∈ t.lanes.graded) ∧
    (∀ n, n ∈ t.lanes.graded ↔ s.stillDue n = true ∧ (n ∈ s.lanes.graded ∨ (inTime ∧ n ∈ s.ranOn))) ∧
    ∀ p, (graded.port p).stagedReplies = (s.port p).stagedReplies.map fun r =>
      if r.admitted = true ∧ r.status = 0 ∧ r.order ∈ s.lanes.graded then { r with status := 1 } else r

/-- The lane probe of 200 units starts at every multiple of 3,907 and ends in the tick in which its part of the slack
has spent its last unit: the slack is what no share uses, the maintenance floor included, of which admitted MAINT work
goes first; what the probe takes MAINT work does not get. The commit phase of that tick judges it: one lane failing is
lost with cause PROBE, both failing reset the device, the survivor's failure is its second fault. With no probe under
way nothing happens (R36, R374, R380). What counts as used is the model's reading (log entry 61). What the spec leaves
open here is read as log entry 20 says. Completes (concludes `exec c s = .next t`): laneProbe. -/
def Sys2Proof.Claim.ProbesFindLanes : Prop :=
  ∀ (a b : Bool) (s : State),
    let under := if s.tick % 3907 = 0 then 200 else s.lanes.probeLeft
    let spent := s.spendTick
    ((s.awake = false ∨ under = 0) → exec (.laneProbe a b) s = .next s) ∧
    (s.awake = true → under ≠ 0 → exec (.laneProbe a b) s = .next (s.push (.probe a b))) ∧
    let spare := 966 - s.unitsUsed
    let needed := (s.ledger.map Demand.maint).sum
    spent.lanes.probeLeft = under - (spare + (40 - needed)) ∧ s.room.maint = 40 + (spare - under) ∧
      (s.unitsUsed ≤ 966 → s.unitsUsed + (under - spent.lanes.probeLeft) + min needed s.room.maint ≤ 1006) ∧
    (spent.lanes.probeEnd = some s.tick ↔ (under ≠ 0 ∧ spent.lanes.probeLeft = 0) ∨ s.lanes.probeEnd = some s.tick) ∧
    (s.awake = true → s.lanes.probeEnd ≠ some s.tick → s.act (.probe a b) = s) ∧
    (s.awake = true → s.lanes.probeEnd = some s.tick →
      s.act (.probe true true) = s ∧
      (s.lanes.causeA = 0 → s.lanes.causeB = 0 → s.lanes.takeoverDue = none →
        s.act (.probe false true) = { s with lanes := { s.lanes with takeoverDue := some (s.tick, .a, 6) } } ∧
          s.act (.probe true false) = { s with lanes := { s.lanes with takeoverDue := some (s.tick, .b, 6) } } ∧
          s.act (.probe false false) = s.systemReset 7) ∧
      (s.lanes.causeA ≠ 0 → s.lanes.causeB = 0 → s.act (.probe a false) = s.systemReset 0x0D))

/-- A crystal failure falls back and is recorded once; with both crystals failed the running exchanges end, a response
received being judged first; a loss of lock and a key-storage fault reset the device; a scrub counts what it corrects
(R375 to R378). Completes (concludes `exec c s = .next t`): xtalFailure, pllLockLoss, sramScrub, x32CrystalFailure,
keyStoreFault. -/
def Sys2Proof.Claim.ClockAndMemoryFaultsAct : Prop :=
  ∀ (cause : Byte) (dev : Int) (n : Nat) (pll : PllId) (s : State),
    let ended := fun (t : State) => t.lfDead = true ∧ t.cell = s.cell ∧ t.cfg = s.cfg ∧ t.dir = s.dir ∧
      ∀ e, e < 4 → ∀ b, s.current e = some b → ∃ b', t.current e = some b' ∧ b'.again = true ∧
        b'.endCode = some (if b.await = .verdict then b.endCode.getD 6 else 6)
    ((s.awake = false ∨ s.power.xtalFallback = true) → exec (.xtalFailure cause dev) s = .next s) ∧
    (s.awake = true → s.power.xtalFallback = false → s.power.x32Failed = false →
      exec (.xtalFailure cause dev) s = .next
        (({ s with power := { s.power with xtalFallback := true } } : State).note 0x72
          ([cause] ++ zeros 3 ++ leN 2 (twos 16 dev) ++ zeros 2 ++ leN 8 s.tick))) ∧
    (s.awake = true → s.power.xtalFallback = false → s.power.x32Failed = true →
      ∃ t, exec (.xtalFailure cause dev) s = .next t ∧ t.power.xtalFallback = true ∧ ended t) ∧
    (s.power.xtalFallback = false → exec .x32CrystalFailure s = .next { s with power := { s.power with x32Failed := true } }) ∧
    (s.power.xtalFallback = true → ∃ t, exec .x32CrystalFailure s = .next t ∧ t.power.x32Failed = true ∧ ended t) ∧
    exec (.pllLockLoss pll) s = .next (if s.awake then s.systemReset 8 else s) ∧
    exec .keyStoreFault s = .next (if s.awake then s.systemReset 0x0A else s) ∧
    exec (.sramScrub n) s = .next (if s.awake then
      { s with lanes := { s.lanes with sramCorrected := s.lanes.sramCorrected + n } } else s)

/-- Lane faults, arbitration, takeover, probes, clock and memory faults: together, `FlaggedLanesAreLost` and
`ArbitrationDecides` and `TakeoverFlagsTheLostLane` and `ArbitratedWorkIsGraded` and `ProbesFindLanes` and
`ClockAndMemoryFaultsAct`. Completes (concludes `exec c s = .next t`): laneFlagged, sramUncorrectable, arbitration,
takeover, laneProbe, xtalFailure, pllLockLoss, sramScrub, x32CrystalFailure, keyStoreFault. -/
def Obligations.LaneFaultsAreTakenOver : Prop :=
  Claim.FlaggedLanesAreLost ∧ Claim.ArbitrationDecides ∧ Claim.TakeoverFlagsTheLostLane ∧
    Claim.ArbitratedWorkIsGraded ∧ Claim.ProbesFindLanes ∧ Claim.ClockAndMemoryFaultsAct

/-- A loss of lock of a PLL resets a running device with cause PLL_LOCK (0x08); the release cell keeps its state, and
the living outputs keep running (R376). Completes (concludes `exec c s = .next t`): pllLockLoss. -/
def Obligations.PllLossResets : Prop :=
  ∀ (pll : PllId) (s : State), s.awake = true →
    ∃ t, exec (.pllLockLoss pll) s = .next t ∧ t.power.life = .starting ∧ t.power.nextCause = 0x08 ∧
      t.cell.state = s.cell.state ∧ t.cell.living = s.cell.living ∧ t.rlsRuns = s.rlsRuns

/-- What a commit phase publishes on a port: every staged reply, in the order of their clauses' admission, then as
many notices as general stores are free, the rest counted as lost, then the spore requests, those of ended requests
having left their stores; a reply's frame carries marker, flags, SEQ, verb, status, the tick, its length and results,
closed by the CRC; a would-be DONE is degraded in degraded service; a reply under a session takes the session's next
counter. The statuses that degraded service changes, the order of the notices' numbers and what fills the stores are
the readings of log entries 24 to 26 (R5, R18, R58 to R60, R64, R68 to R71, Tables 03.6, 03.7). -/
def Sys2Proof.Claim.FramesArePublished : Prop :=
  ∀ (tick : Nat) (degraded : Bool) (q : Port), q.newSession = none →
    (∀ r ∈ q.stagedReplies, r.notice = false) → (∀ r ∈ q.stagedNotices, r.notice = true) →
    let room := 12 - q.boundStores
    let t := q.publishFrames tick degraded
    let news := t.general.drop q.general.length
    let replies := q.inOrder
    replies.Perm q.stagedReplies ∧ replies.Pairwise (fun a b => a.order ≤ b.order) ∧
    t.general.take q.general.length = q.general ∧
      news.length = q.stagedReplies.length + min q.stagedNotices.length room ∧
      news.map Stored.clause = replies.map (fun r => some r.seq) ++
        List.replicate (min q.stagedNotices.length room) none ∧
      t.newLost = q.newLost + (q.stagedNotices.length - room) ∧
      t.spores.map SporeStore.ident = (q.spores.filter fun x => !q.gone.contains (x.ident, x.engine)).map SporeStore.ident ++
        q.stagedSpores.map (·.1) ∧ t.gone = [] ∧
      t.stagedReplies = [] ∧ t.stagedNotices = [] ∧ t.stagedSpores = [] ∧ t.credits = q.credits ∧
      t.outstanding.map (fun o => (o.seq, o.verb, o.admitted)) = q.outstanding.map (fun o => (o.seq, o.verb, o.admitted)) ∧
      (∀ i r, replies[i]? = some r → r.sess = none →
        let more := i + 1 < q.stagedReplies.length + min q.stagedNotices.length room
        let flags := (if more then 16 else 0) + (if r.unverified then 8 else 0) + if r.duplicate then 4 else 0
        let status := if r.admitted = true ∧ r.status = 0 ∧ degraded = true then 1 else r.status
        let b := [0xD1#8] ++ leN 1 flags ++ leN 2 r.seq.toNat ++ leN 1 r.verb ++ leN 1 status ++ leN 4 tick ++
          leN 1 r.results.length ++ r.results
        (news[i]?).map Stored.bytes = some (b ++ Crypto.crc32cBytes b)) ∧
      (∀ r se, q.stagedReplies = [r] → r.sess = some se → q.session = some se → q.stagedNotices = [] →
        t.session = some { se with replyCounter := se.replyCounter + 1 } ∧
        ∃ h ct : Bytes, ct = Crypto.gcmCrypt se.key (leN 4 se.id.toNat ++ leN 8 se.replyCounter) r.results ∧
          (news[0]?).map Stored.bytes =
            some (let b := h ++ leN 8 se.replyCounter ++ ct ++
                Crypto.gcmTag se.key (leN 4 se.id.toNat ++ leN 8 se.replyCounter) h ct
              b ++ Crypto.crc32cBytes b))

/-- The cause word of a commit phase: event bits stay until a cause read has returned them, state bits show what the
port holds; the interrupt line follows the enabled bits; both counts restart when they were read and stop at 255 (R78
to R80, Table 03.12). That notices are the first to go is the reading of log entry 26. -/
def Sys2Proof.Claim.CauseWordsFollowTheEvents : Prop :=
  ∀ (enable : BitVec 16) (tamper degraded : Bool) (q : Port),
    let t := q.publishCause enable tamper degraded
    let kept := match q.clearing with
      | some m => q.events &&& ~~~ m
      | none => q.events
    t.events = kept ||| q.newEvents ∧ t.newEvents = 0 ∧ t.clearing = none ∧ t.irq = (t.cause &&& enable != 0) ∧
      (∀ i, 7 ≤ i → i < 16 → t.cause.getLsbD i = t.events.getLsbD i) ∧
      (t.cause.getLsbD 6 = (t.events.getLsbD 6 || tamper)) ∧ (t.cause.getLsbD 5 = (t.events.getLsbD 5 || degraded)) ∧
      (t.cause.getLsbD 2 = (t.events.getLsbD 2 || q.general.any fun f => f.clause.isSome)) ∧
      (t.cause.getLsbD 3 = (t.events.getLsbD 3 || q.spores != [])) ∧
      t.discards = min 0xFF ((if q.clearing.isSome then 0 else q.discards) + q.newDiscards) ∧
      t.lost = min 0xFF ((if q.clearing.isSome then 0 else q.lost) + q.newLost) ∧
      t.statusByte = Port.status t ∧ t.general = q.general ∧ t.outstanding = q.outstanding ∧ t.credits = q.credits ∧
      t.session = q.session

/-- The lasting changes that wait are made at the published commit phase in the order of R179: lookups, revocations,
then verdicts in ascending engine order, then clauses in the order of their admission, then timer, door and motion
events as they came, then new banks (R350); so a SESSION_END admitted before a START verdict of its tick acts after it
(R16, R35, R164, R172, R179, R204). That lookups come first, with the directory as the tick found it, is read from
R153 and R172; the place of a booking's end and of an undecided poll's is the model's choice (log entry 60). The
records that a change brings take its place in that order, and those of a clause's change go with its reply (R39,
R306). What the spec leaves open here is read as log entry 7 says. -/
def Sys2Proof.Claim.LastingChangesAreOrdered : Prop :=
  ∀ s : State,
    (∃ l : List Act, l.Perm s.acts ∧ s.actAll = l.foldl State.act { s with acts := [] } ∧
      (l.Pairwise fun a b => a.rank.1 < b.rank.1 ∨ (a.rank.1 = b.rank.1 ∧ a.rank.2 ≤ b.rank.2)) ∧
      ∀ r, l.filter (fun a => a.rank == r) = s.acts.filter fun a => a.rank == r) ∧
    (∀ tk i e r reason wake m, (Act.lookup e).rank = (0, e) ∧ (Act.revoke tk i).rank = (1, tk.order) ∧
      (Act.judge e r).rank = (2, e) ∧ (∀ l, (Act.bookingEnd e l).rank = (2, e)) ∧ (∀ q, (Act.undecided e q).rank = (2, e)) ∧
      (Act.endSession tk).rank = (3, tk.order) ∧ (Act.clear tk reason).rank = (3, tk.order) ∧
      (Act.sleep tk wake).rank = (3, tk.order) ∧ (Act.odoInit tk m).rank = (3, tk.order) ∧
      (∀ x, x = .timer ∨ x = .moved ∨ x = .still ∨ x = .held ∨ x = .woken ∨ x = .odometer ∨ x = .recovery ∨ x = .heldStart ∨
        (∃ o, x = .door o) ∨ (∃ j k, x = .trigger j k) ∨ (∃ j, x = .repetition j) ∨ (∃ k, x = .repair k) ∨
        (∃ t, x = .highwater t) ∨ (∃ p q, x = .probe p q) ∨ (∃ j, x = .hostSilent j) → Act.rank x = (4, 0)) ∧
      ∀ img l nvm, (Act.config tk img nvm).rank = (5, tk.order) ∧ (Act.thallus tk img l nvm).rank = (5, tk.order)) ∧
    (∀ a : Act, s.awake = true →
      (s.act a).log.waiting.length = (s.apply a).log.waiting.length ∧ (s.act a) = { s.apply a with log := (s.act a).log } ∧
      ∀ w ∈ (s.act a).log.waiting.drop s.log.waiting.length, w.rank = (if a.rank.1 = 5 then 3 else a.rank.1) ∧
        ∀ tk, a.clause = some tk → w.isAuth = false → w.isReply = true) ∧
    (∀ e r tk, s.acts = [.endSession tk, .judge e r] →
      s.actAll = (({ s with acts := [] } : State).act (.judge e r)).act (.endSession tk)) ∧
    (∀ e e' r r', e' < e → s.acts = [.judge e r, .judge e' r'] →
      s.actAll = (({ s with acts := [] } : State).act (.judge e' r')).act (.judge e r))

/-- Admitted work runs in a published tick once its needs are spent, by its last tick, its priority and its admission
order, at most three spore loads on the spore reserve in one tick, which are tested in the order of their admission;
work whose needs are not spent, or whose loopback tests are not over, waits (R36, R42, R43, R283, R381). What the spec
leaves open here is read as log entries 7, 39 say. -/
def Sys2Proof.Claim.ReadyWorkRunsInOrder : Prop :=
  ∀ s : State,
    let l := s.ready
    s.runReady = l.foldl State.runQueued s ∧
    let over_ := fun (q : Queued) => ∀ x ∈ s.field.loops, x.order = q.ticket.order → ∀ t, x.tick = some t → t < s.tick
    (∀ q ∈ l, q ∈ s.work ∧ over_ q ∧ ∀ d ∈ s.ledger, d.order ≠ q.ticket.order) ∧
    (∀ q ∈ s.work, (∀ d ∈ s.ledger, d.order ≠ q.ticket.order) → over_ q → q.reserved = false → q ∈ l) ∧
    (l.filter Queued.reserved).length + s.ks.loadsStaged ≤ max 3 s.ks.loadsStaged ∧
    ((l.filter Queued.reserved).Pairwise fun a b => a.ticket.order ≤ b.ticket.order) ∧
    (l.filter fun q => !q.reserved).Pairwise fun a b => a.last < b.last ∨ (a.last = b.last ∧
      (b.prio < a.prio ∨ (a.prio = b.prio ∧ a.ticket.order ≤ b.ticket.order)))

/-- A tick spends at most 520 units of the host pool on admitted work, at most 1 half unit of ECC and of NVM work, and
on MAINT work its floor of 40 and the slack: what the other shares leave of a tick's units, but for the lane probe
(R33, R36, R42, R50, R380; what counts as used is the model's reading, log entry 61). The earliest last tick is served
first. Needs only fall. -/
def Sys2Proof.Claim.TicksSpendTheirUnits : Prop :=
  ∀ s : State,
    let t := s.spendTick
    let sum := fun (f : Demand → Nat) (l : List Demand) => (l.map f).sum
    let spent := fun (f : Demand → Nat) => sum f s.ledger - sum f t.ledger
    spent Demand.lane = min 520 (sum Demand.lane s.ledger) ∧ spent Demand.ecc = min 1 (sum Demand.ecc s.ledger) ∧
      spent Demand.nvm = min 1 (sum Demand.nvm s.ledger) ∧
      spent Demand.maint = min (40 + ((966 - s.unitsUsed) - (if s.tick % 3907 = 0 then 200 else s.lanes.probeLeft)))
        (sum Demand.maint s.ledger) ∧
      (∀ d ∈ t.ledger, d.lane + d.maint + d.ecc + d.nvm ≠ 0 ∧ ∃ d' ∈ s.ledger, d'.order = d.order ∧ d'.last = d.last ∧
        d.lane ≤ d'.lane ∧ d.maint ≤ d'.maint ∧ d.ecc ≤ d'.ecc ∧ d.nvm ≤ d'.nvm) ∧
      (∀ d d' : Demand, s.ledger = [d, d'] → d'.last < d.last → d'.lane = 520 → d'.maint + d'.ecc + d'.nvm = 0 →
        d.lane ≠ 0 → d.ecc + d.nvm + d.maint = 0 → t.ledger = [d])

/-- What a commit phase publishes: together, `FramesArePublished` and `CauseWordsFollowTheEvents` and
`LastingChangesAreOrdered` and `ReadyWorkRunsInOrder` and `TicksSpendTheirUnits`. -/
def Obligations.CommitPhasesPublish : Prop :=
  Claim.FramesArePublished ∧ Claim.CauseWordsFollowTheEvents ∧ Claim.LastingChangesAreOrdered ∧
    Claim.ReadyWorkRunsInOrder ∧ Claim.TicksSpendTheirUnits

/-- A TICK with matching lanes, or with one lane in service, and nothing withheld, ends its tick: the ledgers are
spent, work that is ready runs, the lasting changes are made, and then, unless one of them has reset the device, its
commit phase publishes: everything staged has gone, key work, port work and window writes are done. Then the next tick
begins: what the MOTION domain sees behind the write cycle comes first, the discards that waited are counted with
their notices staged, each frame cut by a reset of the SPI side too, and the frames held from an arbitration, then
those waiting at SPIA, then those at SPIB, are latched; in an arbitration tick they are held with it as their latch
tick, and after a transient the last ticks of all work in flight move by 2 (R16, R18, R33 to R35, R42, R53, R60, R61,
R204, R367, R369, R392, R394). What the spec leaves open here is read as log entries 7, 9 say. Completes (concludes
`exec c s = .next t`): tick. -/
def Sys2Proof.Claim.TicksPublishAndLatch : Prop :=
  (∀ (i : TickIn) (s : State), s.awake = true → s.lanes.faultTick = none → s.lanes.takeoverDue = none →
    s.lanes.transientTicks = [] → (i.matched = true ∨ s.degraded = true) →
    let w := s.spendTick.runReady.commitActs
    (w.awake = false → exec (.tick i) s = .next { w.endOps with latched := [] }) ∧
    (w.awake = true → (∀ p, ∀ r ∈ (w.port p).stagedReplies, r.verb ≠ 0x08) → w.power.readyDue = none →
      ∃ v : State, exec (.tick i) s = .next (v.beginTick i) ∧ v.awake = true ∧
        v.tick = w.tick ∧ v.ledger = w.ledger ∧ v.work = w.work ∧ v.acts = w.acts ∧ v.latched = [] ∧ v.drawn = [] ∧
        v.log.commitTick = w.tick ∧ v.lanes.faultTick = w.lanes.faultTick ∧ v.lanes.takeoverDue = w.lanes.takeoverDue ∧
        (∀ p, (v.port p).frames = (w.port p).frames ∧ (v.port p).late = (w.port p).late ∧ (v.port p).stagedReplies = [] ∧
          (v.port p).stagedSpores = [] ∧ (v.port p).stagedNotices = [] ∧ (v.port p).held = (w.port p).held ∧
          (v.port p).cutFrames = (w.port p).cutFrames ∧ (v.port p).newDiscards = 0 ∧ (v.port p).newSession = none ∧
          ((w.port p).newSession ≠ none → (v.port p).session.map Sess.id = (w.port p).newSession.map Sess.id)) ∧
        v.ks.work = [] ∧ v.fp.work = [] ∧ v.win.writes = [] ∧
        (w.rng.seedTick ≠ none → v.rng.seeded = true) ∧ v.cell = { w.cell with notes := [] } ∧ v.ses = w.ses ∧ v.cfg = w.cfg ∧
        v.thal = w.thal ∧ v.dir = w.dir ∧ v.lock = w.lock)) ∧
  (∀ (i : TickIn) (v : State),
    let m := i.motion.foldl State.motionEvent v
    ∃ u : State, u.tick = m.tick + 1 ∧ u.tamper.present = i.present ∧ u.ledger = m.ledger ∧ u.work = m.work ∧ u.acts = m.acts ∧
      u.lanes = m.lanes ∧
      (∀ p, (u.port p).frames = (m.port p).frames ∧ (u.port p).late = (m.port p).late ∧
        (u.port p).stagedReplies = (m.port p).stagedReplies ∧ (u.port p).held = [] ∧ (u.port p).cutFrames = 0 ∧
        (u.port p).stagedNotices = (m.port p).stagedNotices ++ (m.port p).held.flatMap Held.notices ∧
        (u.port p).newDiscards = (m.port p).newDiscards + (m.port p).held.length + (m.port p).cutFrames) ∧
      (u.arbitrationTick = true → v.beginTick i = u.onPorts fun q =>
        { q with frames := [], late := q.late ++ q.frames.map fun f => (u.tick, f) }) ∧
      (u.arbitrationTick = false →
        let l := (u.latchLate .a).latchLate .b
        let n := ({ l with lanes := { l.lanes with tickOrder := l.orderNo } } : State)
        ((∀ f, u.lanes.transientTicks.head? = some f → u.tick ≠ f + 2) → v.beginTick i = (n.latchPort .a).latchPort .b) ∧
        (∀ f, u.lanes.transientTicks.head? = some f → u.tick = f + 2 →
          v.beginTick i = ((n.extendWork n.orderNo).latchPort .a).latchPort .b))) ∧
  (∀ (s : State) (n : Nat), (∀ d ∈ s.ledger, d.order < n) → (∀ q ∈ s.work, q.ticket.order < n) →
    (∀ h ∈ s.fp.held, h.ticket.order < n) →
    s.extendWork n = { s with
      ledger := s.ledger.map fun d => { d with last := d.last + 2 }
      work := s.work.map fun q => { q with last := q.last + 2 }
      fp := { s.fp with held := s.fp.held.map fun h => { h with last := h.last + 2 } } }) ∧
  ∀ (s : State) (p : PortId), s.latchPort p = ((s.port p).frames.map fun f => (s.tick, f)).foldl (State.latchFrame p)
    (s.onPort p fun q => { q with frames := [] })

/-- A reply shows its commit phase where its rule says so: STATUS, SLEEP, LANE_STATUS, SESSION_END, RELEASE_STATE,
RELEASE_CLEAR, MOTION_CFG, MOTION_READ and FIELDPORT_CFG; every other admitted reply answered DONE, and every other
status, goes out as it was staged (R82, R181, R210, R211, R226, R227, R265, R379, R414). -/
def Sys2Proof.Claim.RepliesShowTheirCommit : Prop :=
  ∀ (s : State) (r : Staged),
    let now := fun (verb : Nat) (results : Bytes) => r.admitted = true → r.status = 0 → r.verb = verb →
      s.refreshReply r = { r with results := results }
    now 0x02 s.statusResults ∧ now 0x08 s.sleepResults ∧ now 0x09 s.laneStatusResults ∧ now 0x2C s.sessionEndResults ∧
      now 0x30 s.releaseResults ∧ now 0x31 s.releaseClearResults ∧ now 0x38 s.motionCfgResults ∧ now 0x39 s.motionResults ∧
      now 0x60 s.fp.results ∧
      ((r.admitted = false ∨ r.status ≠ 0 ∨ r.verb ∉ [0x02, 0x08, 0x09, 0x2C, 0x30, 0x31, 0x38, 0x39, 0x60]) →
        s.refreshReply r = r)

/-- A TICK whose lanes differ is not published and leaves the release cell, the session, the banks, the directory, the
key store and what waits as they are, the records and replies too: it is the fault tick of an arbitration; nor is the
arbitration tick published. Seals signed in it are not made. A booking still in its carrier lead then is cancelled,
and one whose exchange waits for this tick's lane work gets no frame in time: it ends by R371, and its engine enters
the mask. Random values drawn in it are discarded, and the work that drew them is done again. A second difference
after a transient resets the device. Asleep no tick passes (R16, R17, R53, R125, R146, R322, R366 to R369, R371,
R416). What the spec leaves open here is read as log entries 9, 21 say. Completes (concludes `exec c s = .next t`):
tick. -/
def Sys2Proof.Claim.TicksAreWithheld : Prop :=
  ∀ (i : TickIn) (s : State),
    let kept := fun (t : State) => t.tick = s.tick ∧ t.cell = s.cell ∧ t.ses = s.ses ∧ t.cfg = s.cfg ∧ t.thal = s.thal ∧
      t.dir = s.dir ∧ t.lock = s.lock ∧ t.acts = s.acts ∧ t.ks = s.ks ∧ t.log = s.log.abortSeals s.tick ∧ t.ledger = s.ledger ∧
      t.work = s.work ∧ t.fp = s.fp ∧ t.win = s.win ∧ t.motion = s.motion ∧ t.tamper = s.tamper ∧ t.drawn = [] ∧
      ∀ p, t.port p = s.port p
    let idle := ∀ e < 4, s.awaitsLanes e = false
    let probes := if s.tick % 3907 = 0 then 200 else s.lanes.probeLeft
    (s.awake = false → exec (.tick i) s = .next s) ∧
    (s.awake = true → s.degraded = false → s.lanes.takeoverDue = none → s.lanes.faultTick = none →
      s.lanes.transientTicks = [] → s.drawn = [] → i.matched = false → idle →
      ∃ t, exec (.tick i) s = .next (t.beginTick i) ∧ kept t ∧
        t.lanes = { s.lanes with faultTick := some s.tick, handoverMask := t.lanes.handoverMask, probeLeft := probes } ∧
        (s.field.bookings.all (fun b => b.phase != .lead) = true → t.lanes.handoverMask = s.lanes.handoverMask) ∧
        t.field = { s.field with bookings := s.field.bookings.map fun b =>
          if b.phase = .lead then { b.stop 6 with again := true } else b }) ∧
    (∀ f, s.awake = true → s.lanes.takeoverDue = none → s.lanes.transientTicks = [] → s.lanes.faultTick = some f →
      f < s.tick → s.drawn = [] → idle → ∃ t, exec (.tick i) s = .next (t.beginTick i) ∧ kept t ∧ t.lanes.faultTick = some f) ∧
    (∀ f l, s.awake = true → s.lanes.takeoverDue = none → s.lanes.faultTick = none → s.lanes.transientTicks = f :: l →
      s.tick = f + 1 → s.drawn = [] → idle →
      ∃ t, exec (.tick i) s = .next (t.beginTick i) ∧ kept t ∧ t.lanes = { s.lanes with
        handoverMask := t.lanes.handoverMask, probeLeft := probes }) ∧
    (∀ e b, e < 4 → s.current e = some b → s.awaitsLanes e = true → s.drawLookup e = s → ∃ b',
      (s.missLanes e).current e = some b' ∧ b'.again = true ∧ b'.phase = .ending ∧ b'.todo = [] ∧ b'.endCode = some 6 ∧
        (s.missLanes e).lanes = { s.lanes with handoverMask := s.lanes.handoverMask ||| 2 ^ e }) ∧
    (∀ e, s.awaitsLanes e = false → s.missLanes e = s) ∧
    (∀ q : Queued, s.drawAgain q = (workOf q.ticket.verb q.args q.supplied).run q.ticket (s.onPort q.ticket.port fun p =>
      { p with stagedReplies := p.stagedReplies.filter fun r => r.order != q.ticket.order })) ∧
    (∀ f l, s.awake = true → s.degraded = false → s.lanes.takeoverDue = none → s.lanes.faultTick = none →
      s.lanes.transientTicks = f :: l → s.tick = f + 2 → i.matched = false →
      exec (.tick i) s = .next (s.systemReset 7))

/-- TICK: published, withheld, arbitrated: together, `TicksPublishAndLatch` and `RepliesShowTheirCommit` and
`TicksAreWithheld`. Completes (concludes `exec c s = .next t`): tick. -/
def Obligations.TicksPublishOrWait : Prop :=
  Claim.TicksPublishAndLatch ∧ Claim.RepliesShowTheirCommit ∧ Claim.TicksAreWithheld

/-! ### Supply -/

/-- VBAT valid lets crozier stage 0 begin; below VBAT_RESET a running device resets with BROWNOUT, and so does one
that starts, while a sleeping one sleeps on; VHOLD below its limit is a flag, and its stop without VBAT ends the moss
domain: the cell is LOCKED, the sleep counts and what no boot has written of the tamper latch are gone (R201, R354 to
R356, R403, R406, R419). What the spec leaves open here is read as log entry 37 says. Completes (concludes `exec c s =
.next t`): vbatValid, vbatReset, vholdLow, vholdRecovered, vholdStop. -/
def Sys2Proof.Claim.SupplyLossStopsTheDevice : Prop :=
  ∀ s : State,
    let off : State := { s with power := { s.power with vbatValid := false } }
    (s.power.life ≠ .unpowered → exec .vbatValid s = .next { s with power := { s.power with vbatValid := true } }) ∧
    (s.power.life = .unpowered → exec .vbatValid s = .next
      { s with power := { s.power with vbatValid := true, life := .starting, nextCause := 1, mossAnew := true } }) ∧
    (s.power.life = .awake ∨ s.power.life = .sleepPending ∨ s.power.life = .bootStopped →
      exec .vbatReset s = .next (off.systemReset 2)) ∧
    (s.power.life = .starting → s.power.vbatValid = true →
      exec .vbatReset s = .next { off with power := { off.power with nextCause := 2 } }) ∧
    (s.power.life = .asleep ∨ s.power.life = .unpowered ∨ (s.power.life = .starting ∧ s.power.vbatValid = false) →
      exec .vbatReset s = .next off) ∧
    exec .vholdLow s = .next { s with power := { s.power with vholdLow := true } } ∧
    exec .vholdRecovered s = .next { s with power := { s.power with vholdLow := false } } ∧
    (s.power.vbatValid = true → exec .vholdStop s = .next s) ∧
    (s.power.vbatValid = false → ∃ t, exec .vholdStop s = .next t ∧ t.power.life = .unpowered ∧ t.power.nextCause = 1 ∧
      t.power.mossAnew = true ∧ t.tamper.due = s.tamper.dueWritten ∧ t.cell = {} ∧ t.ses.state = .closed ∧ t.tamper.latched = s.tamper.written ∧ t.tamper.entries = none ∧
      t.tamper.hold = (s.tamper.permanent || s.tamper.holdWritten) ∧
      t.motion.sleepCount0 = 0 ∧ t.motion.sleepCount1 = 0 ∧ t.motion.odoM = s.motion.storedM ∧ t.dir = s.dir ∧
      t.cfg.cur = s.cfg.cur ∧ t.thal.cur = s.thal.cur ∧ t.ks.rhizome = s.ks.rhizome ∧ t.ks.slots = List.replicate 64 {} ∧
      t.log.records = s.log.records)

/-- The supply ceiling: outside its range every bridge of a running exchange is held off, without ending the exchange,
and LOOP_CLAMPED is set; in range again it returns. A critical battery limits it (R104, R106, R403, R404). What the
spec leaves open here is read as log entry 28 says. Completes (concludes `exec c s = .next t`): supplyCeilingReturn,
batteryCritical, batteryCriticalEnd, vbatLowDrive, vdrvRange, vbatHigh. -/
def Sys2Proof.Claim.CeilingsHoldTheBridges : Prop :=
  ∀ s : State,
    (∀ c, c = .vbatLowDrive ∨ c = .vdrvRange ∨ c = .vbatHigh → ∃ t, exec c s = .next t ∧ t.power.supplyOff = true ∧
      t.ceiling = 0 ∧ t.field.scale = 0 ∧ (s.awake = true → t.power.newClamp = true) ∧
      t.field.bookings.map (fun b => (b.id, b.phase, b.endCode)) = s.field.bookings.map (fun b => (b.id, b.phase, b.endCode)) ∧
      (∀ (n : Nat) (c : Channel), s.field.ch[n]? = some c → c.driven = true →
        (∃ b ∈ s.field.bookings, b.phase ≠ .booked ∧ ∃ d ∈ b.base, d.1 = n) → ∃ c', t.field.ch[n]? = some c' ∧ c'.target = 0) ∧
      t = { s with power := t.power, field := t.field }) ∧
    ((s.awake = false ∨ s.power.supplyOff = false) → exec .supplyCeilingReturn s = .next s) ∧
    (s.awake = true → s.power.supplyOff = true → ∃ t, exec .supplyCeilingReturn s = .next t ∧ t.power.supplyOff = false ∧
      t = { s with power := t.power, field := { s.field with scale := t.field.scale } } ∧ t.field.scale ≤ 256) ∧
    (s.awake = true → exec .batteryCritical s = .next { s with power := { s.power with batteryCritical := true } } ∧
      exec .batteryCriticalEnd s = .next { s with power := { s.power with batteryCritical := false } }) ∧
    (s.awake = false → exec .batteryCritical s = .next s ∧ exec .batteryCriticalEnd s = .next s) ∧
    (s.power.supplyOff = false → s.power.thermalOff = false → s.power.batteryCritical = true →
      s.ceiling = min 1000000 s.power.thermalCeiling)

/-- The thermal ceiling follows the die: 3 W up to 161 °C, 0.675 W less for each degree up to 165 °C, then 0.3 W; from
170 °C every bridge is off, until the die is below 165 °C, when the ceiling is the function again, as the model
chooses (log entry 75; R105). -/
def Sys2Proof.Claim.TheDieLimitsTheBridges : Prop :=
  ∀ (t : Int) (s : State),
    let u := State.thermal t s
    let off := 170000 ≤ t ∨ (s.power.thermalOff = true ∧ 165000 ≤ t)
    (off → u.power.thermalOff = true ∧ u.ceiling = 0 ∧ u.field.scale = 0) ∧
      (¬ off → u.power.thermalOff = false ∧ u.field = s.field ∧
        (t ≤ 161000 → u.power.thermalCeiling = 3000000) ∧
        (161000 < t → t ≤ 165000 → (u.power.thermalCeiling : Int) = 3000000 - 675 * (t - 161000)) ∧
        (165000 < t → u.power.thermalCeiling = 300000)) ∧
      u = { s with power := u.power, field := u.field }

/-- Supply monitors and ceilings: together, `SupplyLossStopsTheDevice` and `CeilingsHoldTheBridges` and
`TheDieLimitsTheBridges`. Completes (concludes `exec c s = .next t`): vbatValid, vbatReset, vholdLow, vholdRecovered,
vholdStop, supplyCeilingReturn, batteryCritical, batteryCriticalEnd, vbatLowDrive, vdrvRange, vbatHigh. -/
def Obligations.SupplyLimitsTheDevice : Prop :=
  Claim.SupplyLossStopsTheDevice ∧ Claim.CeilingsHoldTheBridges ∧ Claim.TheDieLimitsTheBridges

/-! ### Reset, boot and sleep -/

/-- A system reset keeps what the moss domain and the NVM hold, and nothing else: the cell as the last published
commit phase left it, the tamper block, the tick, the banks in force, the directory, the locks, the rhizome, the log's
records; the ports are not READY and their crossings closed, HARV is low and the responder idle, sessions and
contexts, the key cache, the bookings, the seed and the stages are gone; what else a reset keeps is read as log
entries 37 and 102 say (R17, R77, R277, R337, R400, R401, R405, R411, R422). -/
def Sys2Proof.Claim.ResetsKeepWhatIsStored : Prop :=
  ∀ (cause : Nat) (s : State),
    let t := s.systemReset cause
    t.power.life = .starting ∧ t.power.nextCause = cause ∧ t.tick = s.tick ∧
      t.cell = { s.cell with recovery := false, recoveryDue := false } ∧ t.acts = [] ∧ t.work = [] ∧ t.drawn = [] ∧
        t.tamper = { s.tamper with queued := 0 } ∧ t.latched = [] ∧ t.dir = s.dir ∧
      t.lock = s.lock ∧ t.cfg = { s.cfg with stage := none } ∧ t.thal = { s.thal with stage := none } ∧
      t.ks.rhizome = s.ks.rhizome ∧ t.ks.gens = s.ks.gens ∧ t.log.records = s.log.records ∧ t.log.next = s.log.next ∧
      t.motion.odoM = s.motion.storedM ∧ t.lanes = { causeA := s.lanes.causeA, causeB := s.lanes.causeB } ∧
      t.ks.slots = List.replicate 64 {} ∧ (∀ p, t.port p = { newEvents := (t.port p).newEvents, spiReset := true, vioLow := (s.port p).vioLow } ∧
        ((s.port p).session.isSome = true → (t.port p).newEvents.getLsbD 14 = true)) ∧ t.ses = {} ∧ t.field.bookings = [] ∧ t.rng = {} ∧
      t.prot.endorsed = [] ∧ t.ledger = [] ∧ t.fp.pages = s.fp.pages ∧ t.fp.body = s.fp.body ∧ t.fp.counter = s.fp.counter ∧
      t.fp.harv = false ∧ t.fp.state = .listen ∧ t.motion.odoR = s.motion.storedR ∧ t.awake = false

/-- BOOT runs only a starting device with a valid VBAT; both lanes lost, the firmware anchor or the firmware stop it,
to be tried again by BOOT_RETRY: a lane that was lost stays so through a wake, and is tried again in any other boot. A
fault of one of its stages resets it; else stage 6 ends with the device awake, READY due at the end of stage 7, in
tamper hold at crozier stage 4, its cause and count noted; the bank of each kind in force is a valid one with the
greater SEQ, the default without one (R332, R335, R374, R403, R407 to R412). A boot is one step, as the model chooses
(log entry 34), whose causes log entry 37 reads; lane comparison within it is its outcome alone (log entry 101).
Completes (concludes `exec c s = .next t`): boot, bootRetry. -/
def Sys2Proof.Claim.BootsEndReadyOrStop : Prop :=
  ∀ (b : BootIn) (s : State),
    ((s.power.life ≠ .starting ∨ s.power.vbatValid = false) → exec (.boot b) s = .next s) ∧
    (s.power.life = .starting → s.power.vbatValid = true →
      let wake := 0x20 ≤ s.power.nextCause
      let causeA := if wake ∧ s.lanes.causeA ≠ 0 then s.lanes.causeA else if b.laneAOk then 0 else 7
      let causeB := if wake ∧ s.lanes.causeB ≠ 0 then s.lanes.causeB else if b.laneBOk then 0 else 7
      ((causeA ≠ 0 ∧ causeB ≠ 0) ∨ b.anchorOk = false ∨ b.firmwareOk = false →
        ∃ t, exec (.boot b) s = .next t ∧ t.power.life = .bootStopped ∧ t.power.nextCause = 0x0C ∧ t.cell = s.cell ∧
          t.portA.ready = s.portA.ready ∧ exec .bootRetry t = .next { t with power := { t.power with life := .starting } }) ∧
      ((causeA = 0 ∨ causeB = 0) → b.anchorOk = true → b.firmwareOk = true → 6 ≤ b.resetBy → b.resetBy ≤ 9 →
        ∃ t, exec (.boot b) s = .next t ∧ t.power.life = .starting ∧ t.power.nextCause = b.resetBy ∧ t.cell.state = s.cell.state) ∧
      ((causeA = 0 ∨ causeB = 0) → b.anchorOk = true → b.firmwareOk = true → ¬ (6 ≤ b.resetBy ∧ b.resetBy ≤ 9) →
        ∃ t, exec (.boot b) s = .next t ∧ t.power.life = .awake ∧
          t.power.bootCount = (s.power.bootCount + 1) % 2 ^ 32 ∧ t.power.bootCause = s.power.nextCause ∧
          t.power.crozier = (if t.tamper.hold then 4 else 6) ∧ t.power.readyDue = some (t.tick + b.stage7) ∧
          (∀ p, (t.port p).ready = (s.port p).ready) ∧
          t.lanes.causeA = causeA ∧ t.lanes.causeB = causeB ∧
          t.cell.state = s.cell.state ∧ (t.tamper.hold = true → .held ∈ t.acts) ∧
          (t.cfg.current = true → (t.cfg.bank0.cond = .valid ∧ t.cfg.cur = t.cfg.bank0.img) ∨
            (t.cfg.bank1.cond = .valid ∧ t.cfg.cur = t.cfg.bank1.img)) ∧
          (t.cfg.current = false → t.cfg.cur = defaultConfig ∧ t.cfg.bank0.cond ≠ .valid ∧ t.cfg.bank1.cond ≠ .valid) ∧
          (t.thal.current = false → t.thal.cur = factoryThallus) ∧
          (t.cfg.bank0.cond = .valid → t.cfg.bank1.cond = .valid → serialNewer 32 t.cfg.bank1.seq t.cfg.bank0.seq = true →
            t.cfg.cur = t.cfg.bank1.img) ∧
          t.dir = s.dir ∧ (t.ks.rhizome = s.ks.rhizome ∨ (s.ks.rhizome ≠ none ∧ t.ks.erased = true)))) ∧
    (s.power.life ≠ .bootStopped → exec .bootRetry s = .next s)

/-- The commit phase that ends stage 7 sets READY with 8 credits on both ports, crozier stage 7 or, in tamper hold, 4;
until then what the ports hold waits, and the first commit phase after it shows the BOOT cause (R60, R78, R407, R409,
R410). What the spec leaves open here is read as log entry 34 says. -/
def Sys2Proof.Claim.StageSevenEndsInReady : Prop :=
  ∀ (s : State) (d : Nat), s.power.readyDue = some d →
    let t := s.publish
    (d ≤ s.tick → t.power.readyDue = none ∧ t.power.firstCommit = true ∧
      t.power.crozier = (if s.tamper.hold then 4 else 7) ∧
      ∀ p, (t.port p).ready = true ∧ (t.port p).credits = 8 ∧ (t.port p).spiReset = (s.port p).vioLow) ∧
    (s.tick < d → (∀ p, ∀ r ∈ (s.port p).stagedReplies, r.verb ≠ 0x08) → t.power.readyDue = some d ∧
      ((∀ w ∈ s.log.waiting, w.typ ≠ 0x64) → t.tamper.due = s.tamper.due) ∧
      ∀ p, (t.port p).ready = (s.port p).ready ∧ (t.port p).general = (s.port p).general ∧
        (t.port p).cause = (s.port p).cause ∧ (t.port p).irq = (s.port p).irq) ∧
    ∀ u : State, u.power.readyDue = none → u.power.firstCommit = true →
      u.commitReports.power.firstCommit = false ∧ ∀ p, (u.commitReports.port p).cause.getLsbD 15 = true

/-- After a boot with no power lost the tick number goes on: past the tick of the reset by the ticks of the MOSS
cycles that have passed; the boot after personalisation begins at 0, a moss power-on at the value kept, which is
renewed at every multiple of 2^20, by the commit phase of that tick (R35, R342, R412, R413). What the spec leaves open
here is read as log entry 34 says. Completes (concludes `exec c s = .next t`): tickHighwaterWrite. -/
def Sys2Proof.Claim.TickNumbersGoOn : Prop :=
  ∀ (s : State) (cycles : Nat),
    (s.power.mossAnew = false → ¬ (s.prot.personalised = true ∧ s.log.begun = false) →
      (s.bootBegins cycles).tick = s.tick + 1 + cycles * 15625 / 131072 ∧ s.tick < (s.bootBegins cycles).tick) ∧
    (s.prot.personalised = true → s.log.begun = false → (s.bootBegins cycles).tick = 0) ∧
    (s.power.mossAnew = true → ¬ (s.prot.personalised = true ∧ s.log.begun = false) →
      (s.bootBegins cycles).tick = s.power.storedTick) ∧
    (s.awake = true → s.tick % 2 ^ 20 = 0 →
      exec .tickHighwaterWrite s = .next (s.push (.highwater s.tick))) ∧
    (∀ n, s.awake = true → s.act (.highwater n) = { s with power := { s.power with storedTick := n + 2 ^ 21 } }) ∧
    (s.bootBegins cycles).power.mossAnew = false ∧
    ((s.awake = false ∨ s.tick % 2 ^ 20 ≠ 0) → exec .tickHighwaterWrite s = .next s)

/-- Reset, boot and the tick number: together, `ResetsKeepWhatIsStored` and `BootsEndReadyOrStop` and
`StageSevenEndsInReady` and `TickNumbersGoOn`. Completes (concludes `exec c s = .next t`): boot, bootRetry,
tickHighwaterWrite. -/
def Obligations.BootsReachReady : Prop :=
  Claim.ResetsKeepWhatIsStored ∧ Claim.BootsEndReadyOrStop ∧ Claim.StageSevenEndsInReady ∧ Claim.TickNumbersGoOn

/-- SLEEP is answered while nothing is under way; in its place among the changes of its commit phase it sets the wake
timer, ends the session, requests the clear, and stores the odometer and records it with its reply; its publication
clears READY, ends host sessions and schedules and drops the polls that are booked; the device falls asleep when the
cell is LOCKED, the log is programmed and the reply read or 8 ticks old, and an input that has changed by then wakes
it at once. The clear without a session, and the frames lost with the sleep, are the readings of log entries 27 and 30
(R39, R179, R206, R220, R413 to R417). Completes (concludes `exec c s = .next t`): sleep, sleepEntry. -/
def Sys2Proof.Claim.SleepIsEntered : Prop :=
  (∀ (h : Hdr) (args : Bytes) (s : State),
    let k : Clause := ⟨0x08, h, args⟩
    let n : Need := { lane := 30, nvm := 2, deadline := 8 }
    k.clear n s = true → args.length = 8 → num args 0 4 ≤ 2592000 → num args 4 4 = 0 → s.field.bookings = [] →
      s.field.readers = [] → (∀ p, ∀ o ∈ (s.port p).outstanding, o.admitted = true → o.answered = true) →
      exec (.sleep h args) s = .next (k.goes n .nothing (fun tk b => (b.push (.sleep tk (num args 0 4))).done tk
        (leN 1 (if b.cell.state = .locked then 0 else 1) ++ leN 4 b.tick ++ zeros 3)) s)) ∧
  (∀ (s : State) (tk : Ticket) (wake : Nat), s.awake = true →
    let t := s.act (.sleep tk wake)
    t.power.wakeTimer = wake ∧ t.ses.state = .closed ∧ (s.ses.state ≠ .closed → t.ses.lastEnd = 5) ∧
      (s.cell.state = .released → s.still = false → t.cell.state = .clearPending ∧ t.cell.pendingReason = 5) ∧
      (s.cell.state = .released → s.still = true → t.cell.state = .locked) ∧ (s.cell.state = .locked → t.cell = s.cell) ∧
      t.motion = { s.motion with
        storedM := s.motion.odoM, storedR := s.motion.odoR, storedSecondary := s.motion.onSecondary } ∧
      (s.log.begun = true → ∃ w, t.log.waiting.getLast? = some w ∧ w.cls = .reply ∧ w.order = tk.order ∧ w.typ = 0x36 ∧
        w.body = padTo 32 (t.odoBody 2 0 0))) ∧
  (∀ s : State, let t := s.sleepPublished
    t.power.life = .sleepPending ∧ t.power.sleepTick = s.tick ∧ t.field.schedules = [] ∧
      t.cfg.stage = none ∧ t.thal.stage = none ∧
      t.cell = { s.cell with recovery := false } ∧ (∀ b ∈ t.field.bookings, b.isPoll = false) ∧ t.ses = s.ses ∧
      ∀ p, (t.port p).ready = false ∧ (t.port p).session = none ∧ (t.port p).frames = [] ∧ (t.port p).ctx0 = none ∧
        (t.port p).ctx1 = none) ∧
  ∀ (inputs : List (InputPin × Bool)) (s : State),
    let ready := s.power.life = .sleepPending ∧ s.cell.state = .locked ∧ s.log.unprogrammed = [] ∧ s.log.waiting = [] ∧
      s.log.seals = [] ∧ (∀ d ∈ s.ledger, d.nvm = 0) ∧ (s.sleepUnread = false ∨ max s.power.sleepTick s.power.lockedAt + 8 ≤ s.tick)
    (¬ ready → exec (.sleepEntry inputs) s = .next s) ∧
    (ready → ∃ t, exec (.sleepEntry inputs) s = .next t ∧ t.power.entryTick = s.tick ∧
      t.power.storedTick = s.tick + 2 ^ 21 ∧
      (∀ p, t.port p = { newEvents := (t.port p).newEvents, spiReset := (s.port p).spiReset, vioLow := (s.port p).vioLow }) ∧
      t.motion.wakeDue = true ∧ t.motion.counting = true ∧
      t.motion.level0 = (s.motion.src.getD 0 {}).level ∧ t.motion.level1 = (s.motion.src.getD 1 {}).level ∧ t.cell.state = .locked ∧
      t.dir = s.dir ∧ t.ks.slots = List.replicate 64 {} ∧
      ((∀ x ∈ inputs, x.2 = s.field.held x.1) → t.power.life = .asleep) ∧
      (∀ level, inputs = [(.wake, level)] → level ≠ s.field.held .wake → t.power.life = .starting ∧ t.power.nextCause = 0x26) ∧
      (∀ level, inputs = [(.start, level)] → level ≠ s.field.held .start → trigWake s.cfg.cur 0 = true →
        t.power.life = .starting ∧ t.power.nextCause = 0x21))

/-- A sleeping device starts with the boot cause of the source that wakes it: an input whose last four samples differ
from the level held and whose entry may wake it, the WAKE pin so, the wake timer at its time, sleep motion beyond its
limit, a confirmed ping, a field write, a tamper hold; of several in one MOSS cycle the lowest code counts. A source
that may not wake it or has not qualified does nothing, nor does any when it does not sleep (R224, R264, R411, R414,
R417, R418, R420, Table 17.5). What the spec leaves open here is read as log entry 31 says. Completes (concludes `exec
c s = .next t`): wakeTimerExpiry, sleepMotionWake, wakeEvent. -/
def Sys2Proof.Claim.WakeSourcesStartTheDevice : Prop :=
  ∀ (s : State) (samples : List Bool) (cycles : Nat),
    let up := fun (cause : Nat) =>
      { s with power := { s.power with wakeCycle := some cycles, life := .starting, nextCause := cause } }
    let may := fun (entry : Nat) => trigWake s.cfg.cur entry = true
    let qual := fun (p : InputPin) => ∃ r, samples = r ++ List.replicate 4 (!s.field.held p)
    let wakes := fun (src : WakeSource) => exec (.wakeEvent src ⟨samples, cycles⟩) s
    let same := s.power.life = .starting ∧ s.power.wakeCycle = some cycles ∧ 0x20 ≤ s.power.nextCause
    (s.power.life ≠ .asleep → ¬ same → (∀ src, wakes src = .next s) ∧
      exec (.wakeTimerExpiry cycles) s = .next s ∧ exec (.sleepMotionWake cycles) s = .next s) ∧
    ((¬ qual .wake → wakes .wakePin = .next s) ∧ (¬ qual .start → wakes .start = .next s) ∧ (¬ qual .ign → wakes .ign = .next s) ∧
      ∀ n, ¬ qual (.door n) → wakes (.door n) = .next s) ∧
    (same → (qual .wake → wakes .wakePin = .next (up (min s.power.nextCause 0x26))) ∧
      (may 0 → qual .start → wakes .start = .next (up (min s.power.nextCause 0x21))) ∧
      (s.fp.wrote = true → wakes .fieldWrite = .next (up (min s.power.nextCause 0x29))) ∧
      (¬ may 0 → wakes .start = .next s)) ∧
    (s.power.life = .asleep →
      (may 1 → qual .ign → wakes .ign = .next (up 0x20)) ∧ (¬ may 1 → wakes .ign = .next s) ∧
      (may 0 → qual .start → wakes .start = .next (up 0x21)) ∧ (¬ may 0 → wakes .start = .next s) ∧
      (∀ n : Fin 4, (may (2 + n.val) → qual (.door n) → wakes (.door n) = .next (up (0x22 + n.val))) ∧
        (¬ may (2 + n.val) → wakes (.door n) = .next s)) ∧
      (qual .wake → wakes .wakePin = .next (up 0x26)) ∧
      (s.field.confirmed ≠ 0 → may 6 → wakes .ping = .next (up 0x27)) ∧
      (s.fp.wrote = true → wakes .fieldWrite = .next (up 0x29)) ∧
      (s.fp.wrote = false → wakes .fieldWrite = .next s) ∧
      (s.tamper.hold = true → wakes .tamper = .next (up 0x2A)) ∧ (s.tamper.hold = false → wakes .tamper = .next s) ∧
      (s.power.wakeTimer ≠ 0 → s.power.wakeTimer * 32768 ≤ cycles → exec (.wakeTimerExpiry cycles) s = .next (up 0x2B) ∧
        wakes .timer = .next (up 0x2B)) ∧
      ((s.power.wakeTimer = 0 ∨ cycles < s.power.wakeTimer * 32768) → exec (.wakeTimerExpiry cycles) s = .next s) ∧
      (let limit := sleepWakePulses s.thal.cur
        let more := limit < s.motion.sleepCount0 ∨ limit < s.motion.sleepCount1
        (limit ≠ 0 → more → exec (.sleepMotionWake cycles) s = .next (up 0x28) ∧ wakes .sleepMotion = .next (up 0x28)) ∧
          (limit = 0 ∨ ¬ more → exec (.sleepMotionWake cycles) s = .next s)))

/-- SLEEP, sleep entry and wake sources: together, `SleepIsEntered` and `WakeSourcesStartTheDevice`. Completes
(concludes `exec c s = .next t`): sleep, sleepEntry, wakeTimerExpiry, sleepMotionWake, wakeEvent. -/
def Obligations.SleepIsEnteredAndLeft : Prop :=
  Claim.SleepIsEntered ∧ Claim.WakeSourcesStartTheDevice

/-- A ping falls due when its period has passed since the last: 250 ms, doubled with each full day of standing up to
16 s, held by P_MAX, and 16 s under the battery override, which comes first; none while pings are stopped. VBAT is
sampled in the same MOSS cycle before it; without that sample, or before that time, the command does nothing (R198,
R199; that the first period runs from the hand-over is the model's choice, log entry 68). Completes (concludes `exec c
s = .next t`): detunePing. -/
def Sys2Proof.Claim.PingsFallDue : Prop :=
  ∀ (s : State) (r : List PingResponse) (cycles : Nat),
    let stood := cycles + (s.power.entryTick - s.power.sleepTick) * 256 * 32768 / 1000000
    let period := if s.field.pingOverride then 524288 else 8192 * min (2 ^ min (stood / 2831155200) 6) (pMax s.cfg.cur)
    (s.pings = false ∨ s.field.pingStopped = true ∨ cycles < s.field.lastPing + period ∨
      s.field.vbatAt ≠ some cycles → exec (.detunePing r cycles) s = .next s) ∧
    (s.pings = true → s.field.pingStopped = false → s.field.lastPing + period ≤ cycles → s.field.vbatAt = some cycles →
      ∃ t, exec (.detunePing r cycles) s = .next t ∧ t.field.lastPing = cycles ∧
        t.field.bursts.map Burst.aerial = s.pingAerials ∧ t = { s with field := t.field } ∧
        ∀ n, n ∉ s.pingAerials → t.field.ch[n]? = s.field.ch[n]?) ∧
    (s.power.life ≠ .asleep ∨ pingEn s.cfg.cur = false → s.pings = false)

/-- The detune ping: a first response is the aerial's baseline, one within the threshold, in units of 0.1 %, moves it
a sixteenth of the way; one beyond it is confirmed by a second, which wakes a device whose entry 6 allows it; a trip
keeps the aerial silent; VBAT is sampled before each ping and every 16 s while they are stopped: a low battery slows
the pings down and, lower, stops them, after which baselines start anew (R112, R113, R198, R199). What the spec leaves
open here is read as log entries 32, 68, 78, 86 say. Completes (concludes `exec c s = .next t`): detunePing,
pingConfirm, standbyVbatSample. -/
def Sys2Proof.Claim.PingsWatchTheHandles : Prop :=
  ∀ (s : State) (r : PingResponse) (c : Channel) (cycles mv : Nat),
    let sampled := s.pings = true ∧ (if s.field.pingStopped = true then s.field.vbatAt.getD 0 + 524288 ≤ cycles
      else s.pingDue cycles = true)
    ((s.power.life ≠ .asleep ∨ pingEn s.cfg.cur = false) → exec (.detunePing [r] cycles) s = .next s) ∧
    (s.wakesNow = false ∨ pingEn s.cfg.cur = false ∨ r.aerial ∉ s.field.exceeded ∨ cycles < s.field.lastPing + 131 →
      exec (.pingConfirm r cycles) s = .next s) ∧
    (¬ sampled → exec (.standbyVbatSample ⟨mv, cycles⟩) s = .next s) ∧
    (s.pings = true → s.field.ch[r.aerial]? = some c → r.aerial ∈ s.pingAerials →
      let drives := { s.field with bursts := s.pingAerials.map s.pingBurst, lastPing := cycles }
      let alone := { s.field with bursts := [s.pingBurst r.aerial], exceeded := [] }
      (r.trip = true → s.pingDue cycles = true → s.field.vbatAt = some cycles → exec (.detunePing [r] cycles) s = .next
        { s with field := { drives with ch := s.field.ch.set r.aerial { c with pingTripped := true } } }) ∧
      (r.trip = true → s.field.exceeded = [r.aerial] → s.field.lastPing + 131 ≤ cycles → exec (.pingConfirm r cycles) s = .next
        { s with field := { alone with ch := s.field.ch.set r.aerial { c with pingTripped := true } } }) ∧
      (r.trip = false → c.base = none → s.pingDue cycles = true → s.field.vbatAt = some cycles → exec (.detunePing [r] cycles) s = .next
        { s with field := { drives with ch := s.field.ch.set r.aerial { c with base := some (r.i, r.q, 0) } } }) ∧
      (∀ i q n, r.trip = false → c.base = some (i, q, n) →
        let far := (detuneThresh s.cfg.cur ^ 2 : Int) * (i * i + q * q) <
          1000000 * ((r.i * 16 ^ n - i) * (r.i * 16 ^ n - i) + (r.q * 16 ^ n - q) * (r.q * 16 ^ n - q))
        let follows := { c with base := some (15 * i + r.i * 16 ^ n, 15 * q + r.q * 16 ^ n, n + 1) }
        (s.pingDue cycles = true → s.field.vbatAt = some cycles → ¬ far → exec (.detunePing [r] cycles) s = .next
          { s with field := { drives with ch := s.field.ch.set r.aerial follows } }) ∧
        (s.pingDue cycles = true → s.field.vbatAt = some cycles → far → exec (.detunePing [r] cycles) s = .next
          { s with field := { drives with exceeded := [r.aerial] } }) ∧
        (far → s.field.exceeded = [r.aerial] → s.field.lastPing + 131 ≤ cycles → trigWake s.cfg.cur 6 = true → exec (.pingConfirm r cycles) s = .next
          { s with
            field := { alone with confirmed := s.field.confirmed ||| 2 ^ r.aerial }
            power := { s.power with wakeCycle := some cycles, life := .starting, nextCause := 0x27 } }) ∧
        (¬ far → s.field.exceeded = [r.aerial] → s.field.lastPing + 131 ≤ cycles → exec (.pingConfirm r cycles) s = .next { s with field := alone }))) ∧
    (sampled → ∃ t, exec (.standbyVbatSample ⟨mv, cycles⟩) s = .next t ∧
      (mv < batStop s.cfg.cur → t.field.pingStopped = true ∧ t.field.exceeded = []) ∧
      (batStop s.cfg.cur + 400 ≤ mv → t.field.pingStopped = false ∧
        (s.field.pingStopped = true → ∀ x ∈ t.field.ch, x.base = none)) ∧
      (mv < batLow s.cfg.cur → t.field.pingOverride = true ∧ t.power.pingLimited = true) ∧
      (batLow s.cfg.cur + 400 ≤ mv → t.field.pingOverride = false) ∧
      t = { s with
        field := { s.field with
          vbatAt := some cycles, pingOverride := t.field.pingOverride, pingStopped := t.field.pingStopped, exceeded := t.field.exceeded
          ch := t.field.ch }
        power := { s.power with pingLimited := t.power.pingLimited } })

/-- The moss domain counts edges in a sleep whose new level two samples show, each on its input: a change to the level
that EDGE selects, from the level last seen or handed over, once; the change back is kept and not counted. Edges form
episodes that end 2 s after the last one; the sixteenth absorbs what follows (R222, R223, R397). The seconds in which
an episode ends are the model's rounding (log entry 13). What the spec leaves open here is read as log entry 33 says.
Completes (concludes `exec c s = .next t`): sleepPulseEdge, episodeEnd. -/
def Sys2Proof.Claim.SleepMotionIsCounted : Prop :=
  ∀ (s : State) (second level : Bool) (cycle samples : Nat),
    let shown := if second then s.motion.level1 else s.motion.level0
    let falling := edgeFalling s.thal.cur (if second then 1 else 0)
    let counted := level ≠ shown ∧ level = !falling
    ((s.mossCounts = false ∨ samples < 2 ∨ level = shown) → exec (.sleepPulseEdge second cycle ⟨level, samples⟩) s = .next s) ∧
    (s.mossCounts = false → exec (.episodeEnd cycle) s = .next s) ∧
    (s.mossCounts = true → 2 ≤ samples → level ≠ shown → ¬ counted →
      exec (.sleepPulseEdge second cycle ⟨level, samples⟩) s = .next { s with motion := { s.motion with
        level0 := if second then s.motion.level0 else level, level1 := if second then level else s.motion.level1 } }) ∧
    (s.mossCounts = true → 2 ≤ samples → counted → ∃ t, exec (.sleepPulseEdge second cycle ⟨level, samples⟩) s = .next t ∧
      t = { s with motion := t.motion } ∧ (if second then t.motion.level1 else t.motion.level0) = level ∧
      (second = false → t.motion.sleepCount0 = (s.motion.sleepCount0 + 1) % 2 ^ 32 ∧
        t.motion.sleepCount1 = s.motion.sleepCount1) ∧
      (second = true → t.motion.sleepCount1 = (s.motion.sleepCount1 + 1) % 2 ^ 32 ∧
        t.motion.sleepCount0 = s.motion.sleepCount0) ∧
      t.motion.openEpisode = true ∧ t.motion.lastPulse = some cycle ∧ t.motion.odoM = s.motion.odoM ∧
      (∀ last, s.motion.openEpisode = true → s.motion.lastPulse = some last → cycle < last + 65536 →
        t.motion.episodes.length = s.motion.episodes.length) ∧
      (s.motion.openEpisode = false → s.motion.episodes.length < 16 →
        ∃ e, t.motion.episodes = s.motion.episodes ++ [e] ∧ e.start = cycle / 32768 ∧
          e.count0 = (if second then 0 else 1) ∧ e.count1 = (if second then 1 else 0)) ∧
      (s.motion.openEpisode = false → s.motion.episodes.length = 16 → t.motion.episodes.length = 16)) ∧
    (∀ last, s.mossCounts = true → s.motion.openEpisode = true → s.motion.lastPulse = some last → last + 65536 ≤ cycle →
      ∃ t, exec (.episodeEnd cycle) s = .next t ∧ t.motion.openEpisode = false ∧ t = { s with motion := t.motion } ∧
        t.motion.episodes.length = s.motion.episodes.length ∧
        ∀ e, t.motion.episodes.getLast? = some e → e.fin = (last + 65536) / 32768) ∧
    (∀ last, s.motion.lastPulse = some last → cycle < last + 65536 → exec (.episodeEnd cycle) s = .next s)

/-- The detune ping and sleep motion: together, `PingsFallDue` and `PingsWatchTheHandles` and `SleepMotionIsCounted`.
Completes (concludes `exec c s = .next t`): detunePing, pingConfirm, standbyVbatSample, sleepPulseEdge, episodeEnd. -/
def Obligations.SleepWatchesHandlesAndWheels : Prop :=
  Claim.PingsFallDue ∧ Claim.PingsWatchTheHandles ∧ Claim.SleepMotionIsCounted
end

