-- ==== Sys2Proof/Laws/Clause.lean ====
section
/-! SUPPORT. What a clause command does, once and for all: not latched, refused, or run in the state that admission
leaves. The statements about single verbs go through these. -/

namespace Sys2Proof.Machine

open Sys2Proof

/-- A clause latched outside an arbitration tick is tested and begun or refused. -/
theorem commandWith_latched (k : Clause) (w : Work) (go : Ticket → State → State) (s : State) (hl : k.latched s = true)
    (ha : s.arbitrationTick = false) :
    commandWith k.verb k.hdr k.args w go s = admitClause k.head (k.opened s) w s.tick go (k.held s) := by
  simp only [Clause.latched, Bool.and_eq_true, beq_iff_eq, decide_eq_true_eq] at hl
  simp only [commandWith, hl.1, ha]
  rw [if_neg (by omega)]
  rfl

/-- A latched clause that is no duplicate meets the checks of R41. -/
theorem commandWith_tested (k : Clause) (w : Work) (go : Ticket → State → State) (s : State) (hl : k.latched s = true)
    (ha : s.arbitrationTick = false) (hd : k.duplicate (k.held s) = false) (hx : (k.held s).openingLost k.head = false) :
    commandWith k.verb k.hdr k.args w go s =
      (match refusal k.head (k.opened s) w (k.ticket s) s.tick (k.counted s) with
        | some code => (k.counted s).refuse k.head code (k.opened s).sess false
        | none => go (k.ticket s) (k.begun (w.need (k.counted s)) s)) := by
  rw [commandWith_latched k w go s hl ha, admitClause]
  rw [if_neg (by simpa [Clause.duplicate, Clause.head] using hd), if_neg (by simp [hx])]
  rfl

/-- A sealed clause whose payload no core could open is turned away with FAULT_RETRY_EXHAUSTED (R292). -/
theorem commandWith_openingLost (k : Clause) (w : Work) (go : Ticket → State → State) (s : State) (hl : k.latched s = true)
    (ha : s.arbitrationTick = false) (hd : k.duplicate (k.held s) = false) (hx : (k.held s).openingLost k.head = true) :
    commandWith k.verb k.hdr k.args w go s = ((k.held s).tookLoss .next).refuse k.head 0x33 none false := by
  rw [commandWith_latched k w go s hl ha, admitClause]
  rw [if_neg (by simpa [Clause.duplicate, Clause.head] using hd), if_pos hx]

/-- When the common checks pass and the verb's own checks fail nothing, the clause is admitted. -/
theorem commandWith_clear (k : Clause) (w : Work) (go : Ticket → State → State) (n : Need) (s : State)
    (hc : k.clear n s = true) (hn : w.need (k.counted s) = n) (hw : w.check (k.ticket s) (k.counted s) = {}) :
    commandWith k.verb k.hdr k.args w go s = go (k.ticket s) (k.begun n s) := by
  simp only [Clause.clear, Bool.and_eq_true, Bool.not_eq_true'] at hc
  obtain ⟨⟨⟨⟨⟨⟨⟨⟨⟨hl, harb⟩, hd⟩, hx⟩, ho⟩, hf⟩, ha⟩, hs⟩, hse⟩, hb⟩ := hc
  rw [commandWith_tested k w go s hl harb hd hx, refusal]
  have hse' : (verbSeeded k.head.verb && !(k.counted s).seeded) = false := hse
  simp [ho, hf, hw, ha, hs, hse', hn, hb]

/-- Then a clause command runs, or waits when LANE_HINT is set (R66, R373). -/
theorem command_clear (k : Clause) (w : Work) (sup : Supplied) (n : Need) (s : State) (hc : k.clear n s = true)
    (hn : w.need (k.counted s) = n) (hm : w.need s = n) (hw : w.check (k.ticket s) (k.counted s) = {}) :
    command k.verb k.hdr k.args w s sup = k.goes n sup w.run s := by
  rw [command, commandWith_clear k w _ n s hc hn hw, hdrGo, hm, Clause.goes, Clause.goesFrom, Clause.hint]
  split <;> rfl

/-- A clause that is a duplicate is refused with REFUSED_STATE and DUPLICATE (R65). -/
theorem commandWith_duplicate (k : Clause) (w : Work) (go : Ticket → State → State) (s : State) (hl : k.latched s = true)
    (ha : s.arbitrationTick = false) (hd : k.duplicate (k.held s) = true) :
    commandWith k.verb k.hdr k.args w go s = (k.held s).refuse k.head 0x11 none true := by
  rw [commandWith_latched k w go s hl ha, admitClause]
  rw [if_pos (by simpa [Clause.duplicate, Clause.head] using hd)]

end Sys2Proof.Machine
end

