-- ==== Sys2Proof/Laws/Discards.lean ====
section
/-! SUPPORT. What a latch phase does with the discards that wait (R34, R61, R392). -/

namespace Sys2Proof.Machine

open Sys2Proof

theorem Port.foldl_seeHeld (l : List Held) (q : Port) :
    l.foldl Port.seeHeld q =
      { q with
        newEvents := l.foldl (fun e h => e ||| bitAt h.bit true) q.newEvents
        newDiscards := q.newDiscards + l.length
        stagedNotices := q.stagedNotices ++ l.flatMap Held.notices } := by
  induction l generalizing q with
  | nil => simp
  | cons h r ih =>
    rw [List.foldl_cons, ih]
    simp [Port.seeHeld, Port.discard, Port.raise, List.append_assoc, Nat.add_comm, Nat.add_left_comm]

/-- Each frame that a reset of the SPI side cut is counted, and raises DISCARDED (R61). -/
theorem Port.countCut_eq (q : Port) :
    q.countCut =
      { q with
        cutFrames := 0
        newEvents := if q.cutFrames = 0 then q.newEvents else q.newEvents ||| bitAt 12 true
        newDiscards := q.newDiscards + q.cutFrames } := by
  have go : ∀ (n : Nat) (p : Port),
      (List.range n).foldl (fun q _ => q.discard 12) p =
        { p with
          newEvents := if n = 0 then p.newEvents else p.newEvents ||| bitAt 12 true
          newDiscards := p.newDiscards + n } := by
    intro n
    induction n with
    | zero => intro p; rfl
    | succ n ih =>
      intro p
      rw [List.range_succ, List.foldl_append, ih]
      by_cases h : n = 0 <;> simp [h, Port.discard, Port.raise, Nat.add_assoc, BitVec.or_assoc]
  rw [Port.countCut, go]

/-- Every waiting discard is counted once, its event raised and its notice staged in order; nothing else changes. -/
theorem Port.seeDiscards_eq (q : Port) :
    q.seeDiscards =
      { q with
        cutFrames := 0, held := []
        newEvents := q.held.foldl (fun e h => e ||| bitAt h.bit true)
          (if q.cutFrames = 0 then q.newEvents else q.newEvents ||| bitAt 12 true)
        newDiscards := q.newDiscards + q.cutFrames + q.held.length
        stagedNotices := q.stagedNotices ++ q.held.flatMap Held.notices } := by
  rw [Port.seeDiscards, Port.foldl_seeHeld, Port.countCut_eq]

end Sys2Proof.Machine
end

