-- ==== Sys2Proof/Laws/Ecdsa.lean ====
section
/-! SUPPORT. Point arithmetic of `Machine/Crypto.lean` on P-256 is that of the elliptic curve's group: used for one thing, to
show that for every message a key exists under which a signature verifies. -/

namespace Sys2Proof.Laws

open Sys2Proof.Crypto

/-! ### Powers and primes -/

theorem cast_powMod (m : Nat) : ∀ (f b e r : Nat), e < 2 ^ f →
    ((powMod m f b e r : Nat) : ZMod m) = (r : ZMod m) * (b : ZMod m) ^ e
  | 0, b, e, r, h => by
    have : e = 0 := by simpa using h
    simp [powMod, this]
  | f + 1, b, e, r, h => by
    have ih := cast_powMod m f (b * b % m) (e / 2) (if e % 2 = 1 then r * b % m else r) (by omega)
    have e2 : e = 2 * (e / 2) + e % 2 := by omega
    rw [powMod, ih]
    conv_rhs => rw [e2]
    rcases Nat.mod_two_eq_zero_or_one e with h0 | h0
    · simp [h0, pow_mul, pow_two]
    · simp [h0, pow_add, pow_mul, pow_two]; ring

/-- Lucas's test with the prime factors `fs` of `p - 1` and a witness `a`. -/
theorem prime_of_pratt {p : Nat} (a : Nat) (fs : List Nat) (hp : 1 < p ∧ p < 2 ^ 256)
    (hd : fs.prod = p - 1)
    (h1 : powMod p 256 a (p - 1) 1 % p = 1 ∧ ∀ q ∈ fs, powMod p 256 a ((p - 1) / q) 1 % p ≠ 1)
    (hq : ∀ q ∈ fs, q.Prime) : p.Prime := by
  have one : (1 : ZMod p) = ((1 : Nat) : ZMod p) := by simp
  refine lucas_primality p (a : ZMod p) ?_ ?_
  · have := cast_powMod p 256 a (p - 1) 1 (by omega)
    simp only [Nat.cast_one, one_mul] at this
    rw [← this, one, ZMod.natCast_eq_natCast_iff, Nat.ModEq, h1.1, Nat.mod_eq_of_lt hp.1]
  · intro q hqp hqd hc
    obtain ⟨x, hx, hqx⟩ := (Nat.Prime.prime hqp).dvd_prod_iff.1 (hd ▸ hqd)
    have hqe : q = x := (Nat.prime_dvd_prime_iff_eq hqp (hq x hx)).1 hqx
    subst hqe
    have hlt : (p - 1) / q < 2 ^ 256 := lt_of_le_of_lt (Nat.div_le_self _ _) (by omega)
    have := cast_powMod p 256 a ((p - 1) / q) 1 hlt
    simp only [Nat.cast_one, one_mul] at this
    rw [← this, one, ZMod.natCast_eq_natCast_iff, Nat.ModEq, Nat.mod_eq_of_lt hp.1] at hc
    exact h1.2 q hx hc

theorem prime_0 : Nat.Prime 65537 :=
  prime_of_pratt 3 [2, 2, 2, 2, 2, 2, 2, 2, 2, 2, 2, 2, 2, 2, 2, 2] (by decide) (by decide) (by decide +kernel)
    (List.forall_mem_cons.2 ⟨by norm_num, List.forall_mem_cons.2 ⟨by norm_num, List.forall_mem_cons.2 ⟨by norm_num, List.forall_mem_cons.2 ⟨by norm_num, List.forall_mem_cons.2 ⟨by norm_num, List.forall_mem_cons.2 ⟨by norm_num, List.forall_mem_cons.2 ⟨by norm_num, List.forall_mem_cons.2 ⟨by norm_num, List.forall_mem_cons.2 ⟨by norm_num, List.forall_mem_cons.2 ⟨by norm_num, List.forall_mem_cons.2 ⟨by norm_num, List.forall_mem_cons.2 ⟨by norm_num, List.forall_mem_cons.2 ⟨by norm_num, List.forall_mem_cons.2 ⟨by norm_num, List.forall_mem_cons.2 ⟨by norm_num, List.forall_mem_cons.2 ⟨by norm_num, List.forall_mem_nil _⟩⟩⟩⟩⟩⟩⟩⟩⟩⟩⟩⟩⟩⟩⟩⟩)

theorem prime_1 : Nat.Prime 17449 :=
  prime_of_pratt 14 [2, 2, 2, 3, 727] (by decide) (by decide) (by decide +kernel)
    (List.forall_mem_cons.2 ⟨by norm_num, List.forall_mem_cons.2 ⟨by norm_num, List.forall_mem_cons.2 ⟨by norm_num, List.forall_mem_cons.2 ⟨by norm_num, List.forall_mem_cons.2 ⟨by norm_num, List.forall_mem_nil _⟩⟩⟩⟩⟩)

theorem prime_2 : Nat.Prime 6700417 :=
  prime_of_pratt 5 [2, 2, 2, 2, 2, 2, 2, 3, 17449] (by decide) (by decide) (by decide +kernel)
    (List.forall_mem_cons.2 ⟨by norm_num, List.forall_mem_cons.2 ⟨by norm_num, List.forall_mem_cons.2 ⟨by norm_num, List.forall_mem_cons.2 ⟨by norm_num, List.forall_mem_cons.2 ⟨by norm_num, List.forall_mem_cons.2 ⟨by norm_num, List.forall_mem_cons.2 ⟨by norm_num, List.forall_mem_cons.2 ⟨by norm_num, List.forall_mem_cons.2 ⟨prime_1, List.forall_mem_nil _⟩⟩⟩⟩⟩⟩⟩⟩⟩)

theorem prime_3 : Nat.Prime 2411 :=
  prime_of_pratt 6 [2, 5, 241] (by decide) (by decide) (by decide +kernel)
    (List.forall_mem_cons.2 ⟨by norm_num, List.forall_mem_cons.2 ⟨by norm_num, List.forall_mem_cons.2 ⟨by norm_num, List.forall_mem_nil _⟩⟩⟩)

theorem prime_4 : Nat.Prime 3677 :=
  prime_of_pratt 2 [2, 2, 919] (by decide) (by decide) (by decide +kernel)
    (List.forall_mem_cons.2 ⟨by norm_num, List.forall_mem_cons.2 ⟨by norm_num, List.forall_mem_cons.2 ⟨by norm_num, List.forall_mem_nil _⟩⟩⟩)

theorem prime_5 : Nat.Prime 66417393611 :=
  prime_of_pratt 6 [2, 5, 53, 173, 197, 3677] (by decide) (by decide) (by decide +kernel)
    (List.forall_mem_cons.2 ⟨by norm_num, List.forall_mem_cons.2 ⟨by norm_num, List.forall_mem_cons.2 ⟨by norm_num, List.forall_mem_cons.2 ⟨by norm_num, List.forall_mem_cons.2 ⟨by norm_num, List.forall_mem_cons.2 ⟨prime_4, List.forall_mem_nil _⟩⟩⟩⟩⟩⟩)

theorem prime_6 : Nat.Prime 11290956913871 :=
  prime_of_pratt 13 [2, 5, 17, 66417393611] (by decide) (by decide) (by decide +kernel)
    (List.forall_mem_cons.2 ⟨by norm_num, List.forall_mem_cons.2 ⟨by norm_num, List.forall_mem_cons.2 ⟨by norm_num, List.forall_mem_cons.2 ⟨prime_5, List.forall_mem_nil _⟩⟩⟩⟩)

theorem prime_7 : Nat.Prime 4349 :=
  prime_of_pratt 2 [2, 2, 1087] (by decide) (by decide) (by decide +kernel)
    (List.forall_mem_cons.2 ⟨by norm_num, List.forall_mem_cons.2 ⟨by norm_num, List.forall_mem_cons.2 ⟨by norm_num, List.forall_mem_nil _⟩⟩⟩)

theorem prime_8 : Nat.Prime 78283 :=
  prime_of_pratt 3 [2, 3, 3, 4349] (by decide) (by decide) (by decide +kernel)
    (List.forall_mem_cons.2 ⟨by norm_num, List.forall_mem_cons.2 ⟨by norm_num, List.forall_mem_cons.2 ⟨by norm_num, List.forall_mem_cons.2 ⟨prime_7, List.forall_mem_nil _⟩⟩⟩⟩)

theorem prime_9 : Nat.Prime 18169 :=
  prime_of_pratt 11 [2, 2, 2, 3, 757] (by decide) (by decide) (by decide +kernel)
    (List.forall_mem_cons.2 ⟨by norm_num, List.forall_mem_cons.2 ⟨by norm_num, List.forall_mem_cons.2 ⟨by norm_num, List.forall_mem_cons.2 ⟨by norm_num, List.forall_mem_cons.2 ⟨by norm_num, List.forall_mem_nil _⟩⟩⟩⟩⟩)

theorem prime_10 : Nat.Prime 704251 :=
  prime_of_pratt 2 [2, 3, 3, 5, 5, 5, 313] (by decide) (by decide) (by decide +kernel)
    (List.forall_mem_cons.2 ⟨by norm_num, List.forall_mem_cons.2 ⟨by norm_num, List.forall_mem_cons.2 ⟨by norm_num, List.forall_mem_cons.2 ⟨by norm_num, List.forall_mem_cons.2 ⟨by norm_num, List.forall_mem_cons.2 ⟨by norm_num, List.forall_mem_cons.2 ⟨by norm_num, List.forall_mem_nil _⟩⟩⟩⟩⟩⟩⟩)

theorem prime_11 : Nat.Prime 46076956964474543 :=
  prime_of_pratt 5 [2, 23, 18169, 78283, 704251] (by decide) (by decide) (by decide +kernel)
    (List.forall_mem_cons.2 ⟨by norm_num, List.forall_mem_cons.2 ⟨by norm_num, List.forall_mem_cons.2 ⟨prime_9, List.forall_mem_cons.2 ⟨prime_8, List.forall_mem_cons.2 ⟨prime_10, List.forall_mem_nil _⟩⟩⟩⟩⟩)

theorem prime_12 : Nat.Prime 3769 :=
  prime_of_pratt 7 [2, 2, 2, 3, 157] (by decide) (by decide) (by decide +kernel)
    (List.forall_mem_cons.2 ⟨by norm_num, List.forall_mem_cons.2 ⟨by norm_num, List.forall_mem_cons.2 ⟨by norm_num, List.forall_mem_cons.2 ⟨by norm_num, List.forall_mem_cons.2 ⟨by norm_num, List.forall_mem_nil _⟩⟩⟩⟩⟩)

theorem prime_13 : Nat.Prime 204061199 :=
  prime_of_pratt 11 [2, 11, 23, 107, 3769] (by decide) (by decide) (by decide +kernel)
    (List.forall_mem_cons.2 ⟨by norm_num, List.forall_mem_cons.2 ⟨by norm_num, List.forall_mem_cons.2 ⟨by norm_num, List.forall_mem_cons.2 ⟨by norm_num, List.forall_mem_cons.2 ⟨prime_12, List.forall_mem_nil _⟩⟩⟩⟩⟩)

theorem prime_14 : Nat.Prime 34282281433 :=
  prime_of_pratt 17 [2, 2, 2, 3, 7, 204061199] (by decide) (by decide) (by decide +kernel)
    (List.forall_mem_cons.2 ⟨by norm_num, List.forall_mem_cons.2 ⟨by norm_num, List.forall_mem_cons.2 ⟨by norm_num, List.forall_mem_cons.2 ⟨by norm_num, List.forall_mem_cons.2 ⟨by norm_num, List.forall_mem_cons.2 ⟨prime_13, List.forall_mem_nil _⟩⟩⟩⟩⟩⟩)

theorem prime_15 : Nat.Prime 774023187263532362759620327192479577272145303 :=
  prime_of_pratt 3 [2, 3, 3, 2411, 34282281433, 11290956913871, 46076956964474543] (by decide) (by decide) (by decide +kernel)
    (List.forall_mem_cons.2 ⟨by norm_num, List.forall_mem_cons.2 ⟨by norm_num, List.forall_mem_cons.2 ⟨by norm_num, List.forall_mem_cons.2 ⟨prime_3, List.forall_mem_cons.2 ⟨prime_14, List.forall_mem_cons.2 ⟨prime_6, List.forall_mem_cons.2 ⟨prime_11, List.forall_mem_nil _⟩⟩⟩⟩⟩⟩⟩)

theorem prime_16 : Nat.Prime 835945042244614951780389953367877943453916927241 :=
  prime_of_pratt 11 [2, 2, 2, 3, 3, 3, 5, 774023187263532362759620327192479577272145303] (by decide) (by decide) (by decide +kernel)
    (List.forall_mem_cons.2 ⟨by norm_num, List.forall_mem_cons.2 ⟨by norm_num, List.forall_mem_cons.2 ⟨by norm_num, List.forall_mem_cons.2 ⟨by norm_num, List.forall_mem_cons.2 ⟨by norm_num, List.forall_mem_cons.2 ⟨by norm_num, List.forall_mem_cons.2 ⟨by norm_num, List.forall_mem_cons.2 ⟨prime_15, List.forall_mem_nil _⟩⟩⟩⟩⟩⟩⟩⟩)

theorem prime_17 : Nat.Prime 490463 :=
  prime_of_pratt 14 [2, 7, 53, 661] (by decide) (by decide) (by decide +kernel)
    (List.forall_mem_cons.2 ⟨by norm_num, List.forall_mem_cons.2 ⟨by norm_num, List.forall_mem_cons.2 ⟨by norm_num, List.forall_mem_cons.2 ⟨by norm_num, List.forall_mem_nil _⟩⟩⟩⟩)

theorem prime_p256 : Nat.Prime p256.p :=
  prime_of_pratt 6 [2, 3, 5, 5, 17, 257, 641, 1531, 65537, 490463, 6700417, 835945042244614951780389953367877943453916927241] (by decide) (by decide) (by decide +kernel)
    (List.forall_mem_cons.2 ⟨by norm_num, List.forall_mem_cons.2 ⟨by norm_num, List.forall_mem_cons.2 ⟨by norm_num, List.forall_mem_cons.2 ⟨by norm_num, List.forall_mem_cons.2 ⟨by norm_num, List.forall_mem_cons.2 ⟨by norm_num, List.forall_mem_cons.2 ⟨by norm_num, List.forall_mem_cons.2 ⟨by norm_num, List.forall_mem_cons.2 ⟨prime_0, List.forall_mem_cons.2 ⟨prime_17, List.forall_mem_cons.2 ⟨prime_2, List.forall_mem_cons.2 ⟨prime_16, List.forall_mem_nil _⟩⟩⟩⟩⟩⟩⟩⟩⟩⟩⟩⟩)
/-! ### The curve's group -/

theorem lt_wider {k n : Nat} (h : k < 2 ^ 256) (hn : 256 ≤ n := by decide) : k < 2 ^ n :=
  lt_of_lt_of_le h (Nat.pow_le_pow_right (by decide) hn)

theorem cast_invMod {p a : Nat} (hp : p.Prime) (h2 : p < 2 ^ 256) (h3 : 2 < p) :
    letI : Fact p.Prime := ⟨hp⟩
    ((invMod p a : Nat) : ZMod p) = (a : ZMod p)⁻¹ := by
  have : Fact p.Prime := ⟨hp⟩
  show ((invMod p a : Nat) : ZMod p) = (a : ZMod p)⁻¹
  rw [invMod, cast_powMod p 384 _ _ _ (lt_wider (by omega))]
  simp only [Nat.cast_one, one_mul, ZMod.natCast_mod]
  by_cases h : (a : ZMod p) = 0
  · simp only [h, inv_zero]; exact zero_pow (by omega)
  · have := ZMod.pow_card_sub_one_eq_one h
    refine eq_inv_of_mul_eq_one_left ?_
    rw [← pow_succ, ← this]
    congr 1; omega

/-- The affine curve of `cv`. -/
abbrev curveW (cv : Curve) : WeierstrassCurve.Affine (ZMod cv.p) :=
  ⟨0, 0, 0, (cv.a : ZMod cv.p), (cv.b : ZMod cv.p)⟩

/-- `q` stands for the point `P`. -/
def Stands (cv : Curve) [Fact cv.p.Prime] : Pt → (curveW cv).Point → Prop
  | none, P => P = 0
  | some (x, y), P => x < cv.p ∧ y < cv.p ∧
      ∃ h : (curveW cv).Nonsingular (x : ZMod cv.p) (y : ZMod cv.p), P = .some _ _ h

theorem Stands.inj {cv : Curve} [Fact cv.p.Prime] {a b : Pt} {P : (curveW cv).Point} (ha : Stands cv a P)
    (hb : Stands cv b P) : a = b := by
  rcases a with _ | ⟨x, y⟩ <;> rcases b with _ | ⟨u, v⟩
  · rfl
  · obtain ⟨-, -, h, hP⟩ := hb
    simp only [Stands] at ha; subst ha; exact absurd hP.symm (by simp)
  · obtain ⟨-, -, h, hP⟩ := ha
    simp only [Stands] at hb; subst hb; exact absurd hP.symm (by simp)
  · obtain ⟨hx, hy, h, hP⟩ := ha
    obtain ⟨hu, hv, h', hP'⟩ := hb
    have := hP.symm.trans hP'
    simp only [WeierstrassCurve.Affine.Point.some.injEq, ZMod.natCast_eq_natCast_iff, Nat.ModEq, Nat.mod_eq_of_lt hx,
      Nat.mod_eq_of_lt hy, Nat.mod_eq_of_lt hu, Nat.mod_eq_of_lt hv] at this
    simp [this.1, this.2]

/-- Addition is the group's. -/
theorem Stands.add {cv : Curve} [hf : Fact cv.p.Prime] (h2 : cv.p < 2 ^ 256) (h3 : 2 < cv.p) {a b : Pt}
    {P Q : (curveW cv).Point} (ha : Stands cv a P) (hb : Stands cv b Q) : Stands cv (ptAdd cv a b) (P + Q) := by
  rcases a with _ | ⟨x, y⟩
  · simp only [Stands] at ha; subst ha; simpa [ptAdd] using hb
  rcases b with _ | ⟨u, v⟩
  · simp only [Stands] at hb; subst hb; simpa [ptAdd] using ha
  obtain ⟨hx, hy, h, rfl⟩ := ha
  obtain ⟨hu, hv, h', rfl⟩ := hb
  have hxu : (x : ZMod cv.p) = u ↔ x = u := by
    rw [ZMod.natCast_eq_natCast_iff, Nat.ModEq, Nat.mod_eq_of_lt hx, Nat.mod_eq_of_lt hu]
  have hyv : (y : ZMod cv.p) = -v ↔ (y + v) % cv.p = 0 := by
    rw [eq_neg_iff_add_eq_zero, ← Nat.cast_add, ZMod.natCast_eq_zero_iff, Nat.dvd_iff_mod_eq_zero]
  by_cases hc : x = u ∧ (y + v) % cv.p = 0
  · rw [WeierstrassCurve.Affine.Point.add_of_Y_eq (hxu.2 hc.1) (by simpa [WeierstrassCurve.Affine.negY] using hyv.2 hc.2)]
    simp [ptAdd, hc, Stands]
  have hc' : ¬((x : ZMod cv.p) = u ∧ (y : ZMod cv.p) = (curveW cv).negY u v) := by
    simpa [WeierstrassCurve.Affine.negY, hxu, hyv] using hc
  rw [WeierstrassCurve.Affine.Point.add_some hc']
  have pos : 0 < cv.p := by omega
  -- the slope
  obtain ⟨l, hl, hls⟩ : ∃ l : Nat, (l : ZMod cv.p) = (curveW cv).slope x u y v ∧
      (if x = u then (3 * x * x + cv.a) % cv.p * invMod cv.p (2 * y) % cv.p
        else (v + cv.p - y) % cv.p * invMod cv.p (u + cv.p - x) % cv.p) = l := by
    refine ⟨_, ?_, rfl⟩
    by_cases hxe : x = u
    · have hne : ¬ (y : ZMod cv.p) = (curveW cv).negY u v := fun e => hc' ⟨hxu.2 hxe, e⟩
      rw [if_pos hxe, WeierstrassCurve.Affine.slope_of_Y_ne (hxu.2 hxe) hne]
      simp only [ZMod.natCast_mod, Nat.cast_mul, cast_invMod hf.out h2 h3, Nat.cast_add, WeierstrassCurve.Affine.negY]
      push_cast
      rw [div_eq_mul_inv]; congr 1
      · ring
      · congr 1; ring
    · rw [if_neg hxe, WeierstrassCurve.Affine.slope_of_X_ne (mt hxu.1 hxe)]
      simp only [ZMod.natCast_mod, Nat.cast_mul, cast_invMod hf.out h2 h3]
      rw [Nat.cast_sub (by omega), Nat.cast_sub (by omega)]
      push_cast
      simp only [CharP.cast_eq_zero, add_zero]
      rw [← neg_sub (x : ZMod cv.p) u, ← neg_sub (y : ZMod cv.p) v, div_eq_mul_inv, inv_neg]; ring
  have h3x : (((l * l + 2 * cv.p - x - u) % cv.p : Nat) : ZMod cv.p) =
      (curveW cv).addX x u ((curveW cv).slope x u y v) := by
    rw [ZMod.natCast_mod, Nat.cast_sub (by omega), Nat.cast_sub (by omega), ← hl]
    simp [WeierstrassCurve.Affine.addX]; ring
  have h3y : (((l * (x + cv.p - (l * l + 2 * cv.p - x - u) % cv.p) % cv.p + cv.p - y) % cv.p : Nat) : ZMod cv.p) =
      (curveW cv).addY x u y ((curveW cv).slope x u y v) := by
    have lt := Nat.mod_lt (l * l + 2 * cv.p - x - u) pos
    rw [ZMod.natCast_mod, Nat.cast_sub (by omega), Nat.cast_add, ZMod.natCast_mod, Nat.cast_mul, Nat.cast_sub (by omega),
      h3x, hl]
    simp [WeierstrassCurve.Affine.addY, WeierstrassCurve.Affine.negY, WeierstrassCurve.Affine.negAddY]; ring
  simp only [ptAdd, if_neg hc, hls, Stands]
  refine ⟨Nat.mod_lt _ pos, Nat.mod_lt _ pos, ?_⟩
  simp only [h3x, h3y]
  exact ⟨WeierstrassCurve.Affine.nonsingular_add h h' hc', trivial⟩

theorem Stands.mulAux {cv : Curve} [Fact cv.p.Prime] (h2 : cv.p < 2 ^ 256) (h3 : 2 < cv.p) : ∀ (f k : Nat) {q r : Pt}
    {Q R : (curveW cv).Point}, k < 2 ^ f → Stands cv q Q → Stands cv r R → Stands cv (ptMulAux cv f k q r) (R + k • Q)
  | 0, k, q, r, Q, R, hk, _, hr => by
    have : k = 0 := by simpa using hk
    simpa [ptMulAux, this] using hr
  | f + 1, k, q, r, Q, R, hk, hq, hr => by
    have e2 : k = 2 * (k / 2) + k % 2 := by omega
    rcases Nat.mod_two_eq_zero_or_one k with h0 | h0
    · have := Stands.mulAux h2 h3 f (k / 2) (by omega) (hq.add h2 h3 hq) hr
      rw [ptMulAux, if_neg (by omega), e2, h0]
      convert this using 2
      · simp
      · rw [add_zero, mul_comm, mul_smul, two_smul]
    · have := Stands.mulAux h2 h3 f (k / 2) (by omega) (hq.add h2 h3 hq) (hr.add h2 h3 hq)
      rw [ptMulAux, if_pos h0]
      convert this using 1
      conv_lhs => rw [e2, h0, add_smul, one_smul, mul_comm, mul_smul, two_smul]
      abel

theorem Stands.mul {cv : Curve} [Fact cv.p.Prime] (h2 : cv.p < 2 ^ 256) (h3 : 2 < cv.p) {k : Nat} {q : Pt}
    {Q : (curveW cv).Point} (hk : k < 2 ^ 256) (hq : Stands cv q Q) : Stands cv (ptMul cv k q) (k • Q) := by
  simpa [ptMul] using Stands.mulAux h2 h3 400 k (lt_wider hk) hq (r := none) (R := 0) (by simp [Stands])

theorem Stands.mul_one {cv : Curve} [Fact cv.p.Prime] (h2 : cv.p < 2 ^ 256) (h3 : 2 < cv.p) {k : Nat} {q : Pt}
    {Q : (curveW cv).Point} (hk : k = 1) (hq : Stands cv q Q) : Stands cv (ptMul cv k q) Q := by
  have h := hq.mul h2 h3 (hk ▸ Nat.one_lt_two_pow (by decide))
  rwa [hk, one_smul, ← hk] at h

/-- A point that passes `onCurve`, not of order two, stands for one of the group. -/
theorem Stands.of_onCurve {cv : Curve} [Fact cv.p.Prime] {x y : Nat} (h : onCurve cv x y = true) (hy : 2 * y % cv.p ≠ 0) :
    ∃ P, Stands cv (some (x, y)) P := by
  simp only [onCurve, Bool.and_eq_true, decide_eq_true_eq, beq_iff_eq] at h
  obtain ⟨⟨hx, hy'⟩, he⟩ := h
  have ns : (curveW cv).Nonsingular (x : ZMod cv.p) (y : ZMod cv.p) := by
    rw [WeierstrassCurve.Affine.nonsingular_iff', WeierstrassCurve.Affine.equation_iff]
    refine ⟨?_, Or.inr ?_⟩
    · have := (ZMod.natCast_eq_natCast_iff _ _ cv.p).2 he
      push_cast at this
      linear_combination this
    · have : ((2 * y : Nat) : ZMod cv.p) ≠ 0 := by
        rwa [Ne, ZMod.natCast_eq_zero_iff, Nat.dvd_iff_mod_eq_zero]
      simpa using this
  exact ⟨_, hx, hy', ns, rfl⟩

theorem Stands.onCurve {cv : Curve} [Fact cv.p.Prime] {x y : Nat} {P : (curveW cv).Point} (h : Stands cv (some (x, y)) P) :
    onCurve cv x y = true := by
  obtain ⟨hx, hy, ns, -⟩ := h
  have e := ((WeierstrassCurve.Affine.equation_iff _ _).1 ns.1)
  simp only [Crypto.onCurve, hx, hy, decide_true, Bool.true_and, beq_iff_eq]
  refine (ZMod.natCast_eq_natCast_iff _ _ cv.p).1 ?_
  push_cast
  linear_combination e

/-- Every point of the group is stood for. -/
theorem Stands.exists {cv : Curve} [Fact cv.p.Prime] : ∀ P : (curveW cv).Point, ∃ q, Stands cv q P
  | .zero => ⟨none, rfl⟩
  | .some x y h => by
    refine ⟨some (x.val, y.val), ZMod.val_lt x, ZMod.val_lt y, ?_⟩
    simp only [ZMod.natCast_val, ZMod.cast_id']
    exact ⟨h, rfl⟩

/-! ### A key for every message -/

/-- A point of P-256 with the x-coordinate 5, and its inverse. -/
def five : Nat × Nat := (5, 31468013646237722594854082025316614106172411895747863909393730389177298123724)
def minusFive : Nat × Nat := (5, p256.p - five.2)

/-- For every message there is a public key under which r = s = 5 verifies. -/
theorem exists_verifying_key (msg : Bytes) : ∃ x y, ecdsaVerify p256 x y msg 5 5 = true := by
  have : Fact p256.p.Prime := ⟨prime_p256⟩
  have h2 : p256.p < 2 ^ 256 := by decide
  have h3 : 2 < p256.p := by decide
  obtain ⟨G, hG⟩ := Stands.of_onCurve (cv := p256) (x := p256.gx) (y := p256.gy) (by decide +kernel) (by decide +kernel)
  obtain ⟨R, hR⟩ := Stands.of_onCurve (cv := p256) (x := five.1) (y := five.2) (by decide +kernel) (by decide +kernel)
  obtain ⟨R', hR'⟩ := Stands.of_onCurve (cv := p256) (x := minusFive.1) (y := minusFive.2) (by decide +kernel)
    (by decide +kernel)
  have hRR : ¬ R = R' := fun e => absurd (Stands.inj hR (e ▸ hR')) (by decide +kernel)
  have key : ∀ (S : (curveW p256).Point) (y : Nat), Stands p256 (some (5, y)) S →
      (ofBe (hashFor p256 msg) * invMod p256.n 5 % p256.n) • G ≠ S → ∃ x y, ecdsaVerify p256 x y msg 5 5 = true := by
    intro S y hS hne
    set k := ofBe (hashFor p256 msg) * invMod p256.n 5 % p256.n with hk
    have hA := Stands.mul (cv := p256) h2 h3 (k := k)
      (lt_trans (Nat.mod_lt _ (by decide)) (by decide)) hG
    obtain ⟨q, hq⟩ := Stands.exists (S - k • G)
    rcases q with _ | ⟨u, v⟩
    · exact absurd (sub_eq_zero.1 hq).symm hne
    · refine ⟨u, v, ?_⟩
      obtain ⟨w, hw, hw'⟩ : ∃ w, w = 1 ∧ 5 * invMod p256.n 5 % p256.n = w := ⟨_, rfl, by decide +kernel⟩
      have hsum := hA.add h2 h3 (hq.mul_one h2 h3 hw)
      rw [add_sub_cancel] at hsum
      have hfin := hsum.inj hS
      simp only [ecdsaVerify, hq.onCurve, hw', ← hk, ptG, hfin]
      rfl
  by_cases h : (ofBe (hashFor p256 msg) * invMod p256.n 5 % p256.n) • G = R
  · exact key R' _ hR' (h ▸ hRR)
  · exact key R _ hR h

theorem verifying_key_lt {x y r s : Nat} {msg : Bytes} (h : ecdsaVerify p256 x y msg r s = true) :
    x < 2 ^ 256 ∧ y < 2 ^ 256 := by
  simp only [ecdsaVerify, onCurve, Bool.and_eq_true, decide_eq_true_eq] at h
  have hp : p256.p < 2 ^ 256 := by decide
  exact ⟨lt_trans h.1.1.1.1.1.1.1 hp, lt_trans h.1.1.1.1.1.1.2 hp⟩

end Sys2Proof.Laws
end

