-- ==== Sys2Proof/Laws/Images.lean ====
section
/-! SUPPORT. Byte images: every operation keeps the canonical form (log entry 5), and what a read gives after it. -/

namespace Sys2Proof.Machine

open Sys2Proof

theorem Mem.wfFrom_le {m : Mem} {a b : Nat} (h : Mem.wfFrom b m = true) (hab : a ≤ b) : Mem.wfFrom a m = true := by
  cases m with
  | nil => rfl
  | cons c r =>
    obtain ⟨k, v⟩ := c
    simp only [Mem.wfFrom, Bool.and_eq_true, decide_eq_true_eq] at h ⊢
    exact ⟨⟨by omega, h.1.2⟩, h.2⟩

theorem Mem.wfFrom_write {m : Mem} {lo a : Nat} (v : Byte) (h : Mem.wfFrom lo m = true) (ha : lo ≤ a) :
    Mem.wfFrom lo (m.write a v) = true := by
  induction m generalizing lo with
  | nil => by_cases hv : v = 0#8 <;> simp [Mem.write, Mem.wfFrom, hv, ha]
  | cons c r ih =>
    obtain ⟨k, w⟩ := c
    simp only [Mem.wfFrom, Bool.and_eq_true, decide_eq_true_eq] at h
    obtain ⟨⟨hk, hw⟩, hr⟩ := h
    by_cases h1 : a = k
    · subst h1
      by_cases hv : v = 0#8
      · simpa [Mem.write, hv] using Mem.wfFrom_le hr (by omega)
      · simp [Mem.write, Mem.wfFrom, hv, hk, hr]
    · by_cases h2 : a < k
      · by_cases hv : v = 0#8
        · simp [Mem.write, Mem.wfFrom, h1, h2, hv, hk, hr, hw]
        · simp only [Mem.write, h1, h2, hv, if_true, if_false, Mem.wfFrom, Bool.and_eq_true, decide_eq_true_eq]
          exact ⟨⟨ha, by simpa using hv⟩, ⟨by omega, hw⟩, hr⟩
      · simp only [Mem.write, h1, h2, if_false, Mem.wfFrom, Bool.and_eq_true, decide_eq_true_eq]
        exact ⟨⟨hk, hw⟩, ih hr (by omega)⟩

/-- Writing one byte keeps the canonical form. -/
theorem Mem.wf_write {m : Mem} (a : Nat) (v : Byte) (h : m.wf = true) : (m.write a v).wf = true :=
  Mem.wfFrom_write v h (Nat.zero_le a)

/-- Writing bytes keeps the canonical form. -/
theorem Mem.wf_writeBytes {m : Mem} (a : Nat) (b : Bytes) (h : m.wf = true) : (m.writeBytes a b).wf = true := by
  induction b generalizing m a with
  | nil => exact h
  | cons x r ih => exact ih (a + 1) (Mem.wf_write a x h)

theorem Mem.wfFrom_filter {m : Mem} {lo : Nat} (p : Host.Cell → Bool) (h : Mem.wfFrom lo m = true) :
    Mem.wfFrom lo (m.filter p) = true := by
  induction m generalizing lo with
  | nil => rfl
  | cons c r ih =>
    obtain ⟨k, w⟩ := c
    simp only [Mem.wfFrom, Bool.and_eq_true, decide_eq_true_eq] at h
    by_cases hp : p (k, w)
    · simp [List.filter, hp, Mem.wfFrom, h.1.1, h.1.2, ih h.2]
    · simpa [List.filter, hp] using ih (Mem.wfFrom_le h.2 (by omega))

/-- Clearing a range keeps the canonical form. -/
theorem Mem.wf_clear {m : Mem} (lo hi : Nat) (h : m.wf = true) : (m.clear lo hi).wf = true := Mem.wfFrom_filter _ h

/-- A written byte leaves every other address alone. -/
theorem Mem.read_write_other {m : Mem} {a b : Nat} (v : Byte) (h : b ≠ a) : (m.write a v).read b = m.read b := by
  induction m with
  | nil => by_cases hv : v = 0#8 <;> simp [Mem.write, Mem.read, hv, h]
  | cons c r ih =>
    obtain ⟨k, w⟩ := c
    by_cases h1 : a = k
    · subst h1
      by_cases hv : v = 0#8
      · simp [Mem.write, Mem.read, hv, h]
      · simp [Mem.write, Mem.read, hv, h]
    · by_cases h2 : a < k
      · by_cases hv : v = 0#8 <;> simp [Mem.write, Mem.read, h1, h2, hv, h]
      · simp only [Mem.write, h1, h2, if_false, Mem.read, ih]

theorem Mem.read_below {m : Mem} {lo a : Nat} (h : Mem.wfFrom lo m = true) (ha : a < lo) : m.read a = 0#8 := by
  induction m generalizing lo with
  | nil => rfl
  | cons c r ih =>
    obtain ⟨k, w⟩ := c
    simp only [Mem.wfFrom, Bool.and_eq_true, decide_eq_true_eq] at h
    rw [Mem.read, if_neg (by omega)]
    exact ih h.2 (by omega)

/-- A written byte is read back. -/
theorem Mem.read_write_same {m : Mem} {lo : Nat} (a : Nat) (v : Byte) (h : Mem.wfFrom lo m = true) :
    (m.write a v).read a = v := by
  induction m generalizing lo with
  | nil => by_cases hv : v = 0#8 <;> simp [Mem.write, Mem.read, hv]
  | cons c r ih =>
    obtain ⟨k, w⟩ := c
    simp only [Mem.wfFrom, Bool.and_eq_true, decide_eq_true_eq] at h
    by_cases h1 : a = k
    · subst h1
      by_cases hv : v = 0#8
      · simpa [Mem.write, hv] using Mem.read_below h.2 (by omega)
      · simp [Mem.write, Mem.read, hv]
    · by_cases h2 : a < k
      · by_cases hv : v = 0#8
        · simpa [Mem.write, h1, h2, hv, Mem.read] using Mem.read_below h.2 (by omega)
        · simp [Mem.write, Mem.read, h1, h2, hv]
      · simp only [Mem.write, h1, h2, if_false, Mem.read, ih h.2]

/-- Written bytes leave every address outside them alone. -/
theorem Mem.read_writeBytes_other {m : Mem} {a c : Nat} (b : Bytes) (h : c < a ∨ a + b.length ≤ c) :
    (m.writeBytes a b).read c = m.read c := by
  induction b generalizing m a with
  | nil => rfl
  | cons x r ih =>
    simp only [List.length_cons] at h
    rw [Mem.writeBytes, ih (by omega), Mem.read_write_other x (by omega)]

theorem Mem.readBytes_writeBytes_other {m : Mem} {a c n : Nat} (b : Bytes) (h : c + n ≤ a ∨ a + b.length ≤ c) :
    (m.writeBytes a b).readBytes c n = m.readBytes c n := by
  simp only [Mem.readBytes]
  refine List.map_congr_left fun i hi => Mem.read_writeBytes_other b ?_
  have := List.mem_range.1 hi
  omega

/-- Written bytes are read back. -/
theorem Mem.readBytes_writeBytes_same {m : Mem} (a : Nat) (b : Bytes) (h : m.wf = true) :
    (m.writeBytes a b).readBytes a b.length = b := by
  induction b generalizing m a with
  | nil => rfl
  | cons x r ih =>
    have hw := Mem.wf_write a x h
    have hr := ih (a + 1) hw
    simp only [Mem.readBytes, Mem.writeBytes, List.length_cons, List.range_succ_eq_map, List.map_cons, List.map_map] at hr ⊢
    congr 1
    · show ((m.write a x).writeBytes (a + 1) r).read a = x
      rw [Mem.read_writeBytes_other r (by omega), Mem.read_write_same a x h]
    · refine Eq.trans (List.map_congr_left fun i _ => ?_) hr
      simp only [Function.comp, Nat.succ_eq_add_one]
      congr 1; omega

end Sys2Proof.Machine
end

