-- ==== Sys2Proof/Laws/Order.lean ====
section
/-! SUPPORT. Ordering a list moves its members and adds none. -/

namespace Sys2Proof.Machine

open Sys2Proof

theorem mem_insertBy {α : Type} (le : α → α → Bool) (x y : α) (l : List α) : y ∈ insertBy le x l ↔ y = x ∨ y ∈ l := by
  induction l with
  | nil => simp [insertBy]
  | cons z r ih =>
    by_cases h : le x z = true
    · simp [insertBy, h]
    · simp [insertBy, h, ih, or_left_comm]

/-- The ordered list has the members of the list. -/
@[simp] theorem mem_sortBy {α : Type} (le : α → α → Bool) (y : α) (l : List α) : y ∈ sortBy le l ↔ y ∈ l := by
  induction l with
  | nil => simp [sortBy]
  | cons z r ih =>
    have e : sortBy le (z :: r) = insertBy le z (sortBy le r) := rfl
    rw [e, mem_insertBy, ih, List.mem_cons]

theorem length_insertBy {α : Type} (le : α → α → Bool) (x : α) (l : List α) : (insertBy le x l).length = l.length + 1 := by
  induction l with
  | nil => rfl
  | cons z r ih =>
    by_cases h : le x z = true
    · simp [insertBy, h]
    · simp [insertBy, h, ih]

/-- Ordering keeps the length. -/
@[simp] theorem length_sortBy {α : Type} (le : α → α → Bool) (l : List α) : (sortBy le l).length = l.length := by
  induction l with
  | nil => rfl
  | cons z r ih =>
    have e : sortBy le (z :: r) = insertBy le z (sortBy le r) := rfl
    rw [e, length_insertBy, ih, List.length_cons]

end Sys2Proof.Machine
end

