-- ==== Sys2Proof/WellFormed.lean ====
section
/-! DEFINITION. Well-formed commands: what an operand may be before the block ever sees it. A clause that fits a frame
(R57, R70), engine, channel, input and index numbers that exist, lists no longer than what they carry. -/

namespace Sys2Proof

/-- The header of a clause command and its inner argument length, the operation byte of the row included. -/
def Instr.clause : Instr → Option (Hdr × Nat)
  | .clauseWrite _ _ => none
  | .replyRead _ _ => none
  | .replyReread _ _ => none
  | .causeRead _ _ => none
  | .unknownTransaction _ _ _ => none
  | .echo h args => some (h, 0 + args.length)
  | .status h args => some (h, 0 + args.length)
  | .clock h args => some (h, 0 + args.length)
  | .clockSet h args => some (h, 0 + args.length)
  | .sleep h args => some (h, 0 + args.length)
  | .laneStatus h args => some (h, 0 + args.length)
  | .configStageBegin h args => some (h, 1 + args.length)
  | .configStageWrite h args => some (h, 1 + args.length)
  | .configStageDiscard h args => some (h, 1 + args.length)
  | .configCommit h args _ => some (h, 0 + args.length)
  | .configRead h args => some (h, 0 + args.length)
  | .thallusStageBegin h args => some (h, 1 + args.length)
  | .thallusStageWrite h args => some (h, 1 + args.length)
  | .thallusStageDiscard h args => some (h, 1 + args.length)
  | .lichenEndorse h args => some (h, 0 + args.length)
  | .thallusCommit h args _ => some (h, 0 + args.length)
  | .personalisationReset => none
  | .lichenWindowExpiry => none
  | .pollStart h args => some (h, 0 + args.length)
  | .pollStop h args => some (h, 0 + args.length)
  | .pollRepetition _ => none
  | .fieldVector h args => some (h, 0 + args.length)
  | .aerialCal h args => some (h, 0 + args.length)
  | .atlasLoadBegin h args => some (h, 1 + args.length)
  | .atlasLoadPoints h args => some (h, 1 + args.length)
  | .inventory h args => some (h, 0 + args.length)
  | .authenticate h args => some (h, 0 + args.length)
  | .locate h args => some (h, 0 + args.length)
  | .sessionQuery h args => some (h, 0 + args.length)
  | .sessionEnd h args => some (h, 0 + args.length)
  | .tokenEnrol h args => some (h, 0 + args.length)
  | .tokenRevoke h args => some (h, 0 + args.length)
  | .tokenQuery h args => some (h, 0 + args.length)
  | .releaseState h args => some (h, 0 + args.length)
  | .releaseClear h args => some (h, 0 + args.length)
  | .odoInterval h args => some (h, 1 + args.length)
  | .odoInit h args => some (h, 1 + args.length)
  | .motionRead h args => some (h, 0 + args.length)
  | .timerCfg h args => some (h, 0 + args.length)
  | .peek h args => some (h, 0 + args.length)
  | .poke h args => some (h, 0 + args.length)
  | .sporeLoadNeeded h args => some (h, 1 + args.length)
  | .sporeLoadHost h args => some (h, 1 + args.length)
  | .sporeEvict h args => some (h, 0 + args.length)
  | .sporeWrap h args => some (h, 0 + args.length)
  | .frondDeriveDerive h args => some (h, 1 + args.length)
  | .frondDerivePublic h args => some (h, 1 + args.length)
  | .frondDeriveNode h args => some (h, 1 + args.length)
  | .keyRetire h args _ => some (h, 0 + args.length)
  | .encryptOneshot h args => some (h, 1 + args.length)
  | .encryptBegin h args => some (h, 1 + args.length)
  | .encryptUpdate h args => some (h, 1 + args.length)
  | .encryptFinal h args => some (h, 1 + args.length)
  | .encryptAbort h args => some (h, 1 + args.length)
  | .decryptOneshot h args => some (h, 1 + args.length)
  | .decryptBegin h args => some (h, 1 + args.length)
  | .decryptUpdate h args => some (h, 1 + args.length)
  | .decryptFinal h args => some (h, 1 + args.length)
  | .decryptRead h args => some (h, 1 + args.length)
  | .decryptAbort h args => some (h, 1 + args.length)
  | .macOneshot h args => some (h, 1 + args.length)
  | .macBegin h args => some (h, 1 + args.length)
  | .macUpdate h args => some (h, 1 + args.length)
  | .macFinal h args => some (h, 1 + args.length)
  | .macAbort h args => some (h, 1 + args.length)
  | .contextTimeout _ _ => none
  | .evidenceSign h args => some (h, 0 + args.length)
  | .evidenceRead h args => some (h, 0 + args.length)
  | .random h args => some (h, 0 + args.length)
  | .randomPr h args => some (h, 0 + args.length)
  | .fieldportCfgPort h args _ => some (h, 1 + args.length)
  | .fieldportCfgReaderKey h args _ => some (h, 1 + args.length)
  | .fieldportCfgQuery h args => some (h, 1 + args.length)
  | .mailboxReadLocal h args => some (h, 1 + args.length)
  | .mailboxWriteLocal h args _ => some (h, 1 + args.length)
  | .mailboxReadReader h args => some (h, 1 + args.length)
  | .mailboxWriteReader h args => some (h, 1 + args.length)
  | .mailboxReadFetch h args => some (h, 1 + args.length)
  | .selftest h args _ => some (h, 0 + args.length)
  | .kat h args _ => some (h, 0 + args.length)
  | .tamperStatus h args => some (h, 0 + args.length)
  | .tamperAck h args => some (h, 0 + args.length)
  | .tamperAckReset => none
  | .hostPair h args => some (h, 0 + args.length)
  | .tick _ => none
  | .deferredRecordAppend => none
  | .recordProgram => none
  | .signaturePoint => none
  | .sealAppend => none
  | .eccSignCheckFail _ _ => none
  | .aesParityFault _ _ => none
  | .bookingStart _ => none
  | .gainAndTrimSet _ _ => none
  | .amplitudeLoopUpdate _ => none
  | .openAerialDetect _ _ _ => none
  | .aerialOvercurrent _ _ _ => none
  | .downlinkFrameSent _ _ => none
  | .identifierStream _ _ => none
  | .silentReply _ => none
  | .identifierComplete _ => none
  | .responseReceived _ _ => none
  | .selectStatusReply _ _ => none
  | .readerReplyReceived _ _ => none
  | .sporeTimeout _ => none
  | .handoverMissed _ => none
  | .bookingEnd _ _ => none
  | .linkEngineFault _ => none
  | .triggerInput _ _ => none
  | .heldTriggerStart => none
  | .recoveryPoll => none
  | .sessionTimerExpiry => none
  | .lockExpiry => none
  | .speedEdge _ _ _ => none
  | .motionMoving => none
  | .motionStationary => none
  | .plausibilityEvaluation => none
  | .rlsFaultDetect _ _ _ => none
  | .gtCountEdge _ _ => none
  | .linkedAction _ => none
  | .fieldPresent => none
  | .fieldWake _ => none
  | .fieldInventoryBegin _ => none
  | .fieldStopGap => none
  | .fieldTreeBit _ _ => none
  | .fieldSelect _ => none
  | .fieldQuiet _ => none
  | .fieldMailboxRead _ _ _ _ => none
  | .fieldMailboxWrite _ _ _ _ _ => none
  | .harvestOn _ _ _ => none
  | .harvTimeout => none
  | .fieldIdleTimeout => none
  | .fieldCarrierLoss => none
  | .hostMailboxUnheld => none
  | .noiseWindowEnd _ _ => none
  | .entropyBlockEntry => none
  | .drbgInstantiate => none
  | .drbgStarved => none
  | .wireRefill _ => none
  | .rngCoreFault _ _ => none
  | .bankRepair _ => none
  | .nvmPatrol _ => none
  | .sramScrub _ => none
  | .sramUncorrectable _ => none
  | .tamperSourceLatch _ _ => none
  | .laneFlagged _ _ => none
  | .arbitration _ _ => none
  | .takeover => none
  | .laneProbe _ _ => none
  | .xtalFailure _ _ => none
  | .pllLockLoss _ => none
  | .keyStoreFault => none
  | .vbatValid => none
  | .vbatLowDrive => none
  | .vbatReset => none
  | .vdrvRange => none
  | .vbatHigh => none
  | .supplyCeilingReturn => none
  | .batteryCritical => none
  | .batteryCriticalEnd => none
  | .vholdLow => none
  | .vholdStop => none
  | .spiSideReset _ _ => none
  | .crossingReopen _ => none
  | .boot _ => none
  | .bootRetry => none
  | .sleepEntry _ => none
  | .wakeEvent _ _ => none
  | .wakeTimerExpiry _ => none
  | .detunePing _ _ => none
  | .pingConfirm _ _ => none
  | .standbyVbatSample _ => none
  | .sleepPulseEdge _ _ _ => none
  | .episodeEnd _ => none
  | .sleepMotionWake _ => none
  | .tickHighwaterWrite => none
  | .fieldFrameIgnored _ => none
  | .speedInputLevelChange _ _ _ => none
  | .x32CrystalFailure => none
  | .hashParityFault _ => none
  | .vholdRecovered => none

/-- ARG_LEN of a clause (Table 03.4): a sealed payload adds 24 bytes (Table 03.10). -/
def outerLength (h : Hdr) (n : Nat) : Nat :=
  match h.sealing with
  | .sealed _ _ => n + 24
  | _ => n

/-- Length of the frame a clause command spells (R57); 0 for a command that is no clause. -/
def Instr.frameLength (i : Instr) : Nat :=
  match i.clause with
  | some (h, n) => 10 + outerLength h n
  | none => 0

/-- Bit 0 of FLAGS is given by the sealing, and a short payload has fewer than 24 bytes (R72, Table 03.5). -/
def Instr.headerOk (i : Instr) : Bool :=
  match i.clause with
  | none => true
  | some (h, n) => !h.flags.getLsbD 0 && (h.sealing != .short || decide (n < 24))

/-- Numbers that name a part exist: engines 0 to 3, channels 0 to 15, speed inputs and timers 0 to 7. -/
def Instr.numbersOk : Instr → Bool
  | .bookingStart e | .gainAndTrimSet e _ | .downlinkFrameSent e _ | .identifierStream e _ | .silentReply e
  | .identifierComplete e | .responseReceived e _ | .selectStatusReply e _ | .readerReplyReceived e _ | .sporeTimeout e
  | .handoverMissed e | .bookingEnd e _ | .linkEngineFault e => decide (e < 4)
  | .openAerialDetect e c _ | .aerialOvercurrent e c _ => decide (e < 4) && decide (c < 16)
  | .speedEdge n _ _ | .gtCountEdge n _ | .speedInputLevelChange n _ _ => decide (n < 8)
  | .pollRepetition n => decide (n < 7)
  | .contextTimeout _ c => decide (c < 2)
  | .eccSignCheckFail c _ => decide (c < 2)
  | .aesParityFault c a => decide (c < 6) && decide (a < 3)
  | .hashParityFault a => decide (a < 3)
  | _ => true

/-- A reply comes from at most 16 receivers, each with the cells of a reply window (R121, R123, Table 05.5). -/
def uplinkOk (r : Uplink) : Bool :=
  decide (r.length ≤ 16) && r.all fun x => match x with
    | some y => decide (y.cells.length ≤ 410)
    | none => true

/-- Lists carry what the hardware can hold: windows of 1,024 samples (R314), 16 channels, replies, four banks. -/
def Instr.listsOk : Instr → Bool
  | .noiseWindowEnd _ l => decide (l.length = 1024)
  | .downlinkFrameSent _ l => decide (l.length ≤ 16)
  | .identifierStream _ r | .responseReceived _ r | .selectStatusReply _ r | .readerReplyReceived _ r => uplinkOk r
  | .bookingEnd _ m => decide (m.currents.length ≤ 16) && decide (m.receivers.length ≤ 16) && decide (m.coupling.length ≤ 16)
  | .detunePing l _ => decide (l.length ≤ 16)
  | .boot b => decide (b.damage.length ≤ 4) && (b.windowsA ++ b.windowsB).all fun w => decide (w.length = 1024)
  | _ => true

/-- Numbers of bits that a field of the air or of a record holds. -/
def Instr.fieldsOk : Instr → Bool
  | .fieldWake g => decide (g < 2 ^ 24)
  | .fieldInventoryBegin r => decide (r < 8)
  | .fieldTreeBit k _ => decide (k < 64)
  | .fieldMailboxRead p f _ _ => decide (p < 256) && decide (f < 16)
  | .fieldMailboxWrite p f d t _ => decide (p < 256) && decide (f < 16) && decide (d.length = 32) && decide (t.length = 8)
  | .harvestOn d f _ => decide (d < 256) && decide (f < 16)
  | .fieldFrameIgnored op => decide (op < 16)
  | _ => true

/-- A well-formed command. -/
def Instr.wf (i : Instr) : Bool :=
  decide (i.frameLength ≤ 250) && (i.headerOk && i.numbersOk && i.listsOk && i.fieldsOk)

end Sys2Proof
end

