-- ==== Sys2Proof/Laws/PerInstr.lean ====
section
/-! SUPPORT. Per-command lemmas: a well-formed clause command spells a frame of at most 250 bytes (R57). -/

namespace Sys2Proof.Laws.FrameLength

open Sys2Proof

/-- Every well-formed command fits the frame limit of R57: 10 bytes around at most 240 argument bytes. -/
def Statement (i : Instr) : Prop := i.wf = true → i.frameLength ≤ 250

/-- The step from well-formedness to the limit that all commands share. -/
theorem of_wf (i : Instr) : Statement i := by
  intro h
  simp only [Instr.wf, Bool.and_eq_true] at h
  exact of_decide_eq_true h.1

theorem clauseWrite (p : PortId) (mosi : Bytes) : Statement (.clauseWrite p mosi) := of_wf _
theorem replyRead (p : PortId) (clocked : Nat) : Statement (.replyRead p clocked) := of_wf _
theorem replyReread (p : PortId) (clocked : Nat) : Statement (.replyReread p clocked) := of_wf _
theorem causeRead (p : PortId) (clocked : Nat) : Statement (.causeRead p clocked) := of_wf _
theorem unknownTransaction (p : PortId) (first : Byte) (clocked : Nat) : Statement (.unknownTransaction p first clocked) := of_wf _
theorem echo (h : Hdr) (args : Bytes) : Statement (.echo h args) := of_wf _
theorem status (h : Hdr) (args : Bytes) : Statement (.status h args) := of_wf _
theorem clock (h : Hdr) (args : Bytes) : Statement (.clock h args) := of_wf _
theorem clockSet (h : Hdr) (args : Bytes) : Statement (.clockSet h args) := of_wf _
theorem sleep (h : Hdr) (args : Bytes) : Statement (.sleep h args) := of_wf _
theorem laneStatus (h : Hdr) (args : Bytes) : Statement (.laneStatus h args) := of_wf _
theorem configStageBegin (h : Hdr) (args : Bytes) : Statement (.configStageBegin h args) := of_wf _
theorem configStageWrite (h : Hdr) (args : Bytes) : Statement (.configStageWrite h args) := of_wf _
theorem configStageDiscard (h : Hdr) (args : Bytes) : Statement (.configStageDiscard h args) := of_wf _
theorem configCommit (h : Hdr) (args : Bytes) (nvm : BankOutcome) : Statement (.configCommit h args nvm) := of_wf _
theorem configRead (h : Hdr) (args : Bytes) : Statement (.configRead h args) := of_wf _
theorem thallusStageBegin (h : Hdr) (args : Bytes) : Statement (.thallusStageBegin h args) := of_wf _
theorem thallusStageWrite (h : Hdr) (args : Bytes) : Statement (.thallusStageWrite h args) := of_wf _
theorem thallusStageDiscard (h : Hdr) (args : Bytes) : Statement (.thallusStageDiscard h args) := of_wf _
theorem lichenEndorse (h : Hdr) (args : Bytes) : Statement (.lichenEndorse h args) := of_wf _
theorem thallusCommit (h : Hdr) (args : Bytes) (nvm : BankOutcome) : Statement (.thallusCommit h args nvm) := of_wf _
theorem personalisationReset : Statement (.personalisationReset) := of_wf _
theorem lichenWindowExpiry : Statement (.lichenWindowExpiry) := of_wf _
theorem pollStart (h : Hdr) (args : Bytes) : Statement (.pollStart h args) := of_wf _
theorem pollStop (h : Hdr) (args : Bytes) : Statement (.pollStop h args) := of_wf _
theorem pollRepetition (index : Nat) : Statement (.pollRepetition index) := of_wf _
theorem fieldVector (h : Hdr) (args : Bytes) : Statement (.fieldVector h args) := of_wf _
theorem aerialCal (h : Hdr) (args : Bytes) : Statement (.aerialCal h args) := of_wf _
theorem atlasLoadBegin (h : Hdr) (args : Bytes) : Statement (.atlasLoadBegin h args) := of_wf _
theorem atlasLoadPoints (h : Hdr) (args : Bytes) : Statement (.atlasLoadPoints h args) := of_wf _
theorem inventory (h : Hdr) (args : Bytes) : Statement (.inventory h args) := of_wf _
theorem authenticate (h : Hdr) (args : Bytes) : Statement (.authenticate h args) := of_wf _
theorem locate (h : Hdr) (args : Bytes) : Statement (.locate h args) := of_wf _
theorem sessionQuery (h : Hdr) (args : Bytes) : Statement (.sessionQuery h args) := of_wf _
theorem sessionEnd (h : Hdr) (args : Bytes) : Statement (.sessionEnd h args) := of_wf _
theorem tokenEnrol (h : Hdr) (args : Bytes) : Statement (.tokenEnrol h args) := of_wf _
theorem tokenRevoke (h : Hdr) (args : Bytes) : Statement (.tokenRevoke h args) := of_wf _
theorem tokenQuery (h : Hdr) (args : Bytes) : Statement (.tokenQuery h args) := of_wf _
theorem releaseState (h : Hdr) (args : Bytes) : Statement (.releaseState h args) := of_wf _
theorem releaseClear (h : Hdr) (args : Bytes) : Statement (.releaseClear h args) := of_wf _
theorem odoInterval (h : Hdr) (args : Bytes) : Statement (.odoInterval h args) := of_wf _
theorem odoInit (h : Hdr) (args : Bytes) : Statement (.odoInit h args) := of_wf _
theorem motionRead (h : Hdr) (args : Bytes) : Statement (.motionRead h args) := of_wf _
theorem timerCfg (h : Hdr) (args : Bytes) : Statement (.timerCfg h args) := of_wf _
theorem peek (h : Hdr) (args : Bytes) : Statement (.peek h args) := of_wf _
theorem poke (h : Hdr) (args : Bytes) : Statement (.poke h args) := of_wf _
theorem sporeLoadNeeded (h : Hdr) (args : Bytes) : Statement (.sporeLoadNeeded h args) := of_wf _
theorem sporeLoadHost (h : Hdr) (args : Bytes) : Statement (.sporeLoadHost h args) := of_wf _
theorem sporeEvict (h : Hdr) (args : Bytes) : Statement (.sporeEvict h args) := of_wf _
theorem sporeWrap (h : Hdr) (args : Bytes) : Statement (.sporeWrap h args) := of_wf _
theorem frondDeriveDerive (h : Hdr) (args : Bytes) : Statement (.frondDeriveDerive h args) := of_wf _
theorem frondDerivePublic (h : Hdr) (args : Bytes) : Statement (.frondDerivePublic h args) := of_wf _
theorem frondDeriveNode (h : Hdr) (args : Bytes) : Statement (.frondDeriveNode h args) := of_wf _
theorem keyRetire (h : Hdr) (args : Bytes) (verified : Bool) : Statement (.keyRetire h args verified) := of_wf _
theorem encryptOneshot (h : Hdr) (args : Bytes) : Statement (.encryptOneshot h args) := of_wf _
theorem encryptBegin (h : Hdr) (args : Bytes) : Statement (.encryptBegin h args) := of_wf _
theorem encryptUpdate (h : Hdr) (args : Bytes) : Statement (.encryptUpdate h args) := of_wf _
theorem encryptFinal (h : Hdr) (args : Bytes) : Statement (.encryptFinal h args) := of_wf _
theorem encryptAbort (h : Hdr) (args : Bytes) : Statement (.encryptAbort h args) := of_wf _
theorem decryptOneshot (h : Hdr) (args : Bytes) : Statement (.decryptOneshot h args) := of_wf _
theorem decryptBegin (h : Hdr) (args : Bytes) : Statement (.decryptBegin h args) := of_wf _
theorem decryptUpdate (h : Hdr) (args : Bytes) : Statement (.decryptUpdate h args) := of_wf _
theorem decryptFinal (h : Hdr) (args : Bytes) : Statement (.decryptFinal h args) := of_wf _
theorem decryptRead (h : Hdr) (args : Bytes) : Statement (.decryptRead h args) := of_wf _
theorem decryptAbort (h : Hdr) (args : Bytes) : Statement (.decryptAbort h args) := of_wf _
theorem macOneshot (h : Hdr) (args : Bytes) : Statement (.macOneshot h args) := of_wf _
theorem macBegin (h : Hdr) (args : Bytes) : Statement (.macBegin h args) := of_wf _
theorem macUpdate (h : Hdr) (args : Bytes) : Statement (.macUpdate h args) := of_wf _
theorem macFinal (h : Hdr) (args : Bytes) : Statement (.macFinal h args) := of_wf _
theorem macAbort (h : Hdr) (args : Bytes) : Statement (.macAbort h args) := of_wf _
theorem contextTimeout (p : PortId) (ctx : Nat) : Statement (.contextTimeout p ctx) := of_wf _
theorem evidenceSign (h : Hdr) (args : Bytes) : Statement (.evidenceSign h args) := of_wf _
theorem evidenceRead (h : Hdr) (args : Bytes) : Statement (.evidenceRead h args) := of_wf _
theorem random (h : Hdr) (args : Bytes) : Statement (.random h args) := of_wf _
theorem randomPr (h : Hdr) (args : Bytes) : Statement (.randomPr h args) := of_wf _
theorem fieldportCfgPort (h : Hdr) (args : Bytes) (nvmOk : Bool) : Statement (.fieldportCfgPort h args nvmOk) := of_wf _
theorem fieldportCfgReaderKey (h : Hdr) (args : Bytes) (nvmOk : Bool) : Statement (.fieldportCfgReaderKey h args nvmOk) := of_wf _
theorem fieldportCfgQuery (h : Hdr) (args : Bytes) : Statement (.fieldportCfgQuery h args) := of_wf _
theorem mailboxReadLocal (h : Hdr) (args : Bytes) : Statement (.mailboxReadLocal h args) := of_wf _
theorem mailboxWriteLocal (h : Hdr) (args : Bytes) (nvmOk : Bool) : Statement (.mailboxWriteLocal h args nvmOk) := of_wf _
theorem mailboxReadReader (h : Hdr) (args : Bytes) : Statement (.mailboxReadReader h args) := of_wf _
theorem mailboxWriteReader (h : Hdr) (args : Bytes) : Statement (.mailboxWriteReader h args) := of_wf _
theorem mailboxReadFetch (h : Hdr) (args : Bytes) : Statement (.mailboxReadFetch h args) := of_wf _
theorem selftest (h : Hdr) (args : Bytes) (r : TestResult) : Statement (.selftest h args r) := of_wf _
theorem kat (h : Hdr) (args : Bytes) (r : TestResult) : Statement (.kat h args r) := of_wf _
theorem tamperStatus (h : Hdr) (args : Bytes) : Statement (.tamperStatus h args) := of_wf _
theorem tamperAck (h : Hdr) (args : Bytes) : Statement (.tamperAck h args) := of_wf _
theorem tamperAckReset : Statement (.tamperAckReset) := of_wf _
theorem hostPair (h : Hdr) (args : Bytes) : Statement (.hostPair h args) := of_wf _
theorem tick (inp : TickIn) : Statement (.tick inp) := of_wf _
theorem deferredRecordAppend : Statement (.deferredRecordAppend) := of_wf _
theorem recordProgram : Statement (.recordProgram) := of_wf _
theorem signaturePoint : Statement (.signaturePoint) := of_wf _
theorem sealAppend : Statement (.sealAppend) := of_wf _
theorem eccSignCheckFail (core : Nat) (second : Bool) : Statement (.eccSignCheckFail core second) := of_wf _
theorem aesParityFault (core : Nat) (attempt : Nat) : Statement (.aesParityFault core attempt) := of_wf _
theorem bookingStart (engine : Nat) : Statement (.bookingStart engine) := of_wf _
theorem gainAndTrimSet (engine : Nat) (m : List LeadMeasure) : Statement (.gainAndTrimSet engine m) := of_wf _
theorem amplitudeLoopUpdate (m : List LoopMeasure) : Statement (.amplitudeLoopUpdate m) := of_wf _
theorem openAerialDetect (engine : Nat) (channel : Nat) (current : Nat) : Statement (.openAerialDetect engine channel current) := of_wf _
theorem aerialOvercurrent (engine : Nat) (channel : Nat) (k : ShortKind) : Statement (.aerialOvercurrent engine channel k) := of_wf _
theorem downlinkFrameSent (engine : Nat) (currents : List (Int × Int)) : Statement (.downlinkFrameSent engine currents) := of_wf _
theorem identifierStream (engine : Nat) (r : Uplink) : Statement (.identifierStream engine r) := of_wf _
theorem silentReply (engine : Nat) : Statement (.silentReply engine) := of_wf _
theorem identifierComplete (engine : Nat) : Statement (.identifierComplete engine) := of_wf _
theorem responseReceived (engine : Nat) (r : Uplink) : Statement (.responseReceived engine r) := of_wf _
theorem selectStatusReply (engine : Nat) (r : Uplink) : Statement (.selectStatusReply engine r) := of_wf _
theorem readerReplyReceived (engine : Nat) (r : Uplink) : Statement (.readerReplyReceived engine r) := of_wf _
theorem sporeTimeout (engine : Nat) : Statement (.sporeTimeout engine) := of_wf _
theorem handoverMissed (engine : Nat) : Statement (.handoverMissed engine) := of_wf _
theorem bookingEnd (engine : Nat) (m : Measurement) : Statement (.bookingEnd engine m) := of_wf _
theorem linkEngineFault (engine : Nat) : Statement (.linkEngineFault engine) := of_wf _
theorem triggerInput (pin : InputPin) (level : Bool) : Statement (.triggerInput pin level) := of_wf _
theorem heldTriggerStart : Statement (.heldTriggerStart) := of_wf _
theorem recoveryPoll : Statement (.recoveryPoll) := of_wf _
theorem sessionTimerExpiry : Statement (.sessionTimerExpiry) := of_wf _
theorem lockExpiry : Statement (.lockExpiry) := of_wf _
theorem speedEdge (n : Nat) (cycle : Nat) (held : Nat) : Statement (.speedEdge n cycle held) := of_wf _
theorem motionMoving : Statement (.motionMoving) := of_wf _
theorem motionStationary : Statement (.motionStationary) := of_wf _
theorem plausibilityEvaluation : Statement (.plausibilityEvaluation) := of_wf _
theorem rlsFaultDetect (out : LaneId) (level : Bool) (matches8 : Bool) : Statement (.rlsFaultDetect out level matches8) := of_wf _
theorem gtCountEdge (n : Nat) (cycle : Nat) : Statement (.gtCountEdge n cycle) := of_wf _
theorem linkedAction (cycle : Nat) : Statement (.linkedAction cycle) := of_wf _
theorem fieldPresent : Statement (.fieldPresent) := of_wf _
theorem fieldWake (group : Nat) : Statement (.fieldWake group) := of_wf _
theorem fieldInventoryBegin (round : Nat) : Statement (.fieldInventoryBegin round) := of_wf _
theorem fieldStopGap : Statement (.fieldStopGap) := of_wf _
theorem fieldTreeBit (k : Nat) (v : Bool) : Statement (.fieldTreeBit k v) := of_wf _
theorem fieldSelect (ident : Ident) : Statement (.fieldSelect ident) := of_wf _
theorem fieldQuiet (scope : Bool) : Statement (.fieldQuiet scope) := of_wf _
theorem fieldMailboxRead (page : Nat) (flags : Nat) (challenge : BitVec 64) (env : FieldEnv) : Statement (.fieldMailboxRead page flags challenge env) := of_wf _
theorem fieldMailboxWrite (page : Nat) (flags : Nat) (data : Bytes) (tag : Bytes) (env : FieldEnv) : Statement (.fieldMailboxWrite page flags data tag env) := of_wf _
theorem harvestOn (duration : Nat) (flags : Nat) (atVHarv : Bool) : Statement (.harvestOn duration flags atVHarv) := of_wf _
theorem harvTimeout : Statement (.harvTimeout) := of_wf _
theorem fieldIdleTimeout : Statement (.fieldIdleTimeout) := of_wf _
theorem fieldCarrierLoss : Statement (.fieldCarrierLoss) := of_wf _
theorem hostMailboxUnheld : Statement (.hostMailboxUnheld) := of_wf _
theorem noiseWindowEnd (src : LaneId) (samples : List Bool) : Statement (.noiseWindowEnd src samples) := of_wf _
theorem entropyBlockEntry : Statement (.entropyBlockEntry) := of_wf _
theorem drbgInstantiate : Statement (.drbgInstantiate) := of_wf _
theorem drbgStarved : Statement (.drbgStarved) := of_wf _
theorem wireRefill (w : Wire) : Statement (.wireRefill w) := of_wf _
theorem rngCoreFault (katFailure : Bool) (attempt : Nat) : Statement (.rngCoreFault katFailure attempt) := of_wf _
theorem bankRepair (k : BankKind) : Statement (.bankRepair k) := of_wf _
theorem nvmPatrol (find : Option (BankKind × Bool × List (Nat × Byte))) : Statement (.nvmPatrol find) := of_wf _
theorem sramScrub (corrected : Nat) : Statement (.sramScrub corrected) := of_wf _
theorem sramUncorrectable (lane : Option LaneId) : Statement (.sramUncorrectable lane) := of_wf _
theorem tamperSourceLatch (src : TamperSource) (seen : TamperSighting) : Statement (.tamperSourceLatch src seen) := of_wf _
theorem laneFlagged (lanes : Bool × Bool) (cause : Byte) : Statement (.laneFlagged lanes cause) := of_wf _
theorem arbitration (aPasses : Bool) (bPasses : Bool) : Statement (.arbitration aPasses bPasses) := of_wf _
theorem takeover : Statement (.takeover) := of_wf _
theorem laneProbe (aPasses : Bool) (bPasses : Bool) : Statement (.laneProbe aPasses bPasses) := of_wf _
theorem xtalFailure (cause : Byte) (deviation : Int) : Statement (.xtalFailure cause deviation) := of_wf _
theorem pllLockLoss (pll : PllId) : Statement (.pllLockLoss pll) := of_wf _
theorem keyStoreFault : Statement (.keyStoreFault) := of_wf _
theorem vbatValid : Statement (.vbatValid) := of_wf _
theorem vbatLowDrive : Statement (.vbatLowDrive) := of_wf _
theorem vbatReset : Statement (.vbatReset) := of_wf _
theorem vdrvRange : Statement (.vdrvRange) := of_wf _
theorem vbatHigh : Statement (.vbatHigh) := of_wf _
theorem supplyCeilingReturn : Statement (.supplyCeilingReturn) := of_wf _
theorem batteryCritical : Statement (.batteryCritical) := of_wf _
theorem batteryCriticalEnd : Statement (.batteryCriticalEnd) := of_wf _
theorem vholdLow : Statement (.vholdLow) := of_wf _
theorem vholdStop : Statement (.vholdStop) := of_wf _
theorem spiSideReset (p : PortId) (inFrame : Bool) : Statement (.spiSideReset p inFrame) := of_wf _
theorem crossingReopen (p : PortId) : Statement (.crossingReopen p) := of_wf _
theorem boot (b : BootIn) : Statement (.boot b) := of_wf _
theorem bootRetry : Statement (.bootRetry) := of_wf _
theorem sleepEntry (inputs : List (InputPin × Bool)) : Statement (.sleepEntry inputs) := of_wf _
theorem wakeEvent (src : WakeSource) (pin : PinSamples) : Statement (.wakeEvent src pin) := of_wf _
theorem wakeTimerExpiry (cycles : Nat) : Statement (.wakeTimerExpiry cycles) := of_wf _
theorem detunePing (r : List PingResponse) (cycles : Nat) : Statement (.detunePing r cycles) := of_wf _
theorem pingConfirm (r : PingResponse) (cycles : Nat) : Statement (.pingConfirm r cycles) := of_wf _
theorem standbyVbatSample (v : VbatSample) : Statement (.standbyVbatSample v) := of_wf _
theorem sleepPulseEdge (second : Bool) (cycle : Nat) (x : SpeedSamples) : Statement (.sleepPulseEdge second cycle x) := of_wf _
theorem episodeEnd (cycle : Nat) : Statement (.episodeEnd cycle) := of_wf _
theorem sleepMotionWake (cycles : Nat) : Statement (.sleepMotionWake cycles) := of_wf _
theorem tickHighwaterWrite : Statement (.tickHighwaterWrite) := of_wf _
theorem fieldFrameIgnored (opcode : Nat) : Statement (.fieldFrameIgnored opcode) := of_wf _
theorem speedInputLevelChange (n : Nat) (level : Bool) (held : Nat) : Statement (.speedInputLevelChange n level held) := of_wf _
theorem x32CrystalFailure : Statement (.x32CrystalFailure) := of_wf _
theorem hashParityFault (attempt : Nat) : Statement (.hashParityFault attempt) := of_wf _
theorem vholdRecovered : Statement (.vholdRecovered) := of_wf _

end Sys2Proof.Laws.FrameLength
end

