-- ==== Sys2Proof/Laws/Seal.lean ====
section
/-! SUPPORT. Byte strings and numbers, the length of AES blocks and GCM tags, and how a sealed payload opens (R70). -/

namespace Sys2Proof.Machine

open Sys2Proof

@[simp] theorem length_leN (k n : Nat) : (leN k n).length = k := by
  induction k generalizing n with
  | zero => rfl
  | succ k ih => simp [leN, ih]

@[simp] theorem length_beN (k n : Nat) : (beN k n).length = k := by simp [beN]

theorem ofLe_lt (b : Bytes) : ofLe b < 2 ^ (8 * b.length) := by
  induction b with
  | nil => simp [ofLe]
  | cons x r ih =>
    have hx := x.isLt
    simp only [ofLe, List.length_cons, Nat.mul_add, Nat.pow_add]
    omega

/-- The number that bytes spell gives those bytes back. -/
theorem leN_ofLe (b : Bytes) : leN b.length (ofLe b) = b := by
  induction b with
  | nil => rfl
  | cons x r ih =>
    have hx := x.isLt
    have h1 : BitVec.ofNat 8 (x.toNat + 256 * ofLe r) = x := by
      apply BitVec.eq_of_toNat_eq
      simp only [BitVec.toNat_ofNat]
      omega
    have h2 : (x.toNat + 256 * ofLe r) / 256 = ofLe r := by omega
    simp only [ofLe, List.length_cons, leN, h1, h2, ih]

theorem ofBe_eq (b : Bytes) : ofBe b = ofLe b.reverse := by
  have h : ∀ (l : Bytes) (n : Nat), l.foldl (fun n x => n * 256 + x.toNat) n = n * 256 ^ l.length + ofLe l.reverse := by
    intro l
    induction l with
    | nil => simp [ofLe]
    | cons x r ih =>
      have hl : ∀ (u v : Bytes), ofLe (u ++ v) = ofLe u + 256 ^ u.length * ofLe v := by
        intro u v
        induction u with
        | nil => simp [ofLe]
        | cons y w ihw => simp only [List.cons_append, ofLe, ihw, List.length_cons, Nat.pow_succ, Nat.mul_add, Nat.mul_assoc]; ac_rfl
      intro n
      simp only [List.foldl_cons, ih, List.reverse_cons, hl, List.length_reverse, List.length_cons, ofLe, Nat.pow_succ,
        Nat.add_mul, Nat.mul_zero, Nat.add_zero]
      ac_rfl
  have h0 := h b 0
  rw [Nat.zero_mul, Nat.zero_add] at h0
  exact h0

theorem beN_ofBe (b : Bytes) : beN b.length (ofBe b) = b := by
  rw [ofBe_eq, beN]
  have h := leN_ofLe b.reverse
  rw [List.length_reverse] at h
  rw [h, List.reverse_reverse]

@[simp] theorem length_shiftRows (d : Nat) (b : Bytes) : (Crypto.shiftRows d b).length = 16 := by
  simp [Crypto.shiftRows]

/-- A word of the key schedule has four bytes. -/
theorem length_keyWord (nk i : Nat) (ws : List Bytes) (rcon : Byte) (hw : ∀ w ∈ ws, w.length = 4) (hi : i = ws.length)
    (h0 : 1 ≤ nk) (hn : nk ≤ i) : (Crypto.keyWord nk i ws rcon).length = 4 := by
  have g : ∀ j, j < ws.length → (ws.getD j []).length = 4 := by
    intro j hj
    rw [List.getD_eq_getElem?_getD, List.getElem?_eq_getElem hj]
    exact hw _ (List.getElem_mem hj)
  have hp := g (i - 1) (by omega)
  have hb := g (i - nk) (by omega)
  have hr : ((ws.getD (i - 1) []).drop 1 ++ (ws.getD (i - 1) []).take 1).map Crypto.sbox ≠ [] := by
    intro h
    have := congrArg List.length h
    simp only [List.length_map, List.length_append, List.length_drop, List.length_take, hp, List.length_nil] at this
    omega
  have ht : (((ws.getD (i - 1) []).drop 1 ++ (ws.getD (i - 1) []).take 1).map Crypto.sbox).length = 4 := by
    simp only [List.length_map, List.length_append, List.length_drop, List.length_take, hp]
    rfl
  simp only [Crypto.keyWord, xorBytes, List.length_zipWith, hb]
  split
  · split
    · rename_i x rest h
      rw [h] at ht
      simp only [List.length_cons] at ht ⊢
      omega
    · rename_i h
      exact absurd h hr
  · split
    · simp only [List.length_map, hp, Nat.min_self]
    · simp only [hp, Nat.min_self]

/-- So has every word of it. -/
theorem keyWords_lengths (nk : Nat) (h0 : 1 ≤ nk) : ∀ (n i : Nat) (rcon : Byte) (ws : List Bytes),
    (∀ w ∈ ws, w.length = 4) → i = ws.length → nk ≤ i →
      (Crypto.keyWords nk n i rcon ws).length = ws.length + n ∧ ∀ w ∈ Crypto.keyWords nk n i rcon ws, w.length = 4 := by
  intro n
  induction n with
  | zero => intro i rcon ws hw hi hn; exact ⟨rfl, hw⟩
  | succ n ih =>
    intro i rcon ws hw hi hn
    have hk := length_keyWord nk i ws rcon hw hi h0 hn
    have h := ih (i + 1) (if i % nk = 0 then Crypto.xtime rcon else rcon) (ws ++ [Crypto.keyWord nk i ws rcon])
      (by
        intro w hwm
        rcases List.mem_append.mp hwm with h | h
        · exact hw w h
        · rw [List.mem_singleton.mp h]; exact hk)
      (by simp [hi]) (by omega)
    refine ⟨?_, h.2⟩
    simp only [Crypto.keyWords, h.1, List.length_append, List.length_singleton]
    omega

/-- The length of words put together. -/
theorem flatten_len4 (l : List Bytes) (h : ∀ w ∈ l, w.length = 4) : l.flatten.length = 4 * l.length := by
  induction l with
  | nil => rfl
  | cons x r ih =>
    have := ih fun w hw => h w (List.mem_cons_of_mem _ hw)
    have hx := h x List.mem_cons_self
    simp only [List.flatten_cons, List.length_append, List.length_cons, this, hx]
    omega

/-- Every round key of a key of 16 or 32 bytes has 16 bytes. -/
theorem roundKeys_lengths (key : Bytes) (h : key.length = 16 ∨ key.length = 32) :
    ∀ k ∈ Crypto.roundKeys key, k.length = 16 := by
  intro k hk
  have hnk : key.length / 4 = 4 ∨ key.length / 4 = 8 := by omega
  simp only [Crypto.roundKeys] at hk
  obtain ⟨r, hr, rfl⟩ := List.mem_map.mp hk
  have hr' := List.mem_range.mp hr
  have h0 : ∀ w ∈ (List.range (key.length / 4)).map (fun i => slice key (4 * i) 4), w.length = 4 := by
    intro w hw
    obtain ⟨i, hi, rfl⟩ := List.mem_map.mp hw
    have := List.mem_range.mp hi
    simp only [List.length_take, List.length_drop]
    omega
  have hw := keyWords_lengths (key.length / 4) (by omega) (4 * (key.length / 4 + 7) - key.length / 4) (key.length / 4) 1#8
    _ h0 (by simp) (Nat.le_refl _)
  have hl := hw.1
  simp only [List.length_map, List.length_range] at hl
  rw [flatten_len4 _ fun w hm => hw.2 w (List.mem_of_mem_drop (List.mem_of_mem_take hm))]
  simp only [List.length_take, List.length_drop, hl]
  omega

/-- There is a first round key, and the last has 16 bytes. -/
theorem roundKeys_last (key : Bytes) (h : key.length = 16 ∨ key.length = 32) :
    ∃ k ks, Crypto.roundKeys key = k :: ks ∧ (ks.getLastD []).length = 16 := by
  have hl : (Crypto.roundKeys key).length = key.length / 4 + 7 := by simp [Crypto.roundKeys]
  have ha := roundKeys_lengths key h
  match hk : Crypto.roundKeys key with
  | [] => rw [hk] at hl; simp at hl
  | [x] => rw [hk] at hl; simp at hl
  | x :: y :: r =>
    refine ⟨x, y :: r, rfl, ha _ ?_⟩
    rw [hk, List.getLastD_cons]
    exact List.mem_cons_of_mem _ List.getLastD_mem_cons
/-- An enciphered block has 16 bytes. -/
theorem length_aesEnc (key blk : Bytes) (h : key.length = 16 ∨ key.length = 32) : (Crypto.aesEnc key blk).length = 16 := by
  obtain ⟨k, ks, hk, hl⟩ := roundKeys_last key h
  rw [List.getLastD_eq_getLast?] at hl
  simp [Crypto.aesEnc, hk, xorBytes, hl]

/-- So has a GCM tag. -/
theorem length_gcmTag (key iv a c : Bytes) (h : key.length = 16 ∨ key.length = 32) : (Crypto.gcmTag key iv a c).length = 16 := by
  simp [Crypto.gcmTag, xorBytes, length_aesEnc key _ h]

/-- And a CMAC. -/
theorem length_cmac (key m : Bytes) (h : key.length = 16 ∨ key.length = 32) : (Crypto.cmac key m).length = 16 :=
  length_aesEnc _ _ h

/-- The length of derived key material (R270). -/
theorem length_kdf (key label ctx : Bytes) (lbits blks : Nat) (h : key.length = 16 ∨ key.length = 32) :
    (Crypto.kdf key label ctx lbits blks).length = 16 * blks := by
  simp only [Crypto.kdf, List.length_flatMap, length_cmac _ _ h, List.map_const', List.length_range, List.sum_replicate_nat]
  exact Nat.mul_comm _ _

/-- A key check value has 8 bytes. -/
theorem length_keyCheck (key : Bytes) (h : key.length = 16 ∨ key.length = 32) : (Crypto.keyCheck key).length = 8 := by
  simp [Crypto.keyCheck, length_aesEnc _ _ h]

/-- A number of 128 bits that 16 bytes spell gives them back. -/
theorem beN_tag (b : Bytes) (h : b.length = 16) : beN 16 (BitVec.ofNat 128 (ofBe b)).toNat = b := by
  have hb := ofLe_lt b.reverse
  rw [List.length_reverse, h] at hb
  rw [BitVec.toNat_ofNat, Nat.mod_eq_of_lt (by rw [ofBe_eq]; exact hb)]
  have hr := beN_ofBe b
  rwa [h] at hr

/-- The checks of R41 that all verbs share, once the payload is opened. -/
theorem clear_of_opened (k : Clause) (n : Need) (s : State) (o : Opened) (h : k.opened s = o) :
    let c := (k.held s).onPort k.hdr.port (Port.accept o)
    k.clear n s = (k.latched s && !s.arbitrationTick && !k.duplicate (k.held s) && !(k.held s).openingLost k.head && !outerBad k.head o && !(o == .fails) &&
      !authBad k.head o c && !stateBad k.head c && !(verbSeeded k.verb && !c.seeded) && !budgetBad k.head s.tick n c) := by
  subst h; rfl

/-- A clause that carries the tag of its payload under its port's session, with a counter that the session takes, opens. -/
theorem opened_of_tag (k : Clause) (s : State) (se : Sess) (counter : BitVec 64) (tag : BitVec 128)
    (hs : (s.port k.hdr.port).session = some se) (hc : se.takes counter.toNat = true)
    (hk : k.hdr.sealing = .sealed counter tag)
    (ht : beN 16 tag.toNat = Crypto.gcmTag se.key (payloadIv se.id counter.toNat)
      (headBytes (hdrFlags k.hdr) k.hdr.seq k.verb (24 + k.args.length))
      (Crypto.gcmCrypt se.key (payloadIv se.id counter.toNat) k.args)) :
    k.opened s = .opened counter.toNat se := by
  simp only [Clause.opened, hdrOpened, hk, hs, openPayload, hc, ht, beq_self_eq_true, Bool.and_self, if_true]

end Sys2Proof.Machine
end

