-- ==== Sys2Proof/Laws/State.lean ====
section
/-! SUPPORT. One lemma for each field and each named update of State that the meanings share, so that no proof unfolds a
record update. Written by the field list of State. -/

namespace Sys2Proof.Machine

open Sys2Proof

/-! ### setPort -/

@[simp] theorem State.setPort_pending (s : State) (p : PortId) (q : Port) : (s.setPort p q).pending = s.pending := rfl
@[simp] theorem State.setPort_tick (s : State) (p : PortId) (q : Port) : (s.setPort p q).tick = s.tick := rfl
@[simp] theorem State.setPort_utc (s : State) (p : PortId) (q : Port) : (s.setPort p q).utc = s.utc := rfl
@[simp] theorem State.setPort_utcTick (s : State) (p : PortId) (q : Port) : (s.setPort p q).utcTick = s.utcTick := rfl
@[simp] theorem State.setPort_utcBase (s : State) (p : PortId) (q : Port) : (s.setPort p q).utcBase = s.utcBase := rfl
@[simp] theorem State.setPort_utcSet (s : State) (p : PortId) (q : Port) : (s.setPort p q).utcSet = s.utcSet := rfl
@[simp] theorem State.setPort_utcFree (s : State) (p : PortId) (q : Port) : (s.setPort p q).utcFree = s.utcFree := rfl
@[simp] theorem State.setPort_ledger (s : State) (p : PortId) (q : Port) : (s.setPort p q).ledger = s.ledger := rfl
@[simp] theorem State.setPort_work (s : State) (p : PortId) (q : Port) : (s.setPort p q).work = s.work := rfl
@[simp] theorem State.setPort_orderNo (s : State) (p : PortId) (q : Port) : (s.setPort p q).orderNo = s.orderNo := rfl
@[simp] theorem State.setPort_latched (s : State) (p : PortId) (q : Port) : (s.setPort p q).latched = s.latched := rfl
@[simp] theorem State.setPort_drawn (s : State) (p : PortId) (q : Port) : (s.setPort p q).drawn = s.drawn := rfl
@[simp] theorem State.setPort_lanes (s : State) (p : PortId) (q : Port) : (s.setPort p q).lanes = s.lanes := rfl
@[simp] theorem State.setPort_power (s : State) (p : PortId) (q : Port) : (s.setPort p q).power = s.power := rfl
@[simp] theorem State.setPort_cfg (s : State) (p : PortId) (q : Port) : (s.setPort p q).cfg = s.cfg := rfl
@[simp] theorem State.setPort_thal (s : State) (p : PortId) (q : Port) : (s.setPort p q).thal = s.thal := rfl
@[simp] theorem State.setPort_prot (s : State) (p : PortId) (q : Port) : (s.setPort p q).prot = s.prot := rfl
@[simp] theorem State.setPort_dir (s : State) (p : PortId) (q : Port) : (s.setPort p q).dir = s.dir := rfl
@[simp] theorem State.setPort_lock (s : State) (p : PortId) (q : Port) : (s.setPort p q).lock = s.lock := rfl
@[simp] theorem State.setPort_ses (s : State) (p : PortId) (q : Port) : (s.setPort p q).ses = s.ses := rfl
@[simp] theorem State.setPort_cell (s : State) (p : PortId) (q : Port) : (s.setPort p q).cell = s.cell := rfl
@[simp] theorem State.setPort_acts (s : State) (p : PortId) (q : Port) : (s.setPort p q).acts = s.acts := rfl
@[simp] theorem State.setPort_motion (s : State) (p : PortId) (q : Port) : (s.setPort p q).motion = s.motion := rfl
@[simp] theorem State.setPort_win (s : State) (p : PortId) (q : Port) : (s.setPort p q).win = s.win := rfl
@[simp] theorem State.setPort_fp (s : State) (p : PortId) (q : Port) : (s.setPort p q).fp = s.fp := rfl
@[simp] theorem State.setPort_ks (s : State) (p : PortId) (q : Port) : (s.setPort p q).ks = s.ks := rfl
@[simp] theorem State.setPort_cipher (s : State) (p : PortId) (q : Port) : (s.setPort p q).cipher = s.cipher := rfl
@[simp] theorem State.setPort_log (s : State) (p : PortId) (q : Port) : (s.setPort p q).log = s.log := rfl
@[simp] theorem State.setPort_rng (s : State) (p : PortId) (q : Port) : (s.setPort p q).rng = s.rng := rfl
@[simp] theorem State.setPort_tamper (s : State) (p : PortId) (q : Port) : (s.setPort p q).tamper = s.tamper := rfl
@[simp] theorem State.setPort_field (s : State) (p : PortId) (q : Port) : (s.setPort p q).field = s.field := rfl
@[simp] theorem State.setPort_freeCtr (s : State) (p : PortId) (q : Port) : (s.setPort p q).freeCtr = s.freeCtr := rfl

/-! ### onPort -/

@[simp] theorem State.onPort_pending (s : State) (p : PortId) (f : Port → Port) : (s.onPort p f).pending = s.pending := rfl
@[simp] theorem State.onPort_tick (s : State) (p : PortId) (f : Port → Port) : (s.onPort p f).tick = s.tick := rfl
@[simp] theorem State.onPort_utc (s : State) (p : PortId) (f : Port → Port) : (s.onPort p f).utc = s.utc := rfl
@[simp] theorem State.onPort_utcTick (s : State) (p : PortId) (f : Port → Port) : (s.onPort p f).utcTick = s.utcTick := rfl
@[simp] theorem State.onPort_utcBase (s : State) (p : PortId) (f : Port → Port) : (s.onPort p f).utcBase = s.utcBase := rfl
@[simp] theorem State.onPort_utcSet (s : State) (p : PortId) (f : Port → Port) : (s.onPort p f).utcSet = s.utcSet := rfl
@[simp] theorem State.onPort_utcFree (s : State) (p : PortId) (f : Port → Port) : (s.onPort p f).utcFree = s.utcFree := rfl
@[simp] theorem State.onPort_ledger (s : State) (p : PortId) (f : Port → Port) : (s.onPort p f).ledger = s.ledger := rfl
@[simp] theorem State.onPort_work (s : State) (p : PortId) (f : Port → Port) : (s.onPort p f).work = s.work := rfl
@[simp] theorem State.onPort_orderNo (s : State) (p : PortId) (f : Port → Port) : (s.onPort p f).orderNo = s.orderNo := rfl
@[simp] theorem State.onPort_latched (s : State) (p : PortId) (f : Port → Port) : (s.onPort p f).latched = s.latched := rfl
@[simp] theorem State.onPort_drawn (s : State) (p : PortId) (f : Port → Port) : (s.onPort p f).drawn = s.drawn := rfl
@[simp] theorem State.onPort_lanes (s : State) (p : PortId) (f : Port → Port) : (s.onPort p f).lanes = s.lanes := rfl
@[simp] theorem State.onPort_power (s : State) (p : PortId) (f : Port → Port) : (s.onPort p f).power = s.power := rfl
@[simp] theorem State.onPort_cfg (s : State) (p : PortId) (f : Port → Port) : (s.onPort p f).cfg = s.cfg := rfl
@[simp] theorem State.onPort_thal (s : State) (p : PortId) (f : Port → Port) : (s.onPort p f).thal = s.thal := rfl
@[simp] theorem State.onPort_prot (s : State) (p : PortId) (f : Port → Port) : (s.onPort p f).prot = s.prot := rfl
@[simp] theorem State.onPort_dir (s : State) (p : PortId) (f : Port → Port) : (s.onPort p f).dir = s.dir := rfl
@[simp] theorem State.onPort_lock (s : State) (p : PortId) (f : Port → Port) : (s.onPort p f).lock = s.lock := rfl
@[simp] theorem State.onPort_ses (s : State) (p : PortId) (f : Port → Port) : (s.onPort p f).ses = s.ses := rfl
@[simp] theorem State.onPort_cell (s : State) (p : PortId) (f : Port → Port) : (s.onPort p f).cell = s.cell := rfl
@[simp] theorem State.onPort_acts (s : State) (p : PortId) (f : Port → Port) : (s.onPort p f).acts = s.acts := rfl
@[simp] theorem State.onPort_motion (s : State) (p : PortId) (f : Port → Port) : (s.onPort p f).motion = s.motion := rfl
@[simp] theorem State.onPort_win (s : State) (p : PortId) (f : Port → Port) : (s.onPort p f).win = s.win := rfl
@[simp] theorem State.onPort_fp (s : State) (p : PortId) (f : Port → Port) : (s.onPort p f).fp = s.fp := rfl
@[simp] theorem State.onPort_ks (s : State) (p : PortId) (f : Port → Port) : (s.onPort p f).ks = s.ks := rfl
@[simp] theorem State.onPort_cipher (s : State) (p : PortId) (f : Port → Port) : (s.onPort p f).cipher = s.cipher := rfl
@[simp] theorem State.onPort_log (s : State) (p : PortId) (f : Port → Port) : (s.onPort p f).log = s.log := rfl
@[simp] theorem State.onPort_rng (s : State) (p : PortId) (f : Port → Port) : (s.onPort p f).rng = s.rng := rfl
@[simp] theorem State.onPort_tamper (s : State) (p : PortId) (f : Port → Port) : (s.onPort p f).tamper = s.tamper := rfl
@[simp] theorem State.onPort_field (s : State) (p : PortId) (f : Port → Port) : (s.onPort p f).field = s.field := rfl
@[simp] theorem State.onPort_freeCtr (s : State) (p : PortId) (f : Port → Port) : (s.onPort p f).freeCtr = s.freeCtr := rfl

/-! ### onPorts -/

@[simp] theorem State.onPorts_pending (s : State) (f : Port → Port) : (s.onPorts f).pending = s.pending := rfl
@[simp] theorem State.onPorts_tick (s : State) (f : Port → Port) : (s.onPorts f).tick = s.tick := rfl
@[simp] theorem State.onPorts_utc (s : State) (f : Port → Port) : (s.onPorts f).utc = s.utc := rfl
@[simp] theorem State.onPorts_utcTick (s : State) (f : Port → Port) : (s.onPorts f).utcTick = s.utcTick := rfl
@[simp] theorem State.onPorts_utcBase (s : State) (f : Port → Port) : (s.onPorts f).utcBase = s.utcBase := rfl
@[simp] theorem State.onPorts_utcSet (s : State) (f : Port → Port) : (s.onPorts f).utcSet = s.utcSet := rfl
@[simp] theorem State.onPorts_utcFree (s : State) (f : Port → Port) : (s.onPorts f).utcFree = s.utcFree := rfl
@[simp] theorem State.onPorts_ledger (s : State) (f : Port → Port) : (s.onPorts f).ledger = s.ledger := rfl
@[simp] theorem State.onPorts_work (s : State) (f : Port → Port) : (s.onPorts f).work = s.work := rfl
@[simp] theorem State.onPorts_orderNo (s : State) (f : Port → Port) : (s.onPorts f).orderNo = s.orderNo := rfl
@[simp] theorem State.onPorts_latched (s : State) (f : Port → Port) : (s.onPorts f).latched = s.latched := rfl
@[simp] theorem State.onPorts_drawn (s : State) (f : Port → Port) : (s.onPorts f).drawn = s.drawn := rfl
@[simp] theorem State.onPorts_lanes (s : State) (f : Port → Port) : (s.onPorts f).lanes = s.lanes := rfl
@[simp] theorem State.onPorts_power (s : State) (f : Port → Port) : (s.onPorts f).power = s.power := rfl
@[simp] theorem State.onPorts_cfg (s : State) (f : Port → Port) : (s.onPorts f).cfg = s.cfg := rfl
@[simp] theorem State.onPorts_thal (s : State) (f : Port → Port) : (s.onPorts f).thal = s.thal := rfl
@[simp] theorem State.onPorts_prot (s : State) (f : Port → Port) : (s.onPorts f).prot = s.prot := rfl
@[simp] theorem State.onPorts_dir (s : State) (f : Port → Port) : (s.onPorts f).dir = s.dir := rfl
@[simp] theorem State.onPorts_lock (s : State) (f : Port → Port) : (s.onPorts f).lock = s.lock := rfl
@[simp] theorem State.onPorts_ses (s : State) (f : Port → Port) : (s.onPorts f).ses = s.ses := rfl
@[simp] theorem State.onPorts_cell (s : State) (f : Port → Port) : (s.onPorts f).cell = s.cell := rfl
@[simp] theorem State.onPorts_acts (s : State) (f : Port → Port) : (s.onPorts f).acts = s.acts := rfl
@[simp] theorem State.onPorts_motion (s : State) (f : Port → Port) : (s.onPorts f).motion = s.motion := rfl
@[simp] theorem State.onPorts_win (s : State) (f : Port → Port) : (s.onPorts f).win = s.win := rfl
@[simp] theorem State.onPorts_fp (s : State) (f : Port → Port) : (s.onPorts f).fp = s.fp := rfl
@[simp] theorem State.onPorts_ks (s : State) (f : Port → Port) : (s.onPorts f).ks = s.ks := rfl
@[simp] theorem State.onPorts_cipher (s : State) (f : Port → Port) : (s.onPorts f).cipher = s.cipher := rfl
@[simp] theorem State.onPorts_log (s : State) (f : Port → Port) : (s.onPorts f).log = s.log := rfl
@[simp] theorem State.onPorts_rng (s : State) (f : Port → Port) : (s.onPorts f).rng = s.rng := rfl
@[simp] theorem State.onPorts_tamper (s : State) (f : Port → Port) : (s.onPorts f).tamper = s.tamper := rfl
@[simp] theorem State.onPorts_field (s : State) (f : Port → Port) : (s.onPorts f).field = s.field := rfl
@[simp] theorem State.onPorts_freeCtr (s : State) (f : Port → Port) : (s.onPorts f).freeCtr = s.freeCtr := rfl

/-! ### raise -/

@[simp] theorem State.raise_pending (i : Nat) (s : State) : (State.raise i s).pending = s.pending := rfl
@[simp] theorem State.raise_tick (i : Nat) (s : State) : (State.raise i s).tick = s.tick := rfl
@[simp] theorem State.raise_utc (i : Nat) (s : State) : (State.raise i s).utc = s.utc := rfl
@[simp] theorem State.raise_utcTick (i : Nat) (s : State) : (State.raise i s).utcTick = s.utcTick := rfl
@[simp] theorem State.raise_utcBase (i : Nat) (s : State) : (State.raise i s).utcBase = s.utcBase := rfl
@[simp] theorem State.raise_utcSet (i : Nat) (s : State) : (State.raise i s).utcSet = s.utcSet := rfl
@[simp] theorem State.raise_utcFree (i : Nat) (s : State) : (State.raise i s).utcFree = s.utcFree := rfl
@[simp] theorem State.raise_ledger (i : Nat) (s : State) : (State.raise i s).ledger = s.ledger := rfl
@[simp] theorem State.raise_work (i : Nat) (s : State) : (State.raise i s).work = s.work := rfl
@[simp] theorem State.raise_orderNo (i : Nat) (s : State) : (State.raise i s).orderNo = s.orderNo := rfl
@[simp] theorem State.raise_latched (i : Nat) (s : State) : (State.raise i s).latched = s.latched := rfl
@[simp] theorem State.raise_drawn (i : Nat) (s : State) : (State.raise i s).drawn = s.drawn := rfl
@[simp] theorem State.raise_lanes (i : Nat) (s : State) : (State.raise i s).lanes = s.lanes := rfl
@[simp] theorem State.raise_power (i : Nat) (s : State) : (State.raise i s).power = s.power := rfl
@[simp] theorem State.raise_cfg (i : Nat) (s : State) : (State.raise i s).cfg = s.cfg := rfl
@[simp] theorem State.raise_thal (i : Nat) (s : State) : (State.raise i s).thal = s.thal := rfl
@[simp] theorem State.raise_prot (i : Nat) (s : State) : (State.raise i s).prot = s.prot := rfl
@[simp] theorem State.raise_dir (i : Nat) (s : State) : (State.raise i s).dir = s.dir := rfl
@[simp] theorem State.raise_lock (i : Nat) (s : State) : (State.raise i s).lock = s.lock := rfl
@[simp] theorem State.raise_ses (i : Nat) (s : State) : (State.raise i s).ses = s.ses := rfl
@[simp] theorem State.raise_cell (i : Nat) (s : State) : (State.raise i s).cell = s.cell := rfl
@[simp] theorem State.raise_acts (i : Nat) (s : State) : (State.raise i s).acts = s.acts := rfl
@[simp] theorem State.raise_motion (i : Nat) (s : State) : (State.raise i s).motion = s.motion := rfl
@[simp] theorem State.raise_win (i : Nat) (s : State) : (State.raise i s).win = s.win := rfl
@[simp] theorem State.raise_fp (i : Nat) (s : State) : (State.raise i s).fp = s.fp := rfl
@[simp] theorem State.raise_ks (i : Nat) (s : State) : (State.raise i s).ks = s.ks := rfl
@[simp] theorem State.raise_cipher (i : Nat) (s : State) : (State.raise i s).cipher = s.cipher := rfl
@[simp] theorem State.raise_log (i : Nat) (s : State) : (State.raise i s).log = s.log := rfl
@[simp] theorem State.raise_rng (i : Nat) (s : State) : (State.raise i s).rng = s.rng := rfl
@[simp] theorem State.raise_tamper (i : Nat) (s : State) : (State.raise i s).tamper = s.tamper := rfl
@[simp] theorem State.raise_field (i : Nat) (s : State) : (State.raise i s).field = s.field := rfl
@[simp] theorem State.raise_freeCtr (i : Nat) (s : State) : (State.raise i s).freeCtr = s.freeCtr := rfl

/-! ### raiseOn -/

@[simp] theorem State.raiseOn_pending (p : PortId) (i : Nat) (s : State) : (State.raiseOn p i s).pending = s.pending := rfl
@[simp] theorem State.raiseOn_tick (p : PortId) (i : Nat) (s : State) : (State.raiseOn p i s).tick = s.tick := rfl
@[simp] theorem State.raiseOn_utc (p : PortId) (i : Nat) (s : State) : (State.raiseOn p i s).utc = s.utc := rfl
@[simp] theorem State.raiseOn_utcTick (p : PortId) (i : Nat) (s : State) : (State.raiseOn p i s).utcTick = s.utcTick := rfl
@[simp] theorem State.raiseOn_utcBase (p : PortId) (i : Nat) (s : State) : (State.raiseOn p i s).utcBase = s.utcBase := rfl
@[simp] theorem State.raiseOn_utcSet (p : PortId) (i : Nat) (s : State) : (State.raiseOn p i s).utcSet = s.utcSet := rfl
@[simp] theorem State.raiseOn_utcFree (p : PortId) (i : Nat) (s : State) : (State.raiseOn p i s).utcFree = s.utcFree := rfl
@[simp] theorem State.raiseOn_ledger (p : PortId) (i : Nat) (s : State) : (State.raiseOn p i s).ledger = s.ledger := rfl
@[simp] theorem State.raiseOn_work (p : PortId) (i : Nat) (s : State) : (State.raiseOn p i s).work = s.work := rfl
@[simp] theorem State.raiseOn_orderNo (p : PortId) (i : Nat) (s : State) : (State.raiseOn p i s).orderNo = s.orderNo := rfl
@[simp] theorem State.raiseOn_latched (p : PortId) (i : Nat) (s : State) : (State.raiseOn p i s).latched = s.latched := rfl
@[simp] theorem State.raiseOn_drawn (p : PortId) (i : Nat) (s : State) : (State.raiseOn p i s).drawn = s.drawn := rfl
@[simp] theorem State.raiseOn_lanes (p : PortId) (i : Nat) (s : State) : (State.raiseOn p i s).lanes = s.lanes := rfl
@[simp] theorem State.raiseOn_power (p : PortId) (i : Nat) (s : State) : (State.raiseOn p i s).power = s.power := rfl
@[simp] theorem State.raiseOn_cfg (p : PortId) (i : Nat) (s : State) : (State.raiseOn p i s).cfg = s.cfg := rfl
@[simp] theorem State.raiseOn_thal (p : PortId) (i : Nat) (s : State) : (State.raiseOn p i s).thal = s.thal := rfl
@[simp] theorem State.raiseOn_prot (p : PortId) (i : Nat) (s : State) : (State.raiseOn p i s).prot = s.prot := rfl
@[simp] theorem State.raiseOn_dir (p : PortId) (i : Nat) (s : State) : (State.raiseOn p i s).dir = s.dir := rfl
@[simp] theorem State.raiseOn_lock (p : PortId) (i : Nat) (s : State) : (State.raiseOn p i s).lock = s.lock := rfl
@[simp] theorem State.raiseOn_ses (p : PortId) (i : Nat) (s : State) : (State.raiseOn p i s).ses = s.ses := rfl
@[simp] theorem State.raiseOn_cell (p : PortId) (i : Nat) (s : State) : (State.raiseOn p i s).cell = s.cell := rfl
@[simp] theorem State.raiseOn_acts (p : PortId) (i : Nat) (s : State) : (State.raiseOn p i s).acts = s.acts := rfl
@[simp] theorem State.raiseOn_motion (p : PortId) (i : Nat) (s : State) : (State.raiseOn p i s).motion = s.motion := rfl
@[simp] theorem State.raiseOn_win (p : PortId) (i : Nat) (s : State) : (State.raiseOn p i s).win = s.win := rfl
@[simp] theorem State.raiseOn_fp (p : PortId) (i : Nat) (s : State) : (State.raiseOn p i s).fp = s.fp := rfl
@[simp] theorem State.raiseOn_ks (p : PortId) (i : Nat) (s : State) : (State.raiseOn p i s).ks = s.ks := rfl
@[simp] theorem State.raiseOn_cipher (p : PortId) (i : Nat) (s : State) : (State.raiseOn p i s).cipher = s.cipher := rfl
@[simp] theorem State.raiseOn_log (p : PortId) (i : Nat) (s : State) : (State.raiseOn p i s).log = s.log := rfl
@[simp] theorem State.raiseOn_rng (p : PortId) (i : Nat) (s : State) : (State.raiseOn p i s).rng = s.rng := rfl
@[simp] theorem State.raiseOn_tamper (p : PortId) (i : Nat) (s : State) : (State.raiseOn p i s).tamper = s.tamper := rfl
@[simp] theorem State.raiseOn_field (p : PortId) (i : Nat) (s : State) : (State.raiseOn p i s).field = s.field := rfl
@[simp] theorem State.raiseOn_freeCtr (p : PortId) (i : Nat) (s : State) : (State.raiseOn p i s).freeCtr = s.freeCtr := rfl

/-! ### notify -/

@[simp] theorem State.notify_pending (s : State) (i : Nat) (r : Bytes) : (s.notify i r).pending = s.pending := rfl
@[simp] theorem State.notify_tick (s : State) (i : Nat) (r : Bytes) : (s.notify i r).tick = s.tick := rfl
@[simp] theorem State.notify_utc (s : State) (i : Nat) (r : Bytes) : (s.notify i r).utc = s.utc := rfl
@[simp] theorem State.notify_utcTick (s : State) (i : Nat) (r : Bytes) : (s.notify i r).utcTick = s.utcTick := rfl
@[simp] theorem State.notify_utcBase (s : State) (i : Nat) (r : Bytes) : (s.notify i r).utcBase = s.utcBase := rfl
@[simp] theorem State.notify_utcSet (s : State) (i : Nat) (r : Bytes) : (s.notify i r).utcSet = s.utcSet := rfl
@[simp] theorem State.notify_utcFree (s : State) (i : Nat) (r : Bytes) : (s.notify i r).utcFree = s.utcFree := rfl
@[simp] theorem State.notify_ledger (s : State) (i : Nat) (r : Bytes) : (s.notify i r).ledger = s.ledger := rfl
@[simp] theorem State.notify_work (s : State) (i : Nat) (r : Bytes) : (s.notify i r).work = s.work := rfl
@[simp] theorem State.notify_orderNo (s : State) (i : Nat) (r : Bytes) : (s.notify i r).orderNo = s.orderNo := rfl
@[simp] theorem State.notify_latched (s : State) (i : Nat) (r : Bytes) : (s.notify i r).latched = s.latched := rfl
@[simp] theorem State.notify_drawn (s : State) (i : Nat) (r : Bytes) : (s.notify i r).drawn = s.drawn := rfl
@[simp] theorem State.notify_lanes (s : State) (i : Nat) (r : Bytes) : (s.notify i r).lanes = s.lanes := rfl
@[simp] theorem State.notify_power (s : State) (i : Nat) (r : Bytes) : (s.notify i r).power = s.power := rfl
@[simp] theorem State.notify_cfg (s : State) (i : Nat) (r : Bytes) : (s.notify i r).cfg = s.cfg := rfl
@[simp] theorem State.notify_thal (s : State) (i : Nat) (r : Bytes) : (s.notify i r).thal = s.thal := rfl
@[simp] theorem State.notify_prot (s : State) (i : Nat) (r : Bytes) : (s.notify i r).prot = s.prot := rfl
@[simp] theorem State.notify_dir (s : State) (i : Nat) (r : Bytes) : (s.notify i r).dir = s.dir := rfl
@[simp] theorem State.notify_lock (s : State) (i : Nat) (r : Bytes) : (s.notify i r).lock = s.lock := rfl
@[simp] theorem State.notify_ses (s : State) (i : Nat) (r : Bytes) : (s.notify i r).ses = s.ses := rfl
@[simp] theorem State.notify_cell (s : State) (i : Nat) (r : Bytes) : (s.notify i r).cell = s.cell := rfl
@[simp] theorem State.notify_acts (s : State) (i : Nat) (r : Bytes) : (s.notify i r).acts = s.acts := rfl
@[simp] theorem State.notify_motion (s : State) (i : Nat) (r : Bytes) : (s.notify i r).motion = s.motion := rfl
@[simp] theorem State.notify_win (s : State) (i : Nat) (r : Bytes) : (s.notify i r).win = s.win := rfl
@[simp] theorem State.notify_fp (s : State) (i : Nat) (r : Bytes) : (s.notify i r).fp = s.fp := rfl
@[simp] theorem State.notify_ks (s : State) (i : Nat) (r : Bytes) : (s.notify i r).ks = s.ks := rfl
@[simp] theorem State.notify_cipher (s : State) (i : Nat) (r : Bytes) : (s.notify i r).cipher = s.cipher := rfl
@[simp] theorem State.notify_log (s : State) (i : Nat) (r : Bytes) : (s.notify i r).log = s.log := rfl
@[simp] theorem State.notify_rng (s : State) (i : Nat) (r : Bytes) : (s.notify i r).rng = s.rng := rfl
@[simp] theorem State.notify_tamper (s : State) (i : Nat) (r : Bytes) : (s.notify i r).tamper = s.tamper := rfl
@[simp] theorem State.notify_field (s : State) (i : Nat) (r : Bytes) : (s.notify i r).field = s.field := rfl
@[simp] theorem State.notify_freeCtr (s : State) (i : Nat) (r : Bytes) : (s.notify i r).freeCtr = s.freeCtr := rfl

/-! ### reply -/

@[simp] theorem State.reply_pending (s : State) (tk : Ticket) (st : Nat) (r : Bytes) : (s.reply tk st r).pending = s.pending := rfl
@[simp] theorem State.reply_tick (s : State) (tk : Ticket) (st : Nat) (r : Bytes) : (s.reply tk st r).tick = s.tick := rfl
@[simp] theorem State.reply_utc (s : State) (tk : Ticket) (st : Nat) (r : Bytes) : (s.reply tk st r).utc = s.utc := rfl
@[simp] theorem State.reply_utcTick (s : State) (tk : Ticket) (st : Nat) (r : Bytes) : (s.reply tk st r).utcTick = s.utcTick := rfl
@[simp] theorem State.reply_utcBase (s : State) (tk : Ticket) (st : Nat) (r : Bytes) : (s.reply tk st r).utcBase = s.utcBase := rfl
@[simp] theorem State.reply_utcSet (s : State) (tk : Ticket) (st : Nat) (r : Bytes) : (s.reply tk st r).utcSet = s.utcSet := rfl
@[simp] theorem State.reply_utcFree (s : State) (tk : Ticket) (st : Nat) (r : Bytes) : (s.reply tk st r).utcFree = s.utcFree := rfl
@[simp] theorem State.reply_ledger (s : State) (tk : Ticket) (st : Nat) (r : Bytes) : (s.reply tk st r).ledger = s.ledger := rfl
@[simp] theorem State.reply_work (s : State) (tk : Ticket) (st : Nat) (r : Bytes) : (s.reply tk st r).work = s.work := rfl
@[simp] theorem State.reply_orderNo (s : State) (tk : Ticket) (st : Nat) (r : Bytes) : (s.reply tk st r).orderNo = s.orderNo := rfl
@[simp] theorem State.reply_latched (s : State) (tk : Ticket) (st : Nat) (r : Bytes) : (s.reply tk st r).latched = s.latched := rfl
@[simp] theorem State.reply_drawn (s : State) (tk : Ticket) (st : Nat) (r : Bytes) : (s.reply tk st r).drawn = s.drawn := rfl
@[simp] theorem State.reply_lanes (s : State) (tk : Ticket) (st : Nat) (r : Bytes) : (s.reply tk st r).lanes = s.lanes := rfl
@[simp] theorem State.reply_power (s : State) (tk : Ticket) (st : Nat) (r : Bytes) : (s.reply tk st r).power = s.power := rfl
@[simp] theorem State.reply_cfg (s : State) (tk : Ticket) (st : Nat) (r : Bytes) : (s.reply tk st r).cfg = s.cfg := rfl
@[simp] theorem State.reply_thal (s : State) (tk : Ticket) (st : Nat) (r : Bytes) : (s.reply tk st r).thal = s.thal := rfl
@[simp] theorem State.reply_prot (s : State) (tk : Ticket) (st : Nat) (r : Bytes) : (s.reply tk st r).prot = s.prot := rfl
@[simp] theorem State.reply_dir (s : State) (tk : Ticket) (st : Nat) (r : Bytes) : (s.reply tk st r).dir = s.dir := rfl
@[simp] theorem State.reply_lock (s : State) (tk : Ticket) (st : Nat) (r : Bytes) : (s.reply tk st r).lock = s.lock := rfl
@[simp] theorem State.reply_ses (s : State) (tk : Ticket) (st : Nat) (r : Bytes) : (s.reply tk st r).ses = s.ses := rfl
@[simp] theorem State.reply_cell (s : State) (tk : Ticket) (st : Nat) (r : Bytes) : (s.reply tk st r).cell = s.cell := rfl
@[simp] theorem State.reply_acts (s : State) (tk : Ticket) (st : Nat) (r : Bytes) : (s.reply tk st r).acts = s.acts := rfl
@[simp] theorem State.reply_motion (s : State) (tk : Ticket) (st : Nat) (r : Bytes) : (s.reply tk st r).motion = s.motion := rfl
@[simp] theorem State.reply_win (s : State) (tk : Ticket) (st : Nat) (r : Bytes) : (s.reply tk st r).win = s.win := rfl
@[simp] theorem State.reply_fp (s : State) (tk : Ticket) (st : Nat) (r : Bytes) : (s.reply tk st r).fp = s.fp := rfl
@[simp] theorem State.reply_ks (s : State) (tk : Ticket) (st : Nat) (r : Bytes) : (s.reply tk st r).ks = s.ks := rfl
@[simp] theorem State.reply_cipher (s : State) (tk : Ticket) (st : Nat) (r : Bytes) : (s.reply tk st r).cipher = s.cipher := rfl
@[simp] theorem State.reply_log (s : State) (tk : Ticket) (st : Nat) (r : Bytes) : (s.reply tk st r).log = s.log := rfl
@[simp] theorem State.reply_rng (s : State) (tk : Ticket) (st : Nat) (r : Bytes) : (s.reply tk st r).rng = s.rng := rfl
@[simp] theorem State.reply_tamper (s : State) (tk : Ticket) (st : Nat) (r : Bytes) : (s.reply tk st r).tamper = s.tamper := rfl
@[simp] theorem State.reply_field (s : State) (tk : Ticket) (st : Nat) (r : Bytes) : (s.reply tk st r).field = s.field := rfl
@[simp] theorem State.reply_freeCtr (s : State) (tk : Ticket) (st : Nat) (r : Bytes) : (s.reply tk st r).freeCtr = s.freeCtr := rfl

/-! ### amend -/

@[simp] theorem State.amend_pending (s : State) (tk : Ticket) (st : Nat) (r : Bytes) : (s.amend tk st r).pending = s.pending := rfl
@[simp] theorem State.amend_tick (s : State) (tk : Ticket) (st : Nat) (r : Bytes) : (s.amend tk st r).tick = s.tick := rfl
@[simp] theorem State.amend_utc (s : State) (tk : Ticket) (st : Nat) (r : Bytes) : (s.amend tk st r).utc = s.utc := rfl
@[simp] theorem State.amend_utcTick (s : State) (tk : Ticket) (st : Nat) (r : Bytes) : (s.amend tk st r).utcTick = s.utcTick := rfl
@[simp] theorem State.amend_utcBase (s : State) (tk : Ticket) (st : Nat) (r : Bytes) : (s.amend tk st r).utcBase = s.utcBase := rfl
@[simp] theorem State.amend_utcSet (s : State) (tk : Ticket) (st : Nat) (r : Bytes) : (s.amend tk st r).utcSet = s.utcSet := rfl
@[simp] theorem State.amend_utcFree (s : State) (tk : Ticket) (st : Nat) (r : Bytes) : (s.amend tk st r).utcFree = s.utcFree := rfl
@[simp] theorem State.amend_ledger (s : State) (tk : Ticket) (st : Nat) (r : Bytes) : (s.amend tk st r).ledger = s.ledger := rfl
@[simp] theorem State.amend_work (s : State) (tk : Ticket) (st : Nat) (r : Bytes) : (s.amend tk st r).work = s.work := rfl
@[simp] theorem State.amend_orderNo (s : State) (tk : Ticket) (st : Nat) (r : Bytes) : (s.amend tk st r).orderNo = s.orderNo := rfl
@[simp] theorem State.amend_latched (s : State) (tk : Ticket) (st : Nat) (r : Bytes) : (s.amend tk st r).latched = s.latched := rfl
@[simp] theorem State.amend_drawn (s : State) (tk : Ticket) (st : Nat) (r : Bytes) : (s.amend tk st r).drawn = s.drawn := rfl
@[simp] theorem State.amend_lanes (s : State) (tk : Ticket) (st : Nat) (r : Bytes) : (s.amend tk st r).lanes = s.lanes := rfl
@[simp] theorem State.amend_power (s : State) (tk : Ticket) (st : Nat) (r : Bytes) : (s.amend tk st r).power = s.power := rfl
@[simp] theorem State.amend_cfg (s : State) (tk : Ticket) (st : Nat) (r : Bytes) : (s.amend tk st r).cfg = s.cfg := rfl
@[simp] theorem State.amend_thal (s : State) (tk : Ticket) (st : Nat) (r : Bytes) : (s.amend tk st r).thal = s.thal := rfl
@[simp] theorem State.amend_prot (s : State) (tk : Ticket) (st : Nat) (r : Bytes) : (s.amend tk st r).prot = s.prot := rfl
@[simp] theorem State.amend_dir (s : State) (tk : Ticket) (st : Nat) (r : Bytes) : (s.amend tk st r).dir = s.dir := rfl
@[simp] theorem State.amend_lock (s : State) (tk : Ticket) (st : Nat) (r : Bytes) : (s.amend tk st r).lock = s.lock := rfl
@[simp] theorem State.amend_ses (s : State) (tk : Ticket) (st : Nat) (r : Bytes) : (s.amend tk st r).ses = s.ses := rfl
@[simp] theorem State.amend_cell (s : State) (tk : Ticket) (st : Nat) (r : Bytes) : (s.amend tk st r).cell = s.cell := rfl
@[simp] theorem State.amend_acts (s : State) (tk : Ticket) (st : Nat) (r : Bytes) : (s.amend tk st r).acts = s.acts := rfl
@[simp] theorem State.amend_motion (s : State) (tk : Ticket) (st : Nat) (r : Bytes) : (s.amend tk st r).motion = s.motion := rfl
@[simp] theorem State.amend_win (s : State) (tk : Ticket) (st : Nat) (r : Bytes) : (s.amend tk st r).win = s.win := rfl
@[simp] theorem State.amend_fp (s : State) (tk : Ticket) (st : Nat) (r : Bytes) : (s.amend tk st r).fp = s.fp := rfl
@[simp] theorem State.amend_ks (s : State) (tk : Ticket) (st : Nat) (r : Bytes) : (s.amend tk st r).ks = s.ks := rfl
@[simp] theorem State.amend_cipher (s : State) (tk : Ticket) (st : Nat) (r : Bytes) : (s.amend tk st r).cipher = s.cipher := rfl
@[simp] theorem State.amend_log (s : State) (tk : Ticket) (st : Nat) (r : Bytes) : (s.amend tk st r).log = s.log := rfl
@[simp] theorem State.amend_rng (s : State) (tk : Ticket) (st : Nat) (r : Bytes) : (s.amend tk st r).rng = s.rng := rfl
@[simp] theorem State.amend_tamper (s : State) (tk : Ticket) (st : Nat) (r : Bytes) : (s.amend tk st r).tamper = s.tamper := rfl
@[simp] theorem State.amend_field (s : State) (tk : Ticket) (st : Nat) (r : Bytes) : (s.amend tk st r).field = s.field := rfl
@[simp] theorem State.amend_freeCtr (s : State) (tk : Ticket) (st : Nat) (r : Bytes) : (s.amend tk st r).freeCtr = s.freeCtr := rfl

/-! ### record -/

@[simp] theorem State.record_pending (s : State) (k : RecClass) (typ : Nat) (b : Bytes) (n : Nat) : (s.record k typ b n).pending = s.pending := rfl
@[simp] theorem State.record_tick (s : State) (k : RecClass) (typ : Nat) (b : Bytes) (n : Nat) : (s.record k typ b n).tick = s.tick := rfl
@[simp] theorem State.record_utc (s : State) (k : RecClass) (typ : Nat) (b : Bytes) (n : Nat) : (s.record k typ b n).utc = s.utc := rfl
@[simp] theorem State.record_utcTick (s : State) (k : RecClass) (typ : Nat) (b : Bytes) (n : Nat) : (s.record k typ b n).utcTick = s.utcTick := rfl
@[simp] theorem State.record_utcBase (s : State) (k : RecClass) (typ : Nat) (b : Bytes) (n : Nat) : (s.record k typ b n).utcBase = s.utcBase := rfl
@[simp] theorem State.record_utcSet (s : State) (k : RecClass) (typ : Nat) (b : Bytes) (n : Nat) : (s.record k typ b n).utcSet = s.utcSet := rfl
@[simp] theorem State.record_utcFree (s : State) (k : RecClass) (typ : Nat) (b : Bytes) (n : Nat) : (s.record k typ b n).utcFree = s.utcFree := rfl
@[simp] theorem State.record_portA (s : State) (k : RecClass) (typ : Nat) (b : Bytes) (n : Nat) : (s.record k typ b n).portA = s.portA := rfl
@[simp] theorem State.record_portB (s : State) (k : RecClass) (typ : Nat) (b : Bytes) (n : Nat) : (s.record k typ b n).portB = s.portB := rfl
@[simp] theorem State.record_ledger (s : State) (k : RecClass) (typ : Nat) (b : Bytes) (n : Nat) : (s.record k typ b n).ledger = s.ledger := rfl
@[simp] theorem State.record_work (s : State) (k : RecClass) (typ : Nat) (b : Bytes) (n : Nat) : (s.record k typ b n).work = s.work := rfl
@[simp] theorem State.record_orderNo (s : State) (k : RecClass) (typ : Nat) (b : Bytes) (n : Nat) : (s.record k typ b n).orderNo = s.orderNo := rfl
@[simp] theorem State.record_latched (s : State) (k : RecClass) (typ : Nat) (b : Bytes) (n : Nat) : (s.record k typ b n).latched = s.latched := rfl
@[simp] theorem State.record_drawn (s : State) (k : RecClass) (typ : Nat) (b : Bytes) (n : Nat) : (s.record k typ b n).drawn = s.drawn := rfl
@[simp] theorem State.record_lanes (s : State) (k : RecClass) (typ : Nat) (b : Bytes) (n : Nat) : (s.record k typ b n).lanes = s.lanes := rfl
@[simp] theorem State.record_power (s : State) (k : RecClass) (typ : Nat) (b : Bytes) (n : Nat) : (s.record k typ b n).power = s.power := rfl
@[simp] theorem State.record_cfg (s : State) (k : RecClass) (typ : Nat) (b : Bytes) (n : Nat) : (s.record k typ b n).cfg = s.cfg := rfl
@[simp] theorem State.record_thal (s : State) (k : RecClass) (typ : Nat) (b : Bytes) (n : Nat) : (s.record k typ b n).thal = s.thal := rfl
@[simp] theorem State.record_prot (s : State) (k : RecClass) (typ : Nat) (b : Bytes) (n : Nat) : (s.record k typ b n).prot = s.prot := rfl
@[simp] theorem State.record_dir (s : State) (k : RecClass) (typ : Nat) (b : Bytes) (n : Nat) : (s.record k typ b n).dir = s.dir := rfl
@[simp] theorem State.record_lock (s : State) (k : RecClass) (typ : Nat) (b : Bytes) (n : Nat) : (s.record k typ b n).lock = s.lock := rfl
@[simp] theorem State.record_ses (s : State) (k : RecClass) (typ : Nat) (b : Bytes) (n : Nat) : (s.record k typ b n).ses = s.ses := rfl
@[simp] theorem State.record_cell (s : State) (k : RecClass) (typ : Nat) (b : Bytes) (n : Nat) : (s.record k typ b n).cell = s.cell := rfl
@[simp] theorem State.record_acts (s : State) (k : RecClass) (typ : Nat) (b : Bytes) (n : Nat) : (s.record k typ b n).acts = s.acts := rfl
@[simp] theorem State.record_motion (s : State) (k : RecClass) (typ : Nat) (b : Bytes) (n : Nat) : (s.record k typ b n).motion = s.motion := rfl
@[simp] theorem State.record_win (s : State) (k : RecClass) (typ : Nat) (b : Bytes) (n : Nat) : (s.record k typ b n).win = s.win := rfl
@[simp] theorem State.record_fp (s : State) (k : RecClass) (typ : Nat) (b : Bytes) (n : Nat) : (s.record k typ b n).fp = s.fp := rfl
@[simp] theorem State.record_ks (s : State) (k : RecClass) (typ : Nat) (b : Bytes) (n : Nat) : (s.record k typ b n).ks = s.ks := rfl
@[simp] theorem State.record_cipher (s : State) (k : RecClass) (typ : Nat) (b : Bytes) (n : Nat) : (s.record k typ b n).cipher = s.cipher := rfl
@[simp] theorem State.record_rng (s : State) (k : RecClass) (typ : Nat) (b : Bytes) (n : Nat) : (s.record k typ b n).rng = s.rng := rfl
@[simp] theorem State.record_tamper (s : State) (k : RecClass) (typ : Nat) (b : Bytes) (n : Nat) : (s.record k typ b n).tamper = s.tamper := rfl
@[simp] theorem State.record_field (s : State) (k : RecClass) (typ : Nat) (b : Bytes) (n : Nat) : (s.record k typ b n).field = s.field := rfl
@[simp] theorem State.record_freeCtr (s : State) (k : RecClass) (typ : Nat) (b : Bytes) (n : Nat) : (s.record k typ b n).freeCtr = s.freeCtr := rfl

/-! ### drew -/

@[simp] theorem State.drew_pending (s : State) : (s.drew).pending = s.pending := rfl
@[simp] theorem State.drew_tick (s : State) : (s.drew).tick = s.tick := rfl
@[simp] theorem State.drew_utc (s : State) : (s.drew).utc = s.utc := rfl
@[simp] theorem State.drew_utcTick (s : State) : (s.drew).utcTick = s.utcTick := rfl
@[simp] theorem State.drew_utcBase (s : State) : (s.drew).utcBase = s.utcBase := rfl
@[simp] theorem State.drew_utcSet (s : State) : (s.drew).utcSet = s.utcSet := rfl
@[simp] theorem State.drew_utcFree (s : State) : (s.drew).utcFree = s.utcFree := rfl
@[simp] theorem State.drew_portA (s : State) : (s.drew).portA = s.portA := rfl
@[simp] theorem State.drew_portB (s : State) : (s.drew).portB = s.portB := rfl
@[simp] theorem State.drew_ledger (s : State) : (s.drew).ledger = s.ledger := rfl
@[simp] theorem State.drew_work (s : State) : (s.drew).work = s.work := rfl
@[simp] theorem State.drew_orderNo (s : State) : (s.drew).orderNo = s.orderNo := rfl
@[simp] theorem State.drew_latched (s : State) : (s.drew).latched = s.latched := rfl
@[simp] theorem State.drew_drawn (s : State) : (s.drew).drawn = s.drawn := rfl
@[simp] theorem State.drew_lanes (s : State) : (s.drew).lanes = s.lanes := rfl
@[simp] theorem State.drew_power (s : State) : (s.drew).power = s.power := rfl
@[simp] theorem State.drew_cfg (s : State) : (s.drew).cfg = s.cfg := rfl
@[simp] theorem State.drew_thal (s : State) : (s.drew).thal = s.thal := rfl
@[simp] theorem State.drew_prot (s : State) : (s.drew).prot = s.prot := rfl
@[simp] theorem State.drew_dir (s : State) : (s.drew).dir = s.dir := rfl
@[simp] theorem State.drew_lock (s : State) : (s.drew).lock = s.lock := rfl
@[simp] theorem State.drew_ses (s : State) : (s.drew).ses = s.ses := rfl
@[simp] theorem State.drew_cell (s : State) : (s.drew).cell = s.cell := rfl
@[simp] theorem State.drew_acts (s : State) : (s.drew).acts = s.acts := rfl
@[simp] theorem State.drew_motion (s : State) : (s.drew).motion = s.motion := rfl
@[simp] theorem State.drew_win (s : State) : (s.drew).win = s.win := rfl
@[simp] theorem State.drew_fp (s : State) : (s.drew).fp = s.fp := rfl
@[simp] theorem State.drew_ks (s : State) : (s.drew).ks = s.ks := rfl
@[simp] theorem State.drew_cipher (s : State) : (s.drew).cipher = s.cipher := rfl
@[simp] theorem State.drew_log (s : State) : (s.drew).log = s.log := rfl
@[simp] theorem State.drew_rng (s : State) : (s.drew).rng = s.rng := rfl
@[simp] theorem State.drew_tamper (s : State) : (s.drew).tamper = s.tamper := rfl
@[simp] theorem State.drew_field (s : State) : (s.drew).field = s.field := rfl

/-! ### push -/

@[simp] theorem State.push_pending (s : State) (a : Act) : (s.push a).pending = s.pending := rfl
@[simp] theorem State.push_tick (s : State) (a : Act) : (s.push a).tick = s.tick := rfl
@[simp] theorem State.push_utc (s : State) (a : Act) : (s.push a).utc = s.utc := rfl
@[simp] theorem State.push_utcTick (s : State) (a : Act) : (s.push a).utcTick = s.utcTick := rfl
@[simp] theorem State.push_utcBase (s : State) (a : Act) : (s.push a).utcBase = s.utcBase := rfl
@[simp] theorem State.push_utcSet (s : State) (a : Act) : (s.push a).utcSet = s.utcSet := rfl
@[simp] theorem State.push_utcFree (s : State) (a : Act) : (s.push a).utcFree = s.utcFree := rfl
@[simp] theorem State.push_portA (s : State) (a : Act) : (s.push a).portA = s.portA := rfl
@[simp] theorem State.push_portB (s : State) (a : Act) : (s.push a).portB = s.portB := rfl
@[simp] theorem State.push_ledger (s : State) (a : Act) : (s.push a).ledger = s.ledger := rfl
@[simp] theorem State.push_work (s : State) (a : Act) : (s.push a).work = s.work := rfl
@[simp] theorem State.push_orderNo (s : State) (a : Act) : (s.push a).orderNo = s.orderNo := rfl
@[simp] theorem State.push_latched (s : State) (a : Act) : (s.push a).latched = s.latched := rfl
@[simp] theorem State.push_drawn (s : State) (a : Act) : (s.push a).drawn = s.drawn := rfl
@[simp] theorem State.push_lanes (s : State) (a : Act) : (s.push a).lanes = s.lanes := rfl
@[simp] theorem State.push_power (s : State) (a : Act) : (s.push a).power = s.power := rfl
@[simp] theorem State.push_cfg (s : State) (a : Act) : (s.push a).cfg = s.cfg := rfl
@[simp] theorem State.push_thal (s : State) (a : Act) : (s.push a).thal = s.thal := rfl
@[simp] theorem State.push_prot (s : State) (a : Act) : (s.push a).prot = s.prot := rfl
@[simp] theorem State.push_dir (s : State) (a : Act) : (s.push a).dir = s.dir := rfl
@[simp] theorem State.push_lock (s : State) (a : Act) : (s.push a).lock = s.lock := rfl
@[simp] theorem State.push_ses (s : State) (a : Act) : (s.push a).ses = s.ses := rfl
@[simp] theorem State.push_cell (s : State) (a : Act) : (s.push a).cell = s.cell := rfl
@[simp] theorem State.push_motion (s : State) (a : Act) : (s.push a).motion = s.motion := rfl
@[simp] theorem State.push_win (s : State) (a : Act) : (s.push a).win = s.win := rfl
@[simp] theorem State.push_fp (s : State) (a : Act) : (s.push a).fp = s.fp := rfl
@[simp] theorem State.push_ks (s : State) (a : Act) : (s.push a).ks = s.ks := rfl
@[simp] theorem State.push_cipher (s : State) (a : Act) : (s.push a).cipher = s.cipher := rfl
@[simp] theorem State.push_log (s : State) (a : Act) : (s.push a).log = s.log := rfl
@[simp] theorem State.push_rng (s : State) (a : Act) : (s.push a).rng = s.rng := rfl
@[simp] theorem State.push_tamper (s : State) (a : Act) : (s.push a).tamper = s.tamper := rfl
@[simp] theorem State.push_field (s : State) (a : Act) : (s.push a).field = s.field := rfl
@[simp] theorem State.push_freeCtr (s : State) (a : Act) : (s.push a).freeCtr = s.freeCtr := rfl

/-! ### enqueue -/

@[simp] theorem State.enqueue_pending (b : Bytes) (u : Supplied) (pr t d : Nat) (tk : Ticket) (s : State) : (State.enqueue b u pr t d tk s).pending = s.pending := rfl
@[simp] theorem State.enqueue_tick (b : Bytes) (u : Supplied) (pr t d : Nat) (tk : Ticket) (s : State) : (State.enqueue b u pr t d tk s).tick = s.tick := rfl
@[simp] theorem State.enqueue_utc (b : Bytes) (u : Supplied) (pr t d : Nat) (tk : Ticket) (s : State) : (State.enqueue b u pr t d tk s).utc = s.utc := rfl
@[simp] theorem State.enqueue_utcTick (b : Bytes) (u : Supplied) (pr t d : Nat) (tk : Ticket) (s : State) : (State.enqueue b u pr t d tk s).utcTick = s.utcTick := rfl
@[simp] theorem State.enqueue_utcBase (b : Bytes) (u : Supplied) (pr t d : Nat) (tk : Ticket) (s : State) : (State.enqueue b u pr t d tk s).utcBase = s.utcBase := rfl
@[simp] theorem State.enqueue_utcSet (b : Bytes) (u : Supplied) (pr t d : Nat) (tk : Ticket) (s : State) : (State.enqueue b u pr t d tk s).utcSet = s.utcSet := rfl
@[simp] theorem State.enqueue_utcFree (b : Bytes) (u : Supplied) (pr t d : Nat) (tk : Ticket) (s : State) : (State.enqueue b u pr t d tk s).utcFree = s.utcFree := rfl
@[simp] theorem State.enqueue_portA (b : Bytes) (u : Supplied) (pr t d : Nat) (tk : Ticket) (s : State) : (State.enqueue b u pr t d tk s).portA = s.portA := rfl
@[simp] theorem State.enqueue_portB (b : Bytes) (u : Supplied) (pr t d : Nat) (tk : Ticket) (s : State) : (State.enqueue b u pr t d tk s).portB = s.portB := rfl
@[simp] theorem State.enqueue_ledger (b : Bytes) (u : Supplied) (pr t d : Nat) (tk : Ticket) (s : State) : (State.enqueue b u pr t d tk s).ledger = s.ledger := rfl
@[simp] theorem State.enqueue_orderNo (b : Bytes) (u : Supplied) (pr t d : Nat) (tk : Ticket) (s : State) : (State.enqueue b u pr t d tk s).orderNo = s.orderNo := rfl
@[simp] theorem State.enqueue_latched (b : Bytes) (u : Supplied) (pr t d : Nat) (tk : Ticket) (s : State) : (State.enqueue b u pr t d tk s).latched = s.latched := rfl
@[simp] theorem State.enqueue_drawn (b : Bytes) (u : Supplied) (pr t d : Nat) (tk : Ticket) (s : State) : (State.enqueue b u pr t d tk s).drawn = s.drawn := rfl
@[simp] theorem State.enqueue_lanes (b : Bytes) (u : Supplied) (pr t d : Nat) (tk : Ticket) (s : State) : (State.enqueue b u pr t d tk s).lanes = s.lanes := rfl
@[simp] theorem State.enqueue_power (b : Bytes) (u : Supplied) (pr t d : Nat) (tk : Ticket) (s : State) : (State.enqueue b u pr t d tk s).power = s.power := rfl
@[simp] theorem State.enqueue_cfg (b : Bytes) (u : Supplied) (pr t d : Nat) (tk : Ticket) (s : State) : (State.enqueue b u pr t d tk s).cfg = s.cfg := rfl
@[simp] theorem State.enqueue_thal (b : Bytes) (u : Supplied) (pr t d : Nat) (tk : Ticket) (s : State) : (State.enqueue b u pr t d tk s).thal = s.thal := rfl
@[simp] theorem State.enqueue_prot (b : Bytes) (u : Supplied) (pr t d : Nat) (tk : Ticket) (s : State) : (State.enqueue b u pr t d tk s).prot = s.prot := rfl
@[simp] theorem State.enqueue_dir (b : Bytes) (u : Supplied) (pr t d : Nat) (tk : Ticket) (s : State) : (State.enqueue b u pr t d tk s).dir = s.dir := rfl
@[simp] theorem State.enqueue_lock (b : Bytes) (u : Supplied) (pr t d : Nat) (tk : Ticket) (s : State) : (State.enqueue b u pr t d tk s).lock = s.lock := rfl
@[simp] theorem State.enqueue_ses (b : Bytes) (u : Supplied) (pr t d : Nat) (tk : Ticket) (s : State) : (State.enqueue b u pr t d tk s).ses = s.ses := rfl
@[simp] theorem State.enqueue_cell (b : Bytes) (u : Supplied) (pr t d : Nat) (tk : Ticket) (s : State) : (State.enqueue b u pr t d tk s).cell = s.cell := rfl
@[simp] theorem State.enqueue_acts (b : Bytes) (u : Supplied) (pr t d : Nat) (tk : Ticket) (s : State) : (State.enqueue b u pr t d tk s).acts = s.acts := rfl
@[simp] theorem State.enqueue_motion (b : Bytes) (u : Supplied) (pr t d : Nat) (tk : Ticket) (s : State) : (State.enqueue b u pr t d tk s).motion = s.motion := rfl
@[simp] theorem State.enqueue_win (b : Bytes) (u : Supplied) (pr t d : Nat) (tk : Ticket) (s : State) : (State.enqueue b u pr t d tk s).win = s.win := rfl
@[simp] theorem State.enqueue_fp (b : Bytes) (u : Supplied) (pr t d : Nat) (tk : Ticket) (s : State) : (State.enqueue b u pr t d tk s).fp = s.fp := rfl
@[simp] theorem State.enqueue_ks (b : Bytes) (u : Supplied) (pr t d : Nat) (tk : Ticket) (s : State) : (State.enqueue b u pr t d tk s).ks = s.ks := rfl
@[simp] theorem State.enqueue_cipher (b : Bytes) (u : Supplied) (pr t d : Nat) (tk : Ticket) (s : State) : (State.enqueue b u pr t d tk s).cipher = s.cipher := rfl
@[simp] theorem State.enqueue_log (b : Bytes) (u : Supplied) (pr t d : Nat) (tk : Ticket) (s : State) : (State.enqueue b u pr t d tk s).log = s.log := rfl
@[simp] theorem State.enqueue_rng (b : Bytes) (u : Supplied) (pr t d : Nat) (tk : Ticket) (s : State) : (State.enqueue b u pr t d tk s).rng = s.rng := rfl
@[simp] theorem State.enqueue_tamper (b : Bytes) (u : Supplied) (pr t d : Nat) (tk : Ticket) (s : State) : (State.enqueue b u pr t d tk s).tamper = s.tamper := rfl
@[simp] theorem State.enqueue_field (b : Bytes) (u : Supplied) (pr t d : Nat) (tk : Ticket) (s : State) : (State.enqueue b u pr t d tk s).field = s.field := rfl
@[simp] theorem State.enqueue_freeCtr (b : Bytes) (u : Supplied) (pr t d : Nat) (tk : Ticket) (s : State) : (State.enqueue b u pr t d tk s).freeCtr = s.freeCtr := rfl

/-! ### bookNeed -/

@[simp] theorem State.bookNeed_pending (s : State) (t pr : Nat) (n : Need) : (s.bookNeed t pr n).pending = s.pending := rfl
@[simp] theorem State.bookNeed_tick (s : State) (t pr : Nat) (n : Need) : (s.bookNeed t pr n).tick = s.tick := rfl
@[simp] theorem State.bookNeed_utc (s : State) (t pr : Nat) (n : Need) : (s.bookNeed t pr n).utc = s.utc := rfl
@[simp] theorem State.bookNeed_utcTick (s : State) (t pr : Nat) (n : Need) : (s.bookNeed t pr n).utcTick = s.utcTick := rfl
@[simp] theorem State.bookNeed_utcBase (s : State) (t pr : Nat) (n : Need) : (s.bookNeed t pr n).utcBase = s.utcBase := rfl
@[simp] theorem State.bookNeed_utcSet (s : State) (t pr : Nat) (n : Need) : (s.bookNeed t pr n).utcSet = s.utcSet := rfl
@[simp] theorem State.bookNeed_utcFree (s : State) (t pr : Nat) (n : Need) : (s.bookNeed t pr n).utcFree = s.utcFree := rfl
@[simp] theorem State.bookNeed_portA (s : State) (t pr : Nat) (n : Need) : (s.bookNeed t pr n).portA = s.portA := rfl
@[simp] theorem State.bookNeed_portB (s : State) (t pr : Nat) (n : Need) : (s.bookNeed t pr n).portB = s.portB := rfl
@[simp] theorem State.bookNeed_work (s : State) (t pr : Nat) (n : Need) : (s.bookNeed t pr n).work = s.work := rfl
@[simp] theorem State.bookNeed_latched (s : State) (t pr : Nat) (n : Need) : (s.bookNeed t pr n).latched = s.latched := rfl
@[simp] theorem State.bookNeed_drawn (s : State) (t pr : Nat) (n : Need) : (s.bookNeed t pr n).drawn = s.drawn := rfl
@[simp] theorem State.bookNeed_lanes (s : State) (t pr : Nat) (n : Need) : (s.bookNeed t pr n).lanes = s.lanes := rfl
@[simp] theorem State.bookNeed_power (s : State) (t pr : Nat) (n : Need) : (s.bookNeed t pr n).power = s.power := rfl
@[simp] theorem State.bookNeed_cfg (s : State) (t pr : Nat) (n : Need) : (s.bookNeed t pr n).cfg = s.cfg := rfl
@[simp] theorem State.bookNeed_thal (s : State) (t pr : Nat) (n : Need) : (s.bookNeed t pr n).thal = s.thal := rfl
@[simp] theorem State.bookNeed_prot (s : State) (t pr : Nat) (n : Need) : (s.bookNeed t pr n).prot = s.prot := rfl
@[simp] theorem State.bookNeed_dir (s : State) (t pr : Nat) (n : Need) : (s.bookNeed t pr n).dir = s.dir := rfl
@[simp] theorem State.bookNeed_lock (s : State) (t pr : Nat) (n : Need) : (s.bookNeed t pr n).lock = s.lock := rfl
@[simp] theorem State.bookNeed_ses (s : State) (t pr : Nat) (n : Need) : (s.bookNeed t pr n).ses = s.ses := rfl
@[simp] theorem State.bookNeed_cell (s : State) (t pr : Nat) (n : Need) : (s.bookNeed t pr n).cell = s.cell := rfl
@[simp] theorem State.bookNeed_acts (s : State) (t pr : Nat) (n : Need) : (s.bookNeed t pr n).acts = s.acts := rfl
@[simp] theorem State.bookNeed_motion (s : State) (t pr : Nat) (n : Need) : (s.bookNeed t pr n).motion = s.motion := rfl
@[simp] theorem State.bookNeed_win (s : State) (t pr : Nat) (n : Need) : (s.bookNeed t pr n).win = s.win := rfl
@[simp] theorem State.bookNeed_fp (s : State) (t pr : Nat) (n : Need) : (s.bookNeed t pr n).fp = s.fp := rfl
@[simp] theorem State.bookNeed_ks (s : State) (t pr : Nat) (n : Need) : (s.bookNeed t pr n).ks = s.ks := rfl
@[simp] theorem State.bookNeed_cipher (s : State) (t pr : Nat) (n : Need) : (s.bookNeed t pr n).cipher = s.cipher := rfl
@[simp] theorem State.bookNeed_log (s : State) (t pr : Nat) (n : Need) : (s.bookNeed t pr n).log = s.log := rfl
@[simp] theorem State.bookNeed_rng (s : State) (t pr : Nat) (n : Need) : (s.bookNeed t pr n).rng = s.rng := rfl
@[simp] theorem State.bookNeed_tamper (s : State) (t pr : Nat) (n : Need) : (s.bookNeed t pr n).tamper = s.tamper := rfl
@[simp] theorem State.bookNeed_field (s : State) (t pr : Nat) (n : Need) : (s.bookNeed t pr n).field = s.field := rfl
@[simp] theorem State.bookNeed_freeCtr (s : State) (t pr : Nat) (n : Need) : (s.bookNeed t pr n).freeCtr = s.freeCtr := rfl

/-! ### Ports and the fields an update writes -/

@[simp] theorem State.onPort_port (s : State) (p : PortId) (f : Port → Port) : (s.onPort p f).port p = f (s.port p) := by
  cases p <;> rfl

theorem State.onPort_other (s : State) (p q : PortId) (f : Port → Port) (h : q ≠ p) : (s.onPort p f).port q = s.port q := by
  cases p <;> cases q <;> first | rfl | exact absurd rfl h

@[simp] theorem State.onPorts_port (s : State) (p : PortId) (f : Port → Port) : (s.onPorts f).port p = f (s.port p) := by
  cases p <;> rfl

@[simp] theorem State.setPort_port (s : State) (p : PortId) (q : Port) : (s.setPort p q).port p = q := by
  cases p <;> rfl

@[simp] theorem State.record_port (s : State) (k : RecClass) (typ : Nat) (b : Bytes) (n : Nat) (p : PortId) :
    (s.record k typ b n).port p = s.port p := by
  cases p <;> rfl

@[simp] theorem State.drew_freeCtr (s : State) : s.drew.freeCtr = s.freeCtr + 1 := rfl

@[simp] theorem State.bookNeed_orderNo (s : State) (t pr : Nat) (n : Need) : (s.bookNeed t pr n).orderNo = s.orderNo + 1 := rfl

@[simp] theorem State.bookNeed_port (s : State) (t pr : Nat) (n : Need) (p : PortId) :
    (s.bookNeed t pr n).port p = s.port p := by
  cases p <;> rfl

/-- A reply is staged last on its port. -/
theorem State.reply_staged (s : State) (tk : Ticket) (st : Nat) (r : Bytes) :
    ((s.reply tk st r).port tk.port).stagedReplies = (s.port tk.port).stagedReplies ++
      [{ seq := tk.seq, verb := tk.verb, status := st, results := r, sess := tk.sess, admitted := true,
          order := tk.order }] := by
  rw [State.reply, State.onPort_port]; rfl

/-- Once the log is begun, a record waits behind those that wait (R39, R437). -/
theorem State.record_waiting (s : State) (k : RecClass) (typ : Nat) (b : Bytes) (n : Nat) (h : s.log.begun = true) :
    (s.record k typ b n).log.waiting = s.log.waiting ++ [{ cls := k, typ := typ, body := padTo 32 b, order := n, rank := k.rank }] := by
  simp [State.record, h]

/-- Nothing is recorded before GENESIS (R437). -/
theorem State.record_before (s : State) (k : RecClass) (typ : Nat) (b : Bytes) (n : Nat) (h : s.log.begun = false) :
    s.record k typ b n = s := by
  unfold State.record
  rw [if_neg (by simp [h])]

end Sys2Proof.Machine
end

