-- ==== Sys2Proof/Tests/Slice0.lean ====
section
/-! SUPPORT. Small tests: an ill-formed command for each check of well-formedness, and for every statement a state and
operands that meet its hypotheses. Expected values come from the spec's tables. -/

namespace Sys2Proof.Tests

set_option Elab.async false

open Sys2Proof Sys2Proof.Machine

/-! ### Helpers -/

/-- A port that can take frames (R56, R60). -/
def openPort : Port := { ready := true, credits := 8 }

/-- A personalised device that runs, seeded, with a begun log and a rhizome; the wires hold bytes (Table 13.3). -/
def live : State := { State.reset with
  tick := 1000
  portA := openPort
  portB := openPort
  power := { life := .awake, crozier := 7, vbatValid := true }
  prot := { personalised := true }
  log := { begun := true }
  ks := { rhizome := some (zeros 32) }
  rng := { live := true, key := zeros 32, seeded := true, wireLink := List.replicate 256 1#8
           wireKey := List.replicate 256 1#8, wireCipher := List.replicate 256 1#8
           store := [zeros 48, zeros 48, zeros 48] } }

/-- An open clause header on port SPIA. -/
def hdr : Hdr := ⟨.a, 0, 7, .openClause⟩

/-- A device with one clause outstanding on SPIA. -/
def busy : State := live.onPort .a fun q => { q with outstanding := [{ seq := 7, verb := 1, admitted := true }] }

/-- The device before its first boot, awake and unpersonalised (R342). -/
def factory : State := { live with prot := {}, log := {}, ks := {} }

/-! ### Well-formed commands -/

theorem test_wf_frame_too_long : (Instr.echo hdr (zeros 241)).wf = false := by decide +kernel

theorem test_wf_flag_bit_0 : (Instr.echo ⟨.a, 1, 7, .openClause⟩ []).wf = false := by decide

theorem test_wf_short_payload : (Instr.echo ⟨.a, 0, 7, .short⟩ (zeros 24)).wf = false := by decide

theorem test_wf_engine : (Instr.bookingStart 4).wf = false := by decide

theorem test_wf_channel : (Instr.openAerialDetect 0 16 0).wf = false := by decide

theorem test_wf_input : (Instr.speedEdge 8 0 25).wf = false := by decide

theorem test_wf_core : (Instr.aesParityFault 6 0).wf = false := by decide

theorem test_wf_context : (Instr.contextTimeout .a 2).wf = false := by decide

theorem test_wf_poll_index : (Instr.pollRepetition 7).wf = false := by decide

theorem test_wf_window : (Instr.noiseWindowEnd .a [true]).wf = false := by decide

theorem test_wf_stream : (Instr.identifierStream 0 (List.replicate 17 none)).wf = false := by decide

theorem test_wf_round : (Instr.fieldInventoryBegin 8).wf = false := by decide

theorem test_wf_group : (Instr.fieldWake (2 ^ 24)).wf = false := by decide

theorem test_wf_page : (Instr.fieldMailboxRead 256 0 0 ⟨true, true, true, true⟩).wf = false := by decide

theorem test_wf_tag : (Instr.fieldMailboxWrite 0 0 (zeros 32) (zeros 7) ⟨true, true, true, true⟩).wf = false := by decide

theorem test_wf_echo : (Instr.echo hdr (zeros 240)).wf = true := by decide +kernel

/-! ### Words -/

/-- No row gives bits, so no word spells a command (log entry 3). -/
theorem test_no_word : decodeTableWord 16 0xFFFF = none := rfl

/-- CRC-32C of "123456789" is 0xE3069283, little-endian (R59). -/
theorem test_crc : Crypto.crc32cBytes [0x31, 0x32, 0x33, 0x34, 0x35, 0x36, 0x37, 0x38, 0x39] = [0x83, 0x92, 0x06, 0xE3] := by
  decide +kernel

/-! ### Clauses in general, the host port, services -/

/-- A session of SPIA. -/
def sess : Sess := { id := 5, key := zeros 16 }

/-- The header of a clause that SPIA seals under that session with counter 9 (R70, Table 03.10). -/
def sealedHdr (verb : Nat) (args : Bytes) : Hdr := ⟨.a, 0, 7, .sealed 9 (BitVec.ofNat 128 (ofBe
  (Crypto.gcmTag sess.key (payloadIv sess.id (9#64).toNat) (headBytes (0#8 ||| 1#8) 7 verb (24 + args.length))
    (Crypto.gcmCrypt sess.key (payloadIv sess.id (9#64).toNat) args))))⟩

/-- A device paired on SPIA. -/
def paired (s : State) : State := s.onPort .a fun q => { q with session := some sess }

/-- Such a clause opens. -/
theorem sealedHdr_opens (verb : Nat) (args : Bytes) (s : State) :
    (⟨verb, sealedHdr verb args, args⟩ : Clause).opened (paired s) = .opened 9 sess :=
  opened_of_tag _ _ sess 9 _ rfl (by decide) rfl (beN_tag _ (length_gcmTag _ _ _ _ (.inl rfl)))

/-- Its ticket names the session. -/
theorem sealedHdr_sess (verb : Nat) (args : Bytes) (s : State) :
    ((⟨verb, sealedHdr verb args, args⟩ : Clause).ticket (paired s)).sess ≠ none := by
  have h : ∀ (k : Clause) (t : State), (k.ticket t).sess = (k.opened t).sess := fun _ _ => rfl
  rw [h, sealedHdr_opens]
  exact Option.some_ne_none _

/-- It passes the checks common to all verbs when what they look at, the opened payload apart, does. -/
theorem sealedHdr_clear (verb : Nat) (args : Bytes) (n : Need) (s : State)
    (h : let k : Clause := ⟨verb, sealedHdr verb args, args⟩
      let t := paired s
      let c := (k.held t).onPort .a (Port.accept (.opened 9 sess))
      (k.latched t && !t.arbitrationTick && !k.duplicate (k.held t) && !(k.held t).openingLost k.head &&
        !outerBad k.head (.opened 9 sess) && !(Opened.opened 9 sess == .fails) &&
        !authBad k.head (.opened 9 sess) c && !stateBad k.head c && !(verbSeeded verb && !c.seeded) &&
        !budgetBad k.head t.tick n c) = true) :
    (⟨verb, sealedHdr verb args, args⟩ : Clause).clear n (paired s) = true :=
  (clear_of_opened _ n _ _ (sealedHdr_opens verb args s)).trans h

theorem test_hyps_clause_latched : clauseOf (.echo hdr [1]) = some ⟨1, hdr, [1]⟩ ∧
    (⟨1, hdr, [1]⟩ : Clause).latched live = true ∧ (⟨1, hdr, [1]⟩ : Clause).duplicate live = false := by decide +kernel

theorem test_hyps_clause_duplicate : (⟨1, hdr, [1]⟩ : Clause).latched busy = true ∧
    (⟨1, hdr, [1]⟩ : Clause).duplicate busy = true := by decide +kernel

/-- A device in an arbitration tick: the fault was in the tick before (R366, R367). -/
def arbitrating : State := { live with lanes := { live.lanes with faultTick := some 999 } }

theorem test_hyps_clause_late : (⟨1, hdr, [1]⟩ : Clause).latched arbitrating = true ∧ arbitrating.arbitrationTick = true ∧
    live.arbitrationTick = false := by decide +kernel

theorem test_hyps_clause_refused :
    let k : Clause := ⟨0x02, hdr, [1]⟩
    refusal k.head (k.opened live) (workOf k.verb k.args .nothing) (k.ticket live) live.tick (k.counted live) = some 0x13 := by
  decide +kernel

/-- A header with LANE_HINT set (Table 03.5). -/
def hinted : Hdr := ⟨.a, 2, 7, .openClause⟩

theorem test_hyps_clause_proceeds : hdrHint hinted = true ∧
    (∀ h ∈ [hdr, hinted],
      let k : Clause := ⟨0x01, h, [1]⟩
      let w := workOf k.verb k.args .nothing
      k.clear (w.need (k.counted live)) live = true ∧ w.check (k.ticket live) (k.counted live) = {} ∧
        booksAir k.verb k.args = false) ∧
    (let k : Clause := ⟨0x68, hdr, [1, 0, 0, 0]⟩
      let w := workOf k.verb k.args (.test noFault)
      k.clear (w.need (k.counted live)) live = true ∧ w.check (k.ticket live) (k.counted live) = {}) := by decide +kernel

theorem test_hyps_work_waits : live.awake = true := by decide

theorem test_hyps_clause_not_ready : (State.reset.port .a).arrival = .notReady := by decide +kernel

theorem test_hyps_clause_overrun : ((live.onPort .a fun q => { q with credits := 0 }).port .a).arrival = .overrun ∧
    hdrArgLen hdr (zeros 240) ≤ 240 := by decide +kernel

theorem test_hyps_clause_too_long : (live.port .a).arrival ≠ .notReady ∧ 240 < hdrArgLen hdr (zeros 241) := by decide +kernel

theorem test_hyps_sealed_clause : (⟨1, sealedHdr 1 [], []⟩ : Clause).opened (paired live) = .opened 9 sess :=
  sealedHdr_opens 1 [] live

/-- An ECHO frame of no arguments, after its marker. -/
def echoFrame : Bytes := ((⟨1, hdr, []⟩ : Clause).wire live).drop 1

theorem test_hyps_write_placed : (live.port .a).ready = true ∧ (live.port .a).spiReset = false ∧
    6 ≤ (0xC1#8 :: echoFrame).length ∧ 10 + oct (0xC1#8 :: echoFrame) 5 ≤ (0xC1#8 :: echoFrame).length ∧
    Crypto.crc32cBytes ((0xC1#8 :: echoFrame).take 6) = slice (0xC1#8 :: echoFrame) 6 4 ∧
    (live.port .a).credits ≠ 0 ∧ (live.port .a).boundStores < 12 := by decide +kernel

theorem test_hyps_write_discarded : 10 + oct (0xC1#8 :: zeros 8) 5 > (0xC1#8 :: zeros 8).length ∧
    10 + oct (0xC1#8 :: zeros 9) 5 ≤ (0xC1#8 :: zeros 9).length ∧
    Crypto.crc32cBytes ((0xC1#8 :: zeros 9).take 6) ≠ slice (0xC1#8 :: zeros 9) 6 4 := by decide +kernel

/-- A port with a SPORE_NEEDED notice and an admitted clause's reply unread. -/
def readable : Port := { openPort with
  spores := [⟨3, 0, [1, 2]⟩], general := [⟨[4, 5], some 7, true, 0⟩, ⟨[6], none, false, 0⟩]
  outstanding := [{ seq := 7, verb := 1, admitted := true, answered := true }] }

theorem test_hyps_reads : readable.spiReset = false ∧ readable.spores = ⟨3, 0, [1, 2]⟩ :: [] ∧
    (1 : Nat) + ([1, 2] : Bytes).length ≤ 3 ∧ readable.nextReply = some [1, 2] ∧ openPort.nextReply = none := by decide +kernel

theorem test_hyps_read_general : ({ readable with spores := [] } : Port).general = ⟨[4, 5], some 7, true, 0⟩ :: [⟨[6], none, false, 0⟩] ∧
    ({ readable with spores := [], general := [⟨[6], none, false, 0⟩] } : Port).general.head? = some ⟨[6], none, false, 0⟩ := by
  decide +kernel

theorem test_hyps_spi_reset : ((live.setPort .a { openPort with spiReset := true }).port .a).spiReset = true := by decide +kernel

theorem test_hyps_frame : faultFree (.echo hdr [1]) = true ∧ (⟨1, hdr, [1]⟩ : Clause).wellSealed = true := by decide +kernel

theorem test_hyps_services : (⟨1, hdr, []⟩ : Clause).clear { lane := 4 } live = true ∧
    (⟨2, hdr, []⟩ : Clause).clear { lane := 6 } live = true ∧ (⟨3, hdr, []⟩ : Clause).clear { lane := 4 } live = true ∧
    (⟨9, hdr, []⟩ : Clause).clear { lane := 6 } live = true := by decide +kernel

theorem test_hyps_clock_set : (⟨4, hdr, leN 8 300000⟩ : Clause).clear { lane := 20, nvm := 2, deadline := 8 } live = true ∧
    (leN 8 300000).length = 8 ∧ live.utcFree = true ∧
    ((num (leN 8 300000) 0 8 : Nat) : Int) - (live.utcNow : Int) = 300000 ∧ clockStepLimit live.thal.cur * 1000 = 300000 := by
  decide +kernel

/-- A second CLOCK_SET beyond the limit of the factory thallus, 300 s (R84). -/
theorem test_hyps_clock_refused : let s : State := { live with utcFree := false }
    (⟨4, hdr, leN 8 300001⟩ : Clause).clear { lane := 20, nvm := 2, deadline := 8 } s = true ∧ (leN 8 300001).length = 8 ∧
    s.clockAhead.utcFree = false ∧ clockStepLimit s.thal.cur * 1000 < (((num (leN 8 300001) 0 8 : Nat) : Int) -
      (s.clockAhead.utcNow : Int)).natAbs ∧ s.acts = [] ∧ s.work = [] := by decide +kernel

/-- A sealed clause that finds every core out of service (R292). -/
theorem test_hyps_opening_lost :
    let k : Clause := ⟨1, ⟨.a, 0, 7, .sealed 9 0⟩, []⟩
    let s : State := { live with cipher := { live.cipher with aesLost := [.next] } }
    k.latched s = true ∧ k.duplicate (k.held s) = false ∧ (k.held s).openingLost k.head = true := by decide +kernel

/-- ECHO returns its arguments (R81). -/
theorem test_echo : (match exec (.echo hdr [1, 2]) live with
    | .next t => t.portA.stagedReplies.map fun r => (r.status, r.results)
    | _ => []) = [(0, [1, 2])] := by decide +kernel

/-- A second clause with an outstanding SEQ is refused with REFUSED_STATE, 0x11 (R65). -/
theorem test_duplicate : (match exec (.echo hdr [1]) busy with
    | .next t => t.portA.stagedReplies.map fun r => (r.status, r.duplicate)
    | _ => []) = [(0x11, true)] := by decide +kernel

/-! ### A spore that opens, without an evaluation of its key (R279) -/

/-- Exclusive or of bytes with themselves. -/
theorem xor_self (b : Bytes) : xorBytes b b = zeros b.length := by
  induction b with
  | nil => rfl
  | cons x r ih =>
    have h : x ^^^ x = 0#8 := BitVec.xor_self
    exact (congrArg (· :: xorBytes r r) h).trans (congrArg (0#8 :: ·) ih)

/-- The first bytes of a spore of domain 0 at NGEN 0, its IV zero. -/
def sporeHead (kind usage : Byte) (binding : Bytes) : Bytes := [1, kind, 0, usage] ++ zeros 8 ++ binding ++ zeros 12

/-- The key that enciphers it on `live`. -/
def sporeUnder (hd : Bytes) : Bytes :=
  Crypto.kdf (live.ks.pathKey 5 0 0 0 0 0 (zeros 16)) (Crypto.ascii "OTR9716-SPOREKEY") hd 256 2

/-- A block of its keystream. -/
def streamBlock (hd : Bytes) (i : Nat) : Bytes := padTo 16 (Crypto.aesEnc (sporeUnder hd) (zeros 12 ++ beN 4 (2 + i)))

/-- The ciphertext of sixteen zero bytes, tick 0 (Table 11.4). -/
def sporeText (hd : Bytes) : Bytes := streamBlock hd 0 ++ (streamBlock hd 1 ++ streamBlock hd 2)

/-- Its tag. -/
def sporeTag (hd : Bytes) : Bytes := Crypto.gcmTag (sporeUnder hd) (zeros 12) hd (sporeText hd)

/-- The spore. -/
def spore (hd : Bytes) : Bytes := hd ++ (sporeText hd ++ sporeTag hd)

theorem length_streamBlock (hd : Bytes) (i : Nat) : (streamBlock hd i).length = 16 := by
  simp only [streamBlock, padTo, List.length_append, List.length_take, List.length_replicate]
  omega

theorem length_sporeUnder (hd : Bytes) : (sporeUnder hd).length = 32 :=
  length_kdf _ _ _ _ _ (.inr (length_kdf _ _ _ _ _ (.inr (length_kdf _ _ _ _ _ (.inr (length_kdf _ _ _ _ _ (.inr rfl)))))))

theorem blocks_cons (n : Nat) (a b : Bytes) (h : a.length = 16) :
    Crypto.blocksAux (n + 1) (a ++ b) = a :: Crypto.blocksAux n b := by
  match a, h with
  | x :: r, h =>
    simp only [List.cons_append, Crypto.blocksAux]
    rw [← List.cons_append, List.take_left' h, List.drop_left' h]

/-- Deciphering the keystream gives zero bytes. -/
theorem stream_opens (hd : Bytes) : Crypto.gcmCrypt (sporeUnder hd) (zeros 12) (sporeText hd) = zeros 48 := by
  have hl := length_streamBlock hd
  have hb : Crypto.blocks (sporeText hd) = [streamBlock hd 0, streamBlock hd 1, streamBlock hd 2] := by
    have h3 : (sporeText hd).length / 16 + 1 = 3 + 1 := by simp only [sporeText, List.length_append, hl]
    rw [Crypto.blocks, h3, sporeText, blocks_cons _ _ _ (hl 0), blocks_cons _ _ _ (hl 1)]
    have h := blocks_cons 1 (streamBlock hd 2) [] (hl 2)
    rw [List.append_nil] at h
    rw [h]
    rfl
  have hx : ∀ i, xorBytes (streamBlock hd i) (padTo 16 (Crypto.aesEnc (sporeUnder hd) (zeros 12 ++ beN 4 (2 + i)))) =
      zeros 16 := fun i => (xor_self (streamBlock hd i)).trans (by rw [hl])
  rw [Crypto.gcmCrypt, Crypto.ctr32, hb]
  simp only [List.zipIdx_cons, List.zipIdx_nil, List.map_cons, List.map_nil, hx]
  rfl

theorem length_sporeText (hd : Bytes) : (sporeText hd).length = 48 := by
  simp only [sporeText, List.length_append, length_streamBlock]

theorem length_sporeTag (hd : Bytes) : (sporeTag hd).length = 16 := length_gcmTag _ _ _ _ (.inr (length_sporeUnder hd))

theorem length_spore (hd : Bytes) (h : hd.length = 32) : (spore hd).length = 96 := by
  simp only [spore, List.length_append, length_sporeText, length_sporeTag, h]

/-- It opens to its key. -/
theorem spore_opens (kind usage : Byte) (binding : Bytes) (hb : binding.length = 8) (hk : keyLength kind.toNat = 16) :
    live.ks.unwrap (spore (sporeHead kind usage binding)) = .key (zeros 16) := by
  have hh : (sporeHead kind usage binding).length = 32 := by simp [sporeHead, hb]
  have h1 : (spore (sporeHead kind usage binding)).take 32 = sporeHead kind usage binding := List.take_left' hh
  have h2 : (spore (sporeHead kind usage binding)).drop 32 =
    sporeText (sporeHead kind usage binding) ++ sporeTag (sporeHead kind usage binding) := List.drop_left' hh
  have h3 : slice (spore (sporeHead kind usage binding)) 32 48 = sporeText (sporeHead kind usage binding) := by
    rw [slice, h2, List.take_left' (length_sporeText _)]
  have h4 : slice (spore (sporeHead kind usage binding)) 80 16 = sporeTag (sporeHead kind usage binding) := by
    rw [slice, show (80 : Nat) = 32 + 48 from rfl, ← List.drop_drop, h2, List.drop_left' (length_sporeText _),
      List.take_of_length_le (Nat.le_of_eq (length_sporeTag _))]
  have h5 : slice (spore (sporeHead kind usage binding)) 20 12 = zeros 12 := by
    have h : (spore (sporeHead kind usage binding)).drop 20 =
        zeros 12 ++ (sporeText (sporeHead kind usage binding) ++ sporeTag (sporeHead kind usage binding)) := by
      rw [spore]
      generalize sporeText (sporeHead kind usage binding) ++ sporeTag (sporeHead kind usage binding) = r
      rw [sporeHead, List.append_assoc, List.drop_left' (by simp [hb])]
    rw [slice, h, List.take_left' (by simp)]
  have n : ∀ a, a + 2 ≤ 10 → 4 ≤ a → num (spore (sporeHead kind usage binding)) a 2 = 0 := by
    intro a h h'
    obtain rfl | rfl | rfl | rfl | rfl : a = 4 ∨ a = 5 ∨ a = 6 ∨ a = 7 ∨ a = 8 := by omega
    all_goals rfl
  have o1 : oct (spore (sporeHead kind usage binding)) 1 = kind.toNat := rfl
  have o2 : oct (spore (sporeHead kind usage binding)) 2 = 0 := rfl
  have g1 : live.ks.ngen 1 5 0 0 = 0 := by decide +kernel
  have g2 : live.ks.ngen 2 5 0 0 = 0 := by decide +kernel
  have g3 : live.ks.ngen 3 5 0 0 = 0 := by decide +kernel
  have hs : Crypto.kdf (live.ks.pathKey 5 0 0 0 0 0 (zeros 16)) (Crypto.ascii "OTR9716-SPOREKEY")
    (sporeHead kind usage binding) 256 2 = sporeUnder (sporeHead kind usage binding) := rfl
  have ht : Crypto.gcmTag (sporeUnder (sporeHead kind usage binding)) (zeros 12) (sporeHead kind usage binding)
    (sporeText (sporeHead kind usage binding)) = sporeTag (sporeHead kind usage binding) := rfl
  unfold KeyStore.unwrap
  simp only [n 4, n 6, n 8, o1, o2, g1, g2, g3, h1, h3, h4, h5, hs, ht, stream_opens, hk, Nat.le_refl, Nat.reduceAdd,
    Nat.reduceLeDiff, bne_self_eq_false, Bool.false_eq_true, if_false]
  rfl

/-- It passes test 1 of R280 when its kind and use do. -/
theorem spore_passes (kind usage : Byte) (binding : Bytes) (hb : binding.length = 8) (hk : inRange 1 4 kind.toNat = true)
    (hu : (if kind.toNat ≤ 2 then usage.toNat != 0 else (usage.toNat == 0 || 7 < usage.toNat)) = false) :
    sporeBad (spore (sporeHead kind usage binding)) = false := by
  have hl : (spore (sporeHead kind usage binding)).length = 96 := length_spore _ (by simp [sporeHead, hb])
  have o0 : oct (spore (sporeHead kind usage binding)) 0 = 1 := rfl
  have o1 : oct (spore (sporeHead kind usage binding)) 1 = kind.toNat := rfl
  have o2 : oct (spore (sporeHead kind usage binding)) 2 = 0 := rfl
  have o3 : oct (spore (sporeHead kind usage binding)) 3 = usage.toNat := rfl
  have z : zero (spore (sporeHead kind usage binding)) 10 2 = true := rfl
  simp only [sporeBad, hl, o0, o1, o2, o3, z, hk, hu]
  rfl

/-- An open clause's checks look at its arguments only for their length. -/
theorem clear_args (verb : Nat) (a b : Bytes) (n : Need) (s : State) (h : a.length = b.length) :
    (⟨verb, hdr, a⟩ : Clause).clear n s = (⟨verb, hdr, b⟩ : Clause).clear n s := by
  have hl : (⟨verb, hdr, a⟩ : Clause).latched s = (⟨verb, hdr, b⟩ : Clause).latched s := by
    simp only [Clause.latched, hdrArgLen, hdr, h]
    rfl
  simp only [Clause.clear, hl]
  rfl

/-! ### Banks -/

theorem test_hyps_config_stage : (⟨0x10, hdr, 0 :: zeros 3⟩ : Clause).clear { lane := 40, deadline := 8 } live = true ∧
    (⟨0x10, hdr, [1, 0, 0xE7, 0x09, 0xAA]⟩ : Clause).clear { lane := 40, deadline := 8 } live = true ∧
    0x40 ≤ num [0#8, 0xE7, 0x09, 0xAA] 1 2 ∧ num [0#8, 0xE7, 0x09, 0xAA] 1 2 + 1 = 0x9E8 ∧
    (⟨0x10, hdr, 2 :: zeros 3⟩ : Clause).clear { lane := 40, deadline := 8 } live = true := by decide +kernel

/-- A small valid configuration: the default limits, standby and host records, nothing fitted (R92, Tables 04.6, 07.9). -/
def smallConfig : Mem := ((Mem.writeBytes [] 0x988 [0x70, 0x17, 2, 40, 0x00, 0x01, 20, 0]).writeBytes 0x9D0
  ([16, 0x80] ++ leN 2 11600 ++ leN 2 10800)).writeBytes 0x9D8 (leN 2 0x807C ++ leN 2 0x807C ++ leN 2 30)

/-- `live` with that configuration staged. -/
def configStaged : State := { live with cfg := { live.cfg with stage := some smallConfig } }

theorem test_hyps_config_commit :
    (⟨0x11, hdr, zeros 8⟩ : Clause).clear { lane := 2000, nvm := 144, deadline := 256 } configStaged = true ∧
    num (zeros 8) 0 4 = configStaged.cfg.seq ∧ configOk smallConfig = true ∧ configStaged.prot.atlasBegun = false ∧
    configStaged.thal.cur.zeroAt 0x68 32 = true ∧ configStaged.verbUnpublished 0x11 = false ∧
    configStaged.cipher.hashExhausted = false := by decide +kernel

theorem test_hyps_config_read :
    (⟨0x12, hdr, [0, 0, 0x38, 0xFF, 200, 0, 0, 0]⟩ : Clause).clear { lane := 30, deadline := 8 } live = true ∧
    num [0#8, 0, 0x38, 0xFF, 200, 0, 0, 0] 2 2 + 200 = 65536 ∧ 64 ≤ 65336 := by decide +kernel

/-- An atlas header of one point (Table 07.3): COUNT 1, MIN_ELEMS 2, MATCH_MAX 0x0010. -/
def atlasHeader : Bytes := zeros 12 ++ [1, 0, 0, 2, 0x10, 0] ++ zeros 14

/-- `live` with that header staged. -/
def atlasStaged : State := { live with
  cfg := { live.cfg with stage := some (Mem.writeBytes [] 0x1000 atlasHeader) }
  prot := { live.prot with atlasBegun := true } }

theorem test_hyps_atlas_load : (zeros 3 ++ atlasHeader).length = 35 ∧ atlasHeaderOk atlasHeader = true ∧
    (⟨0x24, hdr, 0 :: (zeros 3 ++ atlasHeader)⟩ : Clause).clear { lane := 60, deadline := 8 } live = true ∧
    ([0#8, 1, 0] ++ zeros 68).length = 3 + 68 * 1 ∧ atlasPointOk (zeros 68) = true ∧
    atlasCount (atlasStaged.cfg.stage.getD []) = 0 + 1 ∧
    (⟨0x24, hdr, 1 :: ([0#8, 1, 0] ++ zeros 68)⟩ : Clause).clear { lane := 60, deadline := 8 } atlasStaged = true := by
  decide +kernel

/-- A keeper with the base point of P-256 and an authority with its opposite, in the factory thallus (Table 14.4). -/
def twoParties : Mem :=
  (factoryThallus.writeBytes 0x1D0 ([1, 1] ++ zeros 6 ++ [0xd8, 0x75, 0xdb, 0x7d, 0xef, 0x23, 0x22, 0x36] ++
    beN 32 Crypto.p256.gx ++ zeros 16 ++ beN 32 Crypto.p256.gy)).writeBytes 0x240 ([2, 1] ++ zeros 6 ++
    [0xc0, 0xb0, 0xac, 0x37, 0xdb, 0xb4, 0x27, 0xc4] ++ beN 32 Crypto.p256.gx ++ zeros 16 ++
    beN 32 (Crypto.p256.p - Crypto.p256.gy))

/-- `live` with that thallus staged and both parties' endorsements noted. -/
def thallusStaged : State := { live with
  thal := { live.thal with stage := some twoParties }, prot := { live.prot with endorsed := [0, 1], window := some 0 } }

theorem test_hyps_thallus_stage : (⟨0x14, hdr, 0 :: zeros 3⟩ : Clause).clear { lane := 40, deadline := 8 } live = true ∧
    (⟨0x14, hdr, [1, 0, 0x8F, 0x03, 0xAA]⟩ : Clause).clear { lane := 40, deadline := 8 } thallusStaged = true ∧
    num [0#8, 0x8F, 0x03, 0xAA] 1 2 + 1 = 0x390 ∧
    (⟨0x14, hdr, 2 :: zeros 3⟩ : Clause).clear { lane := 40, deadline := 8 } thallusStaged = true := by decide +kernel

theorem test_hyps_thallus_ok : thallusOk twoParties = true := by decide +kernel

theorem test_hyps_thallus_commit :
    (⟨0x16, hdr, zeros 8⟩ : Clause).clear { lane := 1200, nvm := 32, deadline := 256 } thallusStaged = true ∧
    thallusStaged.prot.personalised = true ∧ num (zeros 8) 0 4 = thallusStaged.thal.seq ∧
    thallusStaged.prot.endorsed.length = 2 ∧ thallusStaged.verbUnpublished 0x16 = false ∧
    thallusStaged.cipher.hashExhausted = false := by decide +kernel

/-- An unpersonalised device with the stage of its first THALLUS_COMMIT. -/
def firstStaged : State := { factory with thal := { factory.thal with stage := some twoParties } }

theorem test_hyps_personalise :
    (⟨0x16, hdr, zeros 8⟩ : Clause).clear { lane := 1200, nvm := 32, deadline := 256 } firstStaged = true ∧
    firstStaged.prot.personalised = false ∧ firstStaged.seeded = true ∧ firstStaged.rng.credit ≠ 0 ∧
    firstStaged.verbUnpublished 0x16 = false := by decide +kernel

/-- A held personalisation reset whose reply is unread is due at its last tick (R342). -/
theorem test_personalisation_reset : (match exec .personalisationReset
      { live with power := { live.power with resetDue := some (3, 1000) } } with
    | .next t => (t.power.life, t.power.nextCause)
    | _ => (.awake, 0)) = (.starting, 3) := by decide +kernel

theorem test_hyps_window : ({ thallusStaged with tick := 2343750 } : State).prot.window = some 0 ∧
    (0 : Nat) + 2343750 ≤ ({ thallusStaged with tick := 2343750 } : State).tick ∧
    thallusStaged.tick < 0 + 2343750 ∧ thallusStaged.verbUnpublished 0x16 = false := by decide +kernel

/-- `live` with one configuration bank valid. -/
def fallBack : State := { live with cfg := { live.cfg with bank0 := { cond := .valid } } }

theorem test_hyps_banks : (fallBack.banks .configuration).bank0.cond = .valid ∧ fallBack.awake = true ∧
    (fallBack.banks .configuration).bank1.cond ≠ .valid ∧ (live.banks .thallus).fallback = false ∧
    (({ live with cfg := { live.cfg with bank1 := { cond := .valid } } } : State).banks .configuration).bank0.cond ≠ .valid ∧
    (({ live with cfg := { live.cfg with bank1 := { cond := .valid } } } : State).banks .configuration).bank1.cond = .valid ∧
    ({ live with cfg := { live.cfg with bank0 := { cond := .valid }, bank1 := { cond := .valid } } } : State).cfg.bank1.cond =
      .valid := by decide +kernel


/-- `live` with both banks of the configuration valid by their record, but nothing written in them. -/
def worn : State := { live with cfg := { live.cfg with bank0 := { cond := .valid }, bank1 := { cond := .valid } } }

theorem test_hyps_banks_idle : fallBack.writerIdle = true ∧ live.cfg.fallback = false ∧ live.thal.fallback = false ∧
    ({ live with power := {} } : State).awake = false := by decide +kernel

theorem test_hyps_patrol : worn.awake = true ∧ worn.maintIdle = true ∧ worn.writerIdle = true ∧
    (worn.banks .thallus).fallback = false ∧ (worn.banks .configuration).bank1.cond = .valid ∧
    ((worn.banks .configuration).bank0.tested .configuration (worn.waterOf .configuration) []).cond = .badHeader ∧
    ((worn.banks .configuration).bank0.tested .configuration (worn.waterOf .configuration) []).noted = false := by
  decide +kernel

/-- A bank whose bytes are no bank's is not valid (R331, R332). -/
theorem test_bank_tested : (Bank.tested .thallus 0 [(0, 0x4F)] {}).cond = .badHeader := by decide +kernel

/-! ### The air calendar -/

/-- One aerial in zone 0, driven by DV0, and trigger entry 0 on that zone with K = 2 and WAKE (Tables 04.2 to 04.5, 07.8). -/
def zoneConfig : Mem :=
  ((((smallConfig.writeBytes 0x40 [0x80, 0, 0xFF, 0x03, 0, 2]).writeBytes 0x140 [0, 0, 0, 0x81]).writeBytes 0x940
    [1, 0, 0x80, 0]).writeBytes 0x998 [0xA0, 1, 2]).writeBytes 0x98F [0]

/-- `live` with that configuration. -/
def zoned : State := { live with cfg := { live.cfg with cur := zoneConfig } }

/-- A walk that LE0 carries out on zone 0, its booking over at tick 1100. -/
def walk : Booking :=
  { id := 0, engine := 0, zones := [0], first := 990, closing := 1100, kind := .authenticate, current := 0, estimate := 0
    ticket := some ⟨.a, 7, 0x29, none, 0⟩, trigger := 0, phase := .running, keyLimit := 2, purpose := 3, copied := zoneConfig }

/-- `zoned` with some bookings. -/
def airing (l : List Booking) : State := { zoned with orderNo := 9, field := { zoned.field with bookings := l } }

theorem test_hyps_place : zoned.placeLink (askInventory [0, 2, 0xFF, 0, 0, 0, 0, 0] zoned) = some (0, 1001) := by decide +kernel

/-- A second exchange on the zone of a running one waits for its end (R44). -/
theorem test_place_waits : (airing [{ walk with closing := 1010 }]).placeLink
    (askInventory [0, 2, 0xFF, 0, 0, 0, 0, 0] zoned) = some (0, 1011) := by decide +kernel

theorem test_hyps_walks : zoneEnabled zoned.cfg.cur 0 = true ∧ zoned.dvBad 0 0xFF = false ∧ zoned.zoneDead 0 = false ∧
    zoned.lfDead = false ∧ zoned.devLockRefuses = false ∧
    (askInventory [0, 2, 0xFF, 1, 0, 0, 0, 0] zoned).tooLong = false ∧
    (askAuthenticate [0, 2, 0xFF, 3, 1, 0, 0, 0] zoned).tooLong = false ∧
    (askLocate [0, 2, 0xFF, 0, 0, 0, 0, 0] zoned).tooLong = false := by decide +kernel

theorem test_hyps_inventory : (⟨0x28, hdr, [0, 2, 0xFF, 1, 0, 0, 0, 0]⟩ : Clause).clear
    (linkNeed 0x28 (askInventory [0, 2, 0xFF, 1, 0, 0, 0, 0]) zoned) zoned = true ∧
    (linkNeed 0x28 (askInventory [0, 2, 0xFF, 1, 0, 0, 0, 0]) zoned).lane = 60 := by decide +kernel

theorem test_hyps_authenticate : (⟨0x29, hdr, [0, 2, 0xFF, 3, 1, 0, 0, 0]⟩ : Clause).clear
    (linkNeed 0x29 (askAuthenticate [0, 2, 0xFF, 3, 1, 0, 0, 0]) zoned) zoned = true ∧
    (linkNeed 0x29 (askAuthenticate [0, 2, 0xFF, 3, 1, 0, 0, 0]) zoned).lane = 80 ∧
    zoned.placeLink (askAuthenticate [0, 2, 0xFF, 3, 1, 0, 0, 0] zoned) = some (0, 1001) := by decide +kernel

theorem test_hyps_locate : (⟨0x2A, hdr, [0, 2, 0xFF, 0, 0, 0, 0, 0]⟩ : Clause).clear
    (linkNeed 0x2A (askLocate [0, 2, 0xFF, 0, 0, 0, 0, 0]) zoned) zoned = true ∧
    (linkNeed 0x2A (askLocate [0, 2, 0xFF, 0, 0, 0, 0, 0]) zoned).lane = 100 ∧
    zoned.placeLink (askLocate [0, 2, 0xFF, 0, 0, 0, 0, 0] zoned) = some (0, 1001) := by decide +kernel

theorem test_hyps_field_vector : (zoneAerials zoned.cfg.cur 0).testBit 0 = true ∧
    (⟨0x22, hdr, [0, 1, 0, 0xFF, 3, 0, 0, 0]⟩ : Clause).clear
      (linkNeed 0x22 (askFieldVector [0, 1, 0, 0xFF, 3, 0, 0, 0]) zoned) zoned = true ∧
    num [0#8, 1, 0, 0xFF, 3, 0, 0, 0] 3 2 = 1023 ∧
    zoned.placeLink (askFieldVector [0, 1, 0, 0xFF, 3, 0, 0, 0] zoned) = some (0, 1001) := by decide +kernel

/-- K = 1 with four aerials takes 56,400 cc (R166); K = 3 exceeds R48. -/
theorem test_air_time : exchangeAir 1 4 false false = 56400 ∧ (askAuthenticate [0, 3, 0xFF, 3, 0, 0, 0, 0] zoned).tooLong = true := by
  decide +kernel

theorem test_hyps_aerial_cal : (∀ i ∈ bitsIn 16 (num [1#8, 0, 7, 0, 0, 1] 0 2), aeEnabled zoned.cfg.cur i = true) ∧
    zoned.placeCal 1 = some (0, 1001) ∧
    (⟨0x23, hdr, [1, 0, 7, 0, 0, 1]⟩ : Clause).clear { maint := 30000, deadline := 4096 } zoned = true := by decide +kernel

theorem test_hyps_poll_start : (⟨0x20, hdr, [0, 1, 64, 0, 0, 0, 0, 0]⟩ : Clause).clear { lane := 40, deadline := 8 } zoned = true ∧
    (∀ z ∈ bitsIn 8 (oct [0#8, 1] 1), (trigZones zoned.cfg.cur 0).testBit z = true) ∧ trigEn zoned.cfg.cur 0 = true ∧
    num [0#8, 1, 64, 0, 0, 0, 0, 0] 2 2 = 64 := by decide +kernel

/-- `zoned` with a schedule of entry 0 that falls due at tick 1000. -/
def scheduled : State := { zoned with field := { zoned.field with schedules := [⟨.a, 0, 1, 64, 1000, false⟩] } }

theorem test_hyps_repetition : (scheduled.field.schedules.find? fun x => x.index == 0) = some ⟨.a, 0, 1, 64, 1000, false⟩ ∧
    scheduled.awake = true ∧ (1000 : Nat) ≤ scheduled.tick ∧ scheduled.pollsDiscarded = false ∧ scheduled.mayPoll = true ∧
    ({ scheduled with tick := 999 } : State).tick < 1000 ∧ ({ scheduled with rng := {} } : State).mayPoll = false ∧ (⟨.a, 0, 1, 64, 1000, true⟩ : Schedule).held = true ∧
    ({ scheduled with tamper := { scheduled.tamper with hold := true } } : State).pollsDiscarded = true := by decide +kernel

theorem test_hyps_poll_stop : (⟨0x21, hdr, [0xFF, 0, 0, 0]⟩ : Clause).clear { lane := 20, deadline := 8 } scheduled = true ∧
    oct [0xFF#8, 0, 0, 0] 0 = 0xFF := by decide +kernel

theorem test_hyps_air_proceeds :
    let k : Clause := ⟨0x22, hdr, [0, 1, 0, 0xFF, 3, 0, 0, 0]⟩
    let w := workOf k.verb k.args .nothing
    booksAir k.verb k.args = true ∧ k.clear (w.need (k.counted zoned)) zoned = true ∧
      w.check (k.ticket zoned) (k.counted zoned) = {} := by decide +kernel

/-! ### Exchanges on air -/

theorem test_hyps_booking_start : (airing [{ walk with phase := .booked }]).dueBooking 0 = some { walk with phase := .booked } ∧
    (airing []).power.life = .awake ∧ (airing []).arbitrationTick = false ∧
    (airing [{ walk with phase := .booked }]).current 0 = none ∧ (airing []).lfDead = false ∧ walk.reader = none ∧
    (airing []).zoneDead 0 = false ∧ (airing []).dueBooking 0 = none := by decide +kernel

/-- The start drives AE0 at the amplitude of DV0 (R90). -/
theorem test_booking_start : (match exec (.bookingStart 0) (airing [{ walk with phase := .booked }]) with
    | .next t => (t.field.bookings.map fun b => (b.phase, b.todo), t.field.ch.map Channel.driven)
    | _ => ([], [])) = ([(.lead, [.wake (vehicleGroup zoneConfig), .inventoryBegin 0])], true :: List.replicate 15 false) := by
  decide +kernel

/-- AE0 driven by `walk`. -/
def driving (b : Booking) (c : Channel) : State :=
  let s := airing [{ b with drive := [(0, 1023, 0)] }]
  { s with field := { s.field with ch := s.field.ch.set 0 { c with driven := true, target := 1023 * 2 ^ 24 } } }

theorem test_hyps_gain : (airing [{ walk with phase := .lead }]).current 0 = some { walk with phase := .lead } ∧
    (airing []).inService 0 = true ∧ (airing []).field.ch[0]? = some ({} : Channel) ∧ (airing []).current 0 = none ∧
    rxGainMode zoneConfig = 0 ∧ rxGainMode (zoneConfig.write 0x98F 2) = 2 ∧ aeTrimPinned zoneConfig 0 = false ∧
    ({ walk with phase := .lead } : Booking).settles 1000 = true ∧ walk.settles 1000 = false ∧
    (airing [{ walk with phase := .lead }]).settling { walk with phase := .lead } 0 = true ∧
    ({ walk with gains := [(0, 2)] } : Booking).gainOf 0 = some 2 ∧ walk.gainOf 0 = none := by decide +kernel

/-- The trim of AE0 in a lead is minus the phase error, clamped to 32 steps (R101). -/
theorem test_trim : (match exec (.gainAndTrimSet 0 [{ channel := 0, inputPermille := 100, phaseError := 40 }])
      (driving { walk with phase := .lead, copied := zoneConfig } {}) with
    | .next t => (t.field.ch.head?.map fun c => (c.gain, c.trim))
    | _ => none) = some (1, -32) := by decide +kernel

theorem test_hyps_loop : (driving walk {}).awake = true ∧
    (driving walk {}).field.ch[0]? = some { driven := true, target := 1023 * 2 ^ 24 } ∧
    (driving walk {}).field.bookings = [{ walk with drive := [(0, 1023, 0)] }] ∧
    ({ walk with drive := [(0, 1023, 0)] } : Booking).adjusts 1000 = true ∧
    ({ walk with drive := [(0, 1023, 0)], await := .response } : Booking).adjusts 1000 = false := by decide +kernel

theorem test_hyps_faulty : (driving { walk with phase := .lead } { angle := 128 }).current 0 =
      some { walk with phase := .lead, drive := [(0, 1023, 0)] } ∧
    (driving { walk with phase := .lead } { angle := 128 }).field.ch[0]? =
      some { angle := 128, driven := true, target := 1023 * 2 ^ 24 } ∧
    (driving { walk with phase := .lead } { angle := 128 }).oos 0 = false ∧ 4 * (255 * 2 ^ 24) < 1023 * 2 ^ 24 ∧
    1023 * 2 ^ 24 ≤ 4 * (256 * 2 ^ 24) := by decide +kernel

theorem test_hyps_frames : (airing [walk]).current 0 = some walk ∧ walk.await = .nothing ∧
    ({ walk with todo := [.quiet false, .inventoryBegin 0] } : Booking).todo = .quiet false :: [.inventoryBegin 0] := by decide +kernel

/-- A lanes' frame waits for its tick to be published (R35, R144). -/
theorem test_hyps_frames_wait : ({ walk with todo := [.confirm []], planned := some 1000 } : Booking).byHardware (.confirm []) =
      false ∧ (airing []).tick = 1000 ∧ walk.byHardware (.treeBit 3 true) = true ∧
    ({ walk with todo := [.sound 0], aerials := [0] } : Booking).todo = .sound 0 :: [] := by decide +kernel

/-- A cell as a receiver takes it in: the energy of its halves by class (R124). -/
def cellOf : CellClass → RxCell
  | .one => { first := (1000, 0), second := (0, 0) }
  | .zero => { first := (0, 0), second := (1000, 0) }
  | .collided => { first := (1000, 0), second := (1000, 0) }
  | .void => { first := (0, 0), second := (0, 0) }

/-- Bits as cells. -/
def cellsOf (l : List Bool) : List CellClass := l.map fun v => if v then .one else .zero

/-- A reply that AE0 takes in: the preamble and some cells (R123). -/
def heardOn (l : List CellClass) : Uplink := [some { cells := (cellsOf preamble ++ l).map cellOf }]

/-- A valid reply of a key: its bits and their CRC, with the key's identifier before them (R126). -/
def repliedBy (ident : Nat) (x : List Bool) : Uplink := heardOn (cellsOf (x ++ crcBits (airBits 64 ident) x))

theorem test_hyps_acquire : (airing [walk]).acquire walk (heardOn [.one, .collided]) = some (cellsOf [true] ++ .collided :: []) ∧
    (airing [walk]).acquire walk (heardOn []) = some [] ∧ (airing [walk]).acquire walk [] = none ∧
    (airing [walk]).acquire walk (heardOn [.void]) = some (cellsOf [] ++ .void :: []) ∧
    (airing [walk]).acquire walk (heardOn (cellsOf [true, false, true])) = some (cellsOf [true, false, true] ++ []) := by
  decide +kernel

theorem test_hyps_walk_steps : (airing [{ walk with await := .stream 61 (List.replicate 61 false) }]).current 0 =
      some { walk with await := .stream 61 (List.replicate 61 false) } ∧
    64 ≤ 61 + [true, false, true].length ∧ 61 + ([] : List Bool).length < 64 := by decide +kernel

/-- A collision at bit 62 needs no stop gap (R132). -/
theorem test_collision : (match exec (.identifierStream 0 (heardOn [.one, .collided]))
      (airing [{ walk with await := .stream 61 (List.replicate 61 false) }]) with
    | .next t => (t.current 0).map Booking.todo
    | _ => none) = some [.treeBit 62 false] := by decide +kernel

/-- A directory entry of an ordinary token with the START privilege, in long form. -/
def token : Entry := { ident := 9, flags := 0x90, privileges := 1, phaseWin := 0, crownIndex := 0, phaseRef := 0, hostTag := 0
                       keyField := zeros 16 }

/-- An ordinary key that an exchange is handling. -/
def handled : CurKey := { ident := 9, lookup := .ordinary, entry := some token, slot := some 0 }

theorem test_hyps_silence : ({ walk with await := .stream 0 [] } : Booking).cur = none ∧
    (airing [{ walk with await := .stream 1 [true] }]).current 0 = some { walk with await := .stream 1 [true] } ∧
    (airing [{ walk with await := .response, cur := some handled, repeatOk := true }]).current 0 =
      some { walk with await := .response, cur := some handled, repeatOk := true } ∧
    handled.repeated = false ∧ walk.endCode = none ∧ ({ walk with stopping := some 990 } : Booking).stopping ≠ none := by decide +kernel

/-- A reader exchange of SPIA. -/
def asReader : Reader :=
  { port := .a, handle := 0, heldFrom := 1100, write := true, ident := 5, group := 0, page := 0, flags := 4, duration := 3
    spore := zeros 96, data := zeros 32 }

/-- Its booking. -/
def readerBooking : Booking := { walk with kind := .reader, ticket := none, reader := some asReader, await := .selectStatus }

theorem test_hyps_silent_select : (airing [readerBooking]).current 0 = some readerBooking ∧
    readerBooking.await = .selectStatus ∧ readerBooking.reader = some asReader ∧ asReader.write = true ∧
    ({ asReader with write := false } : Reader).write = false := by decide +kernel

/-- An exchange whose spore request ran out at tick 999. -/
def unanswered : State := { airing [{ walk with cur := some handled }] with
  ks := { live.ks with requests := [⟨9, 0, 999⟩] } }

theorem test_hyps_timeouts : unanswered.current 0 = some { walk with cur := some handled } ∧
    unanswered.ks.requests = [⟨9, 0, 999⟩] ∧ (999 : Nat) < unanswered.tick ∧ walk.ticket.isSome = true ∧
    walk.kind = .authenticate ∧ walk.records = [] ∧ walk.calWrite = none ∧ unanswered.awake = true ∧ unanswered.ks.work = [] ∧
    walk.aborted = false ∧ walk.await ≠ .verdict ∧
    ({ unanswered with tick := 999 } : State).tick ≤ 999 ∧ (airing []).current 0 = none ∧
    (airing []).awake = true ∧ (airing []).field.enginesOut.getLsbD 3 = false ∧ State.reset.awake = false := by decide +kernel

/-- The bits of the identifier 9. -/
def bitsOf9 : List Bool := List.replicate 60 false ++ [true, false, false, true]

/-- `airing` with a directory of that token. -/
def knowing (e : Entry) (b : Booking) : State := { airing [b] with dir := [(0, e)] }

theorem test_hyps_lookups : identOf bitsOf9 = 9 ∧
    (knowing token { walk with await := .lookup, bits := bitsOf9 }).lookup 9 = (.ordinary, some token) ∧
    (knowing { token with flags := 0xB0 } walk).lookup 9 = (.crown, some { token with flags := 0xB0 }) ∧
    (knowing { token with flags := 0x50 } walk).lookup 9 = (.revoked, some { token with flags := 0x50 }) ∧
    (airing [walk]).lookup 9 = (.unknown, none) ∧
    ({ knowing token walk with lock := { live.lock with devUntil := 1001 } } : State).lookup 9 = (.locked, some token) ∧
    ({ walk with kind := .inventory, await := .lookup, keyLimit := 1 } : Booking).keyLimit ≤ walk.found.length + 1 ∧
    walk.found.length + 1 < walk.keyLimit ∧ walk.hostSilent = false ∧
    (airing [{ walk with await := .lookup, kind := .inventory }]).current 0 =
      some { walk with await := .lookup, kind := .inventory } := by decide +kernel

/-- The key of an exchange of LE0. -/
def airKey : SlotKey := { kind := 1, usage := 0, origin := .node 1 0 0 0 0 0, owner := some 0, key := zeros 16, token := 9 }

/-- An exchange that awaits a response, its key in device slot 0. -/
def challenged : State := { knowing token { walk with await := .response, cur := some handled } with
  ks := { live.ks with slots := live.ks.slots.set 0 { gen := 1, content := some airKey } } }

/-- A long-form response without a sounding vector. -/
def response : Response := ⟨1, 0, [], zeros 16, none, none, []⟩

theorem test_hyps_response : challenged.current 0 = some { walk with await := .response, cur := some handled } ∧
    handled.entry = some token ∧ challenged.ks.requests = [] ∧ token.macLength = 16 ∧
    (challenged.senseReply { walk with await := .response } (heardOn [])).readResponse { walk with await := .response } 0 16
      (heardOn []) = none ∧ handled.sounded = false := by decide +kernel

/-- A valid response of the key 9, of 194 bits before its CRC (Table 05.5). -/
theorem test_hyps_response_valid :
    let b : Booking := { walk with await := .response, cur := some handled, bits := bitsOf9 }
    (((challenged.senseReply b (repliedBy 9 (List.replicate 194 false))).readResponse b 0 16
      (repliedBy 9 (List.replicate 194 false))).map fun r => (r.axis, r.keyNonce, r.mac)) = some (0, 0, zeros 16) := by
  decide +kernel

/-- The exchange as it waits for its verdict. -/
def heardKey : State := { challenged with
  field := { challenged.field with bookings := [{ walk with await := .verdict, cur := some handled }] } }

theorem test_hyps_judged : heardKey.current 0 = some { walk with await := .verdict, cur := some handled } ∧
    heardKey.cipher.loses (.mac 0) = false ∧ handled.revoked = false ∧
    heardKey.heldKey { walk with await := .verdict, cur := some handled } handled = some (zeros 16) ∧
    (heardKey.heldKey walk { handled with slot := none }) = none := by decide +kernel

/-- The response with AES-CMAC of that key over M_K (Table 06.8). -/
def goodResponse : Response := { response with mac := Crypto.cmac (zeros 16) (keyMacInput 0 handled response) }

theorem test_hyps_judged_good : (Crypto.cmac (zeros 16) (keyMacInput 0 handled goodResponse)).take token.macLength =
      goodResponse.mac := by
  have hl : goodResponse.mac.length = 16 :=
    length_cmac (zeros 16) (keyMacInput 0 handled response) (.inl rfl)
  have hm' : ∀ (r : Response) (m : Bytes), keyMacInput 0 handled { r with mac := m } = keyMacInput 0 handled r := fun _ _ => rfl
  have hi : keyMacInput 0 handled goodResponse = keyMacInput 0 handled response := hm' response _
  have hm : token.macLength = 16 := rfl
  rw [hi, hm]
  exact List.take_of_length_le (Nat.le_of_eq hl)

theorem test_hyps_release : ({ live with cell := { state := .released } } : State).cell.state = .released := by decide

theorem test_hyps_ended : (airing [{ walk with closing := 1000, endCode := some 1 }]).current 0 =
      some { walk with closing := 1000, endCode := some 1 } ∧
    ({ walk with closing := 1000 } : Booking).ended 1000 = true ∧ ({ walk with closing := 1001 } : Booking).ended 1000 = false ∧
    ({ walk with closing := 1000 } : Booking).cur = none ∧ walk.ticket = some ⟨.a, 7, 0x29, none, 0⟩ ∧ walk.calWrite = none ∧
    (airing [{ walk with closing := 1000, endCode := some 1, ticket := none, index := some 0 }]).field.lastPoll.getD 0 0 = walk.poll ∧
    readerBooking.ticket = none ∧ readerBooking.kind = .reader ∧ walk.again = false ∧ walk.doorCheck = false ∧
    walk.recoveryPoll = false ∧ walk.index = none ∧ ({ walk with kind := .aerialCal 1 0 0 } : Booking).kind.measures = true := by
  decide +kernel

theorem test_hyps_measurements : (airing [{ walk with kind := .fieldVector 0 0 0, closing := 1000 }]).current 0 =
      some { walk with kind := .fieldVector 0 0 0, closing := 1000 } ∧
    (airing [{ walk with kind := .aerialCal 1 7 0, closing := 1000 }]).current 0 =
      some { walk with kind := .aerialCal 1 7 0, closing := 1000 } ∧ walk.endCode = none ∧ aeEnabled zoneConfig 0 = true ∧
    aeEnabled zoneConfig 15 = false ∧ walk.sz = 256 ∧ walk.st = 256 ∧ walk.ss = 256 ∧ (7 : Nat).testBit 0 = true ∧
    (0 : Nat).testBit 1 = false ∧
    (airing []).calPasses { walk with kind := .aerialCal 1 7 0, steps := [⟨0, 9, 0, 0, 2⟩] } 1 { currents := [(2000, 0)], receivers := [] } 0 =
      true ∧ zoneConfig.wf = true ∧ (airing []).field.ch[0]? = some ({} : Channel) := by decide +kernel

/-- Arguments of an OPEN reader exchange: zone 0, page 0, FLAGS 0x08, identifier 1 (Table 10.10). -/
def openRead : Bytes := [0, 0, 8] ++ leN 8 1 ++ zeros 4

theorem test_hyps_reader : readerBad zoneConfig false openRead = false ∧
    zoned.zoneDead (oct openRead 0) = false ∧ zoned.lfDead = false ∧ (zoned.handles .a).length < 2 ∧
    zoned.placeReader openRead = some (0, 1001) ∧ zoned.cipher.loses (.clause zoned.orderNo) = false ∧ (oct openRead 2).testBit 3 = true ∧
    (⟨0x61, hdr, 1 :: openRead⟩ : Clause).clear { lane := 20, deadline := 8 } zoned = true := by decide +kernel

/-- Arguments of a reader write with a spore of kind 2 bound to no port (R267). -/
def keyedWrite : Bytes := ([0, 0, 0] ++ leN 8 1 ++ zeros 4) ++ (spore (sporeHead 2 0 (zeros 8)) ++ zeros 32)

theorem slice_keyedWrite : slice keyedWrite 15 96 = spore (sporeHead 2 0 (zeros 8)) := by
  have h : keyedWrite.drop 15 = spore (sporeHead 2 0 (zeros 8)) ++ zeros 32 := List.drop_left' rfl
  rw [slice, h, List.take_left' (length_spore _ rfl)]

theorem length_keyedWrite : keyedWrite.length = 143 := by
  have h : ([0, 0, 0] ++ leN 8 1 ++ zeros 4 : Bytes).length = 15 := rfl
  rw [keyedWrite, List.length_append (bs := _ ++ _), List.length_append (as := spore _), length_spore _ rfl, h,
    List.length_replicate]

theorem test_hyps_reader_write : readerBad zoneConfig true keyedWrite = false ∧
    zoned.ks.unwrap (slice keyedWrite 15 96) = .key (zeros 16) ∧ zoned.placeReader keyedWrite = some (0, 1001) ∧
    (⟨0x62, hdr, 1 :: keyedWrite⟩ : Clause).clear { lane := 40, deadline := 8 } zoned = true := by
  refine ⟨?_, ?_, by decide +kernel, ?_⟩
  · rw [readerBad, slice_keyedWrite, length_keyedWrite, spore_passes 2 0 _ rfl (by decide) (by decide)]
    decide +kernel
  · rw [slice_keyedWrite]
    exact spore_opens 2 0 _ rfl rfl
  · rw [clear_args 0x62 _ (zeros 144) _ _ (by rw [List.length_cons, length_keyedWrite]; rfl)]
    decide +kernel

/-- `zoned` with a held result of SPIA, its closing tick past. -/
def holding : State := { zoned with field := { zoned.field with readers := [{ asReader with heldFrom := 999, done := true }] } }

theorem test_hyps_fetch : holding.heldReader .a 0 = some { asReader with heldFrom := 999, done := true } ∧
    (⟨0x61, hdr, [2, 0, 0, 0]⟩ : Clause).clear { lane := 20, deadline := 8 } holding = true := by decide +kernel

theorem test_hyps_on_air : (airing [{ readerBooking with await := .harvestReply }]).current 0 =
      some { readerBooking with await := .harvestReply } ∧
    ({ airing [{ readerBooking with await := .readerReply }] with ks := challenged.ks } : State).readerSlotKey 0 =
      some (zeros 16) := by decide +kernel

theorem test_hyps_trips : (driving walk { trips := 2 }).field.ch[0]? =
      some { trips := 2, driven := true, target := 1023 * 2 ^ 24 } ∧
    (driving walk {}).current 0 = some { walk with drive := [(0, 1023, 0)] } ∧ (driving walk { status := 0x80 }).oos 0 = true ∧
    ({ walk with drive := [], aerials := [0] } : Booking).isExchange = true := by decide +kernel

/-- An AES operation that is lost, and none lost (R292). -/
theorem test_hyps_lookup_lost : let lost := fun u => ({ airing [walk] with cipher := { live.cipher with aesLost := [u] } } : State)
    (lost (.crown 0)).cipher.loses (.crown 0) = true ∧ (airing [walk]).cipher.loses (.crown 0) = false ∧
    (lost .next).cipher.loses .next = true ∧ (airing [walk]).cipher.loses .next = false := by decide +kernel

/-- An atlas of a point inside and one outside on zone 0, both of two elements (Tables 07.3, 07.4). -/
def atlasConfig : Mem :=
  ((zoneConfig.writeBytes 0x1000 (zeros 12 ++ [2, 0, 0, 2, 0x10, 0] ++ zeros 14)).writeBytes (atlasPoint 0)
    ([1, 0, 0x80, 0x7F] ++ leN 2 100 ++ zeros 2 ++ leN 2 50 ++ zeros 2)).writeBytes (atlasPoint 1)
    ([2, 0, 0x80, 0x7F] ++ leN 2 100 ++ zeros 2 ++ zeros 2 ++ leN 2 50)

/-- `airing` with it. -/
def located (b : Booking) : State := { airing [b] with cfg := { live.cfg with cur := atlasConfig } }

/-- A sounded exchange of two steps. -/
def sounded : Booking := { walk with
  aerials := [0, 1], steps := [⟨0, 9, 0, 0, 2⟩, ⟨1, 9, 0, 0, 2⟩], sounding := [(1000, 0), (1000, 0)] }

/-- Its response: the reply's elements are those of the point inside, and its vector is proportional to them. -/
def soundReply (k : Int) : Response := { response with
  phasePre := some 0, phaseBody := some 0, vector := [(0, 0), (8, 0)]
  v := [some (100 * 2 ^ 24, 0), some (k * 2 ^ 24, 0)] }

/-- What the relay checks give for it. -/
def soundVerdict (r : Response) : Verdict := (located sounded).relayVerdict sounded { handled with sounded := true } token r

/-- It is inside, at distance 0, its privilege granted (R187, R188). -/
theorem test_relay_inside : let v := soundVerdict (soundReply 50)
    (v.outcome, v.cls, v.dist.1, v.phase.dev) = (0, 1, some (0, 0), 0) ∧ v.recip ≤ recipThresh live.thal.cur ∧
    ((located sounded).keyRecord { handled with sounded := true } (soundReply 50) v).location = 1 := by decide +kernel

/-- Without a calibration the window is 64 steps more than the default of 6 (R183): a deviation of 71 fails. -/
theorem test_relay_phase : phaseWinDefault live.thal.cur = 6 ∧ zonePhaseOfs live.thal.cur 0 = 0 ∧ token.phaseCal = false ∧
    thalRequirePhaseCal live.thal.cur = false ∧ (soundVerdict { soundReply 50 with phasePre := some 70 }).outcome = 0 ∧
    (soundVerdict { soundReply 50 with phaseBody := some (-71) }).outcome = 5 := by decide +kernel

theorem test_hyps_relay : (sounded.solverSteps (soundReply 50).v (soundReply 50).vector).length = 2 ∧
    (walk.solverSteps [] []).length < 2 ∧ (located sounded).prot.atlasBad = false ∧ atlasCount atlasConfig = 2 ∧
    sounded.dv = none ∧ atlasMatchMax atlasConfig = 16 ∧ (0 : Nat) + atlasMargin atlasConfig ≤ 20972 ∧
    (soundVerdict (soundReply 0)).cls = 3 ∧
    (soundVerdict { soundReply 50 with v := [some (100 * 2 ^ 24, 0), some (0, 50 * 2 ^ 24)] }).cls = 2 ∧
    ((airing [walk]).relayVerdict walk handled token response).cls = 3 ∧
    (located sounded).cfg.cur = atlasConfig ∧ pointDistance atlasConfig 0 (soundReply 50).v = some 0 := by decide +kernel

theorem test_hyps_phase_ref : (knowing token walk).validEntry 9 = some (0, token) ∧ (airing [walk]).validEntry 9 = none ∧
    (knowing token walk).awake = true := by decide +kernel

theorem test_hyps_calibrated : ({ airing [] with ledger := [⟨1100, 0, 0, 0, 30000, 0, 0⟩] } : State).ledger.any
      (fun d => d.order == 0) = true ∧ (airing []).ledger = [] ∧ (airing []).awake = true ∧
    ({ walk with aborted := true, closing := 1000, endCode := some 1 } : Booking).aborted = true := by decide +kernel

/-- A valid reply to SELECT and one of the wrong length (R124, Table 05.5). -/
theorem test_hyps_replies : let b : Booking := { readerBooking with reader := some { asReader with ident := 9 } }
    (airing [b]).replyOf b (repliedBy 9 (List.replicate 48 false)) 48 = some (List.replicate 48 false) ∧
    (airing [b]).replyOf b (repliedBy 9 (List.replicate 4 false)) 4 = some (List.replicate 4 false) ∧
    (airing [b]).replyOf b (repliedBy 9 (List.replicate 100 false)) 100 = some (List.replicate 100 false) ∧
    (airing [b]).replyOf b (repliedBy 9 (List.replicate 4 false)) 48 = none ∧
    (airing [b]).acquire b (repliedBy 9 []) ≠ none ∧ (asReader.flags.testBit 3) = false := by decide +kernel

theorem test_hyps_stays_released : (match exec .heldTriggerStart { live with cell := { state := .released } } with
    | .next t => t.cell.state
    | _ => .locked) = .released ∧ (State.act { live with cell := { state := .released } } .timer).cell.state = .released := by
  decide +kernel

/-! ### Tokens -/

/-- Arguments that enrol the ordinary identifier 9 with a plain key and the START privilege (R158). -/
def enrolArgs : Bytes := leN 8 9 ++ [0, 1, 0, 1] ++ zeros 4 ++ zeros 16

theorem test_hyps_enrol : enrolBad enrolArgs = false ∧ enrolArgs.length = 32 ∧ oct enrolArgs 11 = 1 ∧
    (paired live).ahead.validEntry (identAt enrolArgs 0) = none ∧ (paired live).ahead.enrolIndex (identAt enrolArgs 0) = some 0 ∧
    live.ahead.crownsUsed.length < 32 ∧ live.enrolIndex 9 = some 0 ∧ live.cipher.aesLost = [] ∧ identAt enrolArgs 0 = 9 := by decide +kernel

theorem test_hyps_enrol_clear : (⟨0x2D, sealedHdr 0x2D enrolArgs, enrolArgs⟩ : Clause).clear { lane := 60, nvm := 2, deadline := 8 }
      (paired live) = true ∧
    ((⟨0x2D, sealedHdr 0x2D enrolArgs, enrolArgs⟩ : Clause).ticket (paired live)).sess ≠ none :=
  ⟨sealedHdr_clear _ _ _ _ (by decide +kernel), sealedHdr_sess _ _ _⟩

/-- A crown token's flags pass too (Table 06.2). -/
theorem test_hyps_enrol_crown : enrolBad (enrolArgs.set 8 0x20) = false ∧ (0x20 : Nat).testBit 5 = true := by decide +kernel

theorem test_hyps_enrol_index : (knowing token walk).enrolIndex 5 = some 1 ∧
    (knowing { token with flags := 0x50 } walk).enrolIndex 9 = some 0 := by decide +kernel

/-- `knowing` with the session of that token open and the cell as given. -/
def seated (cell : CellState) (m : MotionState) (st : SesState) : State := { knowing token walk with
  ses := { state := st, number := 1, token := 9 }, cell := { state := cell }, motion := { state := m } }

theorem test_hyps_revoke : (⟨0x2E, hdr, leN 8 9⟩ : Clause).clear { lane := 40, nvm := 2, deadline := 8 }
      (seated .released .stationary .released) = true ∧
    (seated .released .stationary .released).validEntry (identAt (leN 8 9) 0) = some (0, token) ∧
    ((seated .released .stationary .released).ahead.validEntry (identAt (leN 8 9) 0)).isSome = true ∧
    (seated .released .moving .entry).ses.state ≠ .closed ∧ (seated .locked .moving .closed).ses.state = .closed ∧
    (seated .clearPending .moving .released).cell.state ≠ .released := by decide +kernel

/-- A revocation while moving leaves CLEAR_PENDING (Table 06.14, R203). -/
theorem test_revoke_moving : (let t := (seated .released .moving .released).act (.revoke ⟨.a, 7, 0x2E, none, 0⟩ 9)
    (t.cell.state, t.cell.pendingReason, t.ses.state, t.ses.lastEnd)) = (.clearPending, 7, .closed, 7) := by decide +kernel

/-- The exchange of a revoked token is marked (R159). -/
theorem test_hyps_revoke_exchange : let s := { challenged with ses := { state := .closed } }
    s.field.bookings.map (fun b => (b.phase, b.cur.map CurKey.ident)) = [(.running, some 9)] ∧ s.validEntry 9 = some (0, token) ∧
    (airing [{ walk with cur := none }]).field.bookings.map Booking.cur = [none] := by decide +kernel

theorem test_hyps_query : (⟨0x2F, hdr, zeros 4 ++ leN 8 9⟩ : Clause).clear { lane := 10 } (knowing token walk) = true ∧
    (knowing token walk).entryOf (identAt (zeros 4 ++ leN 8 9) 4) = some (0, token) ∧
    (⟨0x2F, hdr, [1, 0, 0, 0, 0xFF, 0x3F] ++ zeros 6⟩ : Clause).clear { lane := 10 } (knowing token walk) = true ∧
    num ([1#8, 0, 0, 0, 0xFF, 0x3F] ++ zeros 6) 4 2 = 16383 ∧ (knowing token walk).entryAt 16383 = none := by decide +kernel

/-- `live` with four failures of identifier 9 in the last 60 s. -/
def failing : State := { live with lock := { ids := [⟨9, [900, 800, 700, 600], 0⟩] } }

theorem test_hyps_failures : (⟨9, [900, 800, 700, 600], 0⟩ : IdLock) ∈ failing.lock.ids ∧ idFails failing.thal.cur = 5 ∧
    (0 : Nat) ≤ failing.tick ∧ (∀ x ∈ failing.lock.ids, x.ident = 9 → x = ⟨9, [900, 800, 700, 600], 0⟩) ∧
    (∀ x ∈ failing.lock.ids, x.ident ≠ 5) ∧ failing.log.begun = true ∧ failing.lock.devUntil ≤ failing.tick := by decide +kernel

/-- `live` with every lock place taken, each up to a tick (R173). -/
def crowded (expiry : Nat) : State := { live with lock := { ids := (List.range 64).map fun n => ⟨BitVec.ofNat 64 (20 + n), [900 - n], expiry⟩ } }

theorem test_hyps_places : 64 ≤ (crowded 0).lock.ids.length ∧ (∀ x ∈ (crowded 0).lock.ids, x.ident ≠ 9) ∧
    (∃ x ∈ (crowded 0).lock.ids, x.expiry ≤ (crowded 0).tick) ∧
    (∀ x ∈ (crowded 1001).lock.ids, (crowded 1001).tick < x.expiry) := by decide +kernel

/-- The place with the oldest newest failure is replaced (R173). -/
theorem test_place_replaced : (((crowded 0).countFailure 9).lock.ids.any fun x => x.ident == 83) = false ∧
    ((crowded 0).countFailure 9).lock.ids.length = 64 := by decide +kernel

/-- The fifth failure within the window locks for 300 s, 1,171,875 ticks (R172, Table 14.4). -/
theorem test_fifth_failure : (failing.countFailure 9).lock.ids = [⟨9, [1000, 900, 800, 700, 600], 1000 + 1171875⟩] := by
  decide +kernel

/-! ### Sessions and release -/

theorem test_hyps_state_queries : (⟨0x2B, hdr, []⟩ : Clause).clear { lane := 8 } live = true ∧
    (⟨0x30, hdr, []⟩ : Clause).clear { lane := 4 } live = true ∧
    (⟨0x39, hdr, []⟩ : Clause).clear { lane := 8 } live = true := by decide +kernel

theorem test_hyps_clear : (⟨0x31, hdr, zeros 4⟩ : Clause).clear { lane := 20, deadline := 8 }
      (seated .released .stationary .released) = true ∧
    (⟨0x31, hdr, zeros 4⟩ : Clause).clear { lane := 20, deadline := 8 } (seated .clearPending .moving .released) = true ∧
    (seated .released .moving .released).cell.state ≠ .locked ∧
    (⟨0x2C, hdr, [1, 0, 0, 0]⟩ : Clause).clear { lane := 20, deadline := 8 } (seated .released .moving .entry) = true ∧
    num [1#8, 0, 0, 0] 0 2 = (seated .released .moving .entry).ses.number := by decide +kernel

/-- `seated` with the timer at its expiry tick. -/
def expiring (st : SesState) : State :=
  let s := seated .released .stationary st
  { s with ses := { s.ses with expires := some 1000 }, field := { s.field with bookings := [] } }

theorem test_hyps_timer : (expiring .entry).ses.expires = some 1000 ∧ (expiring .entry).tick = 1000 ∧
    (expiring .released).cell.state = .released ∧ (expiring .released).motion.state = .stationary ∧
    (expiring .doorCheck).pollsDiscarded = false ∧ (expiring .doorCheck).mayPoll = true ∧ (expiring .entry).log.begun = true ∧
    (({ expiring .doorCheck with ses := { (expiring .doorCheck).ses with checking := true, expires := none } } : State).runPoll
      (checkPoll zoneConfig false)).2.booked ≠ 0 ∧ ({ expiring .entry with tick := 999 } : State).tick < 1000 ∧
    (expiring .doorCheck).ses.checking = false ∧ live.ses.expires = none := by decide +kernel

/-- `zoned` after a degraded takeover of a RELEASED cell (R205). -/
def recovering : State := { zoned with cell := { state := .released, recoveryDue := true } }

theorem test_hyps_recovery : recovering.cell.recoveryDue = true ∧ recovering.awake = true ∧ recovering.mayPoll = true ∧ ({ recovering with rng := {} } : State).mayPoll = false ∧
    recovering.pollsDiscarded = false ∧
    (({ recovering with cell := { recovering.cell with recoveryDue := false, recovery := true } } : State).runPoll
      (checkPoll zoneConfig true)).2.booked ≠ 0 ∧
    (({ recovering with cfg := live.cfg, cell := { recovering.cell with recoveryDue := false, recovery := true } } : State).runPoll
      (checkPoll live.cfg.cur true)).2.booked = 0 ∧
    ({ recovering with tamper := { recovering.tamper with hold := true } } : State).pollsDiscarded = true := by decide +kernel

/-- `zoned` with every input seen active in three latch phases. -/
def qualifying : State := { zoned with field := { zoned.field with
  start := ⟨false, 3, 999⟩, ign := ⟨false, 3, 999⟩, doors := List.replicate 4 ⟨false, 3, 999⟩, wakePin := ⟨false, 3, 999⟩ } }

theorem test_hyps_inputs : qualifying.power.life = .awake ∧ true ≠ qualifying.field.start.level ∧ qualifying.field.start.seen = 3 ∧
    qualifying.field.start.at_ + 1 = qualifying.tick ∧ (qualifying.field.doors.getD 3 {}).seen = 3 ∧
    qualifying.field.ign.at_ + 1 = qualifying.tick ∧ qualifying.field.wakePin.at_ + 1 = qualifying.tick ∧
    zoned.field.start.seen = 0 ∧ true ≠ zoned.field.start.level ∧ State.reset.power.life ≠ .awake := by decide +kernel

/-- START qualified active books the zone of entry 0 at the commit phase (R34, R195). -/
theorem test_start_books : (match exec (.triggerInput .start true) qualifying with
    | .next t => (t.acts, (t.acts.foldl State.act t).field.bookings.map fun b => (b.zones, b.keyLimit, b.trigger, b.first))
    | _ => ([], [])) = ([.trigger 0 0], [([0], 2, 1, 1001)]) := by decide +kernel

theorem test_hyps_triggers : trigEn zoneConfig 0 = true ∧ zoned.heldOff 0 = false ∧ zoned.pollsDiscarded = false ∧
    zoned.mayPoll = true ∧ ({ zoned with rng := {} } : State).mayPoll = false ∧
    ({ zoned with field := { zoned.field with pollEnd := zoned.field.pollEnd.set 0 (some 990) } } : State).field.pollEnd.getD 0 none =
      some 990 ∧ trigEn zoneConfig 1 = false ∧
    ({ zoned with field := { zoned.field with heldTriggers := [(0, 0)] } } : State).field.heldTriggers = [(0, 0)] ∧
    zoned.field.schedules = [] := by decide +kernel

/-! ### Motion -/

theorem test_hyps_edges : live.awake = true ∧ 4 * filterOf live.thal.cur 7 ≤ 100 ∧
    100 < 4 * filterOf (live.thal.cur.write 0xA8 26) 0 ∧ live.motion.src[7]? = some ({} : SpeedSource) ∧ live.odoSource = 0 ∧
    0 < kFactor live.thal.cur 0 ∧ live.motion.src[0]? = some ({} : SpeedSource) ∧
    ({} : SpeedSource).level = edgeFalling live.thal.cur 7 ∧ ({ level := true } : SpeedSource).level ≠ edgeFalling live.thal.cur 7 := by decide +kernel

/-- The eighth pulse after a remainder of 7,000 at 8,000 pulses a kilometre is a metre (R218). -/
theorem test_metre : (match exec (.speedEdge 0 5 100) { live with motion := { odoR := 7000 } } with
    | .next t => (t.motion.odoM, t.motion.odoR)
    | _ => (0, 0)) = (1, 0) := by decide +kernel

/-- `live` with two edges of source 0 this second. -/
def rolling : State := { live with
  motion := { src := live.motion.src.set 0 { edges := [(9, 990), (1, 980)], count := 2, lastTick := some 990 } } }

theorem test_hyps_moving : rolling.awake = true ∧ rolling.motion.state ≠ .moving ∧ rolling.movers ≠ [] ∧ live.movers = [] ∧
    ({ rolling with ses := { state := .doorCheck } } : State).ses.state = .doorCheck := by decide +kernel

theorem test_hyps_stationary : ({ live with tick := 7813 } : State).stillNow = true ∧ live.stillNow = false ∧
    live.motion.state ≠ .stationary ∧
    ({ live with tick := 7813, cell := { state := .clearPending } } : State).cell.state = .clearPending := by decide +kernel

theorem test_hyps_plausibility : (0 : Nat) + 256 ≤ live.tick ∧ live.motion.lastEval = 0 ∧ (motionGroup live.thal.cur).testBit 1 = true ∧
    live.motion.src[1]? = some ({} : SpeedSource) ∧ ({ live with tick := 255 } : State).tick < 0 + 256 ∧
    rolling.edgesWithin 0 1024 = (9, 990) :: [] ++ [(1, 980)] := by decide +kernel

/-- Two edges 8 MOTION cycles apart are far above 5 km/h; DISAGREE, ACCEL and LOSS have their other speeds (R216, R217). -/
theorem test_hyps_flags : 5 * (rolling.evaluate 0).2 < (rolling.evaluate 0).1 ∧ (rolling.evaluate 1).1 = 0 ∧
    vMax live.thal.cur * (rolling.evaluate 0).2 < (rolling.evaluate 0).1 ∧ (motionGroup live.thal.cur).testBit 0 = true ∧
    ({ speeds := List.replicate 16 (0, 1) } : SpeedSource).speeds[15]? = some (0, 1) := by decide +kernel

theorem test_hyps_readback : live.awake = true ∧ live.cell.faultA = !true ∧ State.reset.cell.living = false ∧
    State.reset.awake = false ∧ ({ State.reset with cell := { living := true } } : State).cell.living = true := by decide +kernel

theorem test_hyps_odometer : (⟨0x38, hdr, 0 :: (zeros 3 ++ leN 2 1000 ++ zeros 2)⟩ : Clause).clear
      { lane := 30, nvm := 2, deadline := 8 } live = true ∧
    num (zeros 3 ++ leN 2 1000 ++ zeros 2) 3 2 = 1000 ∧
    (⟨0x38, hdr, 1 :: (zeros 3 ++ leN 8 (2 ^ 48 - 1))⟩ : Clause).clear { lane := 30, nvm := 2, deadline := 8 } live = true ∧
    num (zeros 3 ++ leN 8 (2 ^ 48 - 1)) 3 8 = 2 ^ 48 - 1 ∧ live.motion.odoM = 0 ∧ live.motion.initDone = false := by decide +kernel

/-! ### The timer window -/

theorem test_hyps_peek : (⟨0x3B, hdr, [0x8A, 0x0F, 118, 0]⟩ : Clause).clear { lane := 4 } live = true ∧
    num [0x8A#8, 0x0F, 118, 0] 0 2 + 118 = 0x1000 ∧
    ((⟨0x3B, hdr, [0x8A, 0x0F, 118, 0]⟩ : Clause).ticket live).room (4 + 2 * 118) = true ∧
    wide live.win.snap 0 = [] ∧ wide live.win.snap 0x80 = [0x80, 0x81] := by decide +kernel

/-- CMP of GT0 as two words (Table 09.1). -/
def pokeArgs : Bytes := [0x84, 0, 2, 0, 0xFF, 0xFF, 0xFF, 0xFF]

/-- Arguments that set GT7_CTL with no action and no start (R249). -/
def cfgArgs : Bytes := [7, 0, 0, 0, 0, 0x20, 0, 0] ++ zeros 16

theorem test_hyps_timer_writes : (⟨0x3C, hdr, pokeArgs⟩ : Clause).clear { lane := 4 } live = true ∧ oct pokeArgs 2 = 2 ∧
    (∀ i, i < 2 → pokeOk (num pokeArgs 0 2 + i) (num pokeArgs (4 + 2 * i) 2) = true) ∧
    ((⟨0x3C, hdr, pokeArgs⟩ : Clause).ticket live).room 8 = true ∧
    (⟨0x3A, hdr, cfgArgs⟩ : Clause).clear { lane := 20, deadline := 8 } live = true ∧ timerCfgBad cfgArgs = false ∧
    timerCfgBusy live.win.regs 7 = false ∧ timerCfgBad ([0x21] ++ zeros 23) = false := by decide +kernel

/-- `live` with GT0 running at a count and a period. -/
def counting (c p : Nat) : State := { live with win := { live.win with
  regs := gtStart 0 ((live.win.regs.writeBytes 0x100 (leN 4 c)).writeBytes 0x104 (leN 4 p)) } }

theorem test_hyps_count : gtRun (counting 5 6).win.regs 0 = true ∧ gtSrc (counting 5 6).win.regs 0 = 0 ∧
    gtUpper (counting 5 6).win.regs 0 = false ∧ (counting 5 6).win.regs.wf = true ∧ (counting 5 6).awake = true ∧
    rword (counting 5 6).win.regs (gtBase 0 + 7) = 0 ∧ (rword (counting 5 6).win.regs (gtBase 0 + 6)).testBit 12 = false ∧
    rwords (counting 5 6).win.regs (gtWords (counting 5 6).win.regs 0 0) = 5 ∧ (counting 5 6).win.inForce 0 2 = 6 ∧
    (counting 5 6).win.counted.getD 0 0 + rword (counting 5 6).win.regs (gtBase 0 + 8) + 1 ≤ 1 ∧
    (counting 6 6).win.inForce 0 2 ≤ rwords (counting 6 6).win.regs (gtWords (counting 6 6).win.regs 0 0) ∧
    gtRun live.win.regs 0 = false := by decide +kernel

/-- Words that writes wait for: GT0 is armed, GT1 and SC0 of `counting` run as `counting` has them (Tables 09.1 to 09.7). -/
def writing (l : List WinWrite) : State := { live with win := { live.win with
  regs := ((live.win.regs.writeBytes (2 * (gtBase 0 + 6)) [0, 0x80]).writeBytes (2 * (scBase 0 + 4)) [0, 0xA0]), writes := l } }

theorem test_hyps_writing : (writing []).win.regs.wf = true ∧ (writing []).win.forcePer.length = 8 ∧
    (writing []).win.forceCmp.length = 8 ∧ (writing []).win.counted.length = 8 ∧ (writing []).win.captures.length = 8 ∧
    (writing [.poke 0 .a 1 [1]]).win.writes = [.poke 0 .a 1 [1]] ∧ wide live.win.regs (gtBase 0 + 8) = [] ∧
    2 ≤ gtBase 0 + 8 ∧ gtPaired (writing []).win.regs 0 = false ∧ gtUpper (writing []).win.regs 0 = false ∧
    (rword (writing []).win.regs (gtBase 0 + 6)).testBit 15 = true ∧ (1 : Nat).testBit 0 = true ∧ (257 : Nat).testBit 8 = true ∧
    (rword (writing []).win.regs (scBase 0 + 4)).testBit 15 = true ∧ (rword (writing []).win.regs (scBase 0 + 4)).testBit 13 = true ∧
    scPaired (live.win.regs.writeBytes (2 * (scBase 1 + 4)) [0, 0xC0]) 0 = true ∧
    gtRun (counting 5 6).win.regs 0 = true ∧ (0x2000 : Nat).testBit 14 = false := by decide +kernel

/-- GSTART with GO starts the armed GT0 (R243). -/
theorem test_group_start : gtRun (writing [.poke 0 .a 1 [1]]).writeCycle.win.regs 0 = true := by decide +kernel

/-- CMP of GT0 written as two words, and again by a clause admitted later though it ran earlier (R229, R232). -/
theorem test_write_order : rwords (writing [.poke 5 .b 0x84 [7, 0], .poke 4 .a 0x84 [9, 1]]).writeCycle.win.regs [0x84, 0x85] = 7 := by
  decide +kernel

/-- SC0 counts and captures MOT_TIME (R233, R234, Table 09.7). -/
theorem test_capture : rwords ((writing []).win.scEdge 0 77).regs [scBase 0 + 2, scBase 0 + 3] = 77 ∧
    rword ((writing []).win.scEdge 0 77).regs (scBase 0) = 1 := by decide +kernel

theorem test_hyps_linked : ({ live with win := { live.win with linked := [⟨5, 7, 0, 9⟩] } } : State).win.linked = [⟨5, 7, 0, 9⟩] ∧
    live.awake = true ∧ live.win.regs.wf = true ∧ live.win.linked = [] := by decide +kernel

/-! ### Keys -/

/-- A spore of token 9 (KIND 1) and one of a host key of every use (KIND 3). -/
def tokenSpore : Bytes := spore (sporeHead 1 0 (leN 8 9))

def hostSpore : Bytes := spore (sporeHead 3 7 (zeros 8))

/-- A device that waits for the spore of token 9, enrolled with the check value of that key. -/
def wanting : State := { live with
  dir := [(0, { token with keyField := kcv (zeros 16) ++ zeros 8 })], ks := { live.ks with requests := [⟨9, 0, 1000⟩] } }

/-- Requests have no part in an unwrapping. -/
theorem unwrap_requests (k : KeyStore) (l : List SporeReq) (sp : Bytes) :
    ({ k with requests := l } : KeyStore).unwrap sp = k.unwrap sp := rfl

theorem test_hyps_stage_needed : sporeBad tokenSpore = false ∧ wanting.ks.unwrap tokenSpore = .key (zeros 16) ∧
    oct tokenSpore 1 = 1 ∧ sporeIdent tokenSpore = 9 ∧ wanting.ordinary 5 = none ∧
    wanting.requestOf 9 = some ⟨9, 0, 1000⟩ ∧ wanting.tick ≤ 1000 ∧ wanting.cipher.aesLost = [] ∧
    wanting.entryTakes 9 (zeros 16) = true ∧
    (⟨0x40, hdr, 0 :: ([0xFF, 0, 0] ++ tokenSpore)⟩ : Clause).clear { deadline := 2 } wanting = true := by
  refine ⟨spore_passes 1 0 _ rfl (by decide) (by decide), (unwrap_requests _ _ _).trans (spore_opens 1 0 _ rfl rfl), rfl,
    by decide +kernel, rfl, rfl, by decide, rfl, ?_, ?_⟩
  · have h : (kcv (zeros 16) ++ zeros 8).take 8 = kcv (zeros 16) := List.take_left' (length_keyCheck _ (.inl rfl))
    have e : wanting.ordinary 9 = some { token with keyField := kcv (zeros 16) ++ zeros 8 } := rfl
    rw [State.entryTakes, e]
    exact (congrArg (· == kcv (zeros 16)) h).trans (beq_self_eq_true _)
  · rw [clear_args 0x40 _ (zeros 100) _ _ (by
      rw [List.length_cons, List.length_append, tokenSpore, length_spore _ rfl]; rfl)]
    decide +kernel

theorem test_hyps_stage_host : sporeBad hostSpore = false ∧ live.ks.unwrap hostSpore = .key (zeros 16) ∧
    3 ≤ oct hostSpore 1 ∧ live.ks.slotRefused 63 = false ∧ live.ks.slotRefused 0xFF = false ∧
    3 ≤ ({ live.ks with work := List.replicate 3 (.load ⟨.a, 1, 0x40, none, 0⟩ false [] 0xFF [] false) } : KeyStore).loadsStaged ∧
    (live.ks.unwrap [1, 3, 0, 7, 1] = .bad 1 ∧ (live.ks.retireNode 1 5 0 0 3).unwrap [1, 3, 0, 7] = .bad 2) ∧
    (⟨0x40, hdr, 1 :: ([63, 0, 0] ++ hostSpore)⟩ : Clause).clear { lane := 40 } live = true := by
  refine ⟨spore_passes 3 7 _ rfl (by decide) (by decide), spore_opens 3 7 _ rfl rfl, Nat.le_refl 3, rfl, rfl,
    by decide, by decide +kernel, ?_⟩
  rw [clear_args 0x40 _ (zeros 100) _ _ (by
    rw [List.length_cons, List.length_append, hostSpore, length_spore _ rfl]; rfl)]
  decide +kernel

/-- Arguments of SPORE_WRAP: a host key of kind 3, domain 0, use 1, no binding (R281). -/
def wrapArgs : Bytes := [3, 0, 1, 0] ++ zeros 8 ++ zeros 16

theorem test_hyps_wrap : wrapBad wrapArgs = false ∧ live.cipher.aesLost = [] ∧
    (⟨0x42, sealedHdr 0x42 wrapArgs, wrapArgs⟩ : Clause).clear { lane := 60, deadline := 8 } (paired live) = true ∧
    ((⟨0x42, sealedHdr 0x42 wrapArgs, wrapArgs⟩ : Clause).ticket (paired live)).sess ≠ none :=
  ⟨by decide +kernel, rfl, sealedHdr_clear _ _ _ _ (by decide +kernel), sealedHdr_sess _ _ _⟩

theorem test_hyps_wrapped : keyLength 4 = (zeros 32).length ∧ live.ks.ngen 1 5 0 0 < 65536 ∧ live.ks.ngen 3 5 0 15 < 65536 := by
  decide +kernel

/-- A host key of every use. -/
def cachedKey : SlotKey := { kind := 3, usage := 7, origin := .spore 0 0 0 0, owner := none, key := zeros 16 }

/-- `live` with that key in slot 63. -/
def keyed : State := { live with ks := { live.ks with slots := live.ks.slots.set 63 { gen := 1, content := some cachedKey } } }

theorem test_hyps_evict : (⟨0x41, hdr, [63, 0, 1, 0]⟩ : Clause).clear { lane := 10 } keyed = true ∧
    (keyed.ks.slot 63).isHost = true ∧ num [63#8, 0, 1, 0] 2 2 = (keyed.ks.slot 63).gen := by decide +kernel

theorem test_hyps_retire : nodeListed 3 5 0 15 = true ∧ nodeRetirable 5 = true ∧ live.crownHeld 3 5 0 15 = false ∧
    num ([3, 5, 0, 15] ++ zeros 4) 4 2 = live.ks.ngen 3 5 0 15 ∧ live.ks.gensFull = false ∧
    (⟨0x44, sealedHdr 0x44 ([3, 5, 0, 15] ++ zeros 4), [3, 5, 0, 15] ++ zeros 4⟩ : Clause).clear
      { lane := 40, nvm := 2, deadline := 8 } (paired live) = true ∧
    ((⟨0x44, sealedHdr 0x44 ([3, 5, 0, 15] ++ zeros 4), [3, 5, 0, 15] ++ zeros 4⟩ : Clause).ticket (paired live)).sess ≠ none :=
  ⟨by decide, by decide, by decide, by decide +kernel, by decide +kernel, sealedHdr_clear _ _ _ _ (by decide +kernel),
    sealedHdr_sess _ _ _⟩

theorem test_hyps_derive : (⟨0x43, hdr, 0 :: ([0x1F, 0, 4, 7, 0xFF, 0, 0] ++ zeros 16)⟩ : Clause).clear
      { lane := 40, deadline := 8 } live = true ∧ live.ks.slotRefused 0xFF = false := by decide +kernel

theorem test_hyps_frond_queries : (⟨0x43, hdr, [1, 6, 4, 0, 0]⟩ : Clause).clear { lane := 40, deadline := 8 } live = true ∧
    Crypto.curveOf 4 ≠ none ∧ (⟨0x43, hdr, [2, 3, 1, 0, 31, 0, 0, 0]⟩ : Clause).clear { lane := 40, deadline := 8 } live = true ∧
    nodeListed 3 1 0 31 = true := by decide +kernel

theorem test_hyps_subtree : (Origin.spore 0 0 0 0).under 2 1 0 0 = false ∧ (Origin.spore 15 0 0 0).under 3 5 0 15 = true ∧
    nodeCovers 3 1 0 0 2 1 0 0 = false := by decide

theorem test_hyps_linked_due : (⟨5, 3, 7, 0⟩ : Linked).target < 8 ∧ (⟨5, 3, 7, 0⟩ : Linked).due ≤ 5 ∧ 4 < (⟨5, 3, 7, 0⟩ : Linked).due := by
  decide

/-! ### The cipher cluster -/

/-- The head of a cipher clause: MODE, CTX, SLOT 63, GEN 1, TAG_LEN, FLAGS (R296). -/
def cipherHead (mode ctx tagLen flags : Byte) : Bytes := [mode, ctx, 63, 1, 0, tagLen, flags]

theorem test_hyps_key_named : (keyed.ks.slot 63).content = some cachedKey ∧ cachedKey.owner = none ∧ cachedKey.usage = 7 ∧
    (keyed.ks.slot 63).gen = 1 ∧ (keyed.ks.slot 63).ivs < 2 ^ 32 ∧ keyed.cipher.aesLost = [] := by decide +kernel

theorem test_hyps_oneshot : (⟨0x48, hdr, 0 :: (cipherHead 2 0 8 0 ++ [0, 5])⟩ : Clause).clear { lane := 35, deadline := 8 } keyed = true ∧
    ((⟨0x48, hdr, 0 :: (cipherHead 2 0 8 0 ++ [0, 5])⟩ : Clause).ticket keyed).room (13 + 1 + 8) = true ∧
    (⟨0x49, hdr, 0 :: (cipherHead 1 0 16 0 ++ zeros 12 ++ [0] ++ zeros 16)⟩ : Clause).clear { lane := 35, deadline := 8 } keyed =
      true ∧ 12 + 1 + 0 + 16 ≤ (zeros 12 ++ [0#8] ++ zeros 16).length := by decide +kernel

/-- The tag of nothing under a zero key and IV is GCM test case 1, not zero bytes. -/
theorem test_gcm_case_1 : Crypto.gcmTag (zeros 16) (zeros 12) [] [] = beN 16 0x58e2fccefa7e3061367f1d57a4e7455a := by
  decide +kernel

theorem test_hyps_oneshot_mac : (⟨0x4A, hdr, 0 :: (cipherHead 3 0 4 1 ++ zeros 4)⟩ : Clause).clear { lane := 30, deadline := 8 }
    keyed = true ∧ (4 : Nat) ≤ (zeros 4).length := by decide +kernel

theorem test_hyps_begin : (⟨0x48, hdr, 1 :: cipherHead 1 1 16 0⟩ : Clause).clear { lane := 35, deadline := 8 } keyed = true ∧
    (⟨0x49, hdr, 1 :: (cipherHead 4 1 16 0 ++ zeros 12)⟩ : Clause).clear { lane := 35, deadline := 8 } keyed = true ∧
    thalCompat (keyed.thal.cur.write 0x40 0x18) = true ∧ (keyed.port .a).ctx 1 = none ∧
    (⟨0x4A, hdr, 1 :: cipherHead 3 0 16 1⟩ : Clause).clear { lane := 30, deadline := 8 } keyed = true := by decide +kernel

/-- An open context on slot 63. -/
def openCtx (verb mode : Nat) (text : Bytes) (verified : Bool) : Ctx :=
  { verb := verb, mode := mode, slot := 63, gen := 1, iv := zeros 12, aad := [], tagLen := 16, text := text
    verified := verified, lastTick := 900 }

/-- `keyed` with context 1 of SPIA open. -/
def opened (c : Ctx) : State := keyed.onPort .a (Port.setCtx 1 (some c))

/-- The head of a later clause. -/
def laterHead : Bytes := [0, 1, 0, 0, 0, 0, 0]

theorem test_hyps_contexts : ((opened (openCtx 0x48 1 [] false)).port .a).ctx 1 = some (openCtx 0x48 1 [] false) ∧
    ((opened (openCtx 0x48 1 [] false)).ks.slot 63).content = some cachedKey ∧
    ((opened (openCtx 0x48 1 [] false)).ks.slot 63).gen = 1 ∧
    (⟨0x48, hdr, 2 :: (laterHead ++ zeros 16)⟩ : Clause).clear { lane := 35, deadline := 8 }
      (opened (openCtx 0x48 1 [] false)) = true ∧
    (⟨0x48, hdr, 3 :: (laterHead ++ [7])⟩ : Clause).clear { lane := 35, deadline := 8 } (opened (openCtx 0x48 1 [] false)) = true ∧
    (⟨0x49, hdr, 3 :: (laterHead ++ zeros 16)⟩ : Clause).clear { lane := 35, deadline := 8 }
      (opened (openCtx 0x49 1 [] false)) = true ∧
    (⟨0x49, hdr, 4 :: (laterHead ++ [1, 0, 2, 0])⟩ : Clause).clear { lane := 35, deadline := 8 }
      (opened (openCtx 0x49 1 [1, 2, 3] true)) = true ∧ num [1#8, 0, 2, 0] 0 2 + oct [1#8, 0, 2, 0] 2 = [1, 2, 3].length ∧
    (⟨0x4A, hdr, 3 :: laterHead⟩ : Clause).clear { lane := 30, deadline := 8 } (opened (openCtx 0x4A 3 [] false)) = true ∧
    (⟨0x4A, hdr, 5 :: laterHead⟩ : Clause).clear { lane := 30, deadline := 8 } (opened (openCtx 0x4A 3 [] false)) = true := by
  decide +kernel

theorem test_hyps_context_timeout : (900 : Nat) + 39063 ≤ ({ opened (openCtx 0x48 1 [] false) with tick := 39963 } : State).tick ∧
    (opened (openCtx 0x48 1 [] false)).tick < 900 + 39063 := by decide

theorem test_hyps_engine_faults : State.reset.awake = false ∧ live.awake = true ∧
    2 ≤ (([(5, 900), (5, 1000)] : List (Nat × Nat)).filter fun p => p.1 == 5 && decide (1000 < p.2 + 65536)).length ∧
    live.cipher.aesFenced.getLsbD 5 = false := by decide +kernel

theorem test_hyps_mac_verify : (⟨0x4A, hdr, 3 :: ([0, 1, 0, 0, 0, 0, 1] ++ zeros 16)⟩ : Clause).clear { lane := 30, deadline := 8 }
    (opened (openCtx 0x4A 3 [] false)) = true ∧ (openCtx 0x4A 3 [] false).tagLen ≤ (zeros 16).length := by decide +kernel

/-- A clause whose slot is empty, and one whose GEN is not the slot's (R276). -/
theorem test_hyps_keys_tested : (live.ks.slot 63).content = none ∧ (keyed.ks.slot 63).gen = 1 ∧ num (cipherHead 1 0 16 0) 3 2 = 1 ∧
    ((opened (openCtx 0x48 1 [] false)).ks.slot 63).gen = (openCtx 0x48 1 [] false).gen ∧
    (({ opened (openCtx 0x48 1 [] false) with ks := live.ks } : State).ks.slot 63).content = none := by decide +kernel

theorem test_hyps_tested_again : ((opened (openCtx 0x48 1 [] false)).port .a).ctx 1 = some (openCtx 0x48 1 [] false) ∧
    ({ openCtx 0x48 1 [] false with begun := 3 } : Ctx).begun ≠ (⟨.a, 7, 0x48, none, 4⟩ : Ticket).order ∧
    ((keyed.port .a).ctx 1 = none) ∧ 2 ^ 32 ≤ ({ gen := 1, content := some cachedKey, ivs := 2 ^ 32 } : Slot).ivs ∧ keyed.ivsSpent [1, 0, 63] = false ∧
    4096 < (zeros 4090).length + ((laterHead ++ zeros 16).length - 7) ∧
    ({ cachedKey with owner := some 0 } : SlotKey).owner ≠ none := by decide +kernel

/-- An UPDATE admitted together with a FINAL that verifies is refused when it runs (R300). -/
theorem test_update_after_final : (((workOf 0x49 (2 :: (laterHead ++ zeros 16)) .nothing).run ⟨.a, 7, 0x49, none, 4⟩
    (opened (openCtx 0x49 1 [] true))).port .a).stagedReplies.map Staged.status = [0x11] := by decide +kernel

/-- `live` with two MAC checks and an ENCRYPT waiting for cores. -/
def checking : State := { live with
  acts := [.judge 2 ⟨1, 0, [], [], none, none, []⟩, .judge 0 ⟨1, 0, [], [], none, none, []⟩]
  work := [⟨⟨.a, 7, 0x48, none, 4⟩, [], .nothing, 0, 999, 1100, none⟩] }

/-- Two cores for each MAC check, in engine order, then the host's clause (R291, R293). -/
theorem test_cores : checking.aesWaiting.take 5 = [.mac 0, .mac 0, .mac 2, .mac 2, .clause 4] ∧
    (checking.cipher.assign [] checking.aesWaiting).take 5 = [(.mac 0, 0), (.mac 0, 1), (.mac 2, 2), (.mac 2, 3), (.clause 4, 4)] := by
  decide +kernel
/-! ### Evidence -/

theorem test_hyps_chained : Chained live.log := by
  have h0 : live.log.records = [] := rfl
  refine ⟨fun i r p h => ?_, fun r h => ?_⟩ <;> · rw [h0] at h; simp at h

/-- A waiting record. -/
def waits (c : RecClass) : Waiting := { cls := c, typ := 0x20, body := [] }

/-- `live` with waiting records. -/
def logging (l : List Waiting) (appended : Nat) (seals : List Seal) : State := { live with
  log := { live.log with waiting := l, appended := appended, seals := seals } }

/-- A P-256 seal. -/
def oneSeal : Seal := ⟨1, 0, 5, zeros 8, zeros 16, zeros 64, 0, none⟩

theorem test_hyps_commit : live.log.records.length + 4 ≤ 16384 ∧
    (waits (.auth 0)).isAuth = true ∧ (logging [{ waits .other with deferred := true }] 3 []).log.appended < 4 ∧ (waits .other).deferred = false ∧
    (logging [waits .other] 1 [oneSeal]).log.appended + oneSeal.parts.length ≤ 4 ∧ (waits .other).isAuth = false ∧
    (waits .other).isReply = false ∧ (logging [] 4 []).log.waiting = [] := by decide +kernel

/-- Of five authentication records and a reply's the commit phase appends four, of the former (R39). -/
theorem test_commit_four : ((({ live.log with waiting := (waits .reply) :: List.replicate 5 (waits (.auth 0)) } : Evidence).commit
    1000 false).waiting.map Waiting.cls) = [.auth 0, .reply] := by decide +kernel

/-- `live` with 32 records since the last seal. -/
def sealable : State := { live with log := { live.log with
  records := (List.range 32).reverse.map fun n => ⟨n, 0, 0x20, false, 0, [], []⟩, next := 32 } }

theorem test_hyps_seals : (Crypto.curveOf (evidenceCurve live.thal.cur)).isSome = true ∧ live.cipher.eccExhausted = false ∧
    live.cipher.hashExhausted = false ∧ evidenceCurve live.thal.cur = 1 ∧
    (⟨0x50, hdr, zeros 16⟩ : Clause).clear { lane := 60, ecc := 4, deadline := 8 } sealable = true ∧
    sealable.log.point = some 31 ∧ live.log.point = none ∧ sealable.awake = true ∧ sealable.seeded = true := by decide +kernel

theorem test_hyps_evidence_read : (⟨0x51, hdr, [29, 0, 0, 0, 3, 0, 0, 0]⟩ : Clause).clear { lane := 30, deadline := 8 } sealable =
      true ∧ sealable.log.rangeBad 29 3 = false ∧ sealable.log.rangeBad 30 3 = true ∧
    ((⟨0x51, hdr, [29, 0, 0, 0, 3, 0, 0, 0]⟩ : Clause).ticket sealable).room (12 + 64 * 3) = true := by decide +kernel

/-- What waits is appended by engine, then replies, then the rest (R39, R306). -/
theorem test_commit_order : (({ live.log with waiting := [waits .other, waits .reply, waits (.auth 1), waits (.auth 0)] } :
    Evidence).commit 1000 false).appended = 4 ∧
    ({ live.log with waiting := [{ waits .other with typ := 1 }, { waits .reply with typ := 2 }, { waits (.auth 1) with typ := 3 },
      { waits (.auth 0) with typ := 4 }] } : Evidence).records.length + 4 ≤ 16384 ∧
    ((({ live.log with waiting := [{ waits .other with typ := 1 }, { waits .reply with typ := 2 },
      { waits (.auth 1) with typ := 3 }, { waits (.auth 0) with typ := 4 }] } : Evidence).commit 1000 false).records.map
      Record.typ) = [1, 2, 3, 4] := by decide +kernel

/-- A TOKEN_REVOKE record, rank 1, precedes a verdict's session record, rank 2, and a motion record, rank 4 (R179, R306). -/
theorem test_record_ranks : ((({ live.log with waiting := [{ waits .other with typ := 0x33, rank := 4 },
    { waits .other with typ := 0x12, rank := 2 }] } : Evidence).commit 1000 false).records.map Record.typ) = [0x33, 0x12] ∧
    ((({ live.log with waiting := [{ waits .reply with typ := 0x13, rank := 3, order := 4 },
      { waits .reply with typ := 0x14, rank := 1, order := 5 }] } : Evidence).commit 1000 false).records.map Record.typ) =
      [0x13, 0x14] := by decide +kernel

theorem test_hyps_log_work : 4 < 2 + (if oneSeal.curve ≤ 2 then 3 else 4) ∧ (logging [] 1 [oneSeal]).log.begun = true ∧
    (∀ x ∈ (logging [] 2 [oneSeal]).log.seals, 4 < (logging [] 2 [oneSeal]).log.appended + (if x.curve ≤ 2 then 3 else 4)) ∧
    ({ live.tamper with due := [(1, 2, 0, 1, 1000, 0)] } : Tamper).due = (1, 2, 0, 1, 1000, 0) :: [] ∧
    ({ waits .other with typ := 0x40 } : Waiting).typ = 0x40 ∧
    sealable.log.pointFrom ≤ sealable.tick ∧ sealable.cipher.loses .next = false ∧
    ({ sealable.cipher with hashExhausted := true } : Cipher).hashExhausted = true := by decide +kernel

theorem test_hyps_seal_append : oneSeal.tick ≤ (logging [] 1 [oneSeal]).log.commitTick ∧
    (logging [] 1 [{ oneSeal with tick := 1000 }]).log.commitTick < 1000 := by decide +kernel

/-! ### Random numbers -/

theorem test_hyps_random : (⟨0x58, hdr, randomArgs false [8, 0, 0, 0]⟩ : Clause).clear { lane := 10 } live = true ∧
    randomArgs false [8, 0, 0, 0] = [8, 0, 0, 0] ∧ randomArgs true [8, 0, 0, 0] = [8, 1, 0, 0] ∧
    ((⟨0x58, hdr, [8, 0, 0, 0]⟩ : Clause).ticket live).room 8 = true ∧
    (⟨0x58, hdr, randomArgs true [8, 0, 0, 0]⟩ : Clause).clear { lane := 20, deadline := 8 } live = true ∧
    live.rng.store = zeros 48 :: [zeros 48, zeros 48] := by decide +kernel

/-- With one block left, a request with prediction resistance is refused for BUDGET (R51, R329). -/
theorem test_random_pr_credit : (match exec (.randomPr hdr [8, 1, 0, 0]) { live with rng := { live.rng with store := [zeros 48] } } with
    | .next t => t.portA.stagedReplies.map Staged.status
    | _ => []) = [0x10] := by decide +kernel

theorem test_hyps_noise : State.reset.awake = false ∧ live.awake = true ∧
    ((List.replicate 61 true).foldl repStep (0, true, false)).2.2 = true ∧
    ((List.replicate 60 true).foldl repStep (0, true, false)).2.2 = false := by decide +kernel

theorem test_hyps_generator : live.awake = true ∧ live.rng.live = true ∧ live.rng.starved = false ∧
    ({ live.rng with conditioned := [zeros 48] } : Rng).conditioned = zeros 48 :: [] ∧
    factory.tamper.hold = false ∧ ({ factory.rng with live := false } : Rng).store = zeros 48 :: zeros 48 :: [zeros 48] ∧
    (live.rng.wire .link).length = 256 ∧ ({ live.rng with wireLink := zeros 127 } : Rng).wire .link = zeros 127 ∧
    65536 ≤ ({ live.rng with count := 65536, store := [] } : Rng).count := by decide +kernel

theorem test_hyps_wires : 256 ≤ (live.rng.wire .cipher).length := by decide +kernel

theorem test_hyps_starved : ({ live.rng with starved := true, store := [], conditioned := [zeros 48] } : Rng).reserved.length < 4 ∧
    ({ live.rng with store := [zeros 48] } : Rng).store.length ≤ 1 ∧ (zeros 4 : Bytes).length = 4 ∧
    (∀ x ∈ live.rng.reserved, x.1 ≠ 3) := by decide +kernel

/-! ### The field port -/

/-- `live` as a tag in a field, in a state; SPIA's reader key 0 reads and writes the first 32 pages, page 0 is open. -/
def tag (st : TagState) : State := { live with fp := { live.fp with
  copy0 := some ⟨0, { ident := 5, en := true, openPages := 1, keys := [some ⟨zeros 16, 1, 1⟩, none, none, none] }, true⟩
  field := true, state := st } }

theorem test_hyps_tag : (tag (.streaming 63)).fp.field = true ∧ (tag .halted).tagDeaf = false ∧
    (airBits 64 (tag .halted).fp.ident.toNat)[63]? = some true ∧ (tag .listen).fp.state = .listen ∧
    (tag .selected).fp.now = .selected ∧ live.fp.field = false ∧
    
    ({ live with fp := { live.fp with copy0 := some ⟨0, { ident := 5, en := false }, true⟩ } } : State).tagDeaf = true := by decide +kernel

theorem test_hyps_harvest : (tag .selected).fp.harvEn = false ∧ (tag .selected).tamper.hold = false ∧
    (({ (tag .selected).fp with copy0 := some ⟨0, { ident := 5, en := true, harvEn := true }, true⟩ } : FieldPort).harvEn = true) := by decide +kernel

theorem test_hyps_mailbox_read : (8 : Nat).testBit 3 = true ∧ (8 : Nat).testBit 2 = false ∧ (8 : Nat) % 4 = 0 ∧
    0 < (tag .selected).fp.openPages ∧ (tag .selected).fp.keys.getD 0 none = some ⟨zeros 16, 1, 1⟩ ∧
    (1#8).getLsbD (31 / 32) = true ∧ (1#8).getLsbD (32 / 32) = false ∧ (tag .selected).fp.counter ≠ 0xFFFFFFFF ∧
    (tag .selected).fp.keys.getD 3 none = none := by decide +kernel

theorem test_hyps_mailbox_write : (tag .selected).pageBusy 31 = false ∧ (tag .selected).awake = true ∧
    (tag .selected).fp.journal.length < 16 ∧ (1#8).getLsbD (31 / 32) = true := by decide +kernel

/-- The right tag of a write is the first half of a CMAC; every other is wrong (R255). -/
theorem test_hyps_write_tag : ∃ good bad : Bytes,
    (Crypto.cmac (zeros 16) (tagMw 5 31 0 0 (zeros 32))).take 8 = good ∧
      (Crypto.cmac (zeros 16) (tagMw 5 31 0 0 (zeros 32))).take 8 ≠ bad :=
  ⟨_, 0 :: _, rfl, fun h => List.cons_ne_self _ _ h.symm⟩

theorem test_hyps_pages : ((tag .selected).fp.page 0).current ≠ none ∨ ((tag .selected).fp.page 0).e1 = none := by decide +kernel

/-- Arguments of a port record: identifier 5, EN (R265). -/
def portArgs : Bytes := zeros 3 ++ leN 8 5 ++ zeros 3 ++ [0x80] ++ zeros 4

/-- Arguments of reader key 3 (R265). -/
def readerKeyArgs : Bytes := zeros 3 ++ [3, 1, 1, 0] ++ zeros 16

theorem test_hyps_port_config : (⟨0x60, hdr, 0 :: portArgs⟩ : Clause).clear { lane := 30, nvm := 2, deadline := 8 } live = true ∧
    portArgs.length = 19 ∧ num portArgs 3 8 = 5 ∧ oct portArgs 14 % 32 = 0 ∧
    (⟨0x60, hdr, [2, 0, 0, 0]⟩ : Clause).clear { lane := 30, nvm := 2, deadline := 8 } live = true := by decide +kernel

theorem test_hyps_reader_key : readerKeyArgs.length = 23 ∧
    (⟨0x60, sealedHdr 0x60 (1 :: readerKeyArgs), 1 :: readerKeyArgs⟩ : Clause).clear { lane := 30, nvm := 2, deadline := 8 }
      (paired live) = true ∧
    ((⟨0x60, sealedHdr 0x60 (1 :: readerKeyArgs), 1 :: readerKeyArgs⟩ : Clause).ticket (paired live)).sess ≠ none :=
  ⟨rfl, sealedHdr_clear _ _ _ _ (by decide +kernel), sealedHdr_sess _ _ _⟩

theorem test_hyps_mailbox : (⟨0x61, hdr, [0, 251, 5, 0]⟩ : Clause).clear { lane := 20, deadline := 8 } live = true ∧
    live.fp.lockedUntil 251 5 1000 = none ∧
    (⟨0x62, hdr, 0 :: ([255, 0, 0] ++ zeros 32)⟩ : Clause).clear { lane := 40, deadline := 8 } live = true ∧
    live.fp.lockedUntil 255 1 1000 = none ∧ live.awake = true := by decide +kernel

/-! ### Tests, tamper, pairing -/

/-- Every test asked for (Table 15.5). -/
def allTests : Bytes := [0x7F, 0, 0, 0]

theorem test_hyps_tests : num allTests 0 2 = 127 ∧
    (⟨0x68, hdr, allTests⟩ : Clause).clear { maint := 60000, deadline := 4096 } live = true ∧
    (⟨0x69, hdr, allTests⟩ : Clause).clear { maint := 12000, deadline := 4096 } live = true ∧
    (live.selftestFails 0 127 { noFault with failed := 0x20 }).failed.getLsbD 5 = true ∧
    (live.selftestFails 0 127 noFault).failed = 0 ∧ (live.selftestFails 0 127 noFault).lanes = 0 ∧
    (live.selftestFails 0 127 { noFault with lanes := 1 }).lanes = 1 ∧ live.degraded = false ∧ live.lanes.takeoverDue = none ∧
    (live.katFails 127 { noFault with failed := 2 }).failed.getLsbD 1 = true ∧
    (live.katFails 127 noFault).failed.getLsbD 1 = false := by decide +kernel

/-- `live` with engine 0 booked up to the tick before the last one that a loopback test could take (R381). -/
def looping (closing : Nat) : State := { live with field := { live.field with
  bookings := [{ id := 1, engine := 0, zones := [0], first := 1, closing := closing, kind := .authenticate, current := 0, estimate := 0
                 ticket := none, trigger := 0 }]
  loops := [⟨9, 1, none⟩] } }

theorem test_hyps_loops : (looping 1009).loopTick 1020 0 = some 1010 ∧ (looping 1019).loopTick 1020 0 = none ∧
    (looping 1019).loopMissing 9 = true ∧ (looping 1019).loopTick 1020 1 = some 1001 := by decide +kernel

/-- The moss domain has started anew and holds no tamper entries; SHIELD is enabled with ROOT_ERASE (Table 14.8). -/
def mossAnew : State := { live with
  power := { live.power with life := .starting }, tamper := {}
  thal := { live.thal with cur := live.thal.cur.writeBytes 0xD6 [0x00, 0xB0] } }

theorem test_hyps_owed : conditionMet (sourceCode .shield) (mossAnew.entryFor (sourceCode .shield)) .lineBroken = true ∧
    mossAnew.watched (sourceCode .shield) = true ∧ mossAnew.tamper.entries = none ∧
    mossAnew.eraseFor 8 = true ∧ mossAnew.ks.rhizome ≠ none := by decide +kernel

/-- The erase waits for the thallus, which the boot reads (R354). -/
theorem test_owed_erase : (match exec (.tamperSourceLatch .shield ⟨.lineBroken, 0⟩) mossAnew with
    | .next t => (t.ks.rhizome == none, (mossAnew.owedErase t).ks.rhizome == none)
    | _ => (true, false)) = (false, true) := by decide +kernel

/-- `live` whose tamper entries all have a level; bit 15 enables, bits 13 and 12 are the level (Table 14.8). -/
def guarded (entry : Nat) : State := { live with tamper := { live.tamper with entries := some (List.replicate 9 entry) } }

theorem test_hyps_sources : live.watched 1 = false ∧ (guarded 0x8000).watched 8 = true ∧
    entryLevel ((guarded 0x8000).entryFor 8) = 0 ∧ (guarded 0x8000).power.life = .awake ∧
    (guarded 0x8000).tamper.hold = false ∧ (guarded 0x8000).tamper.entries ≠ none ∧
    entryLevel ((guarded 0x9000).entryFor 1) = 1 ∧ entryLevel ((guarded 0xB000).entryFor 1) = 3 ∧
    (guarded 0xB000).ks.rhizome ≠ none ∧
    ({ guarded 0x9000 with power := { live.power with life := .asleep } } : State).watched 7 = true := by decide +kernel

/-- Each condition of Table 14.7 at its limits. -/
theorem test_hyps_conditions : (guarded 0x8000).watched 1 = true ∧ (guarded 0x8400).watched 3 = true ∧
    ((guarded 0x8400).entryFor 3).testBit 10 = true ∧ ((guarded 0x8000).entryFor 3).testBit 10 = false ∧
    conditionMet 1 0x8000 (.compared ([(true, true)] ++ [(true, false), (false, true)])) = true ∧
    conditionMet 1 0x8000 (.compared [(true, false)]) = false ∧ conditionMet 2 0x8000 .lineBroken = true ∧
    conditionMet 3 0x8000 (.levels (true :: List.replicate 8 false)) = true ∧
    conditionMet 3 0x8000 (.levels (List.replicate 7 false)) = false ∧
    conditionMet 5 0x8000 (.rail 849 201) = true ∧ conditionMet 5 0x8000 (.rail 1151 201) = true ∧
    conditionMet 5 0x8000 (.rail 850 201) = false ∧ conditionMet 5 0x8000 (.rail 849 200) = false ∧
    conditionMet 6 0x8000 (.pllCycle 749) = true ∧ conditionMet 6 0x8000 (.pllCycle 750) = false ∧
    conditionMet 6 0x8000 (.xin 20001) = true ∧ conditionMet 6 0x8000 (.xin 20000) = false ∧
    conditionMet 7 0x8000 (.temperatures [0, -55001, 175001, -55001, 175001]) = true ∧
    conditionMet 7 0x8000 (.temperatures [-55000, -55001, -55001, -55001]) = false := by decide

/-- `live` with two events due whose records are not yet queued, and one with them queued and room for them. -/
def eventful : State := { live with tamper := { live.tamper with due := [(8, 0, 0, 1, 900, 0), (3, 0, 0, 2, 950, 0)] } }

/-- Both records are queued, and the commit phase that appends them drops them and stages their notices (R361). -/
theorem test_hyps_events : eventful.power.readyDue = none ∧ eventful.log.begun = true ∧
    ({ eventful.power with readyDue := some 1003 } : Power).readyDue ≠ none ∧
    ({ eventful with log := {} } : State).log.begun = false ∧
    eventful.publishTamper.log.waiting.map (·.typ) = [0x64, 0x64] ∧ eventful.publishTamper.tamper.queued = 2 ∧
    eventful.publishTamper.publishRecords.tamper.due = [] := by decide +kernel

theorem test_hyps_tamper_status : (⟨0x70, hdr, []⟩ : Clause).clear { lane := 6 } live = true := by decide +kernel

/-- `live` after one event. -/
def disturbed : State := { live with tamper := { live.tamper with latched := 1, eventSeq := 1, unacked := 1 } }

/-- Arguments that acknowledge it from a session. -/
def ackArgs : Bytes := [0, 0, 0, 0, 1, 0, 0, 0]

theorem test_hyps_ack : ackArgs.length = 8 ∧ num ackArgs 4 4 = (paired disturbed).tamper.eventSeq ∧
    (paired disturbed).tamper.permanent = false ∧ (paired disturbed).stillPresent = false ∧
    (paired disturbed).cipher.hashExhausted = false ∧ (paired disturbed).tamper.hold = false ∧
    (paired disturbed).tamper.unacked ≠ 0 ∧
    (⟨0x71, sealedHdr 0x71 ackArgs, ackArgs⟩ : Clause).clear
      (eccNeed (paired disturbed).thal.cur 0x71 (readEndorsements (paired disturbed).thal.cur 0 [])) (paired disturbed) = true ∧
    ((⟨0x71, sealedHdr 0x71 ackArgs, ackArgs⟩ : Clause).ticket (paired disturbed)).sess ≠ none :=
  ⟨rfl, rfl, rfl, rfl, rfl, rfl, by decide, sealedHdr_clear _ _ _ _ (by decide +kernel), sealedHdr_sess _ _ _⟩

theorem test_hyps_ack_reset : ({ live with power := { live.power with resetDue := some (5, 1008) } } : State).power.resetDue =
      some (5, 1008) ∧ live.portA.outstanding = [] ∧ live.portB.outstanding = [] ∧ live.power.resetDue = none := by decide

/-- A public key of P-256 under which r = s = the hash of the message below, so that 1 · G + 1 · Q has the x-coordinate r:
an endorsement made for the key, not with one. -/
def hostPoint : Nat × Nat :=
  (7755925528989788492844685718785199216850014069676020575329262299107458139470,
   51459394772743034981576564310588160139740428512917977206386389867855662330374)

/-- That host key of SPIA in the thallus (Table 14.4). -/
def hostThallus : Mem := live.thal.cur.writeBytes 0x100
  ([1] ++ zeros 7 ++ beN 32 hostPoint.1 ++ zeros 16 ++ beN 32 hostPoint.2 ++ zeros 16)

/-- `live` with it. -/
def registered : State := { live with thal := { live.thal with cur := hostThallus } }

/-- Arguments of HOST_PAIR: P-256, a nonce, the base point as ephemeral key, r and s (R75). -/
def pairArgs : Bytes := [1, 0, 0, 0] ++ leN 16 2 ++ beN 32 Crypto.p256.gx ++ beN 32 Crypto.p256.gy ++
  beN 32 6473686894850125951345260373011373967882791866366347855057023378360451349931 ++
  beN 32 6473686894850125951345260373011373967882791866366347855057023378360451349931

theorem test_hyps_pair : pairArgs.length = 148 ∧ hostKey registered.thal.cur .a = some ⟨1, hostPoint.1, hostPoint.2⟩ ∧
    (registered.port .a).oldSessions = [] ∧ sess.replaced = false ∧ registered.cipher.eccExhausted = false ∧
    (⟨0x78, hdr, pairArgs⟩ : Clause).clear { lane := 120, ecc := 8, deadline := 256 } registered = true := by decide +kernel

theorem test_hyps_pair_verifies : pairVerifies ⟨1, hostPoint.1, hostPoint.2⟩ .a pairArgs = true := by decide +kernel

/-! ### Lanes and clocks -/

/-- `live` with SPIA's lane lost. -/
def oneLane : State := { live with lanes := { live.lanes with causeA := 5 } }

theorem test_hyps_flagged : live.arbitrating = false ∧ live.lanes.causeA = 0 ∧ live.lanes.causeB = 0 ∧
    live.lanes.takeoverDue = none ∧ oneLane.lanes.causeA ≠ 0 ∧
    ({ live.lanes with takeoverDue := some (1000, .a, 1) } : Lanes).takeoverDue = some (1000, .a, 1) := by decide +kernel

/-- `live` in the arbitration tick after a mismatch in tick 999. -/
def disputed (l : List Nat) : State := { live with lanes := { live.lanes with faultTick := some 999, transientTicks := l } }

theorem test_hyps_arbitration : (disputed []).lanes.faultTick = some 999 ∧ 999 < (disputed []).tick ∧
    (∃ x ∈ (disputed [996]).lanes.transientTicks, 999 < x + 65536) ∧
    ¬ (∃ x ∈ (disputed []).lanes.transientTicks, 999 < x + 65536) := by decide +kernel

/-- A lane lost in tick 999, and a clause with LANE_HINT latched in it, the fifth of all, unanswered (R373). -/
def losing : State := { busy with
  lanes := { live.lanes with takeoverDue := some (999, .b, 1), tickOrder := 5 }
  latched := [⟨.a, 0, 7, 1, [], none, 5, 999, []⟩]
  portA := { busy.portA with outstanding := [{ seq := 7, verb := 1, admitted := true, hinted := some 999, order := 5 }] } }

/-- A lane flagged during the probe (R367). -/
theorem test_hyps_flagged_probe : (disputed []).arbitrating = true ∧ (disputed []).awake = true ∧
    ({ (disputed []).lanes with flagged := (false, true) } : Lanes).flagged = (false, true) := by decide +kernel

/-- Work of an arbitration's ticks: a clause with a unit spent, outstanding, and a running exchange (R369). -/
def gradable : State := { live with
  lanes := { live.lanes with degradedUntil := live.tick, graded := [4] }
  portA := { live.portA with
    outstanding := [{ seq := 7, verb := 0x69, admitted := true, order := 4 }]
    stagedReplies := [{ seq := 7, verb := 0x69, status := 0, results := [], admitted := true, order := 4 }] }
  work := [⟨⟨.a, 7, 0x69, none, 4⟩, [], .nothing, 0, 990, 1100, some 995⟩] }

/-- Its reply carries DONE_DEGRADED, 0x01. -/
theorem test_graded : gradable.stillDue 4 = true ∧ gradable.tick ≤ gradable.lanes.degradedUntil ∧
    gradable.gradeReplies.portA.stagedReplies.map (·.status) = [1] ∧
    gradable.noteGraded.lanes.graded = [4, 4] := by decide +kernel

theorem test_hyps_takeover : losing.awake = true ∧ losing.lanes.takeoverDue = some (999, .b, 1) ∧ 999 + 1 ≤ losing.tick ∧
    (losing.port .a).outstanding = [{ seq := 7, verb := 1, admitted := true, hinted := some 999, order := 5 }] ∧
    (∀ x ∈ losing.latched, losing.againDue
      (losing.latched.filter fun x => ((losing.port x.port).hintedIn 999).contains x.order) x = false) ∧
    (irqEn (losing.cfg.cur.writeBytes 0x9D8 [0xFF, 0xFF]) .a).getLsbD 5 = true ∧
    (∀ o ∈ (live.port .a).outstanding, o.hinted ≠ some 999) ∧ live.lanes.takeoverDue = none := by decide +kernel

/-- The hinted clause is refused with REFUSED_STATE, 0x11. -/
theorem test_hint_refused : (match exec .takeover losing with
    | .next t => t.portA.stagedReplies.map fun r => (r.seq, r.status)
    | _ => []) = [(7, 0x11)] := by decide +kernel

/-- `live` that one lane carries, with waiting work of a clause latched in the fault tick and of one latched before (R53). -/
def shifting : State := { losing with
  work := [⟨⟨.a, 7, 1, none, 5⟩, [], .nothing, 0, 999, 1007, none⟩, ⟨⟨.a, 8, 1, none, 4⟩, [], .nothing, 0, 990, 1100, none⟩] }

/-- The hinted clause's work goes, the last tick of the other's moves by 2 (R53, R373). -/
theorem test_work_shifts : (match exec .takeover shifting with
    | .next t => t.work.map fun q => (q.ticket.order, q.last)
    | _ => []) = [(4, 1102)] := by decide +kernel

theorem test_hyps_probe : ({ live with tick := 3907 } : State).tick % 3907 = 0 ∧ live.tick % 3907 ≠ 0 ∧ live.lanes.probeLeft = 0 ∧
    ({ live.lanes with probeLeft := 120 } : Lanes).probeLeft ≠ 0 ∧
    live.awake = true ∧ oneLane.lanes.causeA ≠ 0 ∧ oneLane.lanes.causeB = 0 ∧
    ({ live.lanes with probeEnd := some 1000 } : Lanes).probeEnd = some 1000 ∧ live.lanes.probeEnd = none := by decide

/-- The slack of an idle tick spends the 200 units at once (R380). -/
theorem test_probe_ends : ({ live with tick := 3907 } : State).spendTick.lanes.probeEnd = some 3907 := by decide +kernel

theorem test_hyps_clocks : live.power.xtalFallback = false ∧ live.power.x32Failed = false ∧
    ({ live.power with xtalFallback := true } : Power).xtalFallback = true ∧
    (airing [walk]).current 0 = some walk := by decide +kernel

theorem test_hyps_sleeping_tamper : ({ guarded 0x9000 with power := { live.power with life := .asleep } } : State).power.life =
      .asleep ∧ 1 ≤ entryLevel (({ guarded 0x9000 with power := { live.power with life := .asleep } } : State).entryFor 7) ∧
    (guarded 0xB000).ses.state = .closed ∧ ({ guarded 0xA000 with ses := { state := .released } } : State).ses.state ≠ .closed ∧
    entryLevel ((guarded 0xA000).entryFor 1) = 2 := by decide +kernel

/-- `live` in the hold that a zeroising response has begun with a cab session open (R207, Table 06.14). -/
def holdingEnd (m : MotionState) : State := { live with
  motion := { state := m }, cell := { state := .released, tamperEnd := some (zeros 32) } }

theorem test_hyps_hold_end : (holdingEnd .moving).awake = true ∧ (holdingEnd .moving).cell.tamperEnd = some (zeros 32) ∧
    (holdingEnd .moving).cell.state = .released ∧ (holdingEnd .moving).still = false ∧ (holdingEnd .stationary).still = true ∧
    live.cell.tamperEnd = none ∧ live.cell.state ≠ .released := by decide +kernel

/-- The end of that session requests the clear with reason 0x06 (Table 06.15). -/
theorem test_hold_end : (((holdingEnd .moving).act .held).cell.pendingReason, ((holdingEnd .moving).act .held).cell.state) =
    (6, .clearPending) := by decide +kernel

/-! ### The tick -/

/-- A ticket of SPIA. -/
def ticketA : Ticket := ⟨.a, 7, 0x43, none, 0⟩

/-- A cached key, of a host or of an engine. -/
def cached (owner : Option Nat) : SlotKey :=
  { kind := 0, usage := 0, key := zeros 16, owner := owner, origin := .node 1 0 0 3 5 0 }

/-- `live` with a host key in one slot. -/
def occupied (n : Nat) : State := { live with ks := { live.ks with
  slots := live.ks.slots.set n { gen := 4, content := some (cached none) } } }

theorem test_hyps_key_work : live.ks.slots.findIdx (fun x => x.content.isNone) = 0 ∧ live.ks.slots.length = 64 ∧
    (63 : Nat) < live.ks.slots.length ∧
    ({ live.ks with work := [.evict ticketA 63 0] } : KeyStore).work = [.evict ticketA 63 0] ∧ (live.ks.slot 63).content = none ∧
    (occupied 63).ks.slots.length = 64 ∧ ((occupied 63).ks.slot 63).content = some (cached none) ∧ (cached none).owner = none ∧
    (cached (some 0)).owner ≠ none ∧ (7 : Nat) ≠ ((occupied 63).ks.slot 63).gen := by decide +kernel

/-- A port with one reply to publish. -/
def staging (s : Option Sess) : Port := { openPort with
  session := s, stagedReplies := [{ seq := 7, verb := 1, status := 0, results := [1], sess := s, admitted := true }] }

theorem test_hyps_device_load : wanting.requestsOf 9 = ⟨9, 0, 1000⟩ :: [] ∧ live.requestsOf 9 = [] ∧
    live.ks.overtaken ticketA 3 5 0 15 = false ∧ (live.ks.retireNode 3 5 0 15 4).overtaken ticketA 3 5 0 15 = true ∧
    wanting.ks.slots.findIdx (fun x => x.content.isNone) < wanting.ks.slots.length ∧
    unanswered.current 0 = some { walk with cur := some handled } := by decide +kernel

/-- Key work of every kind, with the slots that it finds. -/
theorem test_hyps_keys_taken : (56 ≤ (live.ks.slots.filter fun x => x.content.any fun c => c.owner.isNone).length) = false ∧
    live.ks.slots.findIdx (fun x => x.content.isNone) < live.ks.slots.length ∧ (live.ks.slot 5).content = none ∧
    ({ live.ks with slots := live.ks.slots.set 3 { gen := 1, content := some (cached (some 0)) } } : KeyStore).slot 3 =
      { gen := 1, content := some (cached (some 0)) } ∧
    ({ live.ks with work := [.derive ticketA 0xFF (cached none), .retire ticketA 3 5 0 15 true] } : KeyStore).work.length = 2 ∧
    live.ks.overtaken ticketA 3 5 0 15 = false := by decide +kernel

theorem test_hyps_publish : (staging none).newSession = none ∧ (∀ r ∈ (staging none).stagedReplies, r.notice = false) ∧
    (staging none).stagedNotices = [] ∧ (staging (some sess)).session = some sess := by decide +kernel

/-- The frame of a plain ECHO reply (Table 03.6): marker, flags, SEQ, verb, DONE, tick, length, result, CRC. -/
theorem test_reply_frame : ((staging none).publishFrames 1000 false).general.map (fun f => f.bytes.take 12) =
    [[0xD1, 0, 7, 0, 1, 0, 0xE8, 3, 0, 0, 1, 1]] := by decide +kernel

/-- `live` in a tick of matching lanes. -/
def calm : TickIn := ⟨true, 25000, 0, []⟩

theorem test_hyps_tick : live.awake = true ∧ live.lanes.faultTick = none ∧ live.lanes.takeoverDue = none ∧
    live.lanes.transientTicks = [] ∧ calm.matched = true ∧ live.portA.stagedReplies = [] ∧ live.portB.stagedReplies = [] ∧
    oneLane.degraded = true := by decide +kernel

/-- A mismatch cancels a booking in its carrier lead, and leaves the release cell as it was (R17, R146). -/
theorem test_withheld : live.power.thermalOff = false ∧ live.degraded = false ∧
    (match exec (.tick ⟨false, 25000, 0, []⟩)
      { airing [{ walk with phase := .lead }] with cell := { live.cell with state := .released } } with
    | .next t => t.field.bookings.map (fun (b : Booking) => (b.endCode, b.again)) == [(some 6, true)] &&
        t.cell.state == .released
    | _ => false) = true := by decide +kernel

theorem test_hyps_withheld : (disputed []).lanes.faultTick = some 999 ∧ (disputed []).lanes.takeoverDue = none ∧
    ({ live with lanes := { live.lanes with transientTicks := [998] } } : State).tick = 998 + 2 := by decide +kernel

/-- `live` with a SESSION_END and then a START verdict that wait. -/
def deciding : State := { live with acts := [.endSession ticketA, .judge 1 response] }

theorem test_hyps_order : deciding.acts = [.endSession ticketA, .judge 1 response] ∧
    ({ live with acts := [.judge 1 response, .judge 0 response] } : State).acts = [.judge 1 response, .judge 0 response] ∧
    (0 : Nat) < 1 := by decide +kernel

/-- Work that is ready: that of the clause whose needs are spent (R43). -/
def backlog : State := { live with
  ledger := [⟨1100, 0, 4, 520, 0, 0, 0⟩, ⟨1050, 0, 5, 520, 0, 0, 0⟩]
  work := [⟨⟨.a, 7, 1, none, 4⟩, [], .nothing, 0, 999, 1100, none⟩, ⟨⟨.a, 8, 1, none, 3⟩, [], .nothing, 0, 990, 1100, none⟩] }

theorem test_ready : (backlog.ready.map fun q => q.ticket.order) = [3] ∧ (backlog.ready.filter Queued.reserved) = [] := by
  decide +kernel

/-- The earliest last tick is served first, 520 units a tick (R36, R43). -/
theorem test_spend : (backlog.spendTick.ledger.map fun d => (d.order, d.lane)) = [(4, 520)] := by decide +kernel

theorem test_hyps_shows_commit : (({ seq := 7, verb := 2, status := 0, results := [], admitted := true } : Staged).admitted = true) ∧
    ({ seq := 7, verb := 1, status := 0, results := [] } : Staged).verb ∉ [0x02, 0x08, 0x09, 0x2C, 0x30, 0x31, 0x38, 0x39, 0x60] := by
  decide

/-- What a published tick hands to its commit phase. -/
theorem test_hyps_tick_work : live.spendTick.runReady.commitActs.endOps.awake = true ∧
    live.spendTick.runReady.commitActs.endOps.lanes.faultTick = none ∧
    live.spendTick.runReady.commitActs.endOps.lanes.transientTicks = [] ∧
    live.spendTick.runReady.commitActs.endOps.portA.stagedReplies = [] ∧ live.drawn = [] := by decide +kernel

/-! ### Supply -/

theorem test_hyps_supply_starts : ({ State.reset.power with vbatValid := true, life := .starting } : Power).life = .starting ∧
    ({ State.reset.power with life := .asleep } : Power).life = .asleep ∧ ({ State.reset.power with life := .bootStopped } : Power).life = .bootStopped := by decide

theorem test_hyps_supply : State.reset.power.life = .starting ∧ live.power.life = .awake ∧ live.power.vbatValid = true ∧
    State.reset.power.vbatValid = false ∧ ({ live.power with life := .unpowered } : Power).life = .unpowered := by decide

theorem test_hyps_ceilings : (driving walk {}).field.ch[0]? = some { driven := true, target := 1023 * 2 ^ 24 } ∧
    ({ walk with drive := [(0, 1023, 0)], base := [(0, 1023 * 65536)] } : Booking).phase ≠ .booked ∧
    live.power.supplyOff = false ∧ live.power.thermalOff = false ∧
    ({ live.power with supplyOff := true } : Power).supplyOff = true := by decide +kernel

/-- At 163 °C the ceiling is 1.65 W (R105). -/
theorem test_thermal : (State.thermal 163000 live).power.thermalCeiling = 1650000 := by decide +kernel

theorem test_hyps_thermal : (170000 : Int) ≤ 170000 ∧
    ¬ ((170000 : Int) ≤ 169999 ∨ (live.power.thermalOff = true ∧ (165000 : Int) ≤ 169999)) := by decide

/-! ### Reset, boot and sleep -/

theorem test_hyps_boot : State.reset.power.life = .starting ∧
    ({ State.reset.power with vbatValid := true } : Power).vbatValid = true ∧ State.reset.power.nextCause = 1 ∧
    live.power.life ≠ .bootStopped ∧ State.reset.power.vbatValid = false := by decide

/-- `live` between stage 6 and the end of stage 7. -/
def unready (d : Nat) : State := { live with power := { live.power with readyDue := some d } }

theorem test_hyps_ready : (unready 1000).power.readyDue = some 1000 ∧ 1000 ≤ (unready 1000).tick ∧ (unready 1001).tick < 1001 ∧
    (unready 1001).portA.stagedReplies = [] ∧ live.power.readyDue = none ∧
    ({ live.power with firstCommit := true } : Power).firstCommit = true := by decide

/-- The commit phase that ends stage 7 sets READY. -/
theorem test_ready_sets : (State.readyIfDue { unready 1000 with portA := {} }).portA.ready = true ∧
    (State.readyIfDue { unready 1001 with portA := {} }).portA.ready = false := by decide +kernel

theorem test_hyps_ticks : State.reset.power.nextCause = 1 ∧ ¬ (State.reset.prot.personalised = true ∧ State.reset.log.begun = false) ∧
    ({ factory with prot := { personalised := true } } : State).log.begun = false ∧
    ({ live.power with nextCause := 5 } : Power).nextCause ≠ 1 ∧ ({ live with tick := 2 ^ 20 } : State).tick % 2 ^ 20 = 0 ∧
    live.tick % 2 ^ 20 ≠ 0 := by decide

/-- `live` once SLEEP is published, the cell LOCKED. -/
def retiring : State := { live with power := { live.power with life := .sleepPending, sleepTick := 992, lockedAt := 992 } }

theorem test_hyps_sleep : (⟨8, hdr, leN 4 2592000 ++ zeros 4⟩ : Clause).clear { lane := 30, nvm := 2, deadline := 8 } live = true ∧
    num (leN 4 2592000 ++ zeros 4) 0 4 = 2592000 ∧ live.field.bookings = [] ∧ live.field.readers = [] ∧
    retiring.power.life = .sleepPending ∧ retiring.cell.state = .locked ∧ retiring.log.unprogrammed = [] ∧
    retiring.log.waiting = [] ∧ retiring.log.seals = [] ∧ max retiring.power.sleepTick retiring.power.lockedAt + 8 ≤ retiring.tick ∧
    true ≠ retiring.field.held .wake ∧ trigWake zoneConfig 0 = true ∧ live.power.life ≠ .sleepPending := by decide +kernel

/-- `zoned` asleep. -/
def dozing : State := { zoned with power := { zoned.power with life := .asleep, wakeTimer := 1 } }

theorem test_hyps_wake : dozing.power.life = .asleep ∧ trigWake dozing.cfg.cur 0 = true ∧ trigWake dozing.cfg.cur 1 = false ∧
    dozing.power.wakeTimer * 32768 ≤ 32768 ∧ 32767 < dozing.power.wakeTimer * 32768 ∧ dozing.fp.wrote = false ∧
    dozing.tamper.hold = false ∧ ({ dozing.power with life := .starting, wakeCycle := some 9, nextCause := 0x2B } : Power).wakeCycle =
      some 9 ∧ sleepWakePulses dozing.thal.cur = 512 ∧
    512 < ({ dozing.motion with sleepCount0 := 513 } : Motion).sleepCount0 := by decide +kernel

/-- `dozing` with aerial 0 pinged and entry 6 waking, its baseline and pings that exceeded as given. -/
def pinging (b : Option (Int × Int × Nat)) (l : List Nat) : State := { dozing with
  cfg := { dozing.cfg with cur := (zoneConfig.write 0x40 0xC0).write 0x9C8 0xA0 }
  field := { dozing.field with ch := dozing.field.ch.set 0 { base := b }, exceeded := l } }

/-- A wake by the timer in a cycle, and a later source of that cycle; the samples that qualify an input. -/
theorem test_hyps_same_cycle : dozing.field.held .wake = false ∧ dozing.field.held .start = false ∧
    ([true, false] ++ List.replicate 4 true : List Bool) = [true, false] ++ List.replicate 4 (!dozing.field.held .wake) ∧
    ¬ ([true, true, true] : List Bool).drop 0 = List.replicate 4 true ∧
    ({ dozing.power with life := .starting, wakeCycle := some 32768, nextCause := 0x2B } : Power).wakeCycle = some 32768 ∧
    0x20 ≤ 0x2B ∧ ({ dozing.fp with wrote := true } : FieldPort).wrote = true ∧
    ({ dozing.tamper with hold := true } : Tamper).hold = true := by decide

/-- Three samples do not qualify. -/
theorem test_three_samples : (match exec (.wakeEvent .wakePin ⟨[true, true, true], 9⟩) dozing with
    | .next t => t.power.life == .asleep
    | _ => false) = true := by decide +kernel

/-- Of two sources in one MOSS cycle the lower code is recorded (R411). -/
theorem test_lowest_wake : (match exec (.wakeTimerExpiry 32768) dozing with
    | .next t => (match exec (.wakeEvent .wakePin ⟨List.replicate 4 true, 32768⟩) t with
      | .next u => u.power.nextCause
      | _ => 0)
    | _ => 0) = 0x26 := by decide +kernel

theorem test_hyps_pings : (pinging none []).pings = true ∧ (0 : Nat) ∈ (pinging none []).pingAerials ∧
    (pinging (some (100, 0, 0)) [0]).field.ch[0]? = some { base := some (100, 0, 0) } ∧
    detuneThresh (pinging none []).cfg.cur = 20 ∧ trigWake (pinging none []).cfg.cur 6 = true ∧
    (20 ^ 2 : Int) * (100 * 100) < 1000000 * ((103 - 100) * (103 - 100)) ∧
    ¬ (20 ^ 2 : Int) * (100 * 100) < 1000000 * ((102 - 100) * (102 - 100)) ∧ (pinging none []).pingDue 524288 = true ∧
    ({ (pinging none []).field with vbatAt := some 524288 } : Field).vbatAt = some 524288 ∧
    (pinging none []).field.lastPing + 131 ≤ 524288 ∧ (pinging none []).wakesNow = true ∧ live.wakesNow = false ∧
    (pinging none []).field.lastPing + 8192 * min (2 ^ min (0 / 2831155200) 6) (pMax (pinging none []).cfg.cur) ≤ 524288 ∧ (pinging none []).field.pingStopped = false ∧
    live.power.life ≠ .asleep := by decide +kernel

/-- `dozing` with the counts of a sleep running. -/
def pulsing (open_ : Bool) : State := { dozing with
  motion := { dozing.motion with wakeDue := true, counting := true, openEpisode := open_, lastPulse := some 100 } }

theorem test_hyps_sleep_motion : (pulsing true).mossCounts = true ∧ live.mossCounts = false ∧
    (pulsing true).motion.lastPulse = some 100 ∧ 100 + 65536 ≤ 65636 ∧ 65635 < 100 + 65536 ∧
    (pulsing false).motion.episodes.length < 16 ∧ (pulsing true).motion.level0 = false ∧
    edgeFalling (pulsing true).thal.cur 0 = false := by decide +kernel

/-- A rising edge that two samples show is counted, its fall is only kept (R397). -/
theorem test_sleep_edges : (match exec (.sleepPulseEdge false 200 ⟨true, 2⟩) (pulsing true) with
    | .next t => (match exec (.sleepPulseEdge false 300 ⟨false, 2⟩) t with
      | .next u => (t.motion.sleepCount0, t.motion.level0, u.motion.sleepCount0, u.motion.level0)
      | _ => (0, false, 0, false))
    | _ => (0, false, 0, false)) = (1, true, 1, false) := by decide +kernel

/-! ### Endorsements that verify -/

/-- A KEEPER and an AUTHORITY on P-256 in the factory thallus (Table 14.4), without their keys. -/
def partiesBase : Mem := (factoryThallus.writeBytes 0x1D0 [1, 1]).writeBytes 0x240 [2, 1]

/-- With the keys `(x, y)` and `(u, v)`. -/
def enrolled (x y u v : Nat) : Mem :=
  (((partiesBase.writeBytes 0x1E0 (beN 32 x)).writeBytes 0x210 (beN 32 y)).writeBytes 0x250 (beN 32 u)).writeBytes 0x280
    (beN 32 v)

/-- The keys leave the class and the curve of every party alone. -/
theorem enrolled_class (x y u v i : Nat) : partyClass (enrolled x y u v) i = partyClass partiesBase i ∧
    (partyKey (enrolled x y u v) i).curve = (partyKey partiesBase i).curve := by
  have l : ∀ n, (beN 32 n).length = 32 := fun n => length_beN 32 n
  constructor
  · simp only [partyClass, Mem.num, enrolled]
    rw [Mem.readBytes_writeBytes_other, Mem.readBytes_writeBytes_other, Mem.readBytes_writeBytes_other,
      Mem.readBytes_writeBytes_other] <;> rw [l] <;> omega
  · simp only [partyKey, pointAt, Mem.num, enrolled]
    rw [Mem.readBytes_writeBytes_other, Mem.readBytes_writeBytes_other, Mem.readBytes_writeBytes_other,
      Mem.readBytes_writeBytes_other] <;> rw [l] <;> omega

theorem enrolled_seal (x y u v : Nat) : thalSeal (enrolled x y u v) .a = false := by
  have l : ∀ n, (beN 32 n).length = 32 := fun n => length_beN 32 n
  simp only [thalSeal, Mem.num, enrolled]
  rw [Mem.readBytes_writeBytes_other, Mem.readBytes_writeBytes_other, Mem.readBytes_writeBytes_other,
    Mem.readBytes_writeBytes_other]
  · decide +kernel
  all_goals rw [l]; omega

theorem ofBe_beN (n : Nat) (h : n < 2 ^ 256) : ofBe (beN 32 n) = n := by
  have key : ∀ k m, ofLe (leN k m) = m % 256 ^ k := by
    intro k
    induction k with
    | zero => intro m; simp [leN, ofLe, Nat.mod_one]
    | succ k ih =>
      intro m
      rw [leN, ofLe, ih, BitVec.toNat_ofNat, show 2 ^ 8 = 256 from rfl]
      rw [Nat.pow_succ, Nat.mul_comm (256 ^ k) 256, Nat.mod_mul]
  rw [ofBe_eq, beN, List.reverse_reverse, key]
  exact Nat.mod_eq_of_lt h

theorem partiesBase_wf : partiesBase.wf = true := by decide +kernel

theorem enrolled_key (x y u v : Nat) (hx : x < 2 ^ 256) (hy : y < 2 ^ 256) (hu : u < 2 ^ 256) (hv : v < 2 ^ 256) :
    partyKey (enrolled x y u v) 0 = ⟨1, x, y⟩ ∧ partyKey (enrolled x y u v) 1 = ⟨1, u, v⟩ := by
  have l : ∀ n, (beN 32 n).length = 32 := fun n => length_beN 32 n
  have same : ∀ (m : Mem) (a n : Nat), m.wf = true → (m.writeBytes a (beN 32 n)).readBytes a 32 = beN 32 n :=
    fun m a n h => l n ▸ Mem.readBytes_writeBytes_same a (beN 32 n) h
  have other : ∀ (m : Mem) (a c n : Nat), c + 32 ≤ a ∨ a + 32 ≤ c → (m.writeBytes a (beN 32 n)).readBytes c 32 =
      m.readBytes c 32 := fun m a c n h => Mem.readBytes_writeBytes_other _ (by rw [l]; exact h)
  have w1 := Mem.wf_writeBytes 0x1E0 (beN 32 x) partiesBase_wf
  have w2 := Mem.wf_writeBytes 0x210 (beN 32 y) w1
  have w3 := Mem.wf_writeBytes 0x250 (beN 32 u) w2
  constructor
  · have c := (enrolled_class x y u v 0).2
    simp only [partyKey, pointAt] at c
    simp only [partyKey, pointAt, c, show Mem.num partiesBase (0x1D1 + 112 * 0) 1 = 1 by decide +kernel,
      if_pos (show (1 : Nat) ≤ 2 by omega)]
    rw [enrolled, other _ _ _ _ (by omega), other _ _ _ _ (by omega), other _ _ _ _ (by omega), same _ _ _ partiesBase_wf,
      other _ _ _ _ (by omega), other _ _ _ _ (by omega), same _ _ _ w1, ofBe_beN x hx, ofBe_beN y hy]
  · have c := (enrolled_class x y u v 1).2
    simp only [partyKey, pointAt] at c
    simp only [partyKey, pointAt, c, show Mem.num partiesBase (0x1D1 + 112 * 1) 1 = 1 by decide +kernel,
      if_pos (show (1 : Nat) ≤ 2 by omega)]
    rw [enrolled, other _ _ _ _ (by omega), same _ _ _ w2, same _ _ _ w3, ofBe_beN u hu, ofBe_beN v hv]

/-- Endorsements with r = s = 5 (`exists_verifying_key`). -/
def fives (i : Byte) : Bytes := [i, 0, 0, 0] ++ beN 32 5 ++ beN 32 5

/-- Arguments of LICHEN_ENDORSE with party 0's, and of TAMPER_ACK with both. -/
def endorseArgs : Bytes := [1, 0, 0, 0] ++ fives 0
def ackedArgs : Bytes := [2, 0, 0, 0, 1, 0, 0, 0] ++ fives 0 ++ fives 1

theorem endorsementParties_congr {t t' : Mem} (hc : ∀ i, partyClass t i = partyClass t' i)
    (hk : ∀ i, (partyKey t i).curve = (partyKey t' i).curve) : ∀ n b, endorsementParties t n b = endorsementParties t' n b
  | 0, b => rfl
  | n + 1, b => by simp only [endorsementParties, hc, hk, endorsementParties_congr hc hk n]

theorem endorsementList_congr {t t' : Mem} (hc : ∀ i, partyClass t i = partyClass t' i)
    (hk : ∀ i, (partyKey t i).curve = (partyKey t' i).curve) : ∀ n b, endorsementList t n b = endorsementList t' n b
  | 0, b => rfl
  | n + 1, b => by simp only [endorsementList, hc, hk, endorsementList_congr hc hk n]

/-- Endorsements are read by class and curve alone. -/
theorem readEndorsements_enrolled (x y u v n : Nat) (b : Bytes) :
    readEndorsements (enrolled x y u v) n b = readEndorsements partiesBase n b := by
  have hc := fun i => (enrolled_class x y u v i).1
  have hk := fun i => (enrolled_class x y u v i).2
  simp only [readEndorsements, endorsementParties_congr hc hk, endorsementList_congr hc hk]

theorem read_fives (x y u v : Nat) :
    readEndorsements (enrolled x y u v) (oct endorseArgs 0) (endorseArgs.drop 4) = .ok [(0, 5, 5)] ∧
    readEndorsements (enrolled x y u v) (oct ackedArgs 0) (ackedArgs.drop 8) = .ok [(0, 5, 5), (1, 5, 5)] := by
  rw [readEndorsements_enrolled, readEndorsements_enrolled]
  decide +kernel

/-- `live` with that thallus and a stage; and after one tamper event. -/
def endorsing (m : Mem) : State := { live with thal := { live.thal with stage := some [], cur := m } }
def alarmed (m : Mem) : State := { disturbed with thal := { disturbed.thal with cur := m } }

/-- The common checks of an open clause on SPIA see of the thallus only whether sealing is asked for there. -/
theorem clear_thal (v : Nat) (a : Bytes) (n : Need) (s : State) (th : Banks)
    (h : thalSeal th.cur .a = thalSeal s.thal.cur .a) :
    (⟨v, hdr, a⟩ : Clause).clear n { s with thal := th } = (⟨v, hdr, a⟩ : Clause).clear n s := by
  have hc : (⟨v, hdr, a⟩ : Clause).counted { s with thal := th } = { (⟨v, hdr, a⟩ : Clause).counted s with thal := th } := rfl
  have hh : (⟨v, hdr, a⟩ : Clause).held { s with thal := th } = { (⟨v, hdr, a⟩ : Clause).held s with thal := th } := rfl
  have ho : (⟨v, hdr, a⟩ : Clause).opened { s with thal := th } = .plain := rfl
  have ho' : (⟨v, hdr, a⟩ : Clause).opened s = .plain := rfl
  have ha : authBad (⟨v, hdr, a⟩ : Clause).head .plain { (⟨v, hdr, a⟩ : Clause).counted s with thal := th } =
      authBad (⟨v, hdr, a⟩ : Clause).head .plain ((⟨v, hdr, a⟩ : Clause).counted s) := by
    show (_ || (_ && thalSeal th.cur .a && _)) = (_ || (_ && thalSeal s.thal.cur .a && _))
    rw [h]
  simp only [Clause.clear, hc, hh, ho, ho', ha]
  rfl

/-- The need of an endorsed clause, both parties' keys being on a 256-bit curve. -/
theorem eccNeed_enrolled (x y u v verb : Nat) (l : List (Nat × Nat × Nat)) :
    eccNeed (enrolled x y u v) verb (.ok l) = eccNeed partiesBase verb (.ok l) := by
  simp only [eccNeed, (enrolled_class x y u v _).2]

/-- A party of `enrolled` whose key verifies r = s = 5 over the message of its endorsement. -/
theorem fives_verify {t : Mem} {i x y purpose seq tick : Nat} {digest : Bytes} (hk : partyKey t i = ⟨1, x, y⟩)
    (h : Crypto.ecdsaVerify Crypto.p256 x y (lichenMessage purpose i seq tick digest) 5 5 = true) :
    endorsementOk t purpose seq tick digest (i, 5, 5) = true := by
  simp only [endorsementOk, hk]
  exact h

theorem endorsing_cur (m : Mem) : (endorsing m).thal.cur = m := rfl
theorem endorsing_endorsed (m : Mem) : (endorsing m).prot.endorsed = [] := rfl
theorem alarmed_cur (m : Mem) : (alarmed m).thal.cur = m := rfl
theorem alarmed_tamper (m : Mem) : (alarmed m).tamper = disturbed.tamper := rfl
theorem alarmed_results (m : Mem) : (alarmed m).tamperResults = disturbed.tamperResults := by
  simp only [State.tamperResults, alarmed_tamper]
  rfl
theorem alarmed_stillPresent (m : Mem) : (alarmed m).stillPresent = false := by
  simp [State.stillPresent, alarmed_tamper, show disturbed.tamper.present = 0 from rfl]

theorem endorsing_clear (m : Mem) (n : Need) (h : thalSeal m .a = thalSeal live.thal.cur .a) :
    (⟨0x15, hdr, endorseArgs⟩ : Clause).clear n (endorsing m) = (⟨0x15, hdr, endorseArgs⟩ : Clause).clear n live :=
  clear_thal _ _ n live _ h

theorem alarmed_clear (m : Mem) (n : Need) (h : thalSeal m .a = thalSeal live.thal.cur .a) :
    (⟨0x71, hdr, ackedArgs⟩ : Clause).clear n (alarmed m) = (⟨0x71, hdr, ackedArgs⟩ : Clause).clear n disturbed :=
  clear_thal _ _ n disturbed _ h

/-- Every hypothesis of the statement of LICHEN_ENDORSE, the verifying endorsement among them. -/
theorem test_hyps_endorse : ∃ cur : Mem, let s := endorsing cur
    (⟨0x15, hdr, endorseArgs⟩ : Clause).clear (eccNeed s.thal.cur 0x15 (.ok [(0, 5, 5)])) s = true ∧
    4 ≤ endorseArgs.length ∧ oct endorseArgs 0 = 1 ∧ slice endorseArgs 1 3 = [0#8, 0#8, 0#8] ∧
    readEndorsements s.thal.cur (oct endorseArgs 0) (endorseArgs.drop 4) = .ok [(0, 5, 5)] ∧ s.thal.stage = some [] ∧
    (∀ e ∈ [((0 : Nat), (5 : Nat), (5 : Nat))], e.1 ∉ s.prot.endorsed) ∧
    lichenOk s.thal.cur (s.prot.endorsed ++ [((0 : Nat), (5 : Nat), (5 : Nat))].map (·.1)) = true ∧
    ∀ e ∈ [((0 : Nat), (5 : Nat), (5 : Nat))], endorsementOk s.thal.cur 1 s.thal.seq s.prot.stageTick
      (Crypto.sha256 (Mem.readBytes [] 0x40 0x1FC0)) e = true := by
  obtain ⟨x, y, h⟩ := Laws.exists_verifying_key
    (lichenMessage 1 0 live.thal.seq live.prot.stageTick (Crypto.sha256 (Mem.readBytes [] 0x40 0x1FC0)))
  obtain ⟨hx, hy⟩ := Laws.verifying_key_lt h
  have hn := eccNeed_enrolled x y 1 1 0x15 [(0, 5, 5)]
  have hs := (enrolled_seal x y 1 1).trans (show false = thalSeal live.thal.cur .a by decide +kernel)
  have hr := (read_fives x y 1 1).1
  have hk := (enrolled_key x y 1 1 hx hy (by decide) (by decide)).1
  generalize enrolled x y 1 1 = m at hn hs hr hk
  refine ⟨m, ?_, by decide, rfl, rfl, hr, rfl, ?_, rfl, ?_⟩
  · rw [endorsing_cur, hn, endorsing_clear m _ hs]
    decide +kernel
  · simp [endorsing_endorsed]
  · intro e he
    rw [List.mem_singleton.1 he]
    exact fives_verify hk h

/-- Every hypothesis of the statement of an endorsed TAMPER_ACK. -/
theorem test_hyps_ack_endorsed : ∃ cur : Mem, let s := alarmed cur
    let e := readEndorsements s.thal.cur (oct ackedArgs 0) (ackedArgs.drop 8)
    (⟨0x71, hdr, ackedArgs⟩ : Clause).clear (eccNeed s.thal.cur 0x71 e) s = true ∧ 8 ≤ ackedArgs.length ∧
    slice ackedArgs 1 3 = [0#8, 0#8, 0#8] ∧ num ackedArgs 4 4 = s.tamper.eventSeq ∧ s.tamper.permanent = false ∧
    s.stillPresent = false ∧ s.tamper.unacked ≠ 0 ∧ oct ackedArgs 0 = 2 ∧ e = .ok [(0, 5, 5), (1, 5, 5)] ∧
    s.ackVerifies e = true := by
  obtain ⟨x, y, h⟩ := Laws.exists_verifying_key (lichenMessage 2 0 1 0 (Crypto.sha256 (disturbed.tamperResults.take 32)))
  obtain ⟨u, v, h'⟩ := Laws.exists_verifying_key (lichenMessage 2 1 1 0 (Crypto.sha256 (disturbed.tamperResults.take 32)))
  obtain ⟨hx, hy⟩ := Laws.verifying_key_lt h
  obtain ⟨hu, hv⟩ := Laws.verifying_key_lt h'
  have hn := eccNeed_enrolled x y u v 0x71 [(0, 5, 5), (1, 5, 5)]
  have hs := (enrolled_seal x y u v).trans (show false = thalSeal live.thal.cur .a by decide +kernel)
  have he := (read_fives x y u v).2
  obtain ⟨k0, k1⟩ := enrolled_key x y u v hx hy hu hv
  have hc : (partyClass (enrolled x y u v) 0 != partyClass (enrolled x y u v) 1) = true := by
    rw [(enrolled_class x y u v 0).1, (enrolled_class x y u v 1).1]
    decide +kernel
  generalize enrolled x y u v = m at hn hs he k0 k1 hc
  refine ⟨m, ?_, by decide +kernel, rfl, rfl, rfl, alarmed_stillPresent m, by rw [alarmed_tamper]; decide, rfl, he, ?_⟩
  · rw [alarmed_cur, he, hn, alarmed_clear m _ hs]
    decide +kernel
  · rw [alarmed_cur, he]
    have hl : lichenOk m [0, 1] = true := by simp [lichenOk, partyPairOk, hc]
    simp only [State.ackVerifies, alarmed_cur, alarmed_results, alarmed_tamper, Endorsements.parties, Endorsements.list,
      List.map_cons, List.map_nil, hl, List.all_cons, List.all_nil, Bool.true_and, Bool.and_true, Bool.and_eq_true]
    exact ⟨fives_verify k0 h, fives_verify k1 h'⟩

end Sys2Proof.Tests
end

section
/-! Ordering: `sortBy` is the library's insertion sort; members of equal rank keep their places. -/

namespace Sys2Proof.Machine

open Sys2Proof

theorem sortBy_eq_insertionSort {α : Type} (le : α → α → Bool) (l : List α) :
    sortBy le l = l.insertionSort fun a b => le a b = true := by
  have hi : ∀ (x : α) (m : List α), insertBy le x m = m.orderedInsert (fun a b => le a b = true) x := by
    intro x m
    induction m with
    | nil => rfl
    | cons y r ih => rw [insertBy, ih, List.orderedInsert_cons]
  induction l with
  | nil => rfl
  | cons x r ih => rw [List.insertionSort_cons, ← ih, ← hi]; rfl

theorem perm_sortBy {α : Type} (le : α → α → Bool) (l : List α) : (sortBy le l).Perm l := by
  rw [sortBy_eq_insertionSort]
  exact List.perm_insertionSort _ l

theorem pairwise_sortBy {α : Type} (le : α → α → Bool) (total : ∀ a b, le a b = true ∨ le b a = true)
    (trans : ∀ a b c, le a b = true → le b c = true → le a c = true) (l : List α) :
    (sortBy le l).Pairwise fun a b => le a b = true := by
  have : Std.Total fun a b => le a b = true := ⟨total⟩
  have : IsTrans α fun a b => le a b = true := ⟨trans⟩
  rw [sortBy_eq_insertionSort]
  exact List.pairwise_insertionSort _ l

/-- A list put in order by a number of its members. -/
theorem pairwise_sortBy_key {α : Type} (key : α → Nat) (l : List α) :
    (sortBy (fun a b => decide (key a ≤ key b)) l).Pairwise fun a b => key a ≤ key b := by
  refine (pairwise_sortBy _ (fun a b => ?_) (fun a b c => ?_) l).imp fun h => by simpa using h
  · simp only [decide_eq_true_eq]; omega
  · simp only [decide_eq_true_eq]; omega

/-- Members that may stand in either order keep the order in which they came. -/
theorem filter_sortBy {α : Type} (le : α → α → Bool) (p : α → Bool)
    (h : ∀ a b, p a = true → p b = true → le a b = true) (l : List α) : (sortBy le l).filter p = l.filter p := by
  have hi : ∀ (x : α) (m : List α), (insertBy le x m).filter p = (x :: m).filter p := by
    intro x m
    induction m with
    | nil => rfl
    | cons y r ih =>
      cases hle : le x y with
      | true => simp [insertBy, hle]
      | false =>
        have hxy : ¬ (p x = true ∧ p y = true) := fun hp => by simp [h x y hp.1 hp.2] at hle
        rw [insertBy, hle, if_neg Bool.false_ne_true, List.filter_cons, ih]
        cases hx : p x <;> cases hy : p y <;> simp_all
  induction l with
  | nil => rfl
  | cons x r ih => rw [show sortBy le (x :: r) = insertBy le x (sortBy le r) from rfl, hi, List.filter_cons, ih,
      List.filter_cons]

end Sys2Proof.Machine
end

section
/-! What a tick spends (R33, R36, R42, R43). Each ledger is spent by itself: `spendOn` is `spend` on one of the four. -/

namespace Sys2Proof.Machine

open Sys2Proof

/-- What is left of the needs on one ledger when `room` is spent on them in order. -/
def spendOn : Nat → List Nat → List Nat
  | _, [] => []
  | room, n :: r => (n - min room n) :: spendOn (room - min room n) r

theorem sum_spendOn (room : Nat) (l : List Nat) : (spendOn room l).sum = l.sum - room := by
  induction l generalizing room with
  | nil => simp [spendOn]
  | cons n r ih =>
    rw [spendOn, List.sum_cons, ih, List.sum_cons]
    omega

/-- `spend` is `spendOn` on each of the four ledgers. -/
theorem map_spend (r : Room) (l : List Demand) :
    (spend r l).map Demand.lane = spendOn r.lane (l.map Demand.lane) ∧
      (spend r l).map Demand.maint = spendOn r.maint (l.map Demand.maint) ∧
      (spend r l).map Demand.ecc = spendOn r.ecc (l.map Demand.ecc) ∧
      (spend r l).map Demand.nvm = spendOn r.nvm (l.map Demand.nvm) := by
  induction l generalizing r with
  | nil => exact ⟨rfl, rfl, rfl, rfl⟩
  | cons d l ih =>
    obtain ⟨hl, hm, he, hn⟩ := ih ⟨r.lane - min r.lane d.lane, r.maint - min r.maint d.maint, r.ecc - min r.ecc d.ecc,
      r.nvm - min r.nvm d.nvm⟩
    simp only [spend, List.map_cons, spendOn, hl, hm, he, hn, and_self]

/-- Needs only fall, and nothing else of a demand changes. -/
theorem mem_spend {r : Room} {l : List Demand} {d : Demand} (h : d ∈ spend r l) :
    ∃ d' ∈ l, d'.order = d.order ∧ d'.last = d.last ∧ d.lane ≤ d'.lane ∧ d.maint ≤ d'.maint ∧ d.ecc ≤ d'.ecc ∧
      d.nvm ≤ d'.nvm := by
  induction l generalizing r with
  | nil => cases h
  | cons x l ih =>
    rcases List.mem_cons.1 h with rfl | h
    · exact ⟨x, List.mem_cons_self, rfl, rfl, Nat.sub_le _ _, Nat.sub_le _ _, Nat.sub_le _ _, Nat.sub_le _ _⟩
    · obtain ⟨d', hd', hr⟩ := ih h
      exact ⟨d', List.mem_cons_of_mem _ hd', hr⟩

/-- Demands that leave the ledgers have nothing left on any of them. -/
theorem sum_filter_needy (f : Demand → Nat) (hf : ∀ d, f d ≤ d.lane + d.maint + d.ecc + d.nvm) (l : List Demand) :
    ((l.filter fun d => d.lane + d.maint + d.ecc + d.nvm != 0).map f).sum = (l.map f).sum := by
  induction l with
  | nil => rfl
  | cons d l ih =>
    by_cases h : d.lane + d.maint + d.ecc + d.nvm = 0
    · have : f d = 0 := by have := hf d; omega
      rw [List.filter_cons_of_neg (by simp only [h]; decide), ih, List.map_cons, List.sum_cons, this, Nat.zero_add]
    · rw [List.filter_cons_of_pos (by simpa using h), List.map_cons, List.sum_cons, ih, List.map_cons, List.sum_cons]

/-- A tick takes the needs on a ledger down by what the ledger has room for. -/
theorem sum_drain (r : Room) (l : List Demand) (f : Demand → Nat) (room : Nat)
    (hf : ∀ d, f d ≤ d.lane + d.maint + d.ecc + d.nvm) (hs : ∀ m, (spend r m).map f = spendOn room (m.map f)) :
    ((drain r l).map f).sum = (l.map f).sum - room := by
  rw [drain, sum_filter_needy f hf, hs, sum_spendOn, ((perm_sortBy Demand.before l).map f).sum_eq]

theorem mem_drain {r : Room} {l : List Demand} {d : Demand} (h : d ∈ drain r l) :
    d.lane + d.maint + d.ecc + d.nvm ≠ 0 ∧ ∃ d' ∈ l, d'.order = d.order ∧ d'.last = d.last ∧ d.lane ≤ d'.lane ∧
      d.maint ≤ d'.maint ∧ d.ecc ≤ d'.ecc ∧ d.nvm ≤ d'.nvm := by
  obtain ⟨hs, hn⟩ := List.mem_filter.1 h
  obtain ⟨d', hd', hr⟩ := mem_spend hs
  exact ⟨by simpa using hn, d', (mem_sortBy _ _ _).1 hd', hr⟩

/-- A later demand gets nothing in a tick that an earlier one's host work fills. -/
theorem drain_pair (s : State) {d d' : Demand} (hlast : d'.last < d.last) (hl : d'.lane = 520)
    (hn : d'.maint + d'.ecc + d'.nvm = 0) (hd : d.lane ≠ 0) (hz : d.ecc + d.nvm + d.maint = 0) :
    drain s.room [d, d'] = [d] := by
  obtain ⟨last, prio, order, lane, maint, ecc, nvm⟩ := d
  obtain ⟨last', prio', order', lane', maint', ecc', nvm'⟩ := d'
  simp only at hlast hl hn hd hz
  subst hl
  obtain ⟨⟨rfl, rfl⟩, rfl⟩ : (maint' = 0 ∧ ecc' = 0) ∧ nvm' = 0 := by omega
  obtain ⟨⟨rfl, rfl⟩, rfl⟩ : (ecc = 0 ∧ nvm = 0) ∧ maint = 0 := by omega
  have hb : Demand.before ⟨last, prio, order, lane, 0, 0, 0⟩ ⟨last', prio', order', 520, 0, 0, 0⟩ = false := by
    simp [Demand.before, show ¬ last < last' by omega, show last ≠ last' by omega]
  simp [drain, sortBy, insertBy, hb, spend, State.room, hd]

theorem spendTick_ledger (s : State) : s.spendTick.ledger = drain s.room s.ledger := rfl

theorem ticksSpendTheirUnits : Claim.TicksSpendTheirUnits := by
  unfold Claim.TicksSpendTheirUnits
  intro s
  have spent : ∀ (f : Demand → Nat) (room : Nat), (∀ d, f d ≤ d.lane + d.maint + d.ecc + d.nvm) →
      (∀ m, (spend s.room m).map f = spendOn room (m.map f)) →
      (s.ledger.map f).sum - (s.spendTick.ledger.map f).sum = min room (s.ledger.map f).sum := by
    intro f room hf hs
    rw [spendTick_ledger, sum_drain _ _ f room hf hs]
    omega
  refine ⟨spent Demand.lane 520 (fun d => by omega) fun m => (map_spend _ m).1,
    spent Demand.ecc 1 (fun d => by omega) fun m => (map_spend _ m).2.2.1,
    spent Demand.nvm 1 (fun d => by omega) fun m => (map_spend _ m).2.2.2,
    spent Demand.maint _ (fun d => by omega) fun m => (map_spend _ m).2.1, fun d hd => mem_drain hd, ?_⟩
  intro d d' hled hlast hl hn hd hz
  rw [spendTick_ledger, hled, drain_pair s hlast hl hn hd hz]

end Sys2Proof.Machine
end

section
/-! The work that runs in a published tick (R36, R42, R43, R283). -/

namespace Sys2Proof.Machine

open Sys2Proof

theorem limitLoads_sublist (n : Nat) (l : List Queued) : (limitLoads n l).Sublist l := by
  induction l generalizing n with
  | nil => exact .slnil
  | cons q r ih =>
    cases hq : q.reserved with
    | false => simpa [limitLoads, hq] using ih n
    | true =>
      cases n with
      | zero => simpa [limitLoads, hq] using (ih 0).cons q
      | succ n => simpa [limitLoads, hq] using ih n

/-- Only spore loads are held back. -/
theorem limitLoads_keeps (n : Nat) (l : List Queued) :
    (limitLoads n l).filter (fun q => !q.reserved) = l.filter fun q => !q.reserved := by
  induction l generalizing n with
  | nil => rfl
  | cons q r ih =>
    cases hq : q.reserved with
    | false => simp [limitLoads, hq, ih]
    | true => cases n <;> simp [limitLoads, hq, ih]

theorem length_limitLoads_reserved (n : Nat) (l : List Queued) : ((limitLoads n l).filter Queued.reserved).length ≤ n := by
  induction l generalizing n with
  | nil => exact Nat.zero_le n
  | cons q r ih =>
    cases hq : q.reserved with
    | false => simpa [limitLoads, hq] using ih n
    | true =>
      cases n with
      | zero => simpa [limitLoads, hq] using ih 0
      | succ n => simpa [limitLoads, hq] using ih n

theorem Queued.before_iff (a b : Queued) : a.before b = true ↔
    a.last < b.last ∨ (a.last = b.last ∧ (b.prio < a.prio ∨ (a.prio = b.prio ∧ a.ticket.order ≤ b.ticket.order))) := by
  simp [Queued.before]

theorem pairwise_sortBy_before (l : List Queued) : (sortBy Queued.before l).Pairwise fun a b => a.before b = true := by
  refine pairwise_sortBy _ (fun a b => ?_) (fun a b c => ?_) l
  · simp only [Queued.before_iff]; omega
  · simp only [Queued.before_iff]; omega

/-- The needs of a queued clause are spent and its loopback tests are over. -/
def State.isReady (s : State) (q : Queued) : Bool :=
  !(s.ledger.any fun d => d.order == q.ticket.order) &&
    !s.field.loops.any fun l => l.order == q.ticket.order && l.tick.any (s.tick ≤ ·)

theorem State.isReady_iff (s : State) (q : Queued) : s.isReady q = true ↔
    (∀ d ∈ s.ledger, d.order ≠ q.ticket.order) ∧
      ∀ x ∈ s.field.loops, x.order = q.ticket.order → ∀ t, x.tick = some t → t < s.tick := by
  cases q
  simp only [State.isReady, Bool.and_eq_true, Bool.not_eq_true', List.any_eq_false, beq_iff_eq, Bool.and_eq_true, not_and]
  refine and_congr_right fun _ => forall₂_congr fun x _ => imp_congr_right fun _ => ?_
  cases x.tick <;> simp

/-- The work that may run, in the order of R43, without the spore loads beyond the reserve of the tick. -/
def State.chosen (s : State) : List Queued :=
  limitLoads (3 - s.ks.loadsStaged) (sortBy Queued.before (s.work.filter s.isReady))

theorem State.ready_eq (s : State) : s.ready = s.chosen.filter (fun q => !q.reserved) ++
    sortBy (fun a b => decide (a.ticket.order ≤ b.ticket.order)) (s.chosen.filter Queued.reserved) := rfl

theorem State.ready_perm (s : State) : s.ready.Perm s.chosen := by
  rw [State.ready_eq]
  refine (List.perm_append_comm.trans ?_)
  refine ((perm_sortBy _ _).append_right _).trans ?_
  exact List.filter_append_perm Queued.reserved s.chosen

theorem State.ready_reserved (s : State) : s.ready.filter Queued.reserved =
    sortBy (fun a b => decide (a.ticket.order ≤ b.ticket.order)) (s.chosen.filter Queued.reserved) := by
  rw [State.ready_eq, List.filter_append, List.filter_filter]
  rw [List.filter_eq_nil_iff.2 (by simp), List.nil_append, List.filter_eq_self]
  intro q hq
  rw [mem_sortBy] at hq
  exact (List.mem_filter.1 hq).2

theorem State.ready_unreserved (s : State) :
    s.ready.filter (fun q => !q.reserved) = s.chosen.filter fun q => !q.reserved := by
  rw [State.ready_eq, List.filter_append, List.filter_filter]
  rw [List.filter_eq_nil_iff (l := sortBy _ _) |>.2 (by simp), List.append_nil]
  simp only [Bool.and_self]

theorem readyWorkRunsInOrder : Claim.ReadyWorkRunsInOrder := by
  unfold Claim.ReadyWorkRunsInOrder
  intro s
  refine ⟨rfl, ?_, ?_, ?_, ?_, ?_⟩
  · intro q hq
    have hq := (limitLoads_sublist _ _).mem (s.ready_perm.mem_iff.1 hq)
    rw [mem_sortBy, List.mem_filter, s.isReady_iff] at hq
    exact ⟨hq.1, hq.2.2, hq.2.1⟩
  · intro q hq hled hover hres
    have hmem : q ∈ s.chosen.filter fun q => !q.reserved := by
      rw [State.chosen, limitLoads_keeps, List.mem_filter, mem_sortBy, List.mem_filter, s.isReady_iff]
      exact ⟨⟨hq, hled, hover⟩, by simp [hres]⟩
    exact s.ready_perm.mem_iff.2 (List.mem_filter.1 hmem).1
  · rw [State.ready_reserved, length_sortBy]
    have := length_limitLoads_reserved (3 - s.ks.loadsStaged) (sortBy Queued.before (s.work.filter s.isReady))
    rw [State.chosen]
    omega
  · rw [State.ready_reserved]
    exact pairwise_sortBy_key (fun q : Queued => q.ticket.order) _
  · rw [State.ready_unreserved, State.chosen, limitLoads_keeps]
    exact ((pairwise_sortBy_before _).filter _).imp fun h => (Queued.before_iff _ _).1 h

end Sys2Proof.Machine
end

section
/-! The lasting changes of a commit phase in the order of R179. -/

namespace Sys2Proof.Machine

open Sys2Proof

theorem Act.before_iff (a b : Act) :
    a.before b = true ↔ a.rank.1 < b.rank.1 ∨ (a.rank.1 = b.rank.1 ∧ a.rank.2 ≤ b.rank.2) := by
  simp [Act.before]

theorem Act.pairwise_sortBy (l : List Act) : (sortBy Act.before l).Pairwise fun a b => a.before b = true := by
  refine Machine.pairwise_sortBy _ (fun a b => ?_) (fun a b c => ?_) l
  · simp only [Act.before_iff]; omega
  · simp only [Act.before_iff]; omega

theorem Waiting.of_rank (a : Act) (w : Waiting) : (Waiting.of a w).rank = if a.rank.1 = 5 then 3 else a.rank.1 := by
  rw [Waiting.of]
  cases a.clause <;> cases w.cls <;> rfl

/-- A record that the change of a clause brings goes with the clause's reply, unless it is a verdict's. -/
theorem Waiting.of_clause {a : Act} {tk : Ticket} (w : Waiting) (h : a.clause = some tk)
    (ha : (Waiting.of a w).isAuth = false) : (Waiting.of a w).isReply = true := by
  obtain ⟨cls, typ, body, deferred, order, rank⟩ := w
  cases cls <;> simp_all [Waiting.of, Waiting.isAuth, Waiting.isReply]

theorem State.act_awake {s : State} (h : s.awake = true) (a : Act) :
    s.act a = { s.apply a with log := { (s.apply a).log with
      waiting := (s.apply a).log.waiting.take s.log.waiting.length ++
        ((s.apply a).log.waiting.drop s.log.waiting.length).map (Waiting.of a) } } := by
  simp [State.act, h]

theorem mem_drop_take_append {α : Type} {n : Nat} {l m : List α} {w : α} (h : w ∈ (l.take n ++ m).drop n) : w ∈ m := by
  rw [List.drop_append, List.drop_take] at h
  simpa using List.mem_of_mem_drop (by simpa using h)

/-- The records that a change brings are those of `Waiting.of`. -/
theorem State.act_records {s : State} (h : s.awake = true) {a : Act} {w : Waiting}
    (hw : w ∈ (s.act a).log.waiting.drop s.log.waiting.length) : ∃ x, w = Waiting.of a x := by
  rw [State.act_awake h] at hw
  obtain ⟨x, -, rfl⟩ := List.mem_map.1 (mem_drop_take_append hw)
  exact ⟨x, rfl⟩

theorem lastingChangesAreOrdered : Claim.LastingChangesAreOrdered := by
  unfold Claim.LastingChangesAreOrdered
  intro s
  refine ⟨⟨sortBy Act.before s.acts, perm_sortBy _ _, rfl, ?_, ?_⟩, ?_, ?_, ?_, ?_⟩
  · exact (Act.pairwise_sortBy _).imp fun h => (Act.before_iff _ _).1 h
  · intro r
    refine filter_sortBy _ _ (fun a b ha hb => ?_) _
    rw [beq_iff_eq] at ha hb
    simp [Act.before_iff, ha, hb]
  · intro tk i e r reason wake m
    refine ⟨rfl, rfl, rfl, fun _ => rfl, fun _ => rfl, rfl, rfl, rfl, rfl, ?_, fun _ _ _ => ⟨rfl, rfl⟩⟩
    rintro x (rfl | rfl | rfl | rfl | rfl | rfl | rfl | rfl | ⟨_, rfl⟩ | ⟨_, _, rfl⟩ | ⟨_, rfl⟩ | ⟨_, rfl⟩ | ⟨_, rfl⟩ |
      ⟨_, _, rfl⟩ | ⟨_, rfl⟩) <;> rfl
  · intro a ha
    refine ⟨?_, ?_, ?_⟩
    · rw [State.act_awake ha, List.length_append, List.length_map, ← List.length_append, List.take_append_drop]
    · rw [State.act_awake ha]
    · intro w hw
      obtain ⟨x, rfl⟩ := State.act_records ha hw
      exact ⟨Waiting.of_rank a x, fun tk htk hauth => Waiting.of_clause x htk hauth⟩
  · intro e r tk h
    have : sortBy Act.before s.acts = [.judge e r, .endSession tk] := by rw [h]; rfl
    rw [State.actAll, this]
    rfl
  · intro e e' r r' he h
    have hb : Act.before (.judge e r) (.judge e' r') = false := by
      rw [← Bool.not_eq_true, Act.before_iff]
      simp [Act.rank, he]
    have : sortBy Act.before s.acts = [.judge e' r', .judge e r] := by rw [h]; simp [sortBy, insertBy, hb]
    rw [State.actAll, this]
    rfl

end Sys2Proof.Machine
end

section
/-! What a commit phase publishes on a port (R58 to R60, R64, R68 to R71, R78 to R80). -/

namespace Sys2Proof.Machine

open Sys2Proof

/-! ### Frames -/

/-- Forming a frame moves the counters of the sessions alone. -/
theorem Port.form_keeps (tick : Nat) (r : Staged) (more : Bool) (q : Port) :
    (q.form tick r more).2 =
      { q with session := (q.form tick r more).2.session, oldSessions := (q.form tick r more).2.oldSessions } := by
  unfold Port.form
  split <;> rfl

/-- The frame of an open reply. -/
theorem Port.form_open (tick : Nat) {r : Staged} (more : Bool) (q : Port) (h : r.sess = none) :
    q.form tick r more = (withCrc (replyHead r tick r.results.length more ++ r.results), q) := by
  rw [Port.form, h]

/-- The frame of a reply under the current session, whose counter it takes (R70, R71). -/
theorem Port.form_sealed (tick : Nat) {r : Staged} (more : Bool) {q : Port} {se : Sess} (h : r.sess = some se)
    (hq : q.session = some se) :
    q.form tick r more =
      (let hd := replyHead r tick (24 + r.results.length) more
        let iv := payloadIv se.id se.replyCounter
        let ct := Crypto.gcmCrypt se.key iv r.results
        withCrc (hd ++ leN 8 se.replyCounter ++ ct ++ Crypto.gcmTag se.key iv hd ct),
      { q with
        session := some { se with replyCounter := se.replyCounter + 1 }
        oldSessions := q.oldSessions.map (Sess.step se.id) }) := by
  simp [Port.form, h, hq, Port.live, Sess.step]

@[simp] theorem Staged.grade_sess (degraded : Bool) (r : Staged) : (r.grade degraded).sess = r.sess := by
  unfold Staged.grade; split <;> rfl

@[simp] theorem Staged.grade_results (degraded : Bool) (r : Staged) : (r.grade degraded).results = r.results := by
  unfold Staged.grade; split <;> rfl

/-- A would-be DONE is degraded in degraded service (R5); nothing else of a reply changes. -/
theorem Staged.grade_eq (degraded : Bool) (r : Staged) : r.grade degraded =
    { r with status := if r.admitted = true ∧ r.status = 0 ∧ degraded = true then 1 else r.status } := by
  by_cases h : r.admitted = true ∧ r.status = 0 ∧ degraded = true
  · rw [if_pos h, Staged.grade, if_pos (by simp [h])]
  · rw [if_neg h, Staged.grade, if_neg (by simpa [and_assoc] using h)]

/-- The clause that the store of a frame answers. -/
def Staged.answers (r : Staged) : Option (BitVec 16) := if r.notice then none else some r.seq

/-- The store of the first frame formed. -/
def Port.firstStore (tick : Nat) (degraded : Bool) (r : Staged) (more : Bool) (q : Port) : Stored :=
  ⟨(q.form tick (r.grade degraded) more).1, r.answers, r.admitted, r.order⟩

/-- The port once the first frame is formed and in its store. -/
def Port.formOne (tick : Nat) (degraded : Bool) (r : Staged) (more : Bool) (q : Port) : Port :=
  let q1 : Port := { (q.form tick (r.grade degraded) more).2 with general := q.general ++ [q.firstStore tick degraded r more] }
  if r.notice then q1 else q1.answer r

theorem Port.formAll_cons (tick : Nat) (degraded : Bool) (r : Staged) (l : List Staged) (q : Port) :
    Port.formAll tick degraded (r :: l) q = Port.formAll tick degraded l (q.formOne tick degraded r (l != [])) := by
  rw [Port.formAll, Port.formOne, Port.firstStore, Port.form_keeps]
  rfl

theorem Port.formOne_general (tick : Nat) (degraded : Bool) (r : Staged) (more : Bool) (q : Port) :
    (q.formOne tick degraded r more).general = q.general ++ [q.firstStore tick degraded r more] := by
  unfold Port.formOne; split <;> rfl

/-- Forming a frame touches the general stores, the sessions' counters and the marks of the clauses answered. -/
theorem Port.formOne_keeps (tick : Nat) (degraded : Bool) (r : Staged) (more : Bool) (q : Port) :
    q.formOne tick degraded r more = { q with
      general := (q.formOne tick degraded r more).general, session := (q.formOne tick degraded r more).session
      oldSessions := (q.formOne tick degraded r more).oldSessions
      outstanding := (q.formOne tick degraded r more).outstanding } := by
  unfold Port.formOne
  rw [Port.form_keeps]
  split <;> rfl

theorem Port.formOne_outstanding (tick : Nat) (degraded : Bool) (r : Staged) (more : Bool) (q : Port) :
    (q.formOne tick degraded r more).outstanding.map (fun o => (o.seq, o.verb, o.admitted)) =
      q.outstanding.map fun o => (o.seq, o.verb, o.admitted) := by
  unfold Port.formOne
  rw [Port.form_keeps]
  split
  · rfl
  · simp only [Port.answer, List.map_map]
    refine List.map_congr_left fun o _ => ?_
    simp only [Function.comp]
    split <;> rfl

theorem Port.formAll_keeps (tick : Nat) (degraded : Bool) (l : List Staged) (q : Port) :
    Port.formAll tick degraded l q = { q with
      general := (Port.formAll tick degraded l q).general, session := (Port.formAll tick degraded l q).session
      oldSessions := (Port.formAll tick degraded l q).oldSessions
      outstanding := (Port.formAll tick degraded l q).outstanding } := by
  induction l generalizing q with
  | nil => rfl
  | cons r l ih =>
    rw [Port.formAll_cons, ih, Port.formOne_keeps]

theorem Port.formAll_outstanding (tick : Nat) (degraded : Bool) (l : List Staged) (q : Port) :
    (Port.formAll tick degraded l q).outstanding.map (fun o => (o.seq, o.verb, o.admitted)) =
      q.outstanding.map fun o => (o.seq, o.verb, o.admitted) := by
  induction l generalizing q with
  | nil => rfl
  | cons r l ih => rw [Port.formAll_cons, ih, Port.formOne_outstanding]

/-- The frame of an open reply, that of member `i` of the `n` frames of a commit phase (Tables 03.6, 03.7). -/
def Staged.frame (tick : Nat) (degraded : Bool) (more : Bool) (r : Staged) : Bytes :=
  withCrc (replyHead (r.grade degraded) tick r.results.length more ++ r.results)

/-- The stores are filled in order, one for each frame; an open one's bytes are those of `Staged.frame`. -/
theorem Port.formAll_general (tick : Nat) (degraded : Bool) (l : List Staged) (q : Port) :
    ∃ news, (Port.formAll tick degraded l q).general = q.general ++ news ∧ news.length = l.length ∧
      news.map Stored.clause = l.map Staged.answers ∧
      ∀ (i : Nat) (r : Staged), l[i]? = some r → r.sess = none →
        (news[i]?).map Stored.bytes = some (r.frame tick degraded (decide (i + 1 < l.length))) := by
  induction l generalizing q with
  | nil => exact ⟨[], by simp [Port.formAll], rfl, rfl, by simp⟩
  | cons r l ih =>
    obtain ⟨news, hg, hlen, hcl, hb⟩ := ih (q.formOne tick degraded r (l != []))
    refine ⟨q.firstStore tick degraded r (l != []) :: news, ?_, by simp [hlen], by simp [hcl, Port.firstStore], ?_⟩
    · rw [Port.formAll_cons, hg, Port.formOne_general, List.append_assoc]
      rfl
    · rintro (_ | i) x hx hs
      · obtain rfl : r = x := by simpa using hx
        have hm : (l != []) = decide (0 + 1 < (r :: l).length) := by cases l <;> simp
        simp only [List.getElem?_cons_zero, Option.map_some, Port.firstStore]
        rw [Port.form_open _ _ _ (by simpa using hs), hm, Staged.grade_results]
        rfl
      · have := hb i x (by simpa using hx) hs
        simpa using this

theorem numberNotices_eq (n : BitVec 16) (l : List Staged) :
    (numberNotices n l).length = l.length ∧ (numberNotices n l).map Staged.notice = l.map Staged.notice := by
  induction l generalizing n with
  | nil => exact ⟨rfl, rfl⟩
  | cons r l ih =>
    rw [numberNotices]
    split <;> simp [ih]

theorem Port.promote_none {q : Port} (h : q.newSession = none) : q.promote = q := by simp [Port.promote, h]

/-- The notices of a commit phase with their numbers (R68). -/
def Port.numbered (q : Port) : List Staged := numberNotices (q.noticeNo + BitVec.ofNat 16 q.stagedSpores.length) q.stagedNotices

/-- The general frames of a commit phase: the replies, then the notices for which a store is free (R60, R64). -/
def Port.generalFrames (q : Port) : List Staged := q.inOrder ++ q.numbered.take (12 - q.boundStores)

/-- Without a new session, what is published is formed from the port whose ended requests have left their stores. -/
theorem Port.publishFrames_eq (tick : Nat) (degraded : Bool) {q : Port} (h : q.newSession = none) :
    ∃ spores : List SporeStore, spores.map SporeStore.ident = q.stagedSpores.map (·.1) ∧
      ∃ no ev, q.publishFrames tick degraded =
        let q1 := Port.formAll tick degraded q.generalFrames q.withdraw
        { q1 with
          spores := q1.spores ++ spores, stagedReplies := [], stagedNotices := [], stagedSpores := [], noticeNo := no
          newLost := q1.newLost + (q.numbered.length - (12 - q.boundStores)), newEvents := ev } := by
  refine ⟨_, ?_, _, _, by rw [Port.publishFrames, Port.promote_none h]; rfl⟩
  rw [List.map_map]
  calc q.stagedSpores.zipIdx.map (Prod.fst ∘ Prod.fst)
      = (q.stagedSpores.zipIdx.map Prod.fst).map Prod.fst := List.map_map.symm
    _ = q.stagedSpores.map (·.1) := by rw [List.zipIdx_map_fst]

theorem Port.mem_numbered_notice {q : Port} (h : ∀ r ∈ q.stagedNotices, r.notice = true) {r : Staged} (hr : r ∈ q.numbered) :
    r.notice = true := by
  have hm : r.notice ∈ q.stagedNotices.map Staged.notice := by
    rw [← (numberNotices_eq _ q.stagedNotices).2]
    exact List.mem_map_of_mem hr
  obtain ⟨x, hx, he⟩ := List.mem_map.1 hm
  rw [← he, h x hx]

theorem Port.length_numbered (q : Port) : q.numbered.length = q.stagedNotices.length := (numberNotices_eq _ _).1

theorem Port.inOrder_perm (q : Port) : q.inOrder.Perm q.stagedReplies := perm_sortBy _ _

theorem Port.length_inOrder (q : Port) : q.inOrder.length = q.stagedReplies.length := length_sortBy _ _

theorem Port.length_generalFrames (q : Port) :
    q.generalFrames.length = q.stagedReplies.length + min q.stagedNotices.length (12 - q.boundStores) := by
  rw [Port.generalFrames, List.length_append, List.length_take, q.length_inOrder, q.length_numbered, Nat.min_comm]

/-- Replies fill the stores of their clauses, notices those of none. -/
theorem Port.generalFrames_answers {q : Port} (hr : ∀ r ∈ q.stagedReplies, r.notice = false)
    (hn : ∀ r ∈ q.stagedNotices, r.notice = true) : q.generalFrames.map Staged.answers =
      q.inOrder.map (fun r => some r.seq) ++ List.replicate (min q.stagedNotices.length (12 - q.boundStores)) none := by
  rw [Port.generalFrames, List.map_append]
  congr 1
  · refine List.map_congr_left fun r h => ?_
    rw [Staged.answers, hr r (q.inOrder_perm.mem_iff.1 h), if_neg Bool.false_ne_true]
  · rw [List.eq_replicate_iff]
    refine ⟨by rw [List.length_map, List.length_take, q.length_numbered, Nat.min_comm], fun x hx => ?_⟩
    obtain ⟨r, h, rfl⟩ := List.mem_map.1 hx
    rw [Staged.answers, Port.mem_numbered_notice hn (List.mem_of_mem_take h), if_pos rfl]

/-- The bytes of an open reply, as Tables 03.6 and 03.7 lay them out. -/
theorem Staged.frame_eq (tick : Nat) (degraded more : Bool) {r : Staged} (hn : r.notice = false) (hs : r.sess = none) :
    r.frame tick degraded more =
      (let flags := (if more then 16 else 0) + (if r.unverified then 8 else 0) + if r.duplicate then 4 else 0
        let status := if r.admitted = true ∧ r.status = 0 ∧ degraded = true then 1 else r.status
        let b := [0xD1#8] ++ leN 1 flags ++ leN 2 r.seq.toNat ++ leN 1 r.verb ++ leN 1 status ++ leN 4 tick ++
          leN 1 r.results.length ++ r.results
        b ++ Crypto.crc32cBytes b) := by
  rw [Staged.frame, Staged.grade_eq]
  have hf : 16 * b2n more + 8 * b2n r.unverified + 4 * b2n r.duplicate + 2 * b2n r.notice + b2n r.sess.isSome =
      (if more then 16 else 0) + (if r.unverified then 8 else 0) + if r.duplicate then 4 else 0 := by
    rw [hn, hs]
    cases more <;> cases r.unverified <;> cases r.duplicate <;> rfl
  simp only [withCrc, replyHead, hf]
  rfl

/-- A port with one staged reply, under its current session, and no notice publishes that reply sealed, with the session's
next counter (R70, R71). -/
theorem Port.formAll_sealed (tick : Nat) (degraded : Bool) {q : Port} {r : Staged} {se : Sess} (hn : r.notice = false)
    (hs : r.sess = some se) (hq : q.session = some se) :
    (Port.formAll tick degraded [r] q).session = some { se with replyCounter := se.replyCounter + 1 } ∧
      ∃ h ct : Bytes, ct = Crypto.gcmCrypt se.key (leN 4 se.id.toNat ++ leN 8 se.replyCounter) r.results ∧
        (Port.formAll tick degraded [r] q).general.map Stored.bytes = q.general.map Stored.bytes ++
          [withCrc (h ++ leN 8 se.replyCounter ++ ct ++
            Crypto.gcmTag se.key (leN 4 se.id.toNat ++ leN 8 se.replyCounter) h ct)] := by
  rw [Port.formAll_cons, Port.formAll]
  have hf := Port.form_sealed tick (r := r.grade degraded) false (by simpa using hs) hq
  rw [Staged.grade_results] at hf
  refine ⟨?_, replyHead (r.grade degraded) tick (24 + r.results.length) false, _, rfl, ?_⟩
  · simp [Port.formOne, hn, hf, Port.answer]
  · simp [Port.formOne_general, Port.firstStore, hf, withCrc, payloadIv]

theorem framesArePublished : Claim.FramesArePublished := by
  unfold Claim.FramesArePublished
  intro tick degraded q hnew hrep hnot
  obtain ⟨spores, hsp, no, ev, ht⟩ := Port.publishFrames_eq tick degraded hnew
  obtain ⟨news, hg, hlen, hcl, hb⟩ := Port.formAll_general tick degraded q.generalFrames q.withdraw
  have hk := Port.formAll_keeps tick degraded q.generalFrames q.withdraw
  have hgen : (q.publishFrames tick degraded).general = q.general ++ news := by rw [ht]; exact hg
  have hdrop : (q.publishFrames tick degraded).general.drop q.general.length = news := by rw [hgen, List.drop_left]
  refine ⟨q.inOrder_perm, ?_, ?_, ?_, ?_, ?_, ?_, ?_, ?_, ?_, ?_, ?_, ?_, ?_, ?_⟩
  · exact pairwise_sortBy_key Staged.order _
  · rw [hgen, List.take_left]
  · rw [hdrop, hlen, q.length_generalFrames]
  · rw [hdrop, hcl, Port.generalFrames_answers hrep hnot]
  · rw [ht, hk, q.length_numbered]; rfl
  · rw [ht, hk, List.map_append, hsp]; rfl
  · rw [ht, hk]; rfl
  · rw [ht]
  · rw [ht]
  · rw [ht]
  · rw [ht, hk]; rfl
  · rw [ht]; exact Port.formAll_outstanding tick degraded q.generalFrames q.withdraw
  · intro i r hi hs
    have hmem : r ∈ q.stagedReplies := q.inOrder_perm.mem_iff.1 (List.mem_of_getElem? hi)
    have hgi : q.generalFrames[i]? = some r := by
      rw [Port.generalFrames, List.getElem?_append_left (List.getElem?_eq_some_iff.1 hi).1, hi]
    rw [hdrop, hb i r hgi hs, Staged.frame_eq _ _ _ (hrep r hmem) hs, q.length_generalFrames]
    simp only [decide_eq_true_eq]
  · intro r se hone hs hse hno
    have hframes : q.generalFrames = [r] := by
      simp [Port.generalFrames, Port.inOrder, Port.numbered, hone, hno, numberNotices, sortBy, insertBy]
    have hr : r.notice = false := hrep r (by simp [hone])
    obtain ⟨hsess, h, ct, hct, hbytes⟩ := Port.formAll_sealed tick degraded (q := q.withdraw) hr hs hse
    refine ⟨by rw [ht, hframes]; exact hsess, h, ct, hct, ?_⟩
    rw [hframes] at hg
    rw [hg, List.map_append] at hbytes
    have hnews := List.append_cancel_left hbytes
    rw [hdrop, ← List.getElem?_map, hnews]
    rfl

/-! ### Cause words -/

/-- The state bits are bits 2 to 6 (Table 03.12). -/
theorem Port.getLsbD_stateBits (tamper degraded : Bool) (q : Port) (i : Nat) (hi : i < 16) :
    (q.stateBits tamper degraded).getLsbD i = ((tamper && i == 6) || (degraded && i == 5) ||
      ((q.general.any fun f => f.clause.isNone) && i == 4) || (q.spores != [] && i == 3) ||
      ((q.general.any fun f => f.clause.isSome) && i == 2)) := by
  have hb : ∀ (k : Nat) (b : Bool), k < 16 → (bitAt k b).getLsbD i = (b && i == k) := by
    intro k b hk
    cases b with
    | false => simp [bitAt]
    | true =>
      simp only [bitAt, if_true, BitVec.getLsbD_shiftLeft, Bool.true_and, hi, decide_true]
      by_cases h : i = k
      · simp [h]
      · by_cases hlt : i < k
        · simp [hlt, h]
        · simp [hlt, h, show i - k ≠ 0 by omega]
  simp only [Port.stateBits, BitVec.getLsbD_or, hb 6 _ (by omega), hb 5 _ (by omega), hb 4 _ (by omega),
    hb 3 _ (by omega), hb 2 _ (by omega)]

/-- The cause word holds the events and the state bits (R79). -/
theorem Port.getLsbD_cause (enable : BitVec 16) (tamper degraded : Bool) (q : Port) (i : Nat) :
    (q.publishCause enable tamper degraded).cause.getLsbD i =
      ((q.publishCause enable tamper degraded).events.getLsbD i || (q.stateBits tamper degraded).getLsbD i) :=
  BitVec.getLsbD_or

theorem causeWordsFollowTheEvents : Claim.CauseWordsFollowTheEvents := by
  unfold Claim.CauseWordsFollowTheEvents
  intro enable tamper degraded q
  refine ⟨rfl, rfl, rfl, rfl, ?_, ?_, ?_, ?_, ?_, rfl, rfl, rfl, rfl, rfl, rfl, rfl⟩
  · intro i h7 h16
    rw [Port.getLsbD_cause, Port.getLsbD_stateBits _ _ _ _ h16]
    simp [show i ≠ 6 by omega, show i ≠ 5 by omega, show i ≠ 4 by omega, show i ≠ 3 by omega, show i ≠ 2 by omega]
  all_goals
    rw [Port.getLsbD_cause, Port.getLsbD_stateBits _ _ _ _ (by decide)]
    simp

/-- Settles O55: each of the five parts of a published commit phase by its own lemmas; the frames by induction over the
frames formed, the ledgers each by itself. -/
theorem commitPhasesPublish : Obligations.CommitPhasesPublish :=
  ⟨framesArePublished, causeWordsFollowTheEvents, lastingChangesAreOrdered, readyWorkRunsInOrder, ticksSpendTheirUnits⟩

end Sys2Proof.Machine
end

section
/-! When a tamper source latches (Table 14.7). -/

namespace Sys2Proof.Machine

open Sys2Proof

theorem lastHold_iff {α : Type} (n : Nat) (p : α → Bool) (l : List α) :
    lastHold n p l = true ↔ ∃ r m, l = r ++ m ∧ m.length = n ∧ ∀ x ∈ m, p x = true := by
  simp only [lastHold, Bool.and_eq_true, decide_eq_true_eq, List.all_eq_true]
  constructor
  · rintro ⟨hn, h⟩
    exact ⟨l.take (l.length - n), l.drop (l.length - n), (List.take_append_drop _ _).symm, by simp; omega, h⟩
  · rintro ⟨r, m, rfl, rfl, h⟩
    rw [List.length_append, Nat.add_sub_cancel, List.drop_left]
    exact ⟨Nat.le_add_left _ _, h⟩

theorem lastHold_two_iff {α : Type} (p : α → Bool) (l : List α) :
    lastHold 2 p l = true ↔ ∃ r x y, l = r ++ [x, y] ∧ p x = true ∧ p y = true := by
  rw [lastHold_iff]
  constructor
  · rintro ⟨r, m, rfl, hm, h⟩
    obtain ⟨x, y, rfl⟩ := List.length_eq_two.1 hm
    exact ⟨r, x, y, rfl, h x (by simp), h y (by simp)⟩
  · rintro ⟨r, x, y, rfl, hx, hy⟩
    exact ⟨r, [x, y], rfl, rfl, by simp [hx, hy]⟩

theorem lastHold_beq_iff (n : Nat) (b : Bool) (l : List Bool) :
    lastHold n (fun v => v == b) l = true ↔ ∃ r, l = r ++ List.replicate n b := by
  rw [lastHold_iff]
  constructor
  · rintro ⟨r, m, rfl, hm, h⟩
    exact ⟨r, by rw [List.eq_replicate_iff.2 ⟨hm, fun x hx => by simpa using h x hx⟩]⟩
  · rintro ⟨r, rfl⟩
    exact ⟨r, _, rfl, List.length_replicate, by simp⟩

/-- What each source latches on, with its entry (Table 14.7). -/
def latchesOn (src : TamperSource) (entry : Nat) (c : TamperCondition) : Prop :=
  let mesh := src = .mesh0 ∨ src = .mesh1
  (∃ r x y, c = .compared (r ++ [x, y]) ∧ mesh ∧ x.1 ≠ x.2 ∧ y.1 ≠ y.2) ∨
    (c = .lineBroken ∧ (mesh ∨ src = .shield)) ∨
    (∃ r, c = .levels (r ++ List.replicate 8 (entry.testBit 10)) ∧ (src = .sw0 ∨ src = .sw1)) ∨
    (∃ p ns, c = .rail p ns ∧ src = .voltage ∧ (p < 850 ∨ 1150 < p) ∧ 200 < ns) ∨
    (∃ p, c = .pllCycle p ∧ src = .clock ∧ p < 750) ∨ (∃ f, c = .xin f ∧ src = .clock ∧ 20000 < f) ∨
    (∃ r l : List Int, c = .temperatures (r ++ l) ∧ src = .temp ∧ l.length = 4 ∧ ∀ t ∈ l, t < -55000 ∨ 175000 < t)

theorem sourceCode_mesh (src : TamperSource) : inRange 1 2 (sourceCode src) = true ↔ src = .mesh0 ∨ src = .mesh1 := by
  cases src <;> decide

theorem sourceCode_switch (src : TamperSource) : inRange 3 4 (sourceCode src) = true ↔ src = .sw0 ∨ src = .sw1 := by
  cases src <;> decide

theorem sourceCode_injective : Function.Injective sourceCode := by
  intro a b
  cases a <;> cases b <;> decide

theorem conditionMet_iff (src : TamperSource) (entry : Nat) (c : TamperCondition) :
    conditionMet (sourceCode src) entry c = true ↔ latchesOn src entry c := by
  have h5 : sourceCode src = 5 ↔ src = .voltage := sourceCode_injective.eq_iff (b := .voltage)
  have h6 : sourceCode src = 6 ↔ src = .clock := sourceCode_injective.eq_iff (b := .clock)
  have h7 : sourceCode src = 7 ↔ src = .temp := sourceCode_injective.eq_iff (b := .temp)
  have h8 : sourceCode src = 8 ↔ src = .shield := sourceCode_injective.eq_iff (b := .shield)
  unfold latchesOn
  cases c with
  | compared l =>
    simp only [conditionMet, Bool.and_eq_true, sourceCode_mesh, lastHold_two_iff, bne_iff_ne]
    simp only [TamperCondition.compared.injEq, reduceCtorEq, false_and, exists_false, or_false]
    constructor
    · rintro ⟨hm, r, x, y, hl, hx, hy⟩; exact ⟨r, x, y, hl, hm, hx, hy⟩
    · rintro ⟨r, x, y, hl, hm, hx, hy⟩; exact ⟨hm, r, x, y, hl, hx, hy⟩
  | lineBroken => simp [conditionMet, sourceCode_mesh, h8]
  | levels l =>
    simp only [conditionMet, Bool.and_eq_true, sourceCode_switch, lastHold_beq_iff]
    simp [and_comm]
  | rail p ns => simp [conditionMet, h5, and_assoc]
  | pllCycle p => simp [conditionMet, h6]
  | xin f => simp [conditionMet, h6]
  | temperatures l =>
    simp only [conditionMet, Bool.and_eq_true, beq_iff_eq, h7, lastHold_iff, Bool.or_eq_true, decide_eq_true_eq]
    simp only [TamperCondition.temperatures.injEq, reduceCtorEq, false_and, exists_false, false_or]
    constructor
    · rintro ⟨hs, r, m, hl, hm, h⟩; exact ⟨r, m, hl, hs, hm, h⟩
    · rintro ⟨r, m, hl, hs, hm, h⟩; exact ⟨hs, r, m, hl, hm, h⟩

theorem State.entryEn_of_watched {s : State} {code : Nat} (h : s.watched code = true) : entryEn (s.entryFor code) = true := by
  simp only [State.watched, Bool.and_eq_true] at h
  exact h.1.1

/-- STORE is checked at boot alone (R352). -/
theorem State.watched_store (s : State) : s.watched 9 = false := by simp [State.watched]

/-- An entry that stands in for the moss domain's copy has the level HOLD (R354). -/
theorem State.entryLevel_absent {s : State} {code : Nat} (h : s.tamper.entries = none)
    (he : entryEn (s.entryFor code) = true) : entryLevel (s.entryFor code) = 1 := by
  simp only [State.entryFor, h] at he ⊢
  split
  · cases bit (tamperEntry s.thal.cur code) 10 <;> decide
  · next hn => rw [if_neg hn] at he; exact absurd he (by decide)

/-- A source that is watched and whose condition is met latches, and its response follows. -/
theorem exec_tamperSourceLatch_seen {src : TamperSource} {c : TamperCondition} {s : State} (seconds : Nat)
    (hw : s.watched (sourceCode src) = true) (hm : conditionMet (sourceCode src) (s.entryFor (sourceCode src)) c = true) :
    exec (.tamperSourceLatch src ⟨c, seconds⟩) s =
      .next ((s.latchEvent (sourceCode src) (entryLevel (s.entryFor (sourceCode src))) seconds).respond
        (entryLevel (s.entryFor (sourceCode src)))) := by
  change execTamperSourceLatch src ⟨c, seconds⟩ s = _
  simp [execTamperSourceLatch, hw, State.sourceSees, State.entryEn_of_watched hw, hm]

theorem exec_tamperSourceLatch_unseen {src : TamperSource} {c : TamperCondition} {s : State} (seconds : Nat)
    (h : ¬ (s.watched (sourceCode src) = true ∧ conditionMet (sourceCode src) (s.entryFor (sourceCode src)) c = true)) :
    exec (.tamperSourceLatch src ⟨c, seconds⟩) s = .next s := by
  change execTamperSourceLatch src ⟨c, seconds⟩ s = _
  by_cases hw : s.watched (sourceCode src) = true
  · have hm : conditionMet (sourceCode src) (s.entryFor (sourceCode src)) c = false := by simpa [hw] using h
    simp [execTamperSourceLatch, hw, State.sourceSees, hm]
  · simp [execTamperSourceLatch, hw]

end Sys2Proof.Machine
end

section
/-! What the response to a tamper event does (R6, R353, Tables 14.9, 14.10). -/

namespace Sys2Proof.Machine

open Sys2Proof

/-! ### Operations with a key in flight -/

/-- `t` comes from `s` by changes to exchanges, spore requests and records alone: no reply is staged or lost. -/
def State.ExchangesOnly (s t : State) : Prop :=
  t = { s with portA := t.portA, portB := t.portB, log := t.log, field := t.field
               ks := { s.ks with requests := t.ks.requests } } ∧
    ∀ p, (t.port p).stagedReplies = (s.port p).stagedReplies

theorem State.ExchangesOnly.refl (s : State) : s.ExchangesOnly s := ⟨rfl, fun _ => rfl⟩

theorem State.ExchangesOnly.trans {s t u : State} (h : s.ExchangesOnly t) (h' : t.ExchangesOnly u) : s.ExchangesOnly u := by
  obtain ⟨ht, hp⟩ := h
  obtain ⟨hu, hq⟩ := h'
  refine ⟨?_, fun p => (hq p).trans (hp p)⟩
  rw [ht] at hu
  exact hu

theorem State.onCurrent_exchangesOnly (s : State) (e : Nat) (f : Booking → Booking) : s.ExchangesOnly (s.onCurrent e f) := by
  unfold State.onCurrent
  split
  · exact ⟨rfl, fun p => by cases p <;> rfl⟩
  · exact .refl s

theorem Port.foldl_dropSpore_stagedReplies (e : Nat) (l : List Ident) (q : Port) :
    (l.foldl (fun q i => q.dropSpore i e) q).stagedReplies = q.stagedReplies := by
  induction l generalizing q with
  | nil => rfl
  | cons i l ih => rw [List.foldl_cons, ih]; rfl

theorem State.dropRequest_exchangesOnly (s : State) (e : Nat) : s.ExchangesOnly (s.dropRequest e) := by
  refine ⟨rfl, fun p => ?_⟩
  rw [State.dropRequest, State.onPorts_port, Port.foldl_dropSpore_stagedReplies]
  cases p <;> rfl

theorem State.record_exchangesOnly (s : State) (c : RecClass) (typ : Nat) (b : Bytes) (n : Nat) :
    s.ExchangesOnly (s.record c typ b n) := ⟨rfl, fun p => by cases p <;> rfl⟩

theorem State.keyDone_exchangesOnly (s : State) (b : Booking) (r : KeyRec) (tag session : Nat) :
    s.ExchangesOnly (s.keyDone b r tag session) :=
  (s.record_exchangesOnly _ _ _ _).trans (State.onCurrent_exchangesOnly _ _ _)

theorem State.endWith_exchangesOnly (s : State) (e code : Nat) : s.ExchangesOnly (s.endWith e code) := by
  unfold State.endWith
  split
  · exact .refl s
  · next b _ =>
    split
    · exact s.onCurrent_exchangesOnly e _
    · refine .trans ?_ ((State.dropRequest_exchangesOnly _ e).trans (State.onCurrent_exchangesOnly _ e _))
      cases b.cur with
      | none => exact .refl s
      | some c => exact s.keyDone_exchangesOnly b _ _ _

theorem State.abortExchange_exchangesOnly (s : State) (e : Nat) : s.ExchangesOnly (s.abortExchange e) := by
  unfold State.abortExchange
  split
  · exact ((s.onCurrent_exchangesOnly e _).trans (State.endWith_exchangesOnly _ e 6)).trans
      (State.onCurrent_exchangesOnly _ e _)
  · exact .refl s

theorem State.foldl_abortExchange_exchangesOnly (l : List Nat) (s : State) :
    s.ExchangesOnly (l.foldl State.abortExchange s) := by
  induction l generalizing s with
  | nil => exact .refl s
  | cons e l ih => exact (s.abortExchange_exchangesOnly e).trans (ih _)

/-- The reply with TAMPER_ABORT to a clause that waits (R6). -/
def Queued.abortReply (q : Queued) : Staged :=
  { seq := q.ticket.seq, verb := q.ticket.verb, status := 0x30, results := [], sess := q.ticket.sess
    admitted := true, order := q.ticket.order }

theorem State.reply_port (s : State) (tk : Ticket) (st : Nat) (r : Bytes) (p : PortId) :
    ((s.reply tk st r).port p).stagedReplies = (s.port p).stagedReplies ++
      if tk.port = p then [{ seq := tk.seq, verb := tk.verb, status := st, results := r, sess := tk.sess, admitted := true
                             order := tk.order }] else [] := by
  split
  · next h => subst h; exact s.reply_staged tk st r
  · next h => rw [State.reply, State.onPort_other _ _ _ _ (Ne.symm h), List.append_nil]

theorem State.foldl_abortReply (l : List Queued) (s : State) :
    let t := l.foldl (fun s q => s.reply q.ticket 0x30 []) s
    t = { s with portA := t.portA, portB := t.portB } ∧
      ∀ p, (t.port p).stagedReplies = (s.port p).stagedReplies ++
        (l.filter fun q => q.ticket.port == p).map Queued.abortReply := by
  induction l generalizing s with
  | nil => exact ⟨rfl, by simp⟩
  | cons q l ih =>
    obtain ⟨he, hp⟩ := ih (s.reply q.ticket 0x30 [])
    refine ⟨he.trans rfl, fun p => ?_⟩
    rw [List.foldl_cons, hp, State.reply_port, List.append_assoc]
    by_cases h : q.ticket.port = p
    · rw [if_pos h, List.filter_cons_of_pos (by simpa using h)]; rfl
    · rw [if_neg h, List.filter_cons_of_neg (by simpa using h)]; rfl

/-- The clauses that wait and are operations with a key leave the work, each with its reply; the others stay. -/
theorem State.abortQueued_eq (s : State) :
    let t := s.abortQueued
    t = { s with portA := t.portA, portB := t.portB, work := s.work.filter (fun q => !q.keyed), ledger := t.ledger
                 drawn := [], rng := t.rng } ∧
      ∀ p, (t.port p).stagedReplies = (s.port p).stagedReplies ++
        (s.work.filter fun q => q.keyed && q.ticket.port == p).map Queued.abortReply := by
  obtain ⟨he, hp⟩ := State.foldl_abortReply (s.work.filter Queued.keyed) { s with
    work := s.work.filter fun q => !q.keyed, drawn := []
    ledger := s.ledger.filter fun d => !((s.work.filter Queued.keyed).any fun q => q.ticket.order == d.order)
    rng := s.rng.unreserve fun n => (s.work.filter Queued.keyed).any fun q => q.ticket.order == n }
  refine ⟨?_, fun p => ?_⟩
  · rw [State.abortQueued, he]
  · rw [State.abortQueued, hp, List.filter_filter]
    simp only [Bool.and_comm]
    cases p <;> rfl

/-- A reply of the tick once operations with a key are aborted (R6). -/
def Staged.aborted (orders : List Nat) (r : Staged) : Staged :=
  if r.admitted && (isKeyOperation r.verb || orders.contains r.order) then { r with status := 0x30, results := [] } else r

theorem Queued.abortReply_aborted (orders : List Nat) (q : Queued) : q.abortReply.aborted orders = q.abortReply := by
  unfold Staged.aborted
  split <;> rfl

/-- What the abort of the operations with a key changes, and what becomes of the replies of the tick (R6, R353). -/
theorem State.abortKeyWork_eq (s : State) :
    let t := s.abortKeyWork
    t = { s with portA := t.portA, portB := t.portB, ledger := t.ledger, drawn := [], rng := t.rng, log := t.log
                 field := t.field, work := s.work.filter (fun q => !q.keyed), acts := s.acts.filter (fun a => !a.keyed)
                 ks := { s.ks with requests := t.ks.requests, work := t.ks.work } } ∧
      ∀ p, (t.port p).stagedReplies = (s.port p).stagedReplies.map (Staged.aborted s.keyOrders) ++
        (s.work.filter fun q => q.keyed && q.ticket.port == p).map Queued.abortReply := by
  obtain ⟨hx, hxp⟩ := State.foldl_abortExchange_exchangesOnly (List.range 4) s
  obtain ⟨hq, hqp⟩ := ((List.range 4).foldl State.abortExchange s).abortQueued_eq
  generalize hgx : (List.range 4).foldl State.abortExchange s = x at hx hxp hq hqp
  generalize hgy : x.abortQueued = y at hq hqp
  have hwork : x.work = s.work := by rw [hx]
  constructor
  · rw [State.abortKeyWork, hgx, hgy, hq, hx]
    rfl
  · intro p
    have hport : (s.abortKeyWork.port p).stagedReplies = (y.port p).stagedReplies.map (Staged.aborted s.keyOrders) := by
      rw [State.abortKeyWork, hgx, hgy]
      cases p <;> rfl
    rw [hport, hqp, hxp, hwork, List.map_append, List.map_map]
    congr 1
    exact List.map_congr_left fun q _ => q.abortReply_aborted _

end Sys2Proof.Machine
end

section
/-! The response to a tamper event at each level and in each power state (R353, R354, Table 14.10). -/

namespace Sys2Proof.Machine

open Sys2Proof

theorem Staged.aborted_eq (orders : List Nat) (r : Staged) : r.aborted orders =
    if r.admitted = true ∧ (r.verb ∈ [0x2D, 0x40, 0x42, 0x48, 0x49, 0x4A, 0x50, 0x58, 0x78] ∨ r.order ∈ orders)
      then { r with status := 0x30, results := [] } else r := by
  simp only [Staged.aborted, isKeyOperation, Bool.and_eq_true, Bool.or_eq_true, List.contains_iff_mem]

/-! ### Hold, root erasure, reset -/

/-- Tamper hold begins. -/
def State.holds (s : State) : State := { s with tamper := { s.tamper with hold := true } }

/-- The rhizome goes at level ROOT_ERASE (R355). -/
def State.erasesAt (level : Nat) (s : State) : State := if level = 3 then s.eraseRoot else s

/-- A level that zeroises keys ends the cab session (Table 06.14). -/
def State.endsAt (level : Nat) (s : State) : State := if 2 ≤ level then s.tamperEnds else s

theorem State.eraseRoot_of_rhizome {s : State} (h : s.ks.rhizome ≠ none) : s.eraseRoot = { s with
    ks := { s.ks.clearCache with rhizome := none, erased := true, work := [] }
    tamper := { s.tamper with erased := true, permanent := true } } := by
  rw [State.eraseRoot, if_neg (by simpa [Option.isNone_iff_eq_none] using h)]

/-- Erasing the root touches key storage and the marks of the hold alone. -/
theorem State.erasesAt_keeps (level : Nat) (s : State) : s.erasesAt level = { s with
    ks := (s.erasesAt level).ks
    tamper := { s.tamper with erased := (s.erasesAt level).tamper.erased
                              permanent := (s.erasesAt level).tamper.permanent } } := by
  unfold State.erasesAt State.eraseRoot
  split
  · split <;> rfl
  · rfl

theorem State.erasesAt_root {s : State} (h : s.ks.rhizome ≠ none) : (s.erasesAt 3).ks.rhizome = none ∧
    (s.erasesAt 3).tamper.permanent = true ∧ (s.erasesAt 3).tamper.erased = true := by
  rw [State.erasesAt, if_pos rfl, State.eraseRoot_of_rhizome h]
  exact ⟨rfl, rfl, rfl⟩

theorem State.endsAt_keeps (level : Nat) (s : State) :
    s.endsAt level = { s with cell := { s.cell with tamperEnd := (s.endsAt level).cell.tamperEnd } } := by
  unfold State.endsAt
  split <;> rfl

/-- The end of an open session is kept for the first commit phase of the hold (log entry 63). -/
theorem State.endsAt_tamperEnd {level : Nat} {s : State} (hl : 2 ≤ level) (h : s.ses.state ≠ .closed) :
    (s.endsAt level).cell.tamperEnd = s.tamperEndBody ∧ s.tamperEndBody.isSome = true := by
  have hs : s.tamperEndBody.isSome = true := by
    unfold State.tamperEndBody
    split
    · next hc => exact absurd hc h
    · rfl
  obtain ⟨b, hb⟩ := Option.isSome_iff_exists.1 hs
  rw [State.endsAt, if_pos hl]
  exact ⟨by simp [State.tamperEnds, hb], hs⟩

/-! ### The cases of the response -/

theorem State.awake_iff (s : State) : s.awake = true ↔ s.power.life = .awake ∨ s.power.life = .sleepPending := by
  simp [State.awake]

/-- While the lanes do not run, the hold begins at once. -/
theorem State.respond_stopped {s : State} {level : Nat} (h : (s.power.life = .asleep ∧ 1 ≤ level) ∨
    s.power.life = .starting ∨ s.power.life = .bootStopped) : s.respond level = (s.erasesAt level).holds := by
  rcases h with ⟨h, hl⟩ | h | h
  · simp only [State.respond, h, if_neg (show ¬ level = 0 by omega)]; rfl
  · simp only [State.respond, h]; rfl
  · simp only [State.respond, h]; rfl

/-- An event of a sleeping device at level RECORD is latched, and nothing more. -/
theorem State.respond_asleep {s : State} (h : s.power.life = .asleep) : s.respond 0 = s := by
  simp [State.respond, h]

/-- A device in hold stays in it. -/
theorem State.respond_held {s : State} {level : Nat} (h : s.awake = true) (hh : s.tamper.hold = true) :
    s.respond level = s.abortKeyWork.erasesAt level := by
  rcases (State.awake_iff s).1 h with h | h <;> simp [State.respond, h, hh, State.erasesAt]

/-- At level RECORD operations with keys are aborted. -/
theorem State.respond_record {s : State} (h : s.awake = true) (hh : s.tamper.hold = false) :
    s.respond 0 = s.abortKeyWork := by
  rcases (State.awake_iff s).1 h with h | h <;> simp [State.respond, h, hh]

/-- At level HOLD and above a running device resets into hold (cause 4). -/
theorem State.respond_reset {s : State} {level : Nat} (h : s.awake = true) (hh : s.tamper.hold = false) (hl : 1 ≤ level) :
    s.respond level = ((s.endsAt level).erasesAt level).holds.systemReset 4 := by
  rcases (State.awake_iff s).1 h with h | h <;>
    simp [State.respond, h, hh, show level ≠ 0 by omega, State.erasesAt, State.endsAt, State.holds]

/-! ### What every response keeps -/

/-- The latch and its counts, the directory and the current banks are the same. -/
structure State.SameLatch (s t : State) : Prop where
  latched : t.tamper.latched = s.tamper.latched
  eventSeq : t.tamper.eventSeq = s.tamper.eventSeq
  unacked : t.tamper.unacked = s.tamper.unacked
  lastSource : t.tamper.lastSource = s.tamper.lastSource
  lastLevel : t.tamper.lastLevel = s.tamper.lastLevel
  dir : t.dir = s.dir
  cfg : t.cfg.cur = s.cfg.cur
  thal : t.thal.cur = s.thal.cur

theorem State.SameLatch.trans {s t u : State} (h : s.SameLatch t) (h' : t.SameLatch u) : s.SameLatch u :=
  ⟨h'.latched.trans h.latched, h'.eventSeq.trans h.eventSeq, h'.unacked.trans h.unacked,
    h'.lastSource.trans h.lastSource, h'.lastLevel.trans h.lastLevel, h'.dir.trans h.dir, h'.cfg.trans h.cfg,
    h'.thal.trans h.thal⟩

theorem State.SameLatch.refl (s : State) : s.SameLatch s := ⟨rfl, rfl, rfl, rfl, rfl, rfl, rfl, rfl⟩

theorem State.sameLatch_holds (s : State) : s.SameLatch s.holds := ⟨rfl, rfl, rfl, rfl, rfl, rfl, rfl, rfl⟩

theorem State.sameLatch_erasesAt (level : Nat) (s : State) : s.SameLatch (s.erasesAt level) := by
  rw [State.erasesAt_keeps]
  exact ⟨rfl, rfl, rfl, rfl, rfl, rfl, rfl, rfl⟩

theorem State.sameLatch_endsAt (level : Nat) (s : State) : s.SameLatch (s.endsAt level) := by
  rw [State.endsAt_keeps]
  exact ⟨rfl, rfl, rfl, rfl, rfl, rfl, rfl, rfl⟩

theorem State.sameLatch_abortKeyWork (s : State) : s.SameLatch s.abortKeyWork := by
  rw [s.abortKeyWork_eq.1]
  exact ⟨rfl, rfl, rfl, rfl, rfl, rfl, rfl, rfl⟩

theorem State.sameLatch_systemReset (s : State) (cause : Nat) : s.SameLatch (s.systemReset cause) :=
  ⟨rfl, rfl, rfl, rfl, rfl, rfl, rfl, rfl⟩

theorem State.sameLatch_respond {s : State} (level : Nat) (h : s.power.life ≠ .unpowered) :
    s.SameLatch (s.respond level) := by
  have stopped : s.SameLatch (s.erasesAt level).holds := (s.sameLatch_erasesAt level).trans (State.sameLatch_holds _)
  have running : s.awake = true → s.SameLatch (s.respond level) := by
    intro ha
    cases hh : s.tamper.hold with
    | true =>
      rw [State.respond_held ha hh]
      exact s.sameLatch_abortKeyWork.trans (State.sameLatch_erasesAt _ _)
    | false =>
      rcases Nat.eq_zero_or_pos level with rfl | hl
      · rw [State.respond_record ha hh]
        exact s.sameLatch_abortKeyWork
      · rw [State.respond_reset ha hh hl]
        exact (((s.sameLatch_endsAt level).trans (State.sameLatch_erasesAt _ _)).trans (State.sameLatch_holds _)).trans
          (State.sameLatch_systemReset _ _)
  cases hlife : s.power.life with
  | unpowered => exact absurd hlife h
  | starting => rw [State.respond_stopped (.inr (.inl hlife))]; exact stopped
  | bootStopped => rw [State.respond_stopped (.inr (.inr hlife))]; exact stopped
  | asleep =>
    rcases Nat.eq_zero_or_pos level with rfl | hl
    · rw [State.respond_asleep hlife]
      exact .refl s
    · rw [State.respond_stopped (.inl ⟨hlife, hl⟩)]
      exact stopped
  | awake => exact running ((State.awake_iff s).2 (.inl hlife))
  | sleepPending => exact running ((State.awake_iff s).2 (.inr hlife))

theorem State.powered_of_watched {s : State} {code : Nat} (h : s.watched code = true) : s.power.life ≠ .unpowered := by
  intro hl
  simp [State.watched, hl] at h

/-! ### What the response does in each case -/

/-- At level RECORD the operations with keys of the tick, and the clauses that wait, end with TAMPER_ABORT (R6, R353). -/
theorem State.respond_record_effect {s : State} (h : s.awake = true) (hh : s.tamper.hold = false) :
    let t := s.respond 0
    t.tamper.hold = false ∧ t.power = s.power ∧ t.ks.slots = s.ks.slots ∧ t.ks.rhizome = s.ks.rhizome ∧
      t.work = s.work.filter (fun q => !q.keyed) ∧ t.acts = s.acts.filter (fun a => !a.keyed) ∧
      ∀ p, (t.port p).stagedReplies = (s.port p).stagedReplies.map (Staged.aborted s.keyOrders) ++
        (s.work.filter fun q => q.keyed && q.ticket.port == p).map Queued.abortReply := by
  obtain ⟨hk, hp⟩ := s.abortKeyWork_eq
  rw [State.respond_record h hh]
  refine ⟨?_, ?_, ?_, ?_, ?_, ?_, hp⟩
  · rw [hk]; exact hh
  all_goals rw [hk]

/-- At level HOLD and above a running device starts anew in hold; its session ends at a level that zeroises keys, and its
root is gone at ROOT_ERASE (R203, R355). -/
theorem State.respond_reset_effect {s : State} {level : Nat} (h : s.awake = true) (hh : s.tamper.hold = false)
    (hl : 1 ≤ level) :
    let t := s.respond level
    t.tamper.hold = true ∧ t.power.life = .starting ∧ t.power.nextCause = 4 ∧ t.cell.state = s.cell.state ∧ t.acts = [] ∧
      t.work = [] ∧
      (2 ≤ level → s.ses.state ≠ .closed → t.cell.tamperEnd = s.tamperEndBody ∧ t.cell.tamperEnd.isSome = true) ∧
      (level = 3 → s.ks.rhizome ≠ none → t.ks.rhizome = none ∧ t.ks.slots = List.replicate 64 {} ∧
        t.tamper.permanent = true ∧ t.tamper.erased = true) := by
  have hcell : (s.respond level).cell.state = (s.endsAt level).cell.state ∧
      (s.respond level).cell.tamperEnd = (s.endsAt level).cell.tamperEnd := by
    rw [State.respond_reset h hh hl]
    change ((s.endsAt level).erasesAt level).cell.state = _ ∧ ((s.endsAt level).erasesAt level).cell.tamperEnd = _
    rw [State.erasesAt_keeps]
    exact ⟨rfl, rfl⟩
  refine ⟨?_, ?_, ?_, ?_, ?_, ?_, ?_, ?_⟩
  · rw [State.respond_reset h hh hl]; rfl
  · rw [State.respond_reset h hh hl]; rfl
  · rw [State.respond_reset h hh hl]; rfl
  · rw [hcell.1, State.endsAt_keeps]
  · rw [State.respond_reset h hh hl]; rfl
  · rw [State.respond_reset h hh hl]; rfl
  · intro h2 hses
    obtain ⟨hend, hsome⟩ := State.endsAt_tamperEnd h2 hses
    rw [hcell.2, hend]
    exact ⟨rfl, hsome⟩
  · rintro rfl hrhiz
    obtain ⟨hr, hperm, herased⟩ := State.erasesAt_root (s := s.endsAt 3) (by rw [State.endsAt_keeps]; exact hrhiz)
    rw [State.respond_reset h hh hl]
    exact ⟨hr, rfl, hperm, herased⟩

/-- Where the lanes do not run, or the device is in hold already, it is in hold afterwards and goes on as it was. -/
theorem State.respond_hold_effect {s : State} {level : Nat} (h : (s.power.life = .asleep ∧ 1 ≤ level) ∨
    s.power.life = .starting ∨ s.power.life = .bootStopped ∨ (s.awake = true ∧ s.tamper.hold = true)) :
    (s.respond level).tamper.hold = true ∧ (s.respond level).power = s.power := by
  have h : ((s.power.life = .asleep ∧ 1 ≤ level) ∨ s.power.life = .starting ∨ s.power.life = .bootStopped) ∨
      (s.awake = true ∧ s.tamper.hold = true) := by simpa only [or_assoc] using h
  rcases h with hstop | ⟨ha, hh⟩
  · rw [State.respond_stopped hstop]
    change _ ∧ (s.erasesAt level).power = _
    rw [State.erasesAt_keeps]
    exact ⟨rfl, rfl⟩
  · rw [State.respond_held ha hh, State.erasesAt_keeps, s.abortKeyWork_eq.1]
    exact ⟨hh, rfl⟩

theorem tamperSourcesAct : Claim.TamperSourcesAct := by
  unfold Claim.TamperSourcesAct
  intro src c seconds s code entry level mesh met sees latched
  have hsees : sees ↔ s.watched code = true ∧ conditionMet code entry c = true :=
    and_congr_right fun _ => (conditionMet_iff src entry c).symm
  have hexec : sees → exec (.tamperSourceLatch src ⟨c, seconds⟩) s =
      .next ((s.latchEvent code level seconds).respond level) := fun h =>
    exec_tamperSourceLatch_seen seconds (hsees.1 h).1 (hsees.1 h).2
  refine ⟨fun h => exec_tamperSourceLatch_unseen seconds (mt hsees.2 h), s.watched_store, fun _ => rfl, ?_, ?_, ?_, ?_⟩
  · intro h
    have hs := State.sameLatch_respond (s := s.latchEvent code level seconds) level
      (State.powered_of_watched (hsees.1 h).1)
    exact ⟨_, hexec h, ⟨hs.latched, hs.eventSeq, hs.unacked, hs.lastSource, hs.lastLevel⟩, hs.dir, hs.cfg, hs.thal⟩
  · intro h ha hh hlevel _
    obtain ⟨hhold, hpower, hslots, hrhiz, hwork, hacts, hreplies⟩ :=
      State.respond_record_effect (s := s.latchEvent code level seconds) ha hh
    rw [← hlevel] at hhold hpower hslots hrhiz hwork hacts hreplies
    refine ⟨_, hexec h, hhold, hpower, hslots, hrhiz, hwork, hacts, fun p => ?_⟩
    rw [hreplies]
    congr 1
    cases p <;> exact List.map_congr_left fun r _ => r.aborted_eq _
  · intro h ha hh hlevel
    exact ⟨_, hexec h, State.respond_reset_effect (s := s.latchEvent code level seconds) ha hh hlevel⟩
  · intro h hcase
    exact ⟨_, hexec h, State.respond_hold_effect (s := s.latchEvent code level seconds) hcase⟩

end Sys2Proof.Machine
end

section
/-! What a boot and the first commit phase of a hold owe to a tamper event (R203, R207, R354), and its record and notice
(R361). -/

namespace Sys2Proof.Machine

open Sys2Proof

/-! ### Start-up -/

theorem owedErasesAreCarriedOut : Claim.OwedErasesAreCarriedOut := by
  unfold Claim.OwedErasesAreCarriedOut
  constructor
  · intro src c seconds s hlife hnone hw hm
    have hlevel := State.entryLevel_absent hnone (State.entryEn_of_watched hw)
    have hexec := exec_tamperSourceLatch_seen seconds hw hm
    rw [hlevel, State.respond_stopped (s := s.latchEvent _ 1 seconds) (.inr (.inl hlife))] at hexec
    exact ⟨_, hexec, rfl, rfl, ⟨_, List.mem_append_right _ (List.mem_singleton_self _), rfl⟩, rfl⟩
  · intro old s t owed
    have howed : owed ↔ (old.tamper.entries.isNone && s.tamper.due.any fun d => s.eraseFor d.1) = true := by
      simp [owed, Option.isNone_iff_eq_none]
    constructor
    · intro h
      exact if_neg (mt howed.2 h)
    · intro h hr
      have ht : t = s.eraseRoot := if_pos (howed.1 h)
      rw [ht, State.eraseRoot_of_rhizome hr]
      exact ⟨rfl, rfl, rfl, rfl⟩

/-! ### The session that a response has ended -/

@[simp] theorem State.endSession_cell (s : State) (reason : Nat) : (s.endSession reason).cell = s.cell := by
  unfold State.endSession
  split <;> rfl

/-- Locking leaves a session end that waits for the hold alone. -/
theorem State.lockCell_cell (s : State) (reason : Nat) (host : Byte) (pending : Nat) :
    (s.lockCell reason host pending).cell.state = .locked ∧
      (s.lockCell reason host pending).cell.tamperEnd = s.cell.tamperEnd := by
  rw [State.lockCell, State.endSession_cell]
  exact ⟨rfl, rfl⟩

theorem State.holdClear_cell (s : State) (reason : Nat) (host : Byte) :
    (s.holdClear reason host).cell.state = .clearPending ∧ (s.holdClear reason host).cell.pendingReason = reason ∧
      (s.holdClear reason host).cell.pendingSince = s.tick ∧
      (s.holdClear reason host).cell.tamperEnd = s.cell.tamperEnd := ⟨rfl, rfl, rfl, rfl⟩

/-- A clear request acts on a RELEASED cell alone (R203). -/
theorem State.clearRequest_unreleased {s : State} (h : s.cell.state ≠ .released) (reason : Nat) (host : Byte) :
    s.clearRequest reason host = s := by
  unfold State.clearRequest
  split
  · rfl
  · rfl
  · next hr => exact absurd hr h

theorem State.clearRequest_still {s : State} (h : s.cell.state = .released) (hs : s.still = true) (reason : Nat) (host : Byte) :
    s.clearRequest reason host = s.lockCell reason host 0 := by
  simp [State.clearRequest, h, hs]

theorem State.clearRequest_moving {s : State} (h : s.cell.state = .released) (hs : s.still = false) (reason : Nat)
    (host : Byte) : s.clearRequest reason host = s.holdClear reason host := by
  simp [State.clearRequest, h, hs]

/-- A change makes its effect on the cell; its records take their place afterwards. -/
theorem State.act_cell {s : State} (h : s.awake = true) (a : Act) : (s.act a).cell = (s.apply a).cell := by
  rw [State.act_awake h]

/-- A change without effect is none at all. -/
theorem State.act_unchanged {s : State} {a : Act} (h : s.awake = true) (ha : s.apply a = s) : s.act a = s := by
  rw [State.act_awake h, ha, List.take_length, List.drop_length, List.map_nil, List.append_nil]

/-- The end that waits is made first. -/
theorem State.enterHold_ended {s : State} {body : Bytes} (h : s.cell.tamperEnd = some body) :
    s.enterHold = ((State.note { s with cell := { s.cell with tamperEnd := none } } 0x12 body).clearRequest 0x06 0).clearRequest
      0x12 0 := by
  simp [State.enterHold, h]

theorem State.enterHold_plain {s : State} (h : s.cell.tamperEnd = none) : s.enterHold = s.clearRequest 0x12 0 := by
  simp [State.enterHold, h]

theorem holdEndsTheSession : Claim.HoldEndsTheSession := by
  unfold Claim.HoldEndsTheSession
  intro s ha
  refine ⟨?_, ?_, ?_⟩
  · intro body hb hr t
    generalize hu : State.note { s with cell := { s.cell with tamperEnd := none } } 0x12 body = u
    have hend : u.cell.tamperEnd = none := by rw [← hu]; rfl
    have hstill : u.still = s.still := by rw [← hu]; rfl
    have htick : u.tick = s.tick := by rw [← hu]; rfl
    have hrel : u.cell.state = .released := by rw [← hu]; exact hr
    have hact : t.cell = ((u.clearRequest 0x06 0).clearRequest 0x12 0).cell := by
      rw [State.act_cell ha, ← hu]
      exact congrArg State.cell (State.enterHold_ended hb)
    cases hs : s.still with
    | true =>
      obtain ⟨hlocked, hkept⟩ := State.lockCell_cell u 0x06 0 0
      rw [State.clearRequest_still hrel (hstill.trans hs),
        State.clearRequest_unreleased (by rw [hlocked]; exact nofun)] at hact
      rw [hact]
      exact ⟨hkept.trans hend, fun _ => hlocked, nofun⟩
    | false =>
      obtain ⟨hpending, hreason, hsince, hkept⟩ := State.holdClear_cell u 0x06 0
      rw [State.clearRequest_moving hrel (hstill.trans hs),
        State.clearRequest_unreleased (by rw [hpending]; exact nofun)] at hact
      rw [hact]
      exact ⟨hkept.trans hend, nofun, fun _ => ⟨hpending, hreason, hsince.trans htick⟩⟩
  · intro hn hr hs
    rw [State.act_cell ha]
    change s.enterHold.cell.state = _ ∧ s.enterHold.cell.pendingReason = _
    rw [State.enterHold_plain hn, State.clearRequest_moving hr hs]
    exact ⟨rfl, rfl⟩
  · intro hn hr
    refine State.act_unchanged ha ?_
    change s.enterHold = s
    rw [State.enterHold_plain hn, State.clearRequest_unreleased hr]

/-! ### Records and notices -/

/-- The notice of an event (R361, Table 03.9). -/
def tamperNoticeOf (e : Nat × Nat × Nat × Nat × Nat × Nat) : Staged :=
  { seq := 0, verb := 0, status := 0, results := 0x04#8 :: (eventHead e ++ tick4 e.2.2.2.2.1), notice := true
    numbered := true }

/-- Notices go to the ports whose IRQ_EN has the bit of TAMPER. -/
theorem State.foldl_tamperNotice (l : List (Nat × Nat × Nat × Nat × Nat × Nat)) (s : State) :
    let t := l.foldl State.tamperNotice s
    t = { s with portA := t.portA, portB := t.portB } ∧ ∀ p, (t.port p).stagedNotices =
      (s.port p).stagedNotices ++ if (irqEn s.cfg.cur p).getLsbD 6 then l.map tamperNoticeOf else [] := by
  induction l generalizing s with
  | nil => exact ⟨rfl, by simp⟩
  | cons e l ih =>
    obtain ⟨he, hp⟩ := ih (s.tamperNotice e)
    refine ⟨he.trans rfl, fun p => ?_⟩
    have hone : ((s.tamperNotice e).port p).stagedNotices =
        (s.port p).stagedNotices ++ if (irqEn s.cfg.cur p).getLsbD 6 then [tamperNoticeOf e] else [] := by
      cases p
      all_goals
        simp only [State.tamperNotice, State.notify, State.port]
        split
        · rfl
        · exact (List.append_nil _).symm
    rw [List.foldl_cons, hp, hone, show (s.tamperNotice e).cfg = s.cfg from rfl, List.append_assoc]
    split <;> rfl

/-- The record of an event as it waits (Table 14.12). -/
def tamperWaiting (present : BitVec 16) (e : Nat × Nat × Nat × Nat × Nat × Nat) : Waiting :=
  { cls := .other, typ := 0x64
    body := padTo 32 (eventHead e ++ leN 8 e.2.2.2.2.1 ++ leN 4 e.2.2.2.2.2 ++ leN 2 present.toNat) }

theorem State.foldl_tamperRecord (l : List (Nat × Nat × Nat × Nat × Nat × Nat)) {s : State} (h : s.log.begun = true) :
    l.foldl State.tamperRecord s =
      { s with log := { s.log with waiting := s.log.waiting ++ l.map (tamperWaiting s.tamper.present) } } := by
  induction l generalizing s with
  | nil => simp
  | cons e l ih =>
    have hone : s.tamperRecord e =
        { s with log := { s.log with waiting := s.log.waiting ++ [tamperWaiting s.tamper.present e] } } := by
      simp [State.tamperRecord, State.record, h, tamperWaiting, RecClass.rank]
    rw [List.foldl_cons, hone, ih (by exact h)]
    simp

/-- Records have been appended, the log is now `e`, and the notices of its events are not yet published. -/
def State.appendedTo (s : State) (e : Evidence) : State := { s with
  log := e, fp := { s.fp with journal := s.fp.journal.drop (s.log.accesses - e.accesses) }
  tamper := { s.tamper with
    due := s.tamper.due.drop (s.log.events - e.events), dueWritten := s.tamper.dueWritten.drop (s.log.events - e.events)
    queued := s.tamper.queued - (s.log.events - e.events) } }

theorem State.appending_eq (s : State) (f : Evidence → Evidence) :
    let e := f { s.log with waiting := fillBodies s.log.waiting s.fp.journal }
    s.appending f = (s.tamper.due.take (s.log.events - e.events)).foldl State.tamperNotice (s.appendedTo e) := rfl

theorem tamperEventsAreRecorded : Claim.TamperEventsAreRecorded := by
  unfold Claim.TamperEventsAreRecorded
  intro s
  refine ⟨?_, ?_, ?_, ?_⟩
  · intro h
    rw [State.publishTamper, if_pos (Option.isSome_iff_ne_none.2 h)]
  · intro h hb
    rw [State.publishTamper, if_neg (by simp [h]), if_neg (by simp [hb]), State.foldl_tamperRecord _ (by exact hb)]
    rfl
  · intro h hb
    rw [State.publishTamper, if_neg (by simp [h]), if_pos (by simp [hb])]
    obtain ⟨ht, hp⟩ := State.foldl_tamperNotice s.tamper.due
      { s with tamper := { s.tamper with due := [], dueWritten := [], queued := 0 } }
    exact ⟨by rw [ht], by rw [ht], fun p => by rw [hp]; cases p <;> rfl⟩
  · intro t k
    have ht := State.appending_eq s (Evidence.commit s.tick s.degraded)
    generalize Evidence.commit s.tick s.degraded { s.log with waiting := fillBodies s.log.waiting s.fp.journal } = e at ht ⊢
    obtain ⟨hkeeps, hp⟩ := State.foldl_tamperNotice (s.tamper.due.take (s.log.events - e.events)) (s.appendedTo e)
    rw [← ht] at hkeeps hp
    have hlog : t.log = e := congrArg State.log hkeeps
    have hk : k = s.log.events - e.events := by rw [← hlog]
    refine ⟨hlog, ?_, ?_, fun p => ?_⟩
    · rw [hk]; exact congrArg (fun u => u.tamper.due) hkeeps
    · rw [hlog]; exact congrArg (fun u => u.fp.journal) hkeeps
    · rw [hk]
      refine (hp p).trans ?_
      cases p <;> rfl

end Sys2Proof.Machine
end

section
/-! TAMPER_STATUS, TAMPER_ACK and its reset (R356, R358 to R361). -/

namespace Sys2Proof.Machine

open Sys2Proof

/-! ### TAMPER_STATUS -/

theorem exec_tamperStatus (h : Hdr) (s : State)
    (hc : (⟨0x70, h, []⟩ : Clause).clear { lane := 6 } s = true) :
    exec (.tamperStatus h []) s =
      .next ((⟨0x70, h, []⟩ : Clause).goes { lane := 6 } .nothing (fun tk b => b.done tk b.tamperResults) s) :=
  congrArg Host.Outcome.next (command_clear ⟨0x70, h, []⟩ (tamperStatusWork []) .nothing { lane := 6 } s hc rfl rfl rfl)

theorem State.length_tamperResults (s : State) : s.tamperResults.length = 48 := by
  simp [State.tamperResults]

/-- The fields of Table 14.11 that stand first. -/
theorem State.tamperResults_fields (s : State) :
    slice s.tamperResults 0 2 = leN 1 s.tamper.code ++ leN 1 s.tamper.lastSource ∧
      slice s.tamperResults 2 2 = leN 2 s.tamper.latched.toNat ∧ slice s.tamperResults 4 2 = leN 2 s.tamper.present.toNat ∧
      slice s.tamperResults 8 8 = leN 4 s.tamper.eventSeq ++ leN 4 s.tamper.unacked := by
  simp [State.tamperResults, leN, slice]

/-! ### TAMPER_ACK -/

theorem readEndorsements_none (t : Mem) : readEndorsements t 0 [] = .ok [] := rfl

/-- The device is in tamper hold, or has an event that is not acknowledged, and the hold is not permanent (Table 14.11). -/
theorem Tamper.code_acknowledgeable {t : Tamper} (hp : t.permanent = false) (h : t.hold = true ∨ t.unacked ≠ 0) :
    t.code ≠ 0 ∧ t.code ≠ 3 := by
  simp only [Tamper.code, hp, Bool.false_eq_true, if_false]
  rcases h with h | h
  · simp [h]
  · cases t.hold <;> simp [h]

theorem slice_zeros {args : Bytes} {n : Nat} (h : slice args 1 n = zeros n) : zero args 1 n = true := by
  rw [zero, h]
  simp

/-- TAMPER_ACK passes its own checks: from a session, or from where none is asked for, outside hold; or endorsed (R359, R360). -/
theorem tamperAckWork_check {args : Bytes} {tk : Ticket} {s : State} (hlen : 8 ≤ args.length)
    (hz : slice args 1 3 = [0#8, 0#8, 0#8]) (hseq : num args 4 4 = s.tamper.eventSeq) (hp : s.tamper.permanent = false)
    (hstill : s.stillPresent = false) (hev : s.tamper.hold = true ∨ s.tamper.unacked ≠ 0)
    (hby : (oct args 0 = 0 ∧ args.length = 8 ∧ (s.tamper.hold = false ∨ s.prot.personalised = false) ∧
        (tk.sess ≠ none ∨ thalSeal s.thal.cur tk.port = false ∨ s.prot.personalised = false)) ∨
      (oct args 0 = 2 ∧ ∃ l, readEndorsements s.thal.cur (oct args 0) (args.drop 8) = .ok l ∧
        s.ackVerifies (readEndorsements s.thal.cur (oct args 0) (args.drop 8)) = true)) :
    (tamperAckWork args).check tk s = {} := by
  have hz3 : zero args 1 3 = true := slice_zeros hz
  obtain ⟨hc0, hc3⟩ := Tamper.code_acknowledgeable hp hev
  simp only [tamperAckWork, Work.hashed]
  rcases hby with ⟨h0, h8, hhold, hsess⟩ | ⟨h2, l, hl, hver⟩
  · have he : readEndorsements s.thal.cur (oct args 0) (args.drop 8) = .ok [] := by
      rw [h0, List.drop_eq_nil_of_le (by omega)]
      exact readEndorsements_none _
    have hauth : (tk.sess.isNone && thalSeal s.thal.cur tk.port && s.prot.personalised) = false := by
      rcases hsess with h | h | h
      · simp [h]
      · simp [h]
      · simp [h]
    have hopen : (s.tamper.hold && s.prot.personalised) = false := by
      rcases hhold with h | h <;> simp [h]
    simp only [he]
    simp [h0, hlen, hz3, hauth, hopen, hc0, hc3, hseq, hstill]
  · rw [hl] at hver
    simp only [hl]
    simp [h2, hlen, hz3, hver, hc0, hc3, hseq, hstill]

theorem exec_tamperAck (h : Hdr) (args : Bytes) (s : State)
    (hc : (⟨0x71, h, args⟩ : Clause).clear
      (eccNeed s.thal.cur 0x71 (readEndorsements s.thal.cur (oct args 0) (args.drop 8))) s = true)
    (hw : (tamperAckWork args).check ((⟨0x71, h, args⟩ : Clause).ticket s) s = {}) :
    exec (.tamperAck h args) s = .next ((⟨0x71, h, args⟩ : Clause).goes
      (eccNeed s.thal.cur 0x71 (readEndorsements s.thal.cur (oct args 0) (args.drop 8))) .nothing (hashedRun fun tk b =>
        (b.push (.ack tk (readEndorsements b.thal.cur (oct args 0) (args.drop 8)).parties)).done tk []) s) :=
  congrArg Host.Outcome.next (command_clear ⟨0x71, h, args⟩ (tamperAckWork args) .nothing _ s hc rfl rfl hw)

/-- The record of an acknowledgement is its clause's already: the place that the change gives it is the one it has. -/
theorem Waiting.of_ack (tk : Ticket) (by_ : List Nat) (w : Waiting) (hc : w.cls = .reply) (hr : w.rank = 3) :
    Waiting.of (.ack tk by_) w = w := by
  obtain ⟨cls, typ, body, deferred, order, rank⟩ := w
  obtain rfl : cls = .reply := hc
  obtain rfl : rank = 3 := hr
  rfl

/-- What `record` queues (R39, R437). -/
theorem State.record_log (s : State) (c : RecClass) (typ : Nat) (b : Bytes) (n : Nat) :
    ∃ l, (s.record c typ b n).log.waiting = s.log.waiting ++ l ∧ ∀ w ∈ l, w.cls = c ∧ w.rank = c.rank := by
  cases h : s.log.begun with
  | true => exact ⟨_, s.record_waiting c typ b n h, by simp⟩
  | false => exact ⟨[], by rw [s.record_before c typ b n h, List.append_nil], by simp⟩

/-- The tamper block once its events are acknowledged (R359). -/
def Tamper.acked (t : Tamper) : Tamper := { t with latched := 0, unacked := 0, written := 0, writtenCount := 0 }

theorem Tamper.acked_code {t : Tamper} (hp : t.permanent = false) : t.acked.code = if t.hold then 2 else 0 := by
  simp [Tamper.code, Tamper.acked, hp]

/-- The record of an acknowledgement waits, and its events are acknowledged. -/
def State.ackRecorded (s : State) (tk : Ticket) (by_ : List Nat) : State :=
  { s.recordReply tk 0x65 (leN 4 s.tamper.eventSeq ++ leN 2 s.tamper.latched.toNat ++ leN 1 (by_.getD 0 0xFF) ++
      leN 1 (by_.getD 1 0xFF) ++ leN 8 (if s.tamper.hold then s.tamper.holdTick else 0)) with tamper := s.tamper.acked }

/-- What an acknowledgement does: the latch is cleared, the record and the reply are made, and in hold the reset is due. -/
theorem State.applyAck_eq {s : State} (hp : s.tamper.permanent = false) (tk : Ticket) (by_ : List Nat) :
    s.applyAck tk by_ = State.amend
      { s.ackRecorded tk by_ with
          power := if s.tamper.hold then { s.power with resetDue := some (5, s.tick + 8) } else s.power } tk 0
      (leN 2 s.tamper.latched.toNat ++ leN 1 (if s.tamper.hold then 2 else 0) ++ [0#8] ++
        if s.tamper.hold then leN 4 (s.tick + 8) else zeros 4) := by
  have hu : s.applyAck tk by_ =
      if s.tamper.hold then State.amend
        { s.ackRecorded tk by_ with power := { s.power with resetDue := some (5, s.tick + 8) } } tk 0
        (leN 2 s.tamper.latched.toNat ++ leN 1 s.tamper.acked.code ++ [0#8] ++ leN 4 (s.tick + 8))
      else (s.ackRecorded tk by_).amend tk 0
        (leN 2 s.tamper.latched.toNat ++ leN 1 s.tamper.acked.code ++ [0#8] ++ zeros 4) := rfl
  rw [hu, Tamper.acked_code hp]
  by_cases h : s.tamper.hold = true
  · simp only [if_pos h]
  · simp only [if_neg h]
    rfl

/-- Making an acknowledgement is what it does: its record needs no other place. -/
theorem State.act_ack {s : State} (h : s.awake = true) (hp : s.tamper.permanent = false) (tk : Ticket) (by_ : List Nat) :
    s.act (.ack tk by_) = s.applyAck tk by_ := by
  obtain ⟨l, hl, hw⟩ : ∃ l, (s.applyAck tk by_).log.waiting = s.log.waiting ++ l ∧ ∀ w ∈ l, w.cls = .reply ∧ w.rank = 3 := by
    rw [State.applyAck_eq hp]
    exact s.record_log .reply _ _ _
  have hmap : l.map (Waiting.of (.ack tk by_)) = l :=
    (List.map_congr_left fun w hm => Waiting.of_ack tk by_ w (hw w hm).1 (hw w hm).2).trans (List.map_id l)
  rw [State.act_awake h]
  change { s.applyAck tk by_ with log := { (s.applyAck tk by_).log with
      waiting := (s.applyAck tk by_).log.waiting.take s.log.waiting.length ++
        ((s.applyAck tk by_).log.waiting.drop s.log.waiting.length).map (Waiting.of (.ack tk by_)) } } = _
  rw [hl, List.take_left, List.drop_left, hmap, ← hl]

/-! ### TAMPER_ACK_RESET -/

/-- A reply to an admitted TAMPER_ACK is unread on some port. -/
theorem State.verbUnread_iff (s : State) (verb : Nat) :
    s.verbUnread verb = true ↔ ∃ p, ∃ o ∈ (s.port p).outstanding, o.verb = verb ∧ o.admitted = true := by
  simp only [State.verbUnread, Bool.or_eq_true, List.any_eq_true, Bool.and_eq_true, beq_iff_eq]
  constructor
  · rintro (h | h)
    · exact ⟨.a, h⟩
    · exact ⟨.b, h⟩
  · rintro ⟨p, h⟩
    cases p with
    | a => exact .inl h
    | b => exact .inr h

theorem State.resetReady_iff (s : State) (cause verb : Nat) : s.resetReady cause verb = true ↔
    ∃ last, s.power.resetDue = some (cause, last) ∧
      (¬ (∃ p, ∃ o ∈ (s.port p).outstanding, o.verb = verb ∧ o.admitted = true) ∨ last ≤ s.tick) := by
  rw [← s.verbUnread_iff]
  unfold State.resetReady
  cases hd : s.power.resetDue with
  | none => simp
  | some d =>
    obtain ⟨c, last⟩ := d
    simp only [Bool.and_eq_true, beq_iff_eq, Bool.or_eq_true, Bool.not_eq_true', decide_eq_true_eq, Option.some.injEq,
      Prod.mk.injEq, Bool.not_eq_true]
    constructor
    · rintro ⟨rfl, h⟩; exact ⟨last, ⟨rfl, rfl⟩, h⟩
    · rintro ⟨_, ⟨rfl, rfl⟩, h⟩; exact ⟨rfl, h⟩

theorem Tamper.acknowledged_eq (t : Tamper) : t.acknowledged =
    if t.permanent = true ∨ t.latched ≠ 0 then t else { t with hold := false, holdTick := 0, holdWritten := false } := by
  simp only [Tamper.acknowledged, Bool.or_eq_true, bne_iff_ne]

theorem exec_tamperAckReset (s : State) : exec .tamperAckReset s =
    .next (if s.resetReady 5 0x71 then State.systemReset 5 { s with tamper := s.tamper.acknowledged } else s) := rfl

theorem tamperIsAcknowledged : Claim.TamperIsAcknowledged := by
  unfold Claim.TamperIsAcknowledged
  refine ⟨fun h s => ⟨exec_tamperStatus h s, s.length_tamperResults, s.tamperResults_fields⟩, ?_, ?_, ?_⟩
  · intro h args s k e n hc hlen hz hseq hp hstill hev hby
    exact exec_tamperAck h args s hc (tamperAckWork_check hlen hz hseq hp hstill hev hby)
  · intro s tk by_ ha hp held
    exact ⟨_, (State.act_ack ha hp tk by_).trans (State.applyAck_eq hp tk by_), rfl⟩
  · intro s unread
    constructor
    · intro last hd hr
      rw [exec_tamperAckReset, if_pos ((s.resetReady_iff 5 0x71).2 ⟨last, hd, hr⟩), Tamper.acknowledged_eq]
    · intro h
      rw [exec_tamperAckReset, if_neg]
      intro hr
      obtain ⟨last, hd, hr⟩ := (s.resetReady_iff 5 0x71).1 hr
      obtain ⟨hu, ht⟩ := h last hd
      rcases hr with hr | hr
      · exact hr hu
      · omega

/-- Settles O51: what a source sees, the response at each level and in each power state, the erases owed at start-up, the
session that a hold ends, the events' records and notices, and the acknowledgement, each by its own lemmas. -/
theorem tamperIsHandled : Obligations.TamperIsHandled :=
  ⟨tamperSourcesAct, owedErasesAreCarriedOut, holdEndsTheSession, tamperEventsAreRecorded, tamperIsAcknowledged⟩

end Sys2Proof.Machine
end

section
/-! The start lock's view of the state, by the model's files: what leaves the cell's state and the motion state alone (R26). -/

namespace Sys2Proof.Machine

open Sys2Proof

/-- What the start lock's safety looks at: the cell's state and the motion state (R26). -/
def State.lockView (s : State) : CellState × MotionState := (s.cell.state, s.motion.state)

@[simp] theorem lockView_mk (p t u ut ub us uf pa pb le w o la d ln po cf th pr di lk se ce ac mo wi fp ks ci lg rn ta fi fc) :
    (State.mk p t u ut ub us uf pa pb le w o la d ln po cf th pr di lk se ce ac mo wi fp ks ci lg rn ta fi fc).lockView =
      (ce.state, mo.state) := by rfl

@[simp] theorem lockView_eta (s : State) : (s.cell.state, s.motion.state) = s.lockView := by rfl

@[simp] theorem lockView_ite (c : Prop) [Decidable c] (s t : State) :
    (if c then s else t).lockView = if c then s.lockView else t.lockView := apply_ite ..

@[simp] theorem fst_ite {α β : Type} (c : Prop) [Decidable c] (x y : α × β) : (if c then x else y).1 = if c then x.1 else y.1 :=
  apply_ite ..

@[simp] theorem snd_ite {α β : Type} (c : Prop) [Decidable c] (x y : α × β) : (if c then x else y).2 = if c then x.2 else y.2 :=
  apply_ite ..

@[simp] theorem foldl_lockView {α : Type} {f : State → α → State} (h : ∀ s a, (f s a).lockView = s.lockView) (l : List α)
    (s : State) : (l.foldl f s).lockView = s.lockView := by
  induction l generalizing s with
  | nil => rfl
  | cons a l ih => rw [List.foldl_cons, ih, h]

/-! ### Ops -/

@[simp] theorem State.onPort_lockView (s : State) (p : PortId) (f : Port → Port) :
    (State.onPort s p f).lockView = s.lockView := by rfl

@[simp] theorem State.onPorts_lockView (s : State) (f : Port → Port) : (State.onPorts s f).lockView = s.lockView := by rfl

@[simp] theorem State.raise_lockView (i : Nat) (s : State) : (State.raise i s).lockView = s.lockView := by rfl

@[simp] theorem State.drew_lockView (s : State) : (State.drew s).lockView = s.lockView := by rfl

@[simp] theorem State.record_lockView (s : State) (cls : RecClass) (typ : Nat) (body : Bytes) (order : Nat) :
    (State.record s cls typ body order).lockView = s.lockView := by rfl

@[simp] theorem State.push_lockView (s : State) (a : Act) : (State.push s a).lockView = s.lockView := by rfl

@[simp] theorem State.notify_lockView (s : State) (i : Nat) (results : Bytes) :
    (State.notify s i results).lockView = s.lockView := by rfl

@[simp] theorem State.bookNeed_lockView (s : State) (t prio : Nat) (n : Need) :
    (State.bookNeed s t prio n).lockView = s.lockView := by rfl

@[simp] theorem Work.unknown_lockView (tk s) : (Work.unknown.run tk s).lockView = s.lockView := by rfl

@[simp] theorem State.reply_lockView (s : State) (tk : Ticket) (status : Nat) (results : Bytes) :
    (State.reply s tk status results).lockView = s.lockView := by rfl

@[simp] theorem State.amend_lockView (s : State) (tk : Ticket) (status : Nat) (results : Bytes) :
    (State.amend s tk status results).lockView = s.lockView := by rfl

@[simp] theorem State.refuse_lockView (hd : Head) (status : Nat) (sess : Option Sess) (dup : Bool) (s : State) :
    (State.refuse hd status sess dup s).lockView = s.lockView := by rfl

@[simp] theorem State.tookLoss_lockView (u : AesUser) (s : State) : (State.tookLoss u s).lockView = s.lockView := by rfl

@[simp] theorem admitClause_lockView (hd o w t go) (h : ∀ tk s, (go tk s : State).lockView = s.lockView) (s) :
    (admitClause hd o w t go s).lockView = s.lockView := by
  unfold admitClause
  split
  · simp
  · split
    · simp
    · simp only; split <;> simp [h]

@[simp] theorem State.keepLatched_lockView (hd : Head) (args : Bytes) (o : Opened) (t : Nat) (s : State) :
    (State.keepLatched hd args o t s).lockView = s.lockView := by rfl

@[simp] theorem commandWith_lockView (v hd a w go) (h : ∀ tk s, (go tk s : State).lockView = s.lockView) (s) :
    (commandWith v hd a w go s).lockView = s.lockView := by
  unfold commandWith
  split
  · rfl
  · split <;> simp
  · split
    · simp
    · split <;> simp [h]

@[simp] theorem State.enqueue_lockView (args : Bytes) (sup : Supplied) (prio t deadline : Nat) (tk : Ticket) (s : State) :
    (State.enqueue args sup prio t deadline tk s).lockView = s.lockView := by rfl

@[simp] theorem command_lockView (v hd a w) (s : State) (sup : Supplied) (h : ∀ tk s, (w.run tk s).lockView = s.lockView) :
    (command v hd a w s sup).lockView = s.lockView := by
  refine commandWith_lockView _ _ _ _ _ (fun tk s => ?_) s
  unfold hdrGo
  split <;> simp [h]

@[simp] theorem airCommand_lockView (v hd a w) (s : State) (h : ∀ tk s, (w.run tk s).lockView = s.lockView) :
    (airCommand v hd a w s).lockView = s.lockView := by
  exact commandWith_lockView _ _ _ _ _ h s

@[simp] theorem Work.aes_lockView (w : Work) (h : ∀ tk s, (w.run tk s).lockView = s.lockView) (tk s) :
    (w.aes.run tk s).lockView = s.lockView := by
  simp only [Work.aes]; split <;> simp [h]

@[simp] theorem Work.hashed_lockView (w : Work) (h : ∀ tk s, (w.run tk s).lockView = s.lockView) (tk s) :
    (w.hashed.run tk s).lockView = s.lockView := by
  simp only [Work.hashed]; split <;> simp [h]

@[simp] theorem Work.signed_lockView (w : Work) (h : ∀ tk s, (w.run tk s).lockView = s.lockView) (tk s) :
    (w.signed.run tk s).lockView = s.lockView := by
  simp only [Work.signed]; split <;> simp [h]

@[simp] theorem Work.again_lockView (f) (w : Work) (h : ∀ tk s, (w.run tk s).lockView = s.lockView) (tk s) :
    ((w.again f).run tk s).lockView = s.lockView := by
  simp only [Work.again]; split <;> simp [h]

/-! ### Cell -/

@[simp] theorem State.storeOdo_lockView (s : State) : (State.storeOdo s).lockView = s.lockView := by rfl

@[simp] theorem State.odoRecord_lockView (s : State) (cls : RecClass) (reason k0 k1 : Nat) :
    (State.odoRecord s cls reason k0 k1).lockView = s.lockView := by rfl

@[simp] theorem State.odoNote_lockView (s : State) (reason k0 k1 : Nat) :
    (State.odoNote s reason k0 k1).lockView = s.lockView := by rfl

@[simp] theorem State.sesRecord_lockView (s : State) (old : SesState) (end_ : Nat) :
    (State.sesRecord s old end_).lockView = s.lockView := by rfl

@[simp] theorem State.endSession_lockView (s : State) (reason : Nat) :
    (State.endSession s reason).lockView = s.lockView := by
  unfold State.endSession
  split <;> simp

@[simp] theorem State.sessionTimer_lockView (s : State) : (State.sessionTimer s).lockView = s.lockView := by
  unfold State.sessionTimer
  split <;> simp

@[simp] theorem State.moveSession_lockView (s : State) (new : SesState) (token : Ident) (zone location : Nat) :
    (State.moveSession s new token zone location).lockView = s.lockView := by
  simp [State.moveSession]

@[simp] theorem State.recordToken_lockView (s : State) (token : Ident) (zone location : Nat) :
    (State.recordToken s token zone location).lockView = s.lockView := by rfl

@[simp] theorem State.decideEntry_lockView (s : State) (token : Ident) (zone location : Nat) :
    (State.decideEntry s token zone location).lockView = s.lockView := by
  unfold State.decideEntry
  split <;> simp

/-! ### Draw -/

@[simp] theorem State.releaseReserved_lockView (s : State) : (State.releaseReserved s).lockView = s.lockView := by rfl

@[simp] theorem State.draw_lockView (s w n) : (State.draw s w n).2.lockView = s.lockView := by
  unfold State.draw; split <;> simp

@[simp] theorem State.mask_lockView (s : State) : (State.mask s).lockView = s.lockView := by simp [State.mask]

@[simp] theorem State.drawScalar_lockView (s cv) : (State.drawScalar s cv).2.lockView = s.lockView := by
  simp [State.drawScalar]

@[simp] theorem State.drawId_lockView (n s) : (State.drawId n s).2.lockView = s.lockView := by
  induction n generalizing s with
  | zero => simp [State.drawId]
  | succ n ih => simp [State.drawId, ih]

@[simp] theorem State.signWith_lockView (cv d m n s) : (State.signWith cv d m n s).2.lockView = s.lockView := by
  induction n generalizing s with
  | zero => simp [State.signWith]
  | succ n ih => simp only [State.signWith]; split <;> simp [ih]

@[simp] theorem State.noteDraw_lockView (hint : Bool) (q : Queued) (s : State) :
    (State.noteDraw hint q s).lockView = s.lockView := by
  simp [State.noteDraw]

@[simp] theorem State.reserveFor_lockView (verb : Nat) (args : Bytes) (tk : Ticket) (s : State) :
    (State.reserveFor verb args tk s).lockView = s.lockView := by
  simp [State.reserveFor]

@[simp] theorem drawCommand_lockView (v hd a w) (s : State) (h : ∀ tk s, (w.run tk s).lockView = s.lockView) :
    (drawCommand v hd a w s).lockView = s.lockView := by
  refine commandWith_lockView _ _ _ _ _ (fun tk s => ?_) s
  unfold hdrGo
  split <;> simp [h]

@[simp] theorem reserveCommand_lockView (v hd a w) (sup : Supplied) (s : State) (h : ∀ tk s, (w.run tk s).lockView =
    s.lockView) :
    (reserveCommand v hd a w sup s).lockView = s.lockView := by
  refine commandWith_lockView _ _ _ _ _ (fun tk s => ?_) s
  unfold hdrGo
  split <;> simp [h]

/-! ### Keys -/

@[simp] theorem State.writeEntry_lockView (s : State) (n : Nat) (e : Entry) :
    (State.writeEntry s n e).lockView = s.lockView := by rfl

/-! ### Calendar -/

@[simp] theorem State.addBooking_lockView (s : State) (b : Booking) : (State.addBooking s b).lockView = s.lockView := by rfl

@[simp] theorem State.onBookings_lockView (s : State) (p : Booking → Bool) (f : Booking → Booking) :
    (State.onBookings s p f).lockView = s.lockView := by rfl

@[simp] theorem State.onCurrent_lockView (s : State) (e : Nat) (f : Booking → Booking) :
    (State.onCurrent s e f).lockView = s.lockView := by
  unfold State.onCurrent
  split <;> simp

@[simp] theorem State.dropRequest_lockView (s : State) (e : Nat) : (State.dropRequest s e).lockView = s.lockView := by rfl

@[simp] theorem State.undrive_lockView (s : State) (b : Booking) : (State.undrive s b).lockView = s.lockView := by rfl

@[simp] theorem State.release_lockView (s : State) (b : Booking) : (State.release s b).lockView = s.lockView := by
  simp [State.release]

/-! ### Air -/

@[simp] theorem State.onChannel_lockView (s : State) (n : Nat) (f : Channel → Channel) :
    (State.onChannel s n f).lockView = s.lockView := by rfl

@[simp] theorem State.senseReply_lockView (s : State) (b : Booking) (r : Uplink) :
    (State.senseReply s b r).lockView = s.lockView := by
  simp [State.senseReply]

/-! ### Exchange -/

@[simp] theorem State.authRecord_lockView (s : State) (b : Booking) (r : KeyRec) (tag session : Nat) :
    (State.authRecord s b r tag session).lockView = s.lockView := by rfl

@[simp] theorem State.keyDone_lockView (s : State) (b : Booking) (r : KeyRec) (tag session : Nat) :
    (State.keyDone s b r tag session).lockView = s.lockView := by
  simp [State.keyDone]

@[simp] theorem State.endWith_lockView (s : State) (e code : Nat) : (State.endWith s e code).lockView = s.lockView := by
  unfold State.endWith
  (repeat' split) <;> simp

@[simp] theorem State.disturb_lockView (s : State) (engine : Nat) (chans : List Nat) :
    (State.disturb s engine chans).lockView = s.lockView := by rfl

@[simp] theorem State.soundSteps_lockView (s : State) (b : Booking) (currents : List (Int × Int)) :
    (State.soundSteps s b currents).lockView = s.lockView := by
  simp [State.soundSteps]

@[simp] theorem State.frameEffect_lockView (s : State) (b : Booking) (currents : List (Int × Int)) :
    (State.frameEffect s b currents).lockView = s.lockView := by
  unfold State.frameEffect
  split <;> simp

@[simp] theorem State.needSpore_lockView (s : State) (b : Booking) (i : Ident) :
    (State.needSpore s b i).lockView = s.lockView := by rfl

@[simp] theorem State.crownSlot_lockView (s b e) : (State.crownSlot s b e).1.lockView = s.lockView := by
  simp [State.crownSlot]

@[simp] theorem State.challengeKey_lockView (s : State) (b : Booking) (i : Ident) (o : Lookup) (e : Entry) :
    (State.challengeKey s b i o e).lockView = s.lockView := by
  simp [State.challengeKey]

@[simp] theorem State.quietKey_lockView (s : State) (b : Booking) (i : Ident) (o : Lookup) (e : Option Entry) :
    (State.quietKey s b i o e).lockView = s.lockView := by
  simp [State.quietKey]

@[simp] theorem State.lookupKey_lockView (s : State) (b : Booking) : (State.lookupKey s b).lockView = s.lockView := by
  unfold State.lookupKey
  dsimp only
  split
  · split <;> simp
  · split <;> simp
  · simp

@[simp] theorem State.listHeard_lockView (s : State) (b : Booking) : (State.listHeard s b).lockView = s.lockView := by
  simp [State.listHeard]

@[simp] theorem State.identified_lockView (s : State) (engine : Nat) :
    (State.identified s engine).lockView = s.lockView := by
  unfold State.identified
  split <;> simp

@[simp] theorem State.responseFailed_lockView (s : State) (b : Booking) (c : CurKey) :
    (State.responseFailed s b c).lockView = s.lockView := by
  simp [State.responseFailed]

@[simp] theorem State.silent_lockView (s : State) (b : Booking) : (State.silent s b).lockView = s.lockView := by
  unfold State.silent
  (repeat' split) <;> simp

@[simp] theorem State.streamed_lockView (s : State) (b : Booking) (r : Uplink) :
    (State.streamed s b r).lockView = s.lockView := by
  unfold State.streamed
  (repeat' split) <;> simp

@[simp] theorem State.endAgain_lockView (s : State) (e : Nat) : (State.endAgain s e).lockView = s.lockView := by
  simp [State.endAgain]

@[simp] theorem State.missHandover_lockView (s : State) (e : Nat) : (State.missHandover s e).lockView = s.lockView := by
  unfold State.missHandover
  split <;> simp

/-! ### Lockout -/

@[simp] theorem State.lockBegins_lockView (s : State) (scope fails ident expiry : Nat) :
    (State.lockBegins s scope fails ident expiry).lockView = s.lockView := by rfl

@[simp] theorem State.failIdent_lockView (s : State) (i : Ident) : (State.failIdent s i).lockView = s.lockView := by
  unfold State.failIdent
  split <;> simp

@[simp] theorem State.failDevice_lockView (s : State) : (State.failDevice s).lockView = s.lockView := by
  simp [State.failDevice]

@[simp] theorem State.countFailure_lockView (s : State) (i : Ident) : (State.countFailure s i).lockView = s.lockView := by
  simp [State.countFailure]

/-! ### Judge -/

@[simp] theorem State.calibrate_lockView (s b c e r v) : (State.calibrate s b c e r v).1.lockView = s.lockView := by
  unfold State.calibrate
  split
  · simp only; split
    · simp
    · split
      · simp
      · split <;> simp
  · rfl

@[simp] theorem State.stopStarts_lockView (s : State) (e : Nat) : (State.stopStarts s e).lockView = s.lockView := by rfl

@[simp] theorem State.verdictLost_lockView (s : State) (engine : Nat) (b : Booking) :
    (State.verdictLost s engine b).lockView = s.lockView := by
  simp [State.verdictLost]

@[simp] theorem State.hearResponse_lockView (s : State) (b : Booking) (c : CurKey) (e : Entry) (r : Uplink) :
    (State.hearResponse s b c e r).lockView = s.lockView := by
  unfold State.hearResponse
  split
  · rfl
  · dsimp only; split <;> simp

end Sys2Proof.Machine
end

section
/-! The start lock's view, continued: timers, motion, polls, the field engine, the host port. -/

namespace Sys2Proof.Machine

open Sys2Proof

/-! ### Timers -/

@[simp] theorem State.gtCount_lockView (s : State) (n cycle : Nat) : (State.gtCount s n cycle).lockView = s.lockView := by
  simp [State.gtCount]

@[simp] theorem State.linkedActions_lockView (s : State) (cycle : Nat) :
    (State.linkedActions s cycle).lockView = s.lockView := by rfl

@[simp] theorem State.levelChange_lockView (s : State) (n : Nat) (level : Bool) (held : Nat) :
    (State.levelChange s n level held).lockView = s.lockView := by
  simp [State.levelChange]

@[simp] theorem State.writeCycle_lockView (s : State) : (State.writeCycle s).lockView = s.lockView := by
  unfold State.writeCycle
  simp only [lockView_mk, lockView_eta]
  exact foldl_lockView (fun s x => by cases x <;> simp) _ _

@[simp] theorem State.readEffects_lockView (s : State) : (State.readEffects s).lockView = s.lockView := by
  simp [State.readEffects]

@[simp] theorem peekWork_lockView (args : Bytes) (sup : Supplied) (tk : Ticket) (s : State) :
    ((peekWork args sup).run tk s).lockView = s.lockView := by rfl

@[simp] theorem pokeWork_lockView (args : Bytes) (tk : Ticket) (s : State) :
    ((pokeWork args).run tk s).lockView = s.lockView := by rfl

@[simp] theorem State.cfgAnswers_lockView (s : State) : (State.cfgAnswers s).lockView = s.lockView := by
  exact foldl_lockView (fun s x => by cases x <;> simp) _ _

@[simp] theorem timerCfgWork_lockView (args : Bytes) (tk : Ticket) (s : State) :
    ((timerCfgWork args).run tk s).lockView = s.lockView := by rfl

/-! ### Motion -/

@[simp] theorem State.odoCount_lockView (s : State) (k : Nat) : (State.odoCount s k).lockView = s.lockView := by
  simp [State.odoCount]

@[simp] theorem State.speedEdge_lockView (s : State) (n cycle held : Nat) :
    (State.speedEdge s n cycle held).lockView = s.lockView := by
  simp [State.speedEdge]

@[simp] theorem State.motionEvent_lockView (s e) : (State.motionEvent s e).lockView = s.lockView := by
  cases e <;> simp [State.motionEvent]

@[simp] theorem State.doorMotion_lockView (s : State) : (State.doorMotion s).lockView = s.lockView := by
  unfold State.doorMotion
  split <;> simp

@[simp] theorem State.doorCheckBegins_lockView (s : State) : (State.doorCheckBegins s).lockView = s.lockView := by
  unfold State.doorCheckBegins
  split <;> simp

@[simp] theorem State.flagRecords_lockView (s : State) (i : Nat) (old new : SpeedSource) :
    (State.flagRecords s i old new).lockView = s.lockView := by
  simp [State.flagRecords]

@[simp] theorem State.judgeSource_lockView (s : State) (i : Nat) : (State.judgeSource s i).lockView = s.lockView := by
  simp [State.judgeSource]

@[simp] theorem State.switchOdo_lockView (s : State) (secondary : Bool) (k : Nat) :
    (State.switchOdo s secondary k).lockView = s.lockView := by
  simp [State.switchOdo]

@[simp] theorem State.selectOdo_lockView (s : State) : (State.selectOdo s).lockView = s.lockView := by simp [State.selectOdo]

@[simp] theorem State.newSpeeds_lockView (s : State) : (State.newSpeeds s).lockView = s.lockView := by rfl

@[simp] theorem odoIntervalWork_lockView (args : Bytes) (tk : Ticket) (s : State) :
    ((odoIntervalWork args).run tk s).lockView = s.lockView := by rfl

@[simp] theorem State.applyOdoInit_lockView (s : State) (tk : Ticket) (metres : Nat) :
    (State.applyOdoInit s tk metres).lockView = s.lockView := by
  simp [State.applyOdoInit]

@[simp] theorem odoInitWork_lockView (args : Bytes) (tk : Ticket) (s : State) :
    ((odoInitWork args).run tk s).lockView = s.lockView := by rfl

@[simp] theorem motionReadWork_lockView (args : Bytes) (tk : Ticket) (s : State) :
    ((motionReadWork args).run tk s).lockView = s.lockView := by rfl

@[simp] theorem State.publishNotes_lockView (s : State) : (State.publishNotes s).lockView = s.lockView := by
  simp [State.publishNotes]

/-! ### Polls -/

@[simp] theorem State.pollZone_lockView (p acc z) : (State.pollZone p acc z).1.lockView = acc.1.lockView := by
  unfold State.pollZone
  dsimp only
  split
  · rfl
  · split
    · rfl
    · split <;> simp

@[simp] theorem State.noteLastPoll_lockView (s : State) (index : Option Nat) (r : Booked) :
    (State.noteLastPoll s index r).lockView = s.lockView := by
  unfold State.noteLastPoll
  split <;> simp

theorem foldl_fst_lockView {α β : Type} {f : State × β → α → State × β} (h : ∀ s a, (f s a).1.lockView = s.1.lockView)
    (l : List α) (s : State × β) :
    (l.foldl f s).1.lockView = s.1.lockView := by
  induction l generalizing s with
  | nil => rfl
  | cons a l ih => rw [List.foldl_cons, ih, h]

@[simp] theorem State.runPoll_lockView (s p) : (State.runPoll s p).1.lockView = s.lockView := by
  simp [State.runPoll, foldl_fst_lockView]

@[simp] theorem State.holdTrigger_lockView (s : State) (i aerials : Nat) :
    (State.holdTrigger s i aerials).lockView = s.lockView := by rfl

@[simp] theorem State.trigger_lockView (s : State) (i aerials : Nat) :
    (State.trigger s i aerials).lockView = s.lockView := by
  simp [State.trigger]

@[simp] theorem State.doorChanged_lockView (s : State) (n : Nat) (open_ : Bool) :
    (State.doorChanged s n open_).lockView = s.lockView := by rfl

@[simp] theorem State.inputSeen_lockView (s t p l) : (State.inputSeen s t p l).1.lockView = s.lockView := by cases p <;> rfl

@[simp] theorem State.inputChanged_lockView (s : State) (pin : InputPin) (level : Bool) :
    (State.inputChanged s pin level).lockView = s.lockView := by
  unfold State.inputChanged
  split <;> simp

@[simp] theorem State.sampleInput_lockView (t : Nat) (s : State) (x : InputPin × Bool) :
    (State.sampleInput t s x).lockView = s.lockView := by
  simp [State.sampleInput]

@[simp] theorem State.hostPoll_lockView (s p i z) : (State.hostPoll s p i z).1.lockView = s.lockView := by
  simp [State.hostPoll]

@[simp] theorem pollStartWork_lockView (args : Bytes) (tk : Ticket) (s : State) :
    ((pollStartWork args).run tk s).lockView = s.lockView := by
  simp [pollStartWork]

@[simp] theorem pollStopWork_lockView (args : Bytes) (tk : Ticket) (s : State) :
    ((pollStopWork args).run tk s).lockView = s.lockView := by
  simp [pollStopWork]

@[simp] theorem State.onSchedule_lockView (s : State) (i : Nat) (f : Schedule → Schedule) :
    (State.onSchedule s i f).lockView = s.lockView := by rfl

@[simp] theorem State.repetition_lockView (s : State) (index : Nat) : (State.repetition s index).lockView = s.lockView := by
  unfold State.repetition
  split <;> simp

/-! ### FieldEngine -/

@[simp] theorem State.driveAerials_lockView (s : State) (b : Booking) (l : List (Nat × Nat × Nat)) :
    (State.driveAerials s b l).lockView = s.lockView := by
  simp [State.driveAerials]

@[simp] theorem State.startDrive_lockView (s : State) (b : Booking) : (State.startDrive s b).lockView = s.lockView := by
  simp [State.startDrive]

@[simp] theorem State.endStep_lockView (s : State) (b : Booking) : (State.endStep s b).lockView = s.lockView := by
  simp [State.endStep]

@[simp] theorem State.nextStep_lockView (s : State) (b : Booking) : (State.nextStep s b).lockView = s.lockView := by
  unfold State.nextStep
  split <;> simp

@[simp] theorem State.measureGoesOn_lockView (s : State) (b : Booking) :
    (State.measureGoesOn s b).lockView = s.lockView := by
  unfold State.measureGoesOn
  (repeat' split) <;> simp

@[simp] theorem State.measureSteps_lockView (s : State) : (State.measureSteps s).lockView = s.lockView := by
  simp [State.measureSteps]

@[simp] theorem State.readerKeySlot_lockView (s : State) (b : Booking) (r : Reader) :
    (State.readerKeySlot s b r).lockView = s.lockView := by
  unfold State.readerKeySlot
  (repeat' split) <;> simp

@[simp] theorem State.withdrawJoined_lockView (s : State) (b : Booking) :
    (State.withdrawJoined s b).lockView = s.lockView := by
  simp [State.withdrawJoined]

@[simp] theorem State.startBooking_lockView (s : State) (b : Booking) : (State.startBooking s b).lockView = s.lockView := by
  unfold State.startBooking
  (repeat' split) <;> simp

@[simp] theorem State.settleChannel_lockView (b : Booking) (s : State) (m : LeadMeasure) :
    (State.settleChannel b s m).lockView = s.lockView := by
  simp [State.settleChannel]

@[simp] theorem State.rescale_lockView (s : State) (ss : Nat) (p : Booking → Bool) :
    (State.rescale s ss p).lockView = s.lockView := by
  simp [State.rescale]

@[simp] theorem State.thermal_lockView (t : Int) (s : State) : (State.thermal t s).lockView = s.lockView := by
  simp [State.thermal]

@[simp] theorem State.loopMeasure_lockView (s : State) (x : LoopMeasure) :
    (State.loopMeasure s x).lockView = s.lockView := by
  simp [State.loopMeasure]

@[simp] theorem State.endDeadZones_lockView (s : State) : (State.endDeadZones s).lockView = s.lockView := by
  refine foldl_lockView (fun s e => ?_) _ _
  split
  · split <;> simp
  · rfl

@[simp] theorem State.channelOut_lockView (s : State) (n : Nat) (fault : Byte) (engine : Nat) :
    (State.channelOut s n fault engine).lockView = s.lockView := by
  simp [State.channelOut]

@[simp] theorem State.reassign_lockView (s : State) (id : Nat) : (State.reassign s id).lockView = s.lockView := by
  unfold State.reassign
  (repeat' split) <;> simp

@[simp] theorem State.engineOut_lockView (s : State) (engine : Nat) : (State.engineOut s engine).lockView = s.lockView := by
  unfold State.engineOut
  (repeat' split) <;> simp

/-! ### HostPort -/

@[simp] theorem State.readySets_lockView (s : State) : (State.readySets s).lockView = s.lockView := by rfl

@[simp] theorem State.readyIfDue_lockView (s : State) : (State.readyIfDue s).lockView = s.lockView := by
  simp [State.readyIfDue]

end Sys2Proof.Machine
end

section
/-! The start lock's view, continued: resets, banks, tamper, spores. -/

namespace Sys2Proof.Machine

open Sys2Proof

/-! ### Banks -/

@[simp] theorem State.stageCfg_lockView (s : State) (off : Nat) (b : Bytes) :
    (State.stageCfg s off b).lockView = s.lockView := by rfl

@[simp] theorem State.dropAtlas_lockView (s : State) : (State.dropAtlas s).lockView = s.lockView := by rfl

@[simp] theorem configStageBeginWork_lockView (args : Bytes) (tk : Ticket) (s : State) :
    ((configStageBeginWork args).run tk s).lockView = s.lockView := by rfl

@[simp] theorem configStageWriteWork_lockView (args : Bytes) (tk : Ticket) (s : State) :
    ((configStageWriteWork args).run tk s).lockView = s.lockView := by rfl

@[simp] theorem configStageDiscardWork_lockView (args : Bytes) (tk : Ticket) (s : State) :
    ((configStageDiscardWork args).run tk s).lockView = s.lockView := by rfl

@[simp] theorem State.keepOldTables_lockView (s : State) (m : Mem) :
    (State.keepOldTables s m).lockView = s.lockView := by rfl

@[simp] theorem configCommitWork_lockView (args : Bytes) (nvm : BankOutcome) (held : Option (Mem × List Nat)) (tk : Ticket)
    (s : State) :
    ((configCommitWork args nvm held).run tk s).lockView = s.lockView := by
  simp [configCommitWork]

@[simp] theorem configReadWork_lockView (args : Bytes) (tk : Ticket) (s : State) :
    ((configReadWork args).run tk s).lockView = s.lockView := by rfl

@[simp] theorem atlasLoadBeginWork_lockView (args : Bytes) (tk : Ticket) (s : State) :
    ((atlasLoadBeginWork args).run tk s).lockView = s.lockView := by rfl

@[simp] theorem atlasLoadPointsWork_lockView (args : Bytes) (tk : Ticket) (s : State) :
    ((atlasLoadPointsWork args).run tk s).lockView = s.lockView := by rfl

@[simp] theorem State.dropEndorsements_lockView (s : State) : (State.dropEndorsements s).lockView = s.lockView := by rfl

@[simp] theorem thallusStageBeginWork_lockView (args : Bytes) (tk : Ticket) (s : State) :
    ((thallusStageBeginWork args).run tk s).lockView = s.lockView := by
  simp [thallusStageBeginWork]

@[simp] theorem thallusStageWriteWork_lockView (args : Bytes) (tk : Ticket) (s : State) :
    ((thallusStageWriteWork args).run tk s).lockView = s.lockView := by
  simp [thallusStageWriteWork]

@[simp] theorem thallusStageDiscardWork_lockView (args : Bytes) (tk : Ticket) (s : State) :
    ((thallusStageDiscardWork args).run tk s).lockView = s.lockView := by rfl

@[simp] theorem lichenEndorseWork_lockView (args : Bytes) (tk : Ticket) (s : State) :
    ((lichenEndorseWork args).run tk s).lockView = s.lockView := by
  simp [lichenEndorseWork]

@[simp] theorem State.kChange_lockView (old : Mem) (oldSource : Nat) (s : State) :
    (State.kChange old oldSource s).lockView = s.lockView := by
  simp [State.kChange]

@[simp] theorem State.applyThallus_lockView (s : State) (nb : Bank) : (State.applyThallus s nb).lockView = s.lockView := by
  simp [State.applyThallus, State.dropEndorsements]

@[simp] theorem thallusCommitWork_lockView (args : Bytes) (nvm : BankOutcome) (held : Option (Mem × List Nat)) (tk : Ticket)
    (s : State) :
    ((thallusCommitWork args nvm held).run tk s).lockView = s.lockView := by
  simp [thallusCommitWork]

@[simp] theorem State.setBanks_lockView (s : State) (k : BankKind) (b : Banks) :
    (State.setBanks s k b).lockView = s.lockView := by
  unfold State.setBanks
  split <;> simp

@[simp] theorem State.bankRecord_lockView (s : State) (k : BankKind) (index cause : Nat) :
    (State.bankRecord s k index cause).lockView = s.lockView := by rfl

@[simp] theorem State.repairBank_lockView (s : State) (k : BankKind) : (State.repairBank s k).lockView = s.lockView := by
  simp [State.repairBank]

@[simp] theorem State.bankFound_lockView (k : BankKind) (s : State) : (State.bankFound k s).lockView = s.lockView := by
  simp [State.bankFound]

@[simp] theorem State.readBanks_lockView (s : State) (find : Option (BankKind × Bool × List (Nat × Byte))) :
    (State.readBanks s find).lockView = s.lockView := by
  unfold State.readBanks
  simp only [State.bankFound_lockView]
  split <;> simp

/-! ### Tamper -/

@[simp] theorem State.latchEvent_lockView (s : State) (code level : Nat) (seconds : Nat) :
    (State.latchEvent s code level seconds).lockView = s.lockView := by rfl

@[simp] theorem State.eraseRoot_lockView (s : State) : (State.eraseRoot s).lockView = s.lockView := by simp [State.eraseRoot]

@[simp] theorem State.abortExchange_lockView (s : State) (engine : Nat) :
    (State.abortExchange s engine).lockView = s.lockView := by
  simp [State.abortExchange]

@[simp] theorem State.abortQueued_lockView (s : State) : (State.abortQueued s).lockView = s.lockView := by
  simp [State.abortQueued]

@[simp] theorem State.abortKeyWork_lockView (s : State) : (State.abortKeyWork s).lockView = s.lockView := by
  simp [State.abortKeyWork]

@[simp] theorem State.tamperEnds_lockView (s : State) : (State.tamperEnds s).lockView = s.lockView := by rfl

@[simp] theorem tamperStatusWork_lockView (args : Bytes) (tk : Ticket) (s : State) :
    ((tamperStatusWork args).run tk s).lockView = s.lockView := by rfl

@[simp] theorem State.applyAck_lockView (s : State) (tk : Ticket) (by_ : List Nat) :
    (State.applyAck s tk by_).lockView = s.lockView := by
  simp [State.applyAck]

@[simp] theorem tamperAckWork_lockView (args : Bytes) (tk : Ticket) (s : State) :
    ((tamperAckWork args).run tk s).lockView = s.lockView := by
  simp [tamperAckWork]

/-! ### Spores -/

@[simp] theorem keyRetireWork_lockView (args : Bytes) (verified : Bool) (tk : Ticket) (s : State) :
    ((keyRetireWork args verified).run tk s).lockView = s.lockView := by
  simp [keyRetireWork]

@[simp] theorem State.stageSpore_lockView (s : State) (tk : Ticket) (host : Bool) (slot : Nat) (sp : Bytes) :
    (State.stageSpore s tk host slot sp).lockView = s.lockView := by
  unfold State.stageSpore
  (repeat' split) <;> simp

@[simp] theorem sporeLoadNeededWork_lockView (args : Bytes) (tk : Ticket) (s : State) :
    ((sporeLoadNeededWork args).run tk s).lockView = s.lockView := by
  simp [sporeLoadNeededWork]

@[simp] theorem sporeLoadHostWork_lockView (args : Bytes) (tk : Ticket) (s : State) :
    ((sporeLoadHostWork args).run tk s).lockView = s.lockView := by
  simp [sporeLoadHostWork]

@[simp] theorem sporeEvictWork_lockView (args : Bytes) (tk : Ticket) (s : State) :
    ((sporeEvictWork args).run tk s).lockView = s.lockView := by rfl

@[simp] theorem sporeWrapWork_lockView (args : Bytes) (tk : Ticket) (s : State) :
    ((sporeWrapWork args).run tk s).lockView = s.lockView := by
  simp [sporeWrapWork]

@[simp] theorem frondDeriveDeriveWork_lockView (args : Bytes) (tk : Ticket) (s : State) :
    ((frondDeriveDeriveWork args).run tk s).lockView = s.lockView := by
  simp [frondDeriveDeriveWork]

@[simp] theorem frondDerivePublicWork_lockView (args : Bytes) (tk : Ticket) (s : State) :
    ((frondDerivePublicWork args).run tk s).lockView = s.lockView := by
  unfold frondDerivePublicWork
  split <;> simp

@[simp] theorem frondDeriveNodeWork_lockView (args : Bytes) (tk : Ticket) (s : State) :
    ((frondDeriveNodeWork args).run tk s).lockView = s.lockView := by rfl

@[simp] theorem State.giveSlot_lockView (s : State) (engine slot gen : Nat) :
    (State.giveSlot s engine slot gen).lockView = s.lockView := by rfl

@[simp] theorem State.commitLoad_lockView (retired : List (Nat × Nat × Nat × Nat)) (tk : Ticket) (host : Bool) (sp : Bytes)
    (slot : Nat) (key : Bytes) (late : Bool) (s : State) :
    (State.commitLoad retired tk host sp slot key late s).lockView = s.lockView := by
  unfold State.commitLoad
  (repeat' split) <;> simp

@[simp] theorem State.commitDerive_lockView (tk : Ticket) (slot : Nat) (c : SlotKey) (s : State) :
    (State.commitDerive tk slot c s).lockView = s.lockView := by
  simp [State.commitDerive]

@[simp] theorem State.commitRetire_lockView (tk : Ticket) (l f a b : Nat) (verified : Bool) (done : List (Nat × Nat × Nat ×
    Nat)) (s : State) :
    (State.commitRetire tk l f a b verified done s).lockView = s.lockView := by
  simp [State.commitRetire]

@[simp] theorem State.commitEvict_lockView (tk : Ticket) (slot gen : Nat) (s : State) :
    (State.commitEvict tk slot gen s).lockView = s.lockView := by
  simp [State.commitEvict]

@[simp] theorem State.commitSlots_lockView (r l s) : (State.commitSlots r l s).lockView = s.lockView := by
  induction l generalizing s with
  | nil => rfl
  | cons w l ih => cases w <;> simp [State.commitSlots, ih]

@[simp] theorem State.commitRetires_lockView (l d s) : (State.commitRetires l d s).lockView = s.lockView := by
  induction l generalizing s d with
  | nil => rfl
  | cons w l ih => cases w <;> simp [State.commitRetires, ih]

@[simp] theorem State.commitKeys_lockView (s : State) : (State.commitKeys s).lockView = s.lockView := by
  simp [State.commitKeys]

end Sys2Proof.Machine
end

section
/-! The start lock's view, continued: tokens, the field port, air verbs, evidence, random numbers. -/

namespace Sys2Proof.Machine

open Sys2Proof

/-! ### Tokens -/

@[simp] theorem State.applyEnrol_lockView (s : State) (tk : Ticket) (args key : Bytes) :
    (State.applyEnrol s tk args key).lockView = s.lockView := by
  unfold State.applyEnrol
  split <;> simp

@[simp] theorem tokenEnrolWork_lockView (args : Bytes) (tk : Ticket) (s : State) :
    ((tokenEnrolWork args).run tk s).lockView = s.lockView := by
  refine Work.aes_lockView _ (fun tk s => ?_) tk s
  dsimp only
  split
  · simp
  · split <;> simp

@[simp] theorem State.revokeInExchange_lockView (s : State) (i : Ident) :
    (State.revokeInExchange s i).lockView = s.lockView := by
  simp [State.revokeInExchange]

@[simp] theorem tokenRevokeWork_lockView (args : Bytes) (tk : Ticket) (s : State) :
    ((tokenRevokeWork args).run tk s).lockView = s.lockView := by rfl

@[simp] theorem tokenQueryWork_lockView (args : Bytes) (tk : Ticket) (s : State) :
    ((tokenQueryWork args).run tk s).lockView = s.lockView := by
  simp only [tokenQueryWork]
  split <;> simp

/-! ### FieldPort -/

@[simp] theorem State.tagFrame_lockView (s : State) (limit : Nat) (act : FieldPort → FieldPort) :
    (State.tagFrame s limit act).lockView = s.lockView := by
  simp [State.tagFrame]

@[simp] theorem State.portWork_lockView (s : State) (tk : Ticket) (w : PortWork) :
    (State.portWork s tk w).lockView = s.lockView := by rfl

@[simp] theorem fieldportCfgPortWork_lockView (args : Bytes) (nvmOk : Bool) (tk : Ticket) (s : State) :
    ((fieldportCfgPortWork args nvmOk).run tk s).lockView = s.lockView := by rfl

@[simp] theorem fieldportCfgReaderKeyWork_lockView (args : Bytes) (nvmOk : Bool) (tk : Ticket) (s : State) :
    ((fieldportCfgReaderKeyWork args nvmOk).run tk s).lockView = s.lockView := by rfl

@[simp] theorem fieldportCfgQueryWork_lockView (args : Bytes) (tk : Ticket) (s : State) :
    ((fieldportCfgQueryWork args).run tk s).lockView = s.lockView := by rfl

@[simp] theorem State.hostMailbox_lockView (s : State) (tk : Ticket) (page count : Nat) (data : Option Bytes) (nvmOk : Bool)
    :
    (State.hostMailbox s tk page count data nvmOk).lockView = s.lockView := by
  unfold State.hostMailbox
  (repeat' split) <;> simp

@[simp] theorem mailboxReadLocalWork_lockView (args : Bytes) (tk : Ticket) (s : State) :
    ((mailboxReadLocalWork args).run tk s).lockView = s.lockView := by
  simp [mailboxReadLocalWork]

@[simp] theorem mailboxWriteLocalWork_lockView (args : Bytes) (nvmOk : Bool) (tk : Ticket) (s : State) :
    ((mailboxWriteLocalWork args nvmOk).run tk s).lockView = s.lockView := by
  simp [mailboxWriteLocalWork]

@[simp] theorem State.unhold_lockView (s : State) : (State.unhold s).lockView = s.lockView := by simp [State.unhold]

@[simp] theorem State.commitPortAux_lockView (ws l d s) : (State.commitPortAux ws l d s).1.lockView = s.lockView := by
  induction l generalizing s d with
  | nil => rfl
  | cons w l ih => cases w <;> simp [State.commitPortAux, ih]

@[simp] theorem State.commitPort_lockView (s : State) : (State.commitPort s).lockView = s.lockView := by
  simp [State.commitPort]

/-! ### Reader -/

@[simp] theorem State.bookReader_lockView (s : State) (tk : Ticket) (write : Bool) (args : Bytes) :
    (State.bookReader s tk write args).lockView = s.lockView := by
  unfold State.bookReader
  split <;> simp

@[simp] theorem readerBase_lockView (verb : Nat) (write : Bool) (args : Bytes) (tk : Ticket) (s : State) :
    ((readerBase verb write args).run tk s).lockView = s.lockView := by
  change (if bit (oct args 2) 3 then s.bookReader tk write args else _).lockView = _
  split
  · simp
  · split <;> simp

@[simp] theorem readerWork_lockView (verb : Nat) (write : Bool) (args : Bytes) (tk : Ticket) (s : State) :
    ((readerWork verb write args).run tk s).lockView = s.lockView := by
  unfold readerWork
  split
  · exact readerBase_lockView ..
  · exact Work.aes_lockView _ (readerBase_lockView verb write args) tk s

@[simp] theorem mailboxReadReaderWork_lockView (args : Bytes) (tk : Ticket) (s : State) :
    ((mailboxReadReaderWork args).run tk s).lockView = s.lockView := by
  simp [mailboxReadReaderWork]

@[simp] theorem mailboxWriteReaderWork_lockView (args : Bytes) (tk : Ticket) (s : State) :
    ((mailboxWriteReaderWork args).run tk s).lockView = s.lockView := by
  simp [mailboxWriteReaderWork]

@[simp] theorem mailboxReadFetchWork_lockView (args : Bytes) (tk : Ticket) (s : State) :
    ((mailboxReadFetchWork args).run tk s).lockView = s.lockView := by
  simp only [mailboxReadFetchWork]
  split <;> simp

@[simp] theorem State.readerLost_lockView (s : State) (engine : Nat) :
    (State.readerLost s engine).lockView = s.lockView := by
  simp [State.readerLost]

@[simp] theorem State.selected_lockView (s : State) (engine : Nat) (r : Reader) (count : Nat) :
    (State.selected s engine r count).lockView = s.lockView := by
  simp [State.selected]

@[simp] theorem State.readerInvalid_lockView (s : State) (engine : Nat) :
    (State.readerInvalid s engine).lockView = s.lockView := by
  simp [State.readerInvalid]

@[simp] theorem State.mailboxReply_lockView (s : State) (engine : Nat) (r : Reader) (x : List Bool) :
    (State.mailboxReply s engine r x).lockView = s.lockView := by
  simp [State.mailboxReply]

/-! ### AirVerbs -/

@[simp] theorem State.bookLink_lockView (s : State) (a : Ask) (b : Booking) :
    (State.bookLink s a b).lockView = s.lockView := by
  unfold State.bookLink
  split <;> simp

@[simp] theorem inventoryWork_lockView (args : Bytes) (tk : Ticket) (s : State) :
    ((inventoryWork args).run tk s).lockView = s.lockView := by
  simp [inventoryWork]

@[simp] theorem authenticateWork_lockView (args : Bytes) (tk : Ticket) (s : State) :
    ((authenticateWork args).run tk s).lockView = s.lockView := by
  simp [authenticateWork]

@[simp] theorem locateWork_lockView (args : Bytes) (tk : Ticket) (s : State) :
    ((locateWork args).run tk s).lockView = s.lockView := by
  simp [locateWork]

@[simp] theorem fieldVectorWork_lockView (args : Bytes) (tk : Ticket) (s : State) :
    ((fieldVectorWork args).run tk s).lockView = s.lockView := by
  simp [fieldVectorWork]

@[simp] theorem aerialCalWork_lockView (args : Bytes) (tk : Ticket) (s : State) :
    ((aerialCalWork args).run tk s).lockView = s.lockView := by
  simp only [aerialCalWork]
  split <;> simp

@[simp] theorem State.senseCal_lockView (s : State) (b : Booking) (mask : Nat) (m : Measurement) :
    (State.senseCal s b mask m).lockView = s.lockView := by
  simp [State.senseCal]

@[simp] theorem State.stageCal_lockView (b : Booking) (m : Measurement) (mask options : Nat) (s : State) (n : Nat) :
    (State.stageCal b m mask options s n).lockView = s.lockView := by
  simp [State.stageCal]

@[simp] theorem State.applyCal_lockView (s : State) (b : Booking) (mask options : Nat) (m : Measurement) :
    (State.applyCal s b mask options m).lockView = s.lockView := by
  simp [State.applyCal]

@[simp] theorem State.calEvent_lockView (s : State) (tk : Ticket) (b : Booking) (m : Measurement) :
    (State.calEvent s tk b m).lockView = s.lockView := by
  unfold State.calEvent
  split <;> simp

@[simp] theorem State.endMeasure_lockView (s : State) (b : Booking) (tk : Ticket) (m : Measurement) :
    (State.endMeasure s b tk m).lockView = s.lockView := by
  unfold State.endMeasure
  (repeat' split) <;> simp

@[simp] theorem State.applyPhaseRef_lockView (s : State) (tk : Ticket) (zone : Nat) (i : Ident) (mean : Int) (spread : Nat) :
    (State.applyPhaseRef s tk zone i mean spread).lockView = s.lockView := by
  unfold State.applyPhaseRef
  split <;> simp

@[simp] theorem State.writePhaseRef_lockView (s : State) (tk : Ticket) (b : Booking) :
    (State.writePhaseRef s tk b).lockView = s.lockView := by
  unfold State.writePhaseRef
  split <;> simp

@[simp] theorem State.pollResult_lockView (s : State) (b : Booking) : (State.pollResult s b).lockView = s.lockView := by rfl

@[simp] theorem State.rebook_lockView (s : State) (b : Booking) : (State.rebook s b).lockView = s.lockView := by
  unfold State.rebook
  split
  · rfl
  · dsimp only; split <;> simp

@[simp] theorem State.checkEnds_lockView (s : State) (b : Booking) : (State.checkEnds s b).lockView = s.lockView := by
  simp [State.checkEnds]

@[simp] theorem State.publishEnd_lockView (s : State) (b : Booking) (m : Measurement) :
    (State.publishEnd s b m).lockView = s.lockView := by
  unfold State.publishEnd
  split <;> simp

@[simp] theorem State.bookingEnds_lockView (s : State) (engine : Nat) (m : Measurement) :
    (State.bookingEnds s engine m).lockView = s.lockView := by
  unfold State.bookingEnds
  split
  · rfl
  · split
    · rfl
    · dsimp only
      split <;> simp

@[simp] theorem State.endFailed_lockView (s : State) : (State.endFailed s).lockView = s.lockView := by simp [State.endFailed]

@[simp] theorem State.sporeTimeout_lockView (s : State) (engine : Nat) :
    (State.sporeTimeout s engine).lockView = s.lockView := by
  unfold State.sporeTimeout
  split
  · dsimp only; split <;> simp
  · rfl

/-! ### Evidence -/

@[simp] theorem State.tamperRecord_lockView (s : State) (e : Nat × Nat × Nat × Nat × Nat × Nat) :
    (State.tamperRecord s e).lockView = s.lockView := by rfl

@[simp] theorem State.tamperNotice_lockView (s : State) (e : Nat × Nat × Nat × Nat × Nat × Nat) :
    (State.tamperNotice s e).lockView = s.lockView := by rfl

@[simp] theorem State.eventsAppended_lockView (s : State) (k : Nat) : (State.eventsAppended s k).lockView = s.lockView := by
  simp [State.eventsAppended]

@[simp] theorem State.appending_lockView (s : State) (f : Evidence → Evidence) :
    (State.appending s f).lockView = s.lockView := by
  simp [State.appending]

@[simp] theorem State.journalWaits_lockView (s : State) : (State.journalWaits s).lockView = s.lockView := by
  simp [State.journalWaits]

@[simp] theorem State.makeSeal_lockView (s l c) : (State.makeSeal s l c).2.lockView = s.lockView := by
  unfold State.makeSeal
  dsimp only
  split <;> simp

@[simp] theorem evidenceSignWork_lockView (args : Bytes) (tk : Ticket) (s : State) :
    ((evidenceSignWork args).run tk s).lockView = s.lockView := by
  refine Work.aes_lockView _ (Work.signed_lockView _ (Work.hashed_lockView _ fun tk s => ?_)) tk s
  dsimp only
  split <;> simp

@[simp] theorem evidenceReadWork_lockView (args : Bytes) (tk : Ticket) (s : State) :
    ((evidenceReadWork args).run tk s).lockView = s.lockView := by rfl

@[simp] theorem State.coreFence_lockView (s : State) (core cause : Nat) :
    (State.coreFence s core cause).lockView = s.lockView := by rfl

@[simp] theorem State.fenceAes_lockView (s : State) (n cause : Nat) : (State.fenceAes s n cause).lockView = s.lockView := by
  simp [State.fenceAes]

@[simp] theorem State.dropEcc_lockView (s : State) (n cause : Nat) : (State.dropEcc s n cause).lockView = s.lockView := by
  simp [State.dropEcc]

/-! ### Random -/

@[simp] theorem State.random_lockView (s : State) (tk : Ticket) (n : Nat) (g : Rng → Bytes × Rng) :
    (State.random s tk n g).lockView = s.lockView := by
  simp [State.random]

@[simp] theorem randomWork_lockView (args : Bytes) (tk : Ticket) (s : State) :
    ((randomWork args).run tk s).lockView = s.lockView := by
  simp [randomWork]

@[simp] theorem randomPrWork_lockView (args : Bytes) (tk : Ticket) (s : State) :
    ((randomPrWork args).run tk s).lockView = s.lockView := by
  simp [randomPrWork]

end Sys2Proof.Machine
end

section
/-! The start lock's view, continued: sleep and boot, the cipher cluster, lanes, and what a commit phase publishes. -/

namespace Sys2Proof.Machine

open Sys2Proof

/-! ### Sleep -/

@[simp] theorem sleepWork_lockView (args : Bytes) (tk : Ticket) (s : State) :
    ((sleepWork args).run tk s).lockView = s.lockView := by rfl

@[simp] theorem State.sleepPublished_lockView (s : State) : (State.sleepPublished s).lockView = s.lockView := by
  have h := foldl_lockView State.release_lockView ((s.onPorts Port.sleeps).dropStages.field.bookings.filter Booking.isPoll)
    (s.onPorts Port.sleeps).dropStages
  exact Prod.ext rfl (congrArg (fun v => v.2) h)

@[simp] theorem State.wakeUp_lockView (s : State) (cause : Nat) : (State.wakeUp s cause).lockView = s.lockView := by rfl

@[simp] theorem State.wakeBy_lockView (s : State) (src : WakeSource) (cycles : Nat) :
    (State.wakeBy s src cycles).lockView = s.lockView := by
  unfold State.wakeBy
  (repeat' split) <;> simp

@[simp] theorem State.pingTrip_lockView (s : State) (n : Nat) : (State.pingTrip s n).lockView = s.lockView := by rfl

@[simp] theorem State.followPing_lockView (s : State) (r : PingResponse) :
    (State.followPing s r).lockView = s.lockView := by rfl

@[simp] theorem State.setBase_lockView (s : State) (r : PingResponse) : (State.setBase s r).lockView = s.lockView := by
  unfold State.setBase
  split <;> simp

@[simp] theorem State.ping_lockView (s : State) (r : List PingResponse) (cycles : Nat) :
    (State.ping s r cycles).lockView = s.lockView := by
  simp [State.ping]

/-! ### Boot -/

@[simp] theorem State.bootBegins_lockView (s : State) (mossCycles : Nat) :
    (State.bootBegins s mossCycles).lockView = s.lockView := by rfl

@[simp] theorem State.passTicks_lockView (s : State) (n : Nat) : (State.passTicks s n).lockView = s.lockView := by rfl

@[simp] theorem State.laneTest_lockView (s : State) (aOk bOk : Bool) :
    (State.laneTest s aOk bOk).lockView = s.lockView := by rfl

@[simp] theorem State.laneTestRecord_lockView (s : State) (l : LaneId) :
    (State.laneTestRecord s l).lockView = s.lockView := by rfl

@[simp] theorem State.selectBanks_lockView (s : State) (damage : List (List (Nat × Byte))) :
    (State.selectBanks s damage).lockView = s.lockView := by rfl

@[simp] theorem State.bankAtBoot_lockView (k : BankKind) (s : State) : (State.bankAtBoot k s).lockView = s.lockView := by
  simp [State.bankAtBoot]

@[simp] theorem State.owedErase_lockView (o s) : (State.owedErase o s).lockView = s.lockView := by simp [State.owedErase]

@[simp] theorem State.readGens_lockView (l : List (Bool × Nat × Bytes)) (s : State) :
    (State.readGens l s).lockView = s.lockView := by rfl

@[simp] theorem State.rhizomeCheck_lockView (s : State) (ok : Bool) : (State.rhizomeCheck s ok).lockView = s.lockView := by
  simp [State.rhizomeCheck]

@[simp] theorem State.writeLatch_lockView (s : State) : (State.writeLatch s).lockView = s.lockView := by rfl

@[simp] theorem State.genesis_lockView (s : State) : (State.genesis s).lockView = s.lockView := by rfl

@[simp] theorem State.bootRecord_lockView (s : State) (erased : Nat) :
    (State.bootRecord s erased).lockView = s.lockView := by rfl

@[simp] theorem State.episodeRecord_lockView (s : State) (i : Nat) (e : Episode) :
    (State.episodeRecord s i e).lockView = s.lockView := by
  simp [State.episodeRecord]

@[simp] theorem State.episodeRecords_lockView (s : State) (done : Nat) :
    (State.episodeRecords s done).lockView = s.lockView := by
  simp [State.episodeRecords]

@[simp] theorem State.wakeMotion_lockView (s : State) : (State.wakeMotion s).lockView = s.lockView := by
  simp [State.wakeMotion]

@[simp] theorem State.odoResume_lockView (s : State) : (State.odoResume s).lockView = s.lockView := by
  have h : s.motion.resume.state = s.motion.state := by unfold Motion.resume; split <;> rfl
  simp [State.odoResume, h]

@[simp] theorem State.afterWake_lockView (s : State) (clamped : Bool) :
    (State.afterWake s clamped).lockView = s.lockView := by
  simp [State.afterWake]

@[simp] theorem State.holdClears_lockView (s : State) : (State.holdClears s).lockView = s.lockView := by
  simp [State.holdClears]

@[simp] theorem State.recovers_lockView (s : State) : (State.recovers s).lockView = s.lockView := by
  unfold State.recovers
  split <;> simp

@[simp] theorem State.servicesBegin_lockView (stage7 : Nat) (s : State) :
    (State.servicesBegin stage7 s).lockView = s.lockView := by rfl

@[simp] theorem State.bootInputs_lockView (n : Nat) (l : List (InputPin × List Bool)) (s : State) :
    (State.bootInputs n l s).lockView = s.lockView := by
  simp [State.bootInputs]

@[simp] theorem State.bootMotion_lockView (l : List MotionEvent) (s : State) :
    (State.bootMotion l s).lockView = s.lockView := by
  simp [State.bootMotion]

@[simp] theorem State.bootStops_lockView (s : State) (crozier : Nat) :
    (State.bootStops s crozier).lockView = s.lockView := by rfl

/-! ### Cipher -/

@[simp] theorem State.withKey_lockView (s tk a f) (h : ∀ k g s, (f k g s : State).lockView = s.lockView) :
    (State.withKey s tk a f).lockView = s.lockView := by
  unfold State.withKey
  dsimp only
  split
  · split
    · simp
    · exact h _ _ _
  · simp

@[simp] theorem State.closeWith_lockView (s : State) (tk : Ticket) (n status : Nat) (results : Bytes) :
    (State.closeWith s tk n status results).lockView = s.lockView := by rfl

@[simp] theorem State.withCtx_lockView (s tk a f) (h : ∀ k g s, (f k g s : State).lockView = s.lockView) :
    (State.withCtx s tk a f).lockView = s.lockView := by
  unfold State.withCtx
  dsimp only
  split
  · simp
  · split
    · split
      · simp
      · exact h _ _ _
    · simp

@[simp] theorem State.withCtxAes_lockView (s tk a f) (h : ∀ k g s, (f k g s : State).lockView = s.lockView) :
    (State.withCtxAes s tk a f).lockView = s.lockView := by
  refine State.withCtx_lockView _ _ _ _ (fun c k s => ?_)
  split <;> simp [h]

@[simp] theorem State.keepCtx_lockView (s : State) (tk : Ticket) (args : Bytes) (c : Ctx) (results : Bytes) :
    (State.keepCtx s tk args c results).lockView = s.lockView := by rfl

@[simp] theorem State.endCtx_lockView (s : State) (tk : Ticket) (args : Bytes) (results : Bytes) :
    (State.endCtx s tk args results).lockView = s.lockView := by rfl

@[simp] theorem Work.suits_lockView (a p w) (h : ∀ tk s, (w.run tk s).lockView = s.lockView) (tk s) :
    ((Work.suits a p w).run tk s).lockView = s.lockView := by
  exact Work.again_lockView _ w h tk s

@[simp] theorem Work.opens_lockView (a w) (h : ∀ tk s, (w.run tk s).lockView = s.lockView) (tk s) :
    ((Work.opens a w).run tk s).lockView = s.lockView := by
  exact Work.again_lockView _ w h tk s

@[simp] theorem Work.spares_lockView (a w) (h : ∀ tk s, (w.run tk s).lockView = s.lockView) (tk s) :
    ((Work.spares a w).run tk s).lockView = s.lockView := by
  exact Work.again_lockView _ w h tk s

@[simp] theorem abortWork_lockView (verb : Nat) (args : Bytes) (tk : Ticket) (s : State) :
    ((abortWork verb args).run tk s).lockView = s.lockView := by
  simp [abortWork]

@[simp] theorem streamCommand_lockView (hd a w) (s : State) (h : ∀ tk s, (w.run tk s).lockView = s.lockView) :
    (streamCommand hd a w s).lockView = s.lockView := by
  unfold streamCommand
  dsimp only
  split <;> simp [h]

@[simp] theorem encryptOneshotWork_lockView (args : Bytes) (tk : Ticket) (s : State) :
    ((encryptOneshotWork args).run tk s).lockView = s.lockView := by
  refine Work.spares_lockView _ _ (Work.aes_lockView _ fun tk s => State.withKey_lockView _ _ _ _ fun k g s => ?_) tk s
  dsimp only
  split <;> simp

@[simp] theorem encryptBeginWork_lockView (args : Bytes) (tk : Ticket) (s : State) :
    ((encryptBeginWork args).run tk s).lockView = s.lockView := by
  exact Work.spares_lockView _ _ (Work.opens_lockView _ _ (Work.aes_lockView _ fun tk s => State.withKey_lockView _ _ _ _
      fun k g s => by simp)) tk s

@[simp] theorem encryptUpdateWork_lockView (args : Bytes) (tk : Ticket) (s : State) :
    ((encryptUpdateWork args).run tk s).lockView = s.lockView := by
  simp [encryptUpdateWork]

@[simp] theorem encryptFinalWork_lockView (args : Bytes) (tk : Ticket) (s : State) :
    ((encryptFinalWork args).run tk s).lockView = s.lockView := by
  simp [encryptFinalWork]

@[simp] theorem decryptOneshotWork_lockView (args : Bytes) (tk : Ticket) (s : State) :
    ((decryptOneshotWork args).run tk s).lockView = s.lockView := by
  simp [decryptOneshotWork]

@[simp] theorem decryptBeginWork_lockView (args : Bytes) (tk : Ticket) (s : State) :
    ((decryptBeginWork args).run tk s).lockView = s.lockView := by
  refine Work.opens_lockView _ _ (Work.aes_lockView _ fun tk s => State.withKey_lockView _ _ _ _ fun k g s => ?_) tk s
  simp

@[simp] theorem Work.holds_lockView (a w) (h : ∀ tk s, (w.run tk s).lockView = s.lockView) (tk s) :
    ((Work.holds a w).run tk s).lockView = s.lockView := by
  exact Work.again_lockView _ w h tk s

@[simp] theorem Work.holdsLast_lockView (a w) (h : ∀ tk s, (w.run tk s).lockView = s.lockView) (tk s) :
    ((Work.holdsLast a w).run tk s).lockView = s.lockView := by
  exact Work.again_lockView _ w h tk s

@[simp] theorem decryptUpdateWork_lockView (args : Bytes) (tk : Ticket) (s : State) :
    ((decryptUpdateWork args).run tk s).lockView = s.lockView := by
  refine Work.holds_lockView _ _ (Work.suits_lockView _ _ _ fun tk s => State.withCtxAes_lockView _ _ _ _ fun c k s => ?_)
      tk s
  simp

@[simp] theorem State.compatFail_lockView (s : State) (tk : Ticket) (n : Nat) (c : Ctx) :
    (State.compatFail s tk n c).lockView = s.lockView := by rfl

@[simp] theorem decryptFinalWork_lockView (args : Bytes) (tk : Ticket) (s : State) :
    ((decryptFinalWork args).run tk s).lockView = s.lockView := by
  refine Work.holdsLast_lockView _ _ (Work.suits_lockView _ _ _ fun tk s => State.withCtxAes_lockView _ _ _ _ fun c k s =>
      ?_) tk s
  simp

@[simp] theorem decryptReadWork_lockView (args : Bytes) (tk : Ticket) (s : State) :
    ((decryptReadWork args).run tk s).lockView = s.lockView := by
  simp [decryptReadWork]

@[simp] theorem macOneshotWork_lockView (args : Bytes) (tk : Ticket) (s : State) :
    ((macOneshotWork args).run tk s).lockView = s.lockView := by
  simp [macOneshotWork]

@[simp] theorem macBeginWork_lockView (args : Bytes) (tk : Ticket) (s : State) :
    ((macBeginWork args).run tk s).lockView = s.lockView := by
  exact Work.opens_lockView _ _ (Work.aes_lockView _ fun tk s => State.withKey_lockView _ _ _ _ fun k g s => by simp) tk s

@[simp] theorem macUpdateWork_lockView (args : Bytes) (tk : Ticket) (s : State) :
    ((macUpdateWork args).run tk s).lockView = s.lockView := by
  simp [macUpdateWork]

@[simp] theorem macFinalWork_lockView (args : Bytes) (tk : Ticket) (s : State) :
    ((macFinalWork args).run tk s).lockView = s.lockView := by
  simp [macFinalWork]

/-! ### Lanes -/

@[simp] theorem State.extendWork_lockView (n : Nat) (s : State) : (State.extendWork n s).lockView = s.lockView := by rfl

@[simp] theorem State.refuseHinted_lockView (f : Nat) (s : State) : (State.refuseHinted f s).lockView = s.lockView := by
  simp [State.refuseHinted]

@[simp] theorem State.endAllAgain_lockView (s : State) : (State.endAllAgain s).lockView = s.lockView := by
  simp [State.endAllAgain]

@[simp] theorem State.bookLoops_lockView (verb : Nat) (args : Bytes) (last : Nat) (tk : Ticket) (s : State) :
    (State.bookLoops verb args last tk s).lockView = s.lockView := by
  simp [State.bookLoops]

@[simp] theorem State.dropLoops_lockView (s : State) (order : Nat) :
    (State.dropLoops s order).lockView = s.lockView := by rfl

@[simp] theorem State.lastTest_lockView (s : State) (failed : BitVec 16) (corrected : Nat) :
    (State.lastTest s failed corrected).lockView = s.lockView := by rfl

@[simp] theorem maintCommand_lockView (v hd a w r) (s : State) : (maintCommand v hd a w r s).lockView = s.lockView := by
  exact commandWith_lockView _ _ _ _ _ (fun tk s => by simp) s

/-! ### Pairing -/

@[simp] theorem State.pair_lockView (s : State) (tk : Ticket) (args : Bytes) :
    (State.pair s tk args).lockView = s.lockView := by
  unfold State.pair
  split <;> simp

@[simp] theorem hostPairWork_lockView (args : Bytes) (tk : Ticket) (s : State) :
    ((hostPairWork args).run tk s).lockView = s.lockView := by
  exact Work.aes_lockView _ (Work.signed_lockView _ (Work.hashed_lockView _ fun tk s => by simp)) tk s

/-! ### Service -/

@[simp] theorem echoWork_lockView (args : Bytes) (tk : Ticket) (s : State) :
    ((echoWork args).run tk s).lockView = s.lockView := by rfl

@[simp] theorem statusWork_lockView (args : Bytes) (tk : Ticket) (s : State) :
    ((statusWork args).run tk s).lockView = s.lockView := by rfl

@[simp] theorem clockWork_lockView (args : Bytes) (tk : Ticket) (s : State) :
    ((clockWork args).run tk s).lockView = s.lockView := by rfl

@[simp] theorem State.applyClockSet_lockView (s : State) (tk : Ticket) (new : Nat) :
    (State.applyClockSet s tk new).lockView = s.lockView := by rfl

@[simp] theorem clockSetWork_lockView (args : Bytes) (tk : Ticket) (s : State) :
    ((clockSetWork args).run tk s).lockView = s.lockView := by rfl

@[simp] theorem laneStatusWork_lockView (args : Bytes) (tk : Ticket) (s : State) :
    ((laneStatusWork args).run tk s).lockView = s.lockView := by rfl

/-! ### SessionVerbs -/

@[simp] theorem sessionQueryWork_lockView (args : Bytes) (tk : Ticket) (s : State) :
    ((sessionQueryWork args).run tk s).lockView = s.lockView := by rfl

@[simp] theorem sessionEndWork_lockView (args : Bytes) (tk : Ticket) (s : State) :
    ((sessionEndWork args).run tk s).lockView = s.lockView := by rfl

@[simp] theorem releaseStateWork_lockView (args : Bytes) (tk : Ticket) (s : State) :
    ((releaseStateWork args).run tk s).lockView = s.lockView := by rfl

@[simp] theorem releaseClearWork_lockView (args : Bytes) (tk : Ticket) (s : State) :
    ((releaseClearWork args).run tk s).lockView = s.lockView := by rfl

/-! ### Supply -/

@[simp] theorem State.supplyCut_lockView (s : State) : (State.supplyCut s).lockView = s.lockView := by simp [State.supplyCut]

@[simp] theorem State.storeTick_lockView (s : State) (n : Nat) : (State.storeTick s n).lockView = s.lockView := by rfl

/-! ### Commit -/

@[simp] theorem State.endIfOver_lockView (s : State) (engine : Nat) : (State.endIfOver s engine).lockView = s.lockView := by
  unfold State.endIfOver
  split <;> simp

/-! ### Publish -/

@[simp] theorem State.publishTamper_lockView (s : State) : (State.publishTamper s).lockView = s.lockView := by
  simp [State.publishTamper]

@[simp] theorem State.refreshReplies_lockView (s : State) : (State.refreshReplies s).lockView = s.lockView := by rfl

@[simp] theorem State.setFlags_lockView (s : State) : (State.setFlags s).lockView = s.lockView := by rfl

@[simp] theorem State.settleFlags_lockView (s : State) : (State.settleFlags s).lockView = s.lockView := by
  simp [State.settleFlags]

@[simp] theorem State.firstPublished_lockView (s : State) : (State.firstPublished s).lockView = s.lockView := by
  simp [State.firstPublished]

@[simp] theorem State.sleepIfDone_lockView (s : State) : (State.sleepIfDone s).lockView = s.lockView := by
  simp [State.sleepIfDone]

@[simp] theorem State.publishRecords_lockView (s : State) : (State.publishRecords s).lockView = s.lockView := by
  simp [State.publishRecords]

@[simp] theorem State.noteGraded_lockView (s : State) : (State.noteGraded s).lockView = s.lockView := by rfl

@[simp] theorem State.gradeReplies_lockView (s : State) : (State.gradeReplies s).lockView = s.lockView := by rfl

@[simp] theorem State.lostSeals_lockView (s : State) : (State.lostSeals s).lockView = s.lockView := by rfl

@[simp] theorem State.publishPorts_lockView (s : State) : (State.publishPorts s).lockView = s.lockView := by
  simp [State.publishPorts]

@[simp] theorem State.commitEffects_lockView (s : State) : (State.commitEffects s).lockView = s.lockView := by
  unfold State.commitEffects; simp

@[simp] theorem State.commitReports_lockView (s : State) : (State.commitReports s).lockView = s.lockView := by
  simp [State.commitReports]

@[simp] theorem State.publish_lockView (s : State) : (State.publish s).lockView = s.lockView := by simp [State.publish]

/-! ### Latch -/

@[simp] theorem bankWork_lockView (verb : Nat) (args : Bytes) (sup : Supplied) (tk : Ticket) (s : State) :
    ((bankWork verb args sup).run tk s).lockView = s.lockView := by
  unfold bankWork
  split <;> simp

@[simp] theorem fieldWork_lockView (verb : Nat) (args : Bytes) (tk : Ticket) (s : State) :
    ((fieldWork verb args).run tk s).lockView = s.lockView := by
  unfold fieldWork
  split <;> simp

@[simp] theorem motionWork_lockView (verb : Nat) (args : Bytes) (sup : Supplied) (tk : Ticket) (s : State) :
    ((motionWork verb args sup).run tk s).lockView = s.lockView := by
  unfold motionWork
  split <;> simp

@[simp] theorem keyWork_lockView (verb : Nat) (args : Bytes) (sup : Supplied) (tk : Ticket) (s : State) :
    ((keyWork verb args sup).run tk s).lockView = s.lockView := by
  unfold keyWork
  split <;> simp

@[simp] theorem cryptoWork_lockView (verb : Nat) (args : Bytes) (tk : Ticket) (s : State) :
    ((cryptoWork verb args).run tk s).lockView = s.lockView := by
  unfold cryptoWork
  (repeat' split) <;> simp

/-! ### Takeover -/

@[simp] theorem State.unlatch_lockView (s : State) (x : Latched) : (State.unlatch s x).lockView = s.lockView := by
  simp [State.unlatch]

@[simp] theorem State.rewindRounds_lockView (s : State) (first : Latched) :
    (State.rewindRounds s first).lockView = s.lockView := by rfl

/-! ### Tick -/

@[simp] theorem State.spendTick_lockView (s : State) : (State.spendTick s).lockView = s.lockView := by rfl

@[simp] theorem State.endLeads_lockView (s : State) : (State.endLeads s).lockView = s.lockView := by rfl

@[simp] theorem State.drawLookup_lockView (s : State) (e : Nat) : (State.drawLookup s e).lockView = s.lockView := by
  unfold State.drawLookup
  split <;> simp

@[simp] theorem State.missLanes_lockView (s : State) (e : Nat) : (State.missLanes s e).lockView = s.lockView := by
  simp [State.missLanes]

@[simp] theorem State.endOps_lockView (s : State) : (State.endOps s).lockView = s.lockView := by rfl

end Sys2Proof.Machine
end

section
/-! What may lock the cell: operations, lasting changes, TICK, BOOT (R26, R203, R405). -/

namespace Sys2Proof.Machine

open Sys2Proof

/-- What an operation may do to the start lock: lock the cell only where the motion state is STATIONARY, which it is only where it
was before (R26, R203). -/
def LocksOnlyStill (s t : State) : Prop :=
  SafeLock s t ∧ (t.motion.state = .stationary → s.motion.state = .stationary)

theorem LocksOnlyStill.of_lockView {s t : State} (h : t.lockView = s.lockView) : LocksOnlyStill s t := by
  simp only [State.lockView, Prod.mk.injEq] at h
  exact ⟨fun ht => .inl (h.1 ▸ ht), fun ht => h.2 ▸ ht⟩

theorem LocksOnlyStill.refl (s : State) : LocksOnlyStill s s := .of_lockView rfl

theorem LocksOnlyStill.trans {s t u : State} (h : LocksOnlyStill s t) (k : LocksOnlyStill t u) : LocksOnlyStill s u :=
  ⟨fun hu => (k.1 hu).elim h.1 fun hm => .inr (h.2 hm), fun hu => h.2 (k.2 hu)⟩

/-- An operation after one that leaves cell and motion states alone. -/
theorem LocksOnlyStill.after {s t u : State} (h : t.lockView = s.lockView) (k : LocksOnlyStill t u) : LocksOnlyStill s u :=
  (LocksOnlyStill.of_lockView h).trans k

/-- An operation that leaves cell and motion states alone, after another. -/
theorem LocksOnlyStill.then {s t u : State} (h : LocksOnlyStill s t) (k : u.lockView = t.lockView) : LocksOnlyStill s u :=
  h.trans (.of_lockView k)

theorem LocksOnlyStill.ite {s t u : State} {c : Prop} [Decidable c] (h : LocksOnlyStill s t) (k : LocksOnlyStill s u) :
    LocksOnlyStill s (if c then t else u) := by
  split
  · exact h
  · exact k

theorem LocksOnlyStill.foldl {α : Type} {f : State → α → State} (h : ∀ s a, LocksOnlyStill s (f s a)) (l : List α)
    (s : State) :
    LocksOnlyStill s (l.foldl f s) := by
  induction l generalizing s with
  | nil => exact .refl s
  | cons a l ih => exact (h s a).trans (ih _)

/-! ### The cell -/

/-- Setting or holding the cell locks nothing. -/
theorem LocksOnlyStill.of_not_locked {s t : State} (hc : t.cell.state ≠ .locked) (hm : t.motion.state = s.motion.state) :
    LocksOnlyStill s t :=
  ⟨fun ht => absurd ht hc, fun ht => hm ▸ ht⟩

theorem State.holdClear_lockView (s : State) (r : Nat) (hr : Byte) :
    (s.holdClear r hr).lockView = (.clearPending, s.motion.state) := by simp [State.holdClear]

theorem State.lockCell_locks {s : State} (h : s.still = true) (r : Nat) (hr : Byte) (p : Nat) :
    LocksOnlyStill s (s.lockCell r hr p) := by
  have hs : s.motion.state = .stationary := by simpa [State.still] using h
  exact ⟨fun _ => .inr hs, fun _ => hs⟩

theorem State.clearRequest_locks (s : State) (r : Nat) (hr : Byte) : LocksOnlyStill s (s.clearRequest r hr) := by
  unfold State.clearRequest
  split
  · exact .refl s
  · exact .refl s
  · split
    · exact State.lockCell_locks ‹_› ..
    · have h := s.holdClear_lockView r hr
      simp only [State.lockView, Prod.mk.injEq] at h
      exact .of_not_locked (by simp [h.1]) h.2

theorem State.endSessionClear_locks (s : State) (r : Nat) : LocksOnlyStill s (s.endSessionClear r) := by
  unfold State.endSessionClear
  split
  · exact .refl s
  · exact .after (by simp) (State.clearRequest_locks ..)

theorem State.enterHold_locks (s : State) : LocksOnlyStill s s.enterHold := by
  unfold State.enterHold
  dsimp only
  split
  · exact s.clearRequest_locks ..
  · exact (LocksOnlyStill.after (by simp) (State.clearRequest_locks ..)).trans (State.clearRequest_locks ..)

theorem State.pendingClear_locks (s : State) : LocksOnlyStill s s.pendingClear := by
  unfold State.pendingClear
  split
  · split
    · exact State.lockCell_locks ‹_› ..
    · exact .refl s
  · exact .refl s

theorem State.setCell_locks (s : State) (i : Ident) : LocksOnlyStill s (s.setCell i) := by
  unfold State.setCell
  split
  · exact .refl s
  · dsimp only
    split
    · exact .of_not_locked (by simp) (by simp)
    · exact .of_not_locked (by simp) (by simp)

theorem State.decideStart_locks (s : State) (d r : Bool) (i : Ident) (z l : Nat) :
    LocksOnlyStill s (s.decideStart d r i z l) := by
  unfold State.decideStart
  exact (s.setCell_locks i).then (by simp)

/-! ### Resets -/

theorem State.lanesStop_locks (s : State) : LocksOnlyStill s s.lanesStop := ⟨.inl, fun h => nomatch h⟩

theorem State.systemReset_locks (s : State) (cause : Nat) : LocksOnlyStill s (s.systemReset cause) :=
  s.lanesStop_locks.then (by simp [State.systemReset])

theorem State.respond_locks (s : State) (level : Nat) : LocksOnlyStill s (s.respond level) := by
  unfold State.respond
  dsimp only
  split
  · exact .of_lockView (by simp)
  · exact .of_lockView (by simp)
  · exact .of_lockView (by simp)
  · exact .refl s
  all_goals
    refine .ite (.of_lockView (by simp)) (.ite (.of_lockView (by simp)) (.after ?_ (State.systemReset_locks ..)))
    simp

theorem State.sourceSees_locks (s : State) (n : Nat) (c : TamperCondition) (k : Nat) :
    LocksOnlyStill s (s.sourceSees n c k) := by
  unfold State.sourceSees
  exact .ite (.after (by simp) (State.respond_locks ..)) (.refl s)

theorem State.flagLanes_locks (a b : Bool) (cause : Nat) (s : State) : LocksOnlyStill s (s.flagLanes a b cause) := by
  unfold State.flagLanes
  refine .ite (.refl s) (.ite (.of_lockView (by simp)) (.ite (s.systemReset_locks _) ?_))
  split
  · exact .ite (s.systemReset_locks _) (.of_lockView (by simp [State.loseLane]))
  · exact .ite (s.systemReset_locks _) (.refl s)

theorem State.probeFails_locks (a b : Bool) (s : State) : LocksOnlyStill s (s.probeFails a b) := by
  unfold State.probeFails
  exact .ite (.refl s) (.ite (s.systemReset_locks _) (.ite (s.systemReset_locks _) (.ite (.refl s)
    (.of_lockView (by simp [State.loseLane])))))

theorem State.sramFails_locks (s : State) (x : Option (Option LaneId)) : LocksOnlyStill s (s.sramFails x) := by
  cases x with
  | none => exact .refl s
  | some l =>
    cases l with
    | none => exact s.systemReset_locks _
    | some l => exact s.flagLanes_locks ..

theorem State.transient_locks (f : Nat) (s : State) : LocksOnlyStill s (s.transient f) := by
  unfold State.transient
  exact .ite (s.systemReset_locks _) (.of_lockView (by simp))

/-! ### Work -/

@[simp] theorem State.dropCores_lockView (s : State) (f : TestFail) : (s.dropCores f).lockView = s.lockView := by
  simp [State.dropCores]

theorem selftestWork_locks (args : Bytes) (r : TestResult) (tk : Ticket) (s : State) :
    LocksOnlyStill s ((selftestWork args r).run tk s) := by
  simp only [selftestWork]
  refine .ite (s.systemReset_locks _) ?_
  have hp : ∀ (a b : Bool) (u : State), LocksOnlyStill s u →
      LocksOnlyStill s (if (BitVec.ofNat 16 (num args 0 2)).getLsbD 1 = true then (u.probeFails a b).sramFails r.sram
        else u.probeFails a b) :=
    fun a b u h => (h.trans (u.probeFails_locks a b)).trans (.ite (State.sramFails_locks ..) (.refl _))
  exact hp _ _ _ (.of_lockView (by simp))

theorem katWork_locks (args : Bytes) (r : TestResult) (tk : Ticket) (s : State) :
    LocksOnlyStill s ((katWork args r).run tk s) := by
  simp only [katWork]
  exact .ite (s.systemReset_locks _) (.of_lockView (by simp))

theorem serviceWork_locks (v : Nat) (args : Bytes) (sup : Supplied) (tk : Ticket) (s : State) :
    LocksOnlyStill s ((serviceWork v args sup).run tk s) := by
  unfold serviceWork
  dsimp only
  split
  case h_9 => exact selftestWork_locks ..
  case h_10 => exact katWork_locks ..
  all_goals exact .of_lockView (by simp)

theorem workOf_locks (v : Nat) (args : Bytes) (sup : Supplied) (tk : Ticket) (s : State) :
    LocksOnlyStill s ((workOf v args sup).run tk s) := by
  unfold workOf
  split
  case h_7 =>
    split
    · exact .of_lockView (by simp)
    split
    · exact .of_lockView (by simp)
    split
    · exact .of_lockView (by simp)
    split
    · exact .of_lockView (by simp)
    split
    · exact .of_lockView (by simp)
    · exact serviceWork_locks ..
  all_goals exact .of_lockView (by simp)

/-! ### Lasting changes -/

theorem State.decideOn_locks (s : State) (b : Booking) (i : Ident) (cls : Nat) :
    LocksOnlyStill s (s.decideOn b i cls).1 := by
  have hd : ∀ u : State, u.lockView = s.lockView → LocksOnlyStill s (u.decideStart b.doorCheck b.recoveryPoll i b.zone cls) :=
    fun u hu => .after hu (State.decideStart_locks ..)
  unfold State.decideOn
  extract_lets old s1 s2 s3
  have h1 : s1.lockView = s.lockView := by simp [s1, old]
  split
  · rw [fst_ite]
    exact .ite (.of_lockView h1) (.ite (hd s1 h1) ((hd s1 h1).then (by simp [s2])))
  · exact .of_lockView (by simp [s3])

theorem State.judge_locks (s : State) (b : Booking) (c : CurKey) (e : Entry) (r : Response) :
    LocksOnlyStill s (s.judge b c e r) := by
  unfold State.judge
  extract_lets v s1 cal dec d _ key s2
  have h1 : s1.lockView = s.lockView := by simp [s1]
  have hc : cal.1.drew.lockView = s.lockView := by simp [cal, h1]
  have hd : LocksOnlyStill s d.1 := by
    unfold d
    split
    · exact .after hc (State.decideOn_locks ..)
    · exact .of_lockView hc
  exact hd.then (by simp [s2])

theorem State.judgeResponse_locks (s : State) (e : Nat) (r : Response) : LocksOnlyStill s (s.judgeResponse e r) := by
  unfold State.judgeResponse
  split
  · exact .refl s
  · split
    · split
      · exact .refl s
      · exact .ite (.of_lockView (by simp)) (s.judge_locks ..)
    · exact .refl s

theorem State.verdictEvent_locks (s : State) (e : Nat) (r : Response) : LocksOnlyStill s (s.verdictEvent e r) :=
  (s.judgeResponse_locks e r).then (State.endIfOver_lockView ..)

theorem State.doorUndecided_locks (s : State) : LocksOnlyStill s s.doorUndecided := by
  unfold State.doorUndecided
  split
  · exact s.endSessionClear_locks _
  · exact .refl s

theorem State.doorCheck_locks (s : State) : LocksOnlyStill s s.doorCheck := by
  unfold State.doorCheck
  split
  · extract_lets old s1 r
    have h1 : s1.lockView = s.lockView := by simp [s1]
    have hr : r.1.lockView = s.lockView := by simp [r, h1]
    exact .ite (.refl s) (.ite (.after h1 s1.doorUndecided_locks) (.ite (.of_lockView (by simp [h1]))
      (.ite (.after hr r.1.doorUndecided_locks) (.of_lockView hr))))
  · exact .refl s

theorem State.doorEvent_locks (s : State) (b : Bool) : LocksOnlyStill s (s.doorEvent b) :=
  .ite (.of_lockView (by simp)) (.ite s.doorCheck_locks (.refl s))

theorem State.recoveryUndecided_locks (s : State) : LocksOnlyStill s s.recoveryUndecided :=
  .ite (.after (by simp) (State.clearRequest_locks ..)) (.refl s)

theorem State.recoveryPoll_locks (s : State) : LocksOnlyStill s s.recoveryPoll := by
  unfold State.recoveryPoll
  extract_lets old s1 r
  have h1 : s1.lockView = s.lockView := by simp [s1, old]
  have hr : r.1.lockView = s.lockView := by simp [r, h1]
  exact .ite (.refl s) (.ite (.after h1 s1.recoveryUndecided_locks)
    (.ite (.after hr r.1.recoveryUndecided_locks) (.of_lockView hr)))

theorem State.startHeld_locks (s : State) (x : Nat × Nat) : LocksOnlyStill s (s.startHeld x) :=
  .ite (.after (by simp) (State.doorCheck_locks _)) (.of_lockView (by simp))

theorem State.heldStart_locks (s : State) : LocksOnlyStill s s.heldStart := by
  refine .ite ?_ (.refl s)
  unfold State.startAllHeld
  extract_lets hs old s1 s2
  have h2 : LocksOnlyStill s s2 :=
    .after (t := s1) (by simp [s1]) (.foldl (fun u x => .ite (.refl u) (u.startHeld_locks x)) hs s1)
  exact h2.then (by simp)

theorem State.timerEvent_locks (s : State) : LocksOnlyStill s s.timerEvent := by
  refine .ite (.refl s) ?_
  split
  · exact .refl s
  · exact .of_lockView (by simp)
  · exact s.endSessionClear_locks _
  · exact s.doorCheck_locks

theorem State.applyConfig_locks (s : State) (tk : Ticket) (img : Mem) (nvm : BankOutcome) :
    LocksOnlyStill s (s.applyConfig tk img nvm) := by
  unfold State.applyConfig
  dsimp only
  split
  · exact .of_lockView (by simp)
  · exact .after (by simp) (State.systemReset_locks ..)
  · exact .after (by simp) (State.systemReset_locks ..)
  · exact .of_lockView (by simp)
  · exact .of_lockView (by simp)

theorem State.applyThallusCommit_locks (s : State) (tk : Ticket) (img : Mem) (l : List Nat) (nvm : BankOutcome) :
    LocksOnlyStill s (s.applyThallusCommit tk img l nvm) := by
  have hp : ∀ u : State, (u.personalise tk).lockView = u.lockView := fun u => by simp [State.personalise]
  unfold State.applyThallusCommit
  dsimp only
  split
  · exact .of_lockView (by simp)
  · exact .after (by simp) (State.systemReset_locks ..)
  · exact .after (by simp) (State.systemReset_locks ..)
  · exact .of_lockView (by simp [hp])
  · exact .of_lockView (by simp [hp])

theorem State.applyRevoke_locks (s : State) (tk : Ticket) (i : Ident) : LocksOnlyStill s (s.applyRevoke tk i) := by
  unfold State.applyRevoke
  split
  · exact .refl s
  · have hr : ∀ u : State, u.lockView = s.lockView → LocksOnlyStill s (u.revokeSession i) :=
      fun u hu => .after hu (.ite (u.endSessionClear_locks _) (.refl u))
    exact (hr _ (by simp)).then ((State.amend_lockView ..).trans (State.revokeInExchange_lockView ..))

theorem State.applySleep_locks (s : State) (wake : Nat) : LocksOnlyStill s (s.applySleep wake) := by
  unfold State.applySleep
  have hc : ∀ u : State, u.lockView = s.lockView → LocksOnlyStill s (u.clearRequest 5 0) :=
    fun u hu => .after hu (u.clearRequest_locks ..)
  exact (hc _ (by simp)).then (State.odoRecord_lockView ..)

/-- Of the lasting changes, a clear request and a pending clear alone lock the cell, both only where the motion state is
STATIONARY. -/
theorem State.apply_locks (s : State) (a : Act) : LocksOnlyStill s (s.apply a) := by
  cases a with
  | judge e r => exact s.verdictEvent_locks e r
  | undecided e r =>
    cases r
    · exact s.doorUndecided_locks
    · exact s.recoveryUndecided_locks
  | revoke tk i => exact s.applyRevoke_locks tk i
  | config tk img nvm => exact s.applyConfig_locks tk img nvm
  | thallus tk img l nvm => exact s.applyThallusCommit_locks tk img l nvm
  | endSession tk => exact s.endSessionClear_locks _
  | clear tk r => exact s.clearRequest_locks ..
  | sleep tk w => exact s.applySleep_locks w
  | timer => exact s.timerEvent_locks
  | door o => exact s.doorEvent_locks o
  | still => exact (LocksOnlyStill.after s.storeOdo_lockView (State.pendingClear_locks _)).then (State.doorCheckBegins_lockView _)
  | held => exact s.enterHold_locks
  | probe a b => exact .ite (State.probeFails_locks ..) (.refl s)
  | heldStart => exact s.heldStart_locks
  | recovery => exact s.recoveryPoll_locks
  | _ => exact .of_lockView (by simp [State.apply])

theorem State.act_locks (s : State) (a : Act) : LocksOnlyStill s (s.act a) :=
  .ite (.refl s) ((s.apply_locks a).then (by simp))

theorem State.actAll_locks (s : State) : LocksOnlyStill s s.actAll :=
  .after (by simp) (.foldl State.act_locks ..)

theorem State.commitActs_locks (s : State) : LocksOnlyStill s s.commitActs :=
  ((LocksOnlyStill.after s.endFailed_lockView (s.endFailed.actAll_locks.trans (State.actAll_locks _))).trans
    (State.pendingClear_locks _)).then (State.sessionTimer_lockView _)

/-! ### Frames -/

/-- A clause that takes a place in the air calendar leaves cell and motion states alone. -/
theorem workOf_air_lockView {v : Nat} {args : Bytes} (h : booksAir v args = true) (sup : Supplied) (tk : Ticket)
    (s : State) :
    ((workOf v args sup).run tk s).lockView = s.lockView := by
  have hv : v = 0x22 ∨ v = 0x23 ∨ v = 0x28 ∨ v = 0x29 ∨ v = 0x2A ∨ ((v = 0x61 ∨ v = 0x62) ∧ oct args 0 = 1) := by
    simpa [booksAir, or_assoc] using h
  rcases hv with rfl | rfl | rfl | rfl | rfl | ⟨rfl | rfl, ho⟩
  · simp [workOf, fieldWork]
  · simp [workOf, fieldWork]
  · simp [workOf, fieldWork]
  · simp [workOf, fieldWork]
  · simp [workOf, fieldWork]
  · simp [workOf, serviceWork, ho]
  · simp [workOf, serviceWork, ho]

@[simp] theorem frameGo_lockView (hd : Head) (args : Bytes) (sup : Supplied) (t : Nat) (s0 : State) (tk : Ticket) (s : State) :
    (frameGo hd args (workOf hd.verb args sup) t s0 tk s).lockView = s.lockView := by
  unfold frameGo
  split
  · exact workOf_air_lockView ‹_› ..
  · simp

@[simp] theorem State.latchFrame_lockView (p : PortId) (s : State) (x : Nat × Bytes) : (s.latchFrame p x).lockView = s.lockView :=
  (admitClause_lockView _ _ _ _ _ (frameGo_lockView _ _ _ _ _) _).trans (State.keepLatched_lockView ..)

@[simp] theorem State.latchPort_lockView (p : PortId) (s : State) : (s.latchPort p).lockView = s.lockView := by
  simp [State.latchPort]

@[simp] theorem State.latchLate_lockView (p : PortId) (s : State) : (s.latchLate p).lockView = s.lockView := by
  simp [State.latchLate]

@[simp] theorem State.readmit_lockView (s : State) (x : Latched) : (s.readmit x).lockView = s.lockView := by
  unfold State.readmit
  dsimp only
  split
  · simp
  · exact (frameGo_lockView ⟨_, _, _, x.verb⟩ ..).trans (by simp)

@[simp] theorem State.runAgain_lockView (f : Nat) (s : State) : (s.runAgain f).lockView = s.lockView := by
  unfold State.runAgain
  dsimp only
  split <;> simp

@[simp] theorem State.takeOver_lockView (s : State) : s.takeOver.lockView = s.lockView := by
  unfold State.takeOver
  split
  · rfl
  · split <;> simp

/-! ### TICK -/

theorem State.runQueued_locks (s : State) (q : Queued) : LocksOnlyStill s (s.runQueued q) :=
  .ite (.refl s) ((workOf_locks q.ticket.verb q.args q.supplied q.ticket s).then (by simp))

theorem State.drawAgain_locks (s : State) (q : Queued) : LocksOnlyStill s (s.drawAgain q) :=
  .after (by simp) (workOf_locks ..)

theorem State.notPublished_locks (s : State) : LocksOnlyStill s s.notPublished := by
  unfold State.notPublished
  extract_lets +onlyGivenNames old s1 s2
  have h1 : ((List.range 4).foldl State.missLanes s1).lockView = s.lockView := by simp [s1, old]
  have h2 : LocksOnlyStill s s2 := .after h1 (.foldl State.drawAgain_locks ..)
  exact h2.then (by simp)

theorem State.endTick_locks (s : State) : LocksOnlyStill s s.endTick := by
  unfold State.endTick
  extract_lets s1 s2
  have h1 : LocksOnlyStill s s1 :=
    (LocksOnlyStill.after s.spendTick_lockView (.foldl State.runQueued_locks ..)).trans (State.commitActs_locks _)
  exact h1.then (by simp [s2])

@[simp] theorem State.latchAgain_lockView (s : State) : s.latchAgain.lockView = s.lockView := by
  unfold State.latchAgain
  dsimp only
  split <;> simp

/-- The beginning of a tick leaves the cell alone; what the MOTION domain saw does not touch the motion state (R215). -/
@[simp] theorem State.beginTick_lockView (i : TickIn) (s : State) : (s.beginTick i).lockView = s.lockView := by
  simp [State.beginTick]

theorem execTick_locks (i : TickIn) (s : State) : ∃ t, execTick i s = .next t ∧ LocksOnlyStill s t := by
  refine ⟨_, rfl, .ite (.refl s) ?_⟩
  extract_lets s1
  have h1 : s1.lockView = s.lockView := by simp [s1]
  refine .after h1 ?_
  split
  · split
    · exact s1.endTick_locks.then (by simp)
    · exact s1.endTick_locks
  · exact (LocksOnlyStill.after (by simp) (State.notPublished_locks _)).then (State.beginTick_lockView ..)
  · exact s1.notPublished_locks.then (by simp)
  · exact s1.systemReset_locks 7

/-! ### BOOT and sleep entry -/

theorem State.bootTamper_locks (l : List (TamperSource × TamperCondition)) (s : State) : LocksOnlyStill s (s.bootTamper l) :=
  .foldl (fun u _ => .ite (.refl u) (u.sourceSees_locks ..)) l s

theorem State.storeTest_locks (s : State) (a b : Bool) : LocksOnlyStill s (s.storeTest a b) :=
  .ite (.after (by simp) (State.respond_locks ..)) (.refl s)

theorem State.bootOn_locks (b : BootIn) (x y : Bool) (s : State) : LocksOnlyStill s (s.bootOn b x y) := by
  unfold State.bootOn
  extract_lets +onlyGivenNames clamped s1
  have h1 : LocksOnlyStill s s1 := (LocksOnlyStill.after (by simp) (State.storeTest_locks ..)).then (State.writeLatch_lockView _)
  exact h1.then (by simp)

theorem State.boot_locks (b : BootIn) (s : State) : LocksOnlyStill s (s.boot b) := by
  unfold State.boot
  extract_lets s1 lostA lostB
  have h1 : LocksOnlyStill s s1 := (LocksOnlyStill.after (by simp) (State.bootTamper_locks ..)).then (State.laneTest_lockView ..)
  have stops : ∀ n, LocksOnlyStill s (s1.bootStops n) := fun n => h1.then (State.bootStops_lockView ..)
  exact .ite (stops 2) (.ite (stops 3) (.ite (stops 4) (.ite (h1.trans (s1.systemReset_locks _))
    (h1.trans (s1.bootOn_locks ..)))))


end Sys2Proof.Machine
end

section
/-! No command locks the cell in motion (R26, R203). -/

namespace Sys2Proof.Machine

open Sys2Proof

/-- A command answers a next state with a property. -/
def Answers (o : Host.Outcome State Fault Refusal) (P : State → Prop) : Prop := ∃ t, o = .next t ∧ P t

@[simp] theorem answers_next (t : State) (P : State → Prop) : Answers (.next t) P ↔ P t :=
  ⟨fun ⟨_, h, k⟩ => by cases h; exact k, fun k => ⟨t, rfl, k⟩⟩

@[simp] theorem execLichenWindowExpiry_lockView (s : State) :
    Answers (execLichenWindowExpiry s) fun t => t.lockView = s.lockView := by
  simp only [execLichenWindowExpiry, answers_next]
  split <;> simp

@[simp] theorem execSporeLoadNeeded_lockView (h : Hdr) (args : Bytes) (s : State) :
    Answers (execSporeLoadNeeded h args s) fun t => t.lockView = s.lockView := by
  simp only [execSporeLoadNeeded, answers_next]
  refine commandWith_lockView _ _ _ _ _ (fun tk s => ?_) s
  split
  · simp
  · unfold hdrGo
    split <;> simp

@[simp] theorem execContextTimeout_lockView (p : PortId) (ctx : Nat) (s : State) :
    Answers (execContextTimeout p ctx s) fun t => t.lockView = s.lockView := by
  simp only [execContextTimeout, answers_next]
  split <;> simp

@[simp] theorem execSignaturePoint_lockView (s : State) :
    Answers (execSignaturePoint s) fun t => t.lockView = s.lockView := by
  simp only [execSignaturePoint, answers_next]
  split <;> simp

@[simp] theorem execBookingStart_lockView (engine : Nat) (s : State) :
    Answers (execBookingStart engine s) fun t => t.lockView = s.lockView := by
  simp only [execBookingStart, answers_next]
  split <;> simp

@[simp] theorem execGainAndTrimSet_lockView (engine : Nat) (m : List LeadMeasure) (s : State) :
    Answers (execGainAndTrimSet engine m s) fun t => t.lockView = s.lockView := by
  simp only [execGainAndTrimSet, answers_next]
  split <;> simp

@[simp] theorem execOpenAerialDetect_lockView (engine channel current : Nat) (s : State) :
    Answers (execOpenAerialDetect engine channel current s) fun t => t.lockView = s.lockView := by
  simp only [execOpenAerialDetect, answers_next]
  split <;> simp

@[simp] theorem execAerialOvercurrent_lockView (engine channel : Nat) (k : ShortKind) (s : State) :
    Answers (execAerialOvercurrent engine channel k s) fun t => t.lockView = s.lockView := by
  simp only [execAerialOvercurrent, answers_next]
  split <;> simp

@[simp] theorem execDownlinkFrameSent_lockView (engine : Nat) (currents : List (Int × Int)) (s : State) :
    Answers (execDownlinkFrameSent engine currents s) fun t => t.lockView = s.lockView := by
  simp only [execDownlinkFrameSent, answers_next]
  split <;> simp

@[simp] theorem execIdentifierStream_lockView (engine : Nat) (r : Uplink) (s : State) :
    Answers (execIdentifierStream engine r s) fun t => t.lockView = s.lockView := by
  simp only [execIdentifierStream, answers_next]
  split <;> simp

@[simp] theorem execSilentReply_lockView (engine : Nat) (s : State) :
    Answers (execSilentReply engine s) fun t => t.lockView = s.lockView := by
  simp only [execSilentReply, answers_next]
  split <;> simp

@[simp] theorem execIdentifierComplete_lockView (engine : Nat) (s : State) :
    Answers (execIdentifierComplete engine s) fun t => t.lockView = s.lockView := by
  simp only [execIdentifierComplete, answers_next]
  split <;> simp

@[simp] theorem execResponseReceived_lockView (engine : Nat) (r : Uplink) (s : State) :
    Answers (execResponseReceived engine r s) fun t => t.lockView = s.lockView := by
  simp only [execResponseReceived, answers_next]
  (repeat' split) <;> simp

@[simp] theorem execSelectStatusReply_lockView (engine : Nat) (r : Uplink) (s : State) :
    Answers (execSelectStatusReply engine r s) fun t => t.lockView = s.lockView := by
  simp only [execSelectStatusReply, answers_next]
  (repeat' split) <;> simp

@[simp] theorem execReaderReplyReceived_lockView (engine : Nat) (r : Uplink) (s : State) :
    Answers (execReaderReplyReceived engine r s) fun t => t.lockView = s.lockView := by
  simp only [execReaderReplyReceived, answers_next]
  (repeat' split) <;> simp

@[simp] theorem execHandoverMissed_lockView (engine : Nat) (s : State) :
    Answers (execHandoverMissed engine s) fun t => t.lockView = s.lockView := by
  simp only [execHandoverMissed, answers_next]
  split <;> simp

@[simp] theorem execBookingEnd_lockView (engine : Nat) (m : Measurement) (s : State) :
    Answers (execBookingEnd engine m s) fun t => t.lockView = s.lockView := by
  simp only [execBookingEnd, answers_next]
  split <;> simp

@[simp] theorem execVbatValid_lockView (s : State) : Answers (execVbatValid s) fun t => t.lockView = s.lockView := by
  have h : s.mossOn.lockView = s.lockView := by unfold State.mossOn; split <;> simp
  simp [execVbatValid, h]

@[simp] theorem Motion.endEpisode_state (m : Motion) : m.endEpisode.state = m.state := by
  unfold Motion.endEpisode
  split <;> rfl

@[simp] theorem Motion.sleepEdge_state (second : Bool) (cycle : Nat) (m : Motion) :
    (m.sleepEdge second cycle).state = m.state := by
  unfold Motion.sleepEdge
  dsimp only
  split <;> simp

@[simp] theorem Motion.sleepLevel_state (f second l : Bool) (cycle : Nat) (m : Motion) :
    (m.sleepLevel f second l cycle).state = m.state := by
  simp [Motion.sleepLevel, apply_ite Motion.state]

@[simp] theorem execSleepPulseEdge_lockView (second : Bool) (cycle : Nat) (x : SpeedSamples) (s : State) :
    Answers (execSleepPulseEdge second cycle x s) fun t => t.lockView = s.lockView := by
  simp [execSleepPulseEdge]

@[simp] theorem execEpisodeEnd_lockView (cycle : Nat) (s : State) :
    Answers (execEpisodeEnd cycle s) fun t => t.lockView = s.lockView := by
  simp only [execEpisodeEnd, answers_next]
  split
  · split <;> simp
  · rfl

/-- No command but the loss of the moss supply locks the cell from another state unless the motion state is STATIONARY. -/
theorem exec_safeLock (c : Instr) (hc : c ≠ .vholdStop) (s : State) : Answers (exec c s) (SafeLock s) := by
  have locks : ∀ {t}, LocksOnlyStill s t → Answers (.next t) (SafeLock s) := fun h => ⟨_, rfl, h.1⟩
  have view : ∀ {o}, Answers o (fun t => t.lockView = s.lockView) → Answers o (SafeLock s) :=
    fun ⟨t, ho, h⟩ => ⟨t, ho, (LocksOnlyStill.of_lockView h).1⟩
  have reset : ∀ {p : Prop} [Decidable p] {t : State} (n : Nat), t.lockView = s.lockView →
      Answers (.next (if p then t.systemReset n else s)) (SafeLock s) :=
    fun n h => locks (.ite (.after h (State.systemReset_locks _ n)) (.refl s))
  have changes : ∀ {p : Prop} [Decidable p] (m : MotionState) (n : Nat) (a : Act),
      Answers (.next (if p then (s.changeMotion m n).push a else s)) (SafeLock s) := by
    refine fun m n a => ⟨_, rfl, fun h => .inl ?_⟩
    split at h <;> exact h
  cases c with
  | vholdStop => exact absurd rfl hc
  | tick i =>
    obtain ⟨t, ht, h⟩ := execTick_locks i s
    exact ⟨t, ht, h.1⟩
  | boot b => exact locks (.ite (s.boot_locks b) (.refl s))
  | sleepEntry l =>
    refine locks (.ite ?_ (.refl s))
    dsimp only
    split
    · exact s.lanesStop_locks.then (by simp)
    · exact s.lanesStop_locks.then (by simp)
  | arbitration a b =>
    refine locks ?_
    split
    · exact .refl s
    · refine .ite (.refl s) ?_
      split
      · exact s.transient_locks _
      · exact .of_lockView (by simp)
      · exact .of_lockView (by simp)
      · exact s.systemReset_locks 7
  | laneFlagged l n => exact locks (s.flagLanes_locks ..)
  | sramUncorrectable l =>
    cases l with
    | some l => exact locks (s.flagLanes_locks ..)
    | none => exact reset 9 rfl
  | tamperSourceLatch x y => exact locks (.ite (s.sourceSees_locks ..) (.refl s))
  | pllLockLoss p => exact reset 8 rfl
  | keyStoreFault => exact reset 0x0A rfl
  | personalisationReset => exact reset 3 rfl
  | tamperAckReset => exact reset 5 rfl
  | vbatReset =>
    refine locks ?_
    split
    · exact .after rfl (State.systemReset_locks _ 2)
    · exact .after rfl (State.systemReset_locks _ 2)
    · exact .after rfl (State.systemReset_locks _ 2)
    · exact .of_lockView (by simp)
    · exact .of_lockView rfl
    · exact .of_lockView rfl
  | motionMoving => exact changes .moving _ .moved
  | motionStationary => exact changes .stationary _ .still
  | _ => exact view (by simp [exec,
    execClauseWrite, execReplyRead, execReplyReread, execCauseRead, execUnknownTransaction, execEcho, execStatus, execClock,
    execClockSet, execSleep, execLaneStatus, execConfigStageBegin, execConfigStageWrite, execConfigStageDiscard,
    execConfigCommit, execConfigRead, execThallusStageBegin, execThallusStageWrite, execThallusStageDiscard,
    execLichenEndorse, execThallusCommit, execPollStart, execPollStop, execPollRepetition, execFieldVector, execAerialCal,
    execAtlasLoadBegin, execAtlasLoadPoints, execInventory, execAuthenticate, execLocate, execSessionQuery, execSessionEnd,
    execTokenEnrol, execTokenRevoke, execTokenQuery, execReleaseState, execReleaseClear, execOdoInterval, execOdoInit,
    execMotionRead, execTimerCfg, execPeek, execPoke, execSporeLoadHost, execSporeEvict, execSporeWrap,
    execFrondDeriveDerive, execFrondDerivePublic, execFrondDeriveNode, execKeyRetire, execEncryptOneshot, execEncryptBegin,
    execEncryptUpdate, execEncryptFinal, execEncryptAbort, execDecryptOneshot, execDecryptBegin, execDecryptUpdate,
    execDecryptFinal, execDecryptRead, execDecryptAbort, execMacOneshot, execMacBegin, execMacUpdate, execMacFinal,
    execMacAbort, execEvidenceSign, execEvidenceRead, execRandom, execRandomPr, execFieldportCfgPort,
    execFieldportCfgReaderKey, execFieldportCfgQuery, execMailboxReadLocal, execMailboxWriteLocal, execMailboxReadReader,
    execMailboxWriteReader, execMailboxReadFetch, execSelftest, execKat, execTamperStatus, execTamperAck, execHostPair,
    execDeferredRecordAppend, execRecordProgram, execSealAppend, execEccSignCheckFail, execAesParityFault,
    execAmplitudeLoopUpdate, execSporeTimeout, execLinkEngineFault, execTriggerInput, execHeldTriggerStart, execRecoveryPoll,
    execSessionTimerExpiry, execLockExpiry, execSpeedEdge, execPlausibilityEvaluation, execRlsFaultDetect, execGtCountEdge,
    execLinkedAction, execFieldPresent, execFieldWake, execFieldInventoryBegin, execFieldStopGap, execFieldTreeBit,
    execFieldSelect, execFieldQuiet, execFieldMailboxRead, execFieldMailboxWrite, execHarvestOn, execHarvTimeout,
    execFieldIdleTimeout, execFieldCarrierLoss, execHostMailboxUnheld, execNoiseWindowEnd, execEntropyBlockEntry,
    execDrbgInstantiate, execDrbgStarved, execWireRefill, execRngCoreFault, execBankRepair, execNvmPatrol, execSramScrub,
    execTakeover, execLaneProbe, execXtalFailure, execVbatLowDrive, execVdrvRange, execVbatHigh, execSupplyCeilingReturn,
    execBatteryCritical, execBatteryCriticalEnd, execVholdLow, execSpiSideReset, execCrossingReopen, execBootRetry,
    execWakeEvent, execWakeTimerExpiry, execDetunePing, execPingConfirm, execStandbyVbatSample, execSleepMotionWake,
    execTickHighwaterWrite, execFieldFrameIgnored, execSpeedInputLevelChange, execX32CrystalFailure, execHashParityFault,
    execVholdRecovered])

/-- Settles O4: a clear request and a pending clear alone lock the cell, in a TICK, where the motion state that the tick began
with is STATIONARY; no other command changes the cell's state. -/
theorem noCommandLocksInMotion : Obligations.NoCommandLocksInMotion := by
  intro c s t hc ht
  obtain ⟨u, hu, h⟩ := exec_safeLock c hc s
  rw [hu, Host.Outcome.next.injEq] at ht
  exact ht ▸ h


end Sys2Proof.Machine
end

section
/-! What an engine starts when the first tick of its next booking has come (R29, R35, R90, R102, R117, R130, R131, R146). -/

namespace Sys2Proof.Machine

open Sys2Proof

theorem find?_eq_some_of_unique {α : Type} {p : α → Bool} {l : List α} {v : α} (h : ∃ x ∈ l, p x = true)
    (hv : ∀ x ∈ l, p x = true → x = v) : l.find? p = some v := by
  cases hf : l.find? p with
  | none =>
    obtain ⟨x, hx, hp⟩ := h
    exact absurd hp (List.find?_eq_none.mp hf x hx)
  | some y => rw [hv y (List.mem_of_find?_eq_some hf) (List.find?_some hf)]

/-! ### The booking that is due -/

/-- The better of two bookings for an engine: the one with the earlier first tick, the older on a tie (R45). -/
theorem foldl_earliest_mem (l : List Booking) (o : Option Booking) {b : Booking}
    (h : l.foldl (fun best b => match best with
      | some x => if b.first < x.first then some b else best
      | none => some b) o = some b) : b ∈ l ∨ o = some b := by
  induction l generalizing o with
  | nil => exact .inr h
  | cons x l ih =>
    obtain hm | ho := ih _ h
    · exact .inl (List.mem_cons_of_mem _ hm)
    · cases o with
      | none => exact .inl (by simp_all)
      | some y =>
        dsimp only at ho
        split at ho
        · exact .inl (by simp_all)
        · exact .inr ho

theorem State.dueBooking_some {s : State} {e : Nat} {b : Booking} (h : s.dueBooking e = some b) :
    b ∈ s.field.bookings ∧ b.engine = e ∧ b.phase = .booked ∧ b.endCode = none ∧ b.first ≤ s.tick := by
  obtain hm | hn := foldl_earliest_mem _ _ h
  · simpa [and_assoc] using hm
  · cases hn

/-! ### Polls that join -/

/-- Bookings withdrawn before they ran leave the list; of the rest only where their polls stand and the tables kept for
them can change. -/
theorem State.foldl_release_booked (l : List Booking) (hl : ∀ x ∈ l, x.phase = .booked) (s : State) :
    ∃ ends tables, l.foldl State.release s =
      { s with field := { s.field with bookings := s.field.bookings.filter (fun x => l.all fun y => x.id != y.id), pollEnd := ends }
               prot := { s.prot with oldTables := tables } } := by
  induction l generalizing s with
  | nil => exact ⟨s.field.pollEnd, s.prot.oldTables, by simp⟩
  | cons x l ih =>
    have hx : x.phase = .booked := hl x List.mem_cons_self
    obtain ⟨ends, tables, h⟩ := ih (fun y hy => hl y (List.mem_cons_of_mem _ hy)) (s.release x)
    refine ⟨ends, tables, ?_⟩
    rw [List.foldl_cons, h]
    simp [State.release, hx, List.filter_filter, Bool.and_comm]

/-- A booking of a poll that joins the poll `b` begins, and is withdrawn then (R146; log entry 69). -/
def Booking.gone (b x : Booking) : Bool :=
  b.isPoll && (x.joins && x.phase == .booked && x.id != b.id && x.zones == b.zones)

/-- The bookings that stay when `b` begins. -/
def State.staying (s : State) (b : Booking) : List Booking :=
  s.field.bookings.filter fun x => s.field.bookings.all fun y => !(b.gone y) || x.id != y.id

theorem State.mem_staying {s : State} {b x : Booking} :
    x ∈ s.staying b ↔ x ∈ s.field.bookings ∧ ∀ y ∈ s.field.bookings, b.gone y = true → x.id ≠ y.id := by
  simp [State.staying, ← Bool.not_eq_true, imp_iff_not_or]

theorem State.withdrawJoined_eq (s : State) (b : Booking) :
    ∃ ends tables, s.withdrawJoined b =
      { s with field := { s.field with bookings := s.staying b, pollEnd := ends }, prot := { s.prot with oldTables := tables } } := by
  simp only [State.withdrawJoined]
  split
  next hp =>
    obtain ⟨ends, tables, h⟩ := State.foldl_release_booked
      (s.field.bookings.filter fun x => x.joins && x.phase == .booked && x.id != b.id && x.zones == b.zones) (by simp_all) s
    refine ⟨ends, tables, ?_⟩
    rw [h]
    simp [State.staying, Booking.gone, hp, List.all_filter]
  next hp =>
    have hall : s.staying b = s.field.bookings := by simp [State.staying, Booking.gone, hp]
    exact ⟨s.field.pollEnd, s.prot.oldTables, by rw [hall]⟩

/-! ### The drive -/

theorem State.foldl_onChannel {α : Type} (l : List α) (n : α → Nat) (g : α → Channel → Channel) (s : State) :
    l.foldl (fun s x => s.onChannel (n x) (g x)) s =
      { s with field := { s.field with ch := l.foldl (fun ch x => ch.modify (n x) (g x)) s.field.ch } } := by
  induction l generalizing s with
  | nil => rfl
  | cons x l ih => rw [List.foldl_cons, ih]; rfl

theorem length_foldl_modify {α : Type} (l : List α) (n : α → Nat) (g : α → Channel → Channel) (ch : List Channel) :
    (l.foldl (fun ch x => ch.modify (n x) (g x)) ch).length = ch.length := by
  induction l generalizing ch with
  | nil => rfl
  | cons x l ih => rw [List.foldl_cons, ih, List.length_modify]

/-- What turns every channel it meets on leaves each listed channel on. -/
theorem driven_foldl_modify {α : Type} (l : List α) (n : α → Nat) (g : α → Channel → Channel)
    (hg : ∀ x c, (g x c).driven = true) (ch : List Channel) (i : Nat) (hi : i < ch.length)
    (h : (ch.getD i {}).driven = true ∨ ∃ x ∈ l, n x = i) :
    ((l.foldl (fun ch x => ch.modify (n x) (g x)) ch).getD i {}).driven = true := by
  induction l generalizing ch with
  | nil => simpa using h
  | cons x l ih =>
    rw [List.foldl_cons]
    refine ih _ (by simpa using hi) ?_
    by_cases hx : n x = i
    · left; simp [List.getD_eq_getElem?_getD, hx, hi, hg]
    · obtain hd | ⟨y, hy, hn⟩ := h
      · left; simpa [List.getD_eq_getElem?_getD, List.getElem?_modify, hx] using hd
      · right
        obtain rfl | hy := List.mem_cons.mp hy
        · exact absurd hn hx
        · exact ⟨y, hy, hn⟩

/-- The channels `l` once `b` drives them (R102). -/
def Booking.driveOnto (b : Booking) (l : List (Nat × Nat × Nat)) (ch : List Channel) : List Channel :=
  l.foldl (fun ch x => ch.modify x.1 (Channel.startDrive
    (((b.base.find? fun y => y.1 == x.1).map (·.2)).getD 0 * b.ss) x.2.2 (slewOf b.copied))) ch

theorem Booking.driven_driveOnto (b : Booking) {l : List (Nat × Nat × Nat)} {ch : List Channel} {d : Nat × Nat × Nat} (hd : d ∈ l)
    (hn : d.1 < ch.length) : ((b.driveOnto l ch).getD d.1 {}).driven = true := by
  rw [Booking.driveOnto]
  apply driven_foldl_modify l (·.1)
  · exact fun _ _ => rfl
  · exact hn
  · exact .inr ⟨d, hd, rfl⟩

/-- The channels that begin to be driven; the exchanges that listen note them (R102, R117). -/
theorem State.driveAerials_eq (s : State) (b : Booking) (l : List (Nat × Nat × Nat)) : ∃ clamp, s.driveAerials b l =
    { s with field := { s.field with
                          bookings := s.field.bookings.map (Booking.disturbed b.engine (l.map (·.1)))
                          ch := b.driveOnto l s.field.ch }
             power := { s.power with newClamp := clamp } } := by
  simp only [State.driveAerials, State.disturb, State.onBookings, if_true]
  rw [State.foldl_onChannel l (·.1)]
  exact ⟨_, rfl⟩

/-! ### The start -/

/-- A booking as it goes into its carrier lead in `s` (R29, R35, R90, R102). -/
def State.leading (s : State) (b b2 : Booking) : Booking :=
  { b2 with phase := .lead, todo := s.opening b, planned := some s.tick
            group := if b.enrolWake then 0 else vehicleGroup s.cfg.cur }

/-- A booking of `s` once `b`, which became `b2`, has begun. -/
def State.afterStart (s : State) (b b2 x : Booking) : Booking :=
  if x.id = b.id then s.leading b b2 else x.disturbed b.engine (b2.atLead.map (·.1))

@[simp] theorem Booking.disturbed_id (e : Nat) (l : List Nat) (b : Booking) : (b.disturbed e l).id = b.id := by
  rw [Booking.disturbed]; split <;> rfl

@[simp] theorem Booking.disturbed_engine (e : Nat) (l : List Nat) (b : Booking) : (b.disturbed e l).engine = b.engine := by
  rw [Booking.disturbed]; split <;> rfl

@[simp] theorem Booking.disturbed_phase (e : Nat) (l : List Nat) (b : Booking) : (b.disturbed e l).phase = b.phase := by
  rw [Booking.disturbed]; split <;> rfl

theorem Booking.disturbed_foreign (e : Nat) (l : List Nat) (b : Booking) : ∃ n, b.disturbed e l = { b with foreign := b.foreign ++ n } ∧
    (b.await ≠ .response → n = []) := by
  rw [Booking.disturbed]
  split
  · next h => exact ⟨l, rfl, fun ha => by simp_all⟩
  · exact ⟨[], by simp, fun _ => rfl⟩

theorem State.startDrive_eq (s : State) (b : Booking) : ∃ ch clamp b2,
    s.startDrive b =
      { s with field := { s.field with
                            bookings := s.field.bookings.map fun x =>
                              if x.id = b.id then b2 else x.disturbed b.engine (b2.atLead.map (·.1))
                            ch := ch }
               power := { s.power with newClamp := clamp } } ∧
    (∀ d ∈ b2.atLead, d.1 < s.field.ch.length → (ch.getD d.1 {}).driven = true) ∧ b2.id = b.id ∧ b2.engine = b.engine ∧
    b2.drive = s.driveFor b ∧ b2.copied = s.cfg.cur ∧ b2.ss = s.supplyScale ∧ b2.aerials = s.zoneLive b.zone ∧
    b2.cut = s.power.supplyOff := by
  unfold State.startDrive
  extract_lets d b1 sc zt b2 s0
  have hs0 : s0 = { s with field := { s.field with
      ch := (s.zoneLive b.zone).foldl (fun ch n => ch.modify n fun c => { c with trips := 0 }) s.field.ch } } :=
    State.foldl_onChannel _ _ (fun _ c => { c with trips := 0 }) s
  obtain ⟨clamp, heq⟩ := s0.driveAerials_eq b2 b2.atLead
  refine ⟨b2.driveOnto b2.atLead s0.field.ch, clamp, b2, ?_, ?_, rfl, rfl, rfl, rfl, rfl, rfl, rfl⟩
  · rw [heq, hs0]
    simp only [State.onBookings, List.map_map]
    congr 2
    refine List.map_congr_left fun x _ => ?_
    simp only [Function.comp, Booking.disturbed_id, beq_iff_eq]
    rfl
  · intro d hd hn
    refine b2.driven_driveOnto hd ?_
    rw [hs0, length_foldl_modify]
    exact hn

/-- What a booking that can begin does when it begins. -/
theorem State.startBooking_eq {s : State} {b : Booking} (hlf : s.lfDead = false)
    (hz : b.kind.measures = true ∨ s.zoneDead b.zone = false) (hr : b.reader = none) : ∃ ch ends tables clamp b2,
    s.startBooking b =
      { s with field := { s.field with bookings := (s.staying b).map (s.afterStart b b2), ch := ch, pollEnd := ends }
               prot := { s.prot with oldTables := tables }
               power := { s.power with newClamp := clamp } } ∧
    (∀ d ∈ b2.atLead, d.1 < s.field.ch.length → (ch.getD d.1 {}).driven = true) ∧ b2.id = b.id ∧ b2.engine = b.engine ∧
    b2.drive = s.driveFor b ∧ b2.copied = s.cfg.cur ∧ b2.ss = s.supplyScale ∧ b2.aerials = s.zoneLive b.zone ∧
    b2.cut = s.power.supplyOff := by
  obtain ⟨ends, tables, hw⟩ := s.withdrawJoined_eq b
  obtain ⟨ch, clamp, b2, hd, hdriven, hid, heng, hrest⟩ := (s.withdrawJoined b).startDrive_eq b
  rw [hw] at hd hdriven hrest
  refine ⟨ch, ends, tables, clamp, b2, ?_, hdriven, hid, heng, hrest⟩
  have hdead : (s.lfDead || (!b.kind.measures && s.zoneDead b.zone)) = false := by
    obtain h | h := hz <;> simp [hlf, h]
  simp only [State.startBooking, hdead, hr, hw, hd, State.onBookings, List.map_map]
  simp only [Bool.false_eq_true, if_false]
  congr 2
  refine List.map_congr_left fun x _ => ?_
  simp only [Function.comp, State.afterStart, beq_iff_eq]
  by_cases hx : x.id = b.id
  · rw [if_pos hx, if_pos hid, if_pos hx]; rfl
  · rw [if_neg hx, if_neg hx, if_neg (by simpa using hx)]

theorem State.opening_walk {s : State} {b : Booking} (hr : b.reader = none) : s.opening b =
    if b.isWalk then [.wake (if b.enrolWake then 0 else vehicleGroup s.cfg.cur), .inventoryBegin b.round] else [] := by
  cases hk : b.kind <;> simp [State.opening, Booking.isWalk, hk, hr]

/-- Settles O19: the start of a booking, by its four parts: what is withdrawn, the drive, the lead, what it leaves alone. -/
theorem bookingsStart : Obligations.BookingsStart := by
  intro e s
  refine ⟨fun h => ?_, fun b hdue hlife harb hcur hlf hz hr => ?_⟩
  · show Host.Outcome.next _ = _
    obtain hd | hl | ha | hc := h
    · rw [hd]
    · cases s.dueBooking e <;> simp [hl]
    · cases s.dueBooking e <;> simp [ha]
    · cases hd : s.dueBooking e <;> simp [Option.isNone_iff_eq_none, hc]
  · intro gone
    obtain ⟨hmem, heng, hbooked, -, hfirst⟩ := State.dueBooking_some hdue
    obtain ⟨ch, ends, tables, clamp, b2, heq, hdriven, hid2, heng2, hdrive, hcopied, hss, hlive, hcut⟩ :=
      State.startBooking_eq hlf hz hr
    have hgone (x : Booking) : b.gone x = true ↔ gone x := by simp [Booking.gone, gone, and_assoc]
    have hstay : b ∈ s.staying b := State.mem_staying.mpr ⟨hmem, fun y _ hy => ((hgone y).mp hy).2.2.2.1.symm⟩
    have hlead : s.afterStart b b2 b = s.leading b b2 := if_pos rfl
    refine ⟨heng, hfirst, hbooked, s.startBooking b, ?_, ?_, ?_, ?_, s.leading b b2, ?_, hid2, hdrive, hcopied, hss, hlive, rfl, hcut,
      rfl, ?_, State.opening_walk hr⟩
    · show Host.Outcome.next _ = _
      rw [hdue]
      simp [hlife, harb, hcur]
    · rw [heq]
    · intro x hx hg y hy
      rw [heq] at hy
      obtain ⟨z, hz, rfl⟩ := List.mem_map.mp hy
      obtain ⟨-, hz⟩ := State.mem_staying.mp hz
      have hne : z.id ≠ x.id := hz x hx ((hgone x).mpr hg)
      simp only [State.afterStart]
      split
      · next h => rw [show (s.leading b b2).id = b2.id from rfl, hid2, ← h]; exact hne
      · rw [Booking.disturbed_id]; exact hne
    · intro x hx hne hstays
      obtain ⟨n, hn, hquiet⟩ := x.disturbed_foreign b.engine (b2.atLead.map (·.1))
      refine ⟨n, ?_, hquiet⟩
      rw [heq, ← hn]
      refine List.mem_map.mpr ⟨x, State.mem_staying.mpr ⟨hx, fun y hy hg hxy => ?_⟩, if_neg hne⟩
      exact hstays y hy hxy.symm ((hgone y).mp hg)
    · rw [heq]
      refine find?_eq_some_of_unique ⟨s.leading b b2, List.mem_map.mpr ⟨b, hstay, hlead⟩, ?_⟩ fun x hx hp => ?_
      · simp [State.leading, heng2, heng]
      · obtain ⟨y, hy, rfl⟩ := List.mem_map.mp hx
        simp only [State.afterStart] at hp ⊢
        split
        · rfl
        · next h =>
          have hno := List.find?_eq_none.mp hcur y (State.mem_staying.mp hy).1
          simp [h] at hp hno
          exact absurd (hno hp.1) hp.2
    · rw [heq]; exact hdriven

end Sys2Proof.Machine
end

section
/-! Why the statements about the look-up and the response fail: nothing keeps two exchanges from bearing one number, and an
exchange is found again by its number. -/

namespace Sys2Proof.Machine

open Sys2Proof

/-- The device after reset, awake, with two exchanges on air. -/
def State.withExchanges (a b : Booking) : State :=
  { State.reset with power := { State.reset.power with life := .awake }, field := { State.reset.field with bookings := [a, b] } }

/-- An exchange of engine `e` on air, number 0. -/
def numberedZero (k : Kind) (e : Nat) : Booking :=
  { id := 0, engine := e, zones := [0], first := 0, closing := 9, kind := k, current := 0, estimate := 0, ticket := none
    trigger := 0, phase := .running }

/-- An INVENTORY of engine 1 that has heard an identifier. -/
def hearing : Booking := { numberedZero .inventory 1 with heard := [(9, 0)] }

/-- Refutes O22: where engines 0 and 1 each run an INVENTORY of number 0, listing what engine 0 has heard also lists and
empties what engine 1 has heard, so that the booking of engine 1 does not stay as it was. -/
theorem not_identifiersAreLookedUp : ¬ Obligations.IdentifiersAreLookedUp := by
  intro h
  obtain ⟨-, -, hlisted, -⟩ := h 0 (.withExchanges (numberedZero .inventory 0) hearing) (numberedZero .inventory 0)
    (by decide +kernel)
  obtain ⟨-, -, hothers⟩ := hlisted (by decide +kernel) rfl
  have hkept := hothers hearing (by decide +kernel) (by decide +kernel)
  exact absurd hkept (by decide +kernel)

/-- The directory's entry of identifier 9, ordinary, with a short MAC. -/
def shortEntry : Entry :=
  { ident := 9, flags := 0x80, privileges := 0, phaseWin := 0, crownIndex := 0, phaseRef := 0, hostTag := 0, keyField := zeros 16 }

/-- That key as an exchange handles it. -/
def handledShort : CurKey := { ident := 9, lookup := .ordinary, entry := some shortEntry, slot := none }

/-- A configuration that enables aerial 0. -/
def oneAerial : Mem := [(0x40, 0x80)]

/-- An exchange of engine 0 that awaits the response of that key. -/
def awaiting : Booking :=
  { numberedZero .authenticate 0 with copied := oneAerial, await := .response, cur := some handledShort }

/-- A valid response on aerial 0: the preamble, fields of zeros, and the CRC. -/
def zerosHeard : Uplink :=
  let x := List.replicate (66 + 8 * shortEntry.macLength) false
  [some { cells := (preamble ++ x ++ crcBits (airBits 64 awaiting.selected.toNat) x).map fun v =>
            if v then { first := (1000, 0), second := (0, 0) } else { first := (0, 0), second := (1000, 0) } }]

/-- The exchange of engine 1 under the same number. -/
def unheard : Booking := numberedZero .authenticate 1

/-- The device with both on air. -/
def twoExchanges : State := .withExchanges awaiting unheard

/-- Refutes O23: where engines 0 and 1 each run an exchange of number 0, a valid response on engine 0 makes the exchange of
engine 1 wait for a verdict too, so that the booking of engine 1 does not stay as it was. -/
theorem not_responsesAreJudged : ¬ Obligations.ResponsesAreJudged := by
  rintro ⟨hwait, -, -⟩
  obtain ⟨-, -, hheard⟩ := hwait 0 zerosHeard twoExchanges awaiting handledShort shortEntry (by decide +kernel) rfl rfl
  obtain ⟨-, hvalid⟩ := hheard rfl (by decide +kernel)
  have hsome : ((twoExchanges.senseReply awaiting zerosHeard).readResponse awaiting 0 shortEntry.macLength zerosHeard).isSome =
      true := by decide +kernel
  obtain ⟨y, hy⟩ := Option.isSome_iff_exists.mp hsome
  obtain ⟨t, ht, -, -, hothers⟩ := hvalid y hy
  have hkept := hothers unheard (by decide +kernel) (by decide +kernel)
  have hfield : twoExchanges.hearResponse awaiting handledShort shortEntry zerosHeard =
      t.push (.judge 0 y) := Host.Outcome.next.inj ht
  rw [← State.push_field t (.judge 0 y), ← hfield] at hkept
  exact absurd hkept (by decide +kernel)

end Sys2Proof.Machine
end

section
/-! What a commit phase leaves alone: a view of the state, and what each part of the commit phase does to it (R35). -/

namespace Sys2Proof.Machine

open Sys2Proof

/-- What a port keeps through a commit phase until it publishes. -/
structure PortView where
  ready : Bool
  general : List Stored
  cause : BitVec 16
  irq : Bool
  vioLow : Bool
  frames : List Bytes
  late : List (Nat × Bytes)
  held : List Held
  cutFrames : Nat
  newSession : Option Sess
  verbs : List Nat

def Port.view (q : Port) : PortView :=
  { ready := q.ready, general := q.general, cause := q.cause, irq := q.irq, vioLow := q.vioLow, frames := q.frames, late := q.late
    held := q.held, cutFrames := q.cutFrames, newSession := q.newSession, verbs := q.stagedReplies.map (·.verb) }

/-- What the work of a commit phase looks at in part or not at all (R35). -/
structure CommitView where
  life : Life
  readyDue : Option Nat
  tick : Nat
  ledger : List Demand
  work : List Queued
  acts : List Act
  faultTick : Option Nat
  takeoverDue : Option (Nat × LaneId × Nat)
  cell : Cell
  ses : CabSession
  cfg : Banks
  thal : Banks
  dir : List (Nat × Entry)
  lock : Lockout
  hold : Bool
  keyWork : List KeyWork
  portWork : List PortWork
  writes : List WinWrite
  commitTick : Nat
  seed : Option Nat × Bool
  due : List (Nat × Nat × Nat × Nat × Nat × Nat)
  events : Nat
  portA : PortView
  portB : PortView

def State.commitView (s : State) : CommitView :=
  { life := s.power.life, readyDue := s.power.readyDue, tick := s.tick, ledger := s.ledger, work := s.work, acts := s.acts
    faultTick := s.lanes.faultTick, takeoverDue := s.lanes.takeoverDue, cell := s.cell, ses := s.ses, cfg := s.cfg, thal := s.thal
    dir := s.dir, lock := s.lock, hold := s.tamper.hold, keyWork := s.ks.work, portWork := s.fp.work, writes := s.win.writes
    commitTick := s.log.commitTick, seed := (s.rng.seedTick, s.rng.seeded), due := s.tamper.due
    events := s.log.events, portA := s.portA.view, portB := s.portB.view }

/-- What every step of a fold keeps, the fold keeps. -/
theorem foldl_keeps {α β σ : Type} (g : σ → β) {f : σ → α → σ} (h : ∀ s a, g (f s a) = g s) (l : List α) (s : σ) :
    g (l.foldl f s) = g s := by
  induction l generalizing s with
  | nil => rfl
  | cons a l ih => rw [List.foldl_cons, ih, h]

theorem foldl_commitView {α : Type} {f : State → α → State} (h : ∀ s a, (f s a).commitView = s.commitView) (l : List α)
    (s : State) : (l.foldl f s).commitView = s.commitView := foldl_keeps State.commitView h l s

theorem State.onPorts_commitView {f : Port → Port} (h : ∀ q, (f q).view = q.view) (s : State) :
    (s.onPorts f).commitView = s.commitView := by
  show { s.commitView with portA := (f s.portA).view, portB := (f s.portB).view } = s.commitView
  rw [h, h]
  rfl

theorem State.onPort_commitView {f : Port → Port} (h : ∀ q, (f q).view = q.view) (s : State) (p : PortId) :
    (s.onPort p f).commitView = s.commitView := by
  cases p
  · show { s.commitView with portA := (f s.portA).view } = s.commitView
    rw [h]
    rfl
  · show { s.commitView with portB := (f s.portB).view } = s.commitView
    rw [h]
    rfl

theorem State.ports_commitView {s : State} {qa qb : Port} (ha : qa.view = s.portA.view) (hb : qb.view = s.portB.view) :
    ({ s with portA := qa, portB := qb } : State).commitView = s.commitView := by
  show { s.commitView with portA := qa.view, portB := qb.view } = s.commitView
  rw [ha, hb]
  rfl

/-- Staged replies may be rewritten as long as their verbs stay. -/
theorem Port.mapReplies_view (q : Port) {f : Staged → Staged} (h : ∀ r, (f r).verb = r.verb) :
    ({ q with stagedReplies := q.stagedReplies.map f } : Port).view = q.view := by
  have hv : (q.stagedReplies.map f).map (·.verb) = q.stagedReplies.map (·.verb) := by
    rw [List.map_map]
    exact List.map_congr_left fun r _ => h r
  show { q.view with verbs := (q.stagedReplies.map f).map (·.verb) } = q.view
  rw [hv]
  rfl

theorem Port.amend_view (seq : BitVec 16) (st : Nat) (r : Bytes) (q : Port) : (q.amend seq st r).view = q.view :=
  q.mapReplies_view fun x => by split <;> rfl

theorem State.amend_commitView (s : State) (tk : Ticket) (st : Nat) (r : Bytes) : (s.amend tk st r).commitView = s.commitView :=
  s.onPort_commitView (Port.amend_view tk.seq st r) tk.port

theorem State.record_commitView (s : State) (c : RecClass) {typ : Nat} (b : Bytes) (n : Nat) (h : typ ≠ 0x64) :
    (s.record c typ b n).commitView = s.commitView := by
  have he : (s.record c typ b n).log.events = s.log.events := by
    simp only [State.record, Evidence.events]
    split
    · rw [List.filter_append, List.filter_singleton, beq_eq_false_iff_ne.mpr h, cond_false, List.append_nil]
    · rfl
  show { s.commitView with events := (s.record c typ b n).log.events } = s.commitView
  rw [he]
  rfl

theorem State.note_commitView (s : State) {typ : Nat} (b : Bytes) (h : typ ≠ 0x64) : (s.note typ b).commitView = s.commitView :=
  s.record_commitView .other b 0 h

theorem State.notify_commitView (s : State) (i : Nat) (r : Bytes) : (s.notify i r).commitView = s.commitView := by
  apply s.ports_commitView
  · dsimp only
    split <;> rfl
  · dsimp only
    split <;> rfl

/-! ### Keys -/

theorem State.commitEvict_commitView (tk : Ticket) (slot gen : Nat) (s : State) :
    (s.commitEvict tk slot gen).commitView = s.commitView := by
  rw [State.commitEvict]
  split
  · exact s.amend_commitView _ _ _
  · exact State.amend_commitView _ _ _ _

theorem State.commitDerive_commitView (tk : Ticket) (slot : Nat) (c : SlotKey) (s : State) :
    (s.commitDerive tk slot c).commitView = s.commitView := by
  rw [State.commitDerive]
  split
  · exact s.amend_commitView _ _ _
  · exact State.amend_commitView _ _ _ _

theorem KeyStore.setGens_work (l : List NodeGen) (ok : Bool) (k : KeyStore) : (k.setGens l ok).work = k.work := by
  simp only [KeyStore.setGens]
  split <;> rfl

theorem KeyStore.retireNode_work (l f a b n : Nat) (k : KeyStore) : (k.retireNode l f a b n).work = k.work :=
  k.setGens_work _ _

theorem State.setKs_commitView (s : State) {k : KeyStore} (h : k.work = s.ks.work) :
    ({ s with ks := k } : State).commitView = s.commitView := by
  show { s.commitView with keyWork := k.work } = s.commitView
  rw [h]
  rfl

theorem State.commitRetire_commitView (tk : Ticket) (l f a b : Nat) (v : Bool) (done : List (Nat × Nat × Nat × Nat)) (s : State) :
    (s.commitRetire tk l f a b v done).commitView = s.commitView := by
  rw [State.commitRetire]
  split
  · exact s.amend_commitView _ _ _
  · split
    · rw [State.amend_commitView]
      exact s.setKs_commitView (KeyStore.setGens_work _ _ _)
    · rw [State.amend_commitView, State.record_commitView _ _ _ _ (by decide)]
      exact s.setKs_commitView (KeyStore.retireNode_work _ _ _ _ _ _)

theorem State.commitLoad_commitView (gone : List (Nat × Nat × Nat × Nat)) (tk : Ticket) (host : Bool) (sp : Bytes) (slot : Nat)
    (key : Bytes) (late : Bool) (s : State) : (s.commitLoad gone tk host sp slot key late).commitView = s.commitView := by
  simp only [State.commitLoad]
  split
  · exact s.amend_commitView _ _ _
  · split
    · split
      · exact s.amend_commitView _ _ _
      · exact State.amend_commitView _ _ _ _
    · split
      · split
        · rw [State.amend_commitView]
          exact State.onPorts_commitView (fun _ => rfl) _
        · exact s.amend_commitView _ _ _
      · exact s.amend_commitView _ _ _

theorem State.commitSlots_commitView (gone : List (Nat × Nat × Nat × Nat)) (ws : List KeyWork) (s : State) :
    (State.commitSlots gone ws s).commitView = s.commitView := by
  induction ws generalizing s with
  | nil => rfl
  | cons w ws ih =>
    cases w with
    | load tk host sp slot key late => exact (ih _).trans (s.commitLoad_commitView gone tk host sp slot key late)
    | derive tk slot c => exact (ih _).trans (s.commitDerive_commitView tk slot c)
    | evict tk slot gen => exact (ih _).trans (s.commitEvict_commitView tk slot gen)
    | retire tk l f a b v => exact ih s

theorem State.commitRetires_commitView (ws : List KeyWork) (done : List (Nat × Nat × Nat × Nat)) (s : State) :
    (State.commitRetires ws done s).commitView = s.commitView := by
  induction ws generalizing done s with
  | nil => rfl
  | cons w ws ih =>
    cases w with
    | retire tk l f a b v => exact (ih _ _).trans (s.commitRetire_commitView tk l f a b v done)
    | load tk host sp slot key late => exact ih done s
    | derive tk slot c => exact ih done s
    | evict tk slot gen => exact ih done s

theorem State.commitKeys_commitView (s : State) : s.commitKeys.commitView = { s.commitView with keyWork := [] } := by
  rw [State.commitKeys]
  exact (State.setKs_commitView _ rfl).trans ((State.commitRetires_commitView _ _ _).trans (State.commitSlots_commitView _ _ _))

/-! ### The field port and the window -/

theorem FieldPort.setBody_work (b : PortRecord) (ok : Bool) (f : FieldPort) : (f.setBody b ok).work = f.work := by
  simp only [FieldPort.setBody]
  split <;> rfl

theorem FieldPort.setRecord_work (b : Bytes) (ok : Bool) (f : FieldPort) : (f.setRecord b ok).work = f.work := by
  simp only [FieldPort.setRecord]
  split
  · exact f.setBody_work _ ok
  · exact f.setBody_work _ ok

theorem FieldPort.setKey_work (b : Bytes) (ok : Bool) (f : FieldPort) : (f.setKey b ok).work = f.work :=
  f.setBody_work _ ok

theorem State.setFp_commitView (s : State) {f : FieldPort} (h : f.work = s.fp.work) :
    ({ s with fp := f } : State).commitView = s.commitView := by
  show { s.commitView with portWork := f.work } = s.commitView
  rw [h]
  rfl

theorem State.commitPortAux_commitView (all ws : List PortWork) (done : List (Nat × Nat × Bytes)) (s : State) :
    (State.commitPortAux all ws done s).1.commitView = s.commitView := by
  induction ws generalizing done s with
  | nil => rfl
  | cons w ws ih =>
    cases w with
    | read tk p n => exact (ih _ _).trans (s.amend_commitView _ _ _)
    | write tk p d k =>
      rw [State.commitPortAux]
      split
      · exact (ih _ _).trans (s.amend_commitView _ _ _)
      · exact (ih _ _).trans (s.amend_commitView _ _ _)
    | port tk b ok => exact (ih _ _).trans ((State.amend_commitView _ _ _ _).trans (s.setFp_commitView (FieldPort.setRecord_work b ok _)))
    | key tk b ok => exact (ih _ _).trans ((State.amend_commitView _ _ _ _).trans (s.setFp_commitView (FieldPort.setKey_work b ok _)))
    | query tk => exact ih _ _

theorem foldl_programmed_work (l : List (Nat × Nat × Bytes)) (f : FieldPort) :
    (l.foldl (fun (f : FieldPort) o =>
      { f with pages := setPage o.1 ((f.page o.1).program o.2.2 o.2.1 true true).1 f.pages }) f).work = f.work := by
  induction l generalizing f with
  | nil => rfl
  | cons o l ih => rw [List.foldl_cons, ih]

theorem State.commitPort_commitView (s : State) : s.commitPort.commitView = { s.commitView with portWork := [] } := by
  rw [State.commitPort]
  exact (State.setFp_commitView _ (foldl_programmed_work _ _)).trans (State.commitPortAux_commitView _ _ _ _)

theorem State.cfgAnswers_commitView (s : State) : s.cfgAnswers.commitView = s.commitView := by
  rw [State.cfgAnswers]
  refine foldl_commitView (fun s x => ?_) _ s
  cases x with
  | cfg n t ctl _ _ _ _ _ => exact s.onPorts_commitView fun q => q.mapReplies_view fun r => by split <;> rfl
  | poke _ _ _ _ => rfl

/-- The view without the window writes that wait. -/
def State.writtenView (s : State) : CommitView := { s.commitView with writes := [] }

theorem State.onPort_writtenView {f : Port → Port} (h : ∀ q, (f q).view = q.view) (s : State) (p : PortId) :
    (s.onPort p f).writtenView = s.writtenView := by
  rw [State.writtenView, s.onPort_commitView h]
  rfl

theorem State.writeCycle_commitView (s : State) : s.writeCycle.commitView = { s.commitView with writes := [] } := by
  rw [State.writeCycle]
  refine foldl_keeps State.writtenView (fun s x => ?_) _ s
  cases x with
  | cfg _ t c a p per cmp cnt => rfl
  | poke _ p addr words =>
    refine (State.onPort_writtenView ?_ _ p).trans ?_
    · exact fun _ => rfl
    · rfl

theorem State.readEffects_commitView (s : State) : s.readEffects.commitView = s.commitView := by
  rw [State.readEffects]
  refine foldl_commitView (fun s l => ?_) s.win.latchLoads s
  apply State.onPort_commitView
  exact fun _ => rfl

/-! ### Notes, tamper events, records -/

theorem State.releaseReserved_commitView (s : State) : s.releaseReserved.commitView = s.commitView := by rfl

theorem State.publishNotes_commitView (s : State) :
    s.publishNotes.commitView = { s.commitView with cell := { s.cell with notes := [] } } := by
  rw [State.publishNotes]
  exact foldl_commitView (fun s b => s.note_commitView b (by decide)) _ _

theorem State.tamperNotice_commitView (s : State) (e : Nat × Nat × Nat × Nat × Nat × Nat) :
    (s.tamperNotice e).commitView = s.commitView := s.notify_commitView 6 _

/-- The view without the tamper events that wait and their records. -/
def State.quietView (s : State) : CommitView := { s.commitView with due := [], events := 0 }

theorem State.commitView_of_quiet {t : State} {v : CommitView} (h : t.quietView = { v with due := [], events := 0 }) :
    t.commitView = { v with due := t.tamper.due, events := t.log.events } :=
  congrArg (fun v => { v with due := t.tamper.due, events := t.log.events }) h

theorem State.tamperNotice_quietView (s : State) (e : Nat × Nat × Nat × Nat × Nat × Nat) :
    (s.tamperNotice e).quietView = s.quietView :=
  congrArg (fun v => { v with due := [], events := 0 }) (s.tamperNotice_commitView e)

theorem State.tamperRecord_quietView (s : State) (e : Nat × Nat × Nat × Nat × Nat × Nat) :
    (s.tamperRecord e).quietView = s.quietView := by rfl

theorem State.publishTamper_quietView (s : State) : s.publishTamper.quietView = s.quietView := by
  rw [State.publishTamper]
  split
  · rfl
  · split
    · exact foldl_keeps State.quietView State.tamperNotice_quietView _ _
    · exact foldl_keeps State.quietView State.tamperRecord_quietView _ _

theorem Evidence.appendAll_commitTick (t : Nat) (d : Bool) (ws : List Waiting) (e : Evidence) :
    (Evidence.appendAll t d ws e).commitTick = e.commitTick := by
  induction ws generalizing e with
  | nil => rfl
  | cons w ws ih => exact ih _

theorem State.eventsAppended_quietView (s : State) (k : Nat) : (s.eventsAppended k).quietView = s.quietView := by
  rw [State.eventsAppended]
  exact foldl_keeps State.quietView State.tamperNotice_quietView _ _

theorem State.setLog_quietView (s : State) {e : Evidence} {f : FieldPort} (h : f.work = s.fp.work) :
    ({ s with log := e, fp := f } : State).quietView = { s.quietView with commitTick := e.commitTick } := by
  show { s.quietView with commitTick := e.commitTick, portWork := f.work } = _
  rw [h]
  rfl

theorem State.publishRecords_quietView (s : State) : s.publishRecords.quietView = { s.quietView with commitTick := s.tick } := by
  have hlog : ∀ e, (Evidence.commit s.tick s.degraded e).commitTick = s.tick := fun e => Evidence.appendAll_commitTick _ _ _ _
  refine (State.eventsAppended_quietView _ _).trans ((s.setLog_quietView ?_).trans ?_)
  · rfl
  · rw [hlog]

/-- A seed instantiated in the tick is in use behind its commit phase (R322). -/
theorem State.publishSeed_commitView (s : State) : ({ s with rng := s.rng.publishSeed } : State).commitView =
    { s.commitView with seed := (none, s.rng.seedTick.isSome || s.rng.seeded) } := by
  cases h : s.rng.seedTick with
  | none => simp [State.commitView, Rng.publishSeed, h]
  | some t => simp [State.commitView, Rng.publishSeed, h]

/-! ### The commit phase as a whole -/

theorem Port.view_verbs {q : Port} {r : Staged} (h : r ∈ q.stagedReplies) : r.verb ∈ q.view.verbs :=
  List.mem_map_of_mem h

theorem State.not_answers {s : State} {verb : Nat} (ha : verb ∉ s.portA.view.verbs) (hb : verb ∉ s.portB.view.verbs) :
    s.answers verb = false := by
  have hq : ∀ q : Port, verb ∉ q.view.verbs →
      (q.stagedReplies.any fun r => r.admitted && r.verb == verb && r.status == 0) = false := fun q hv => by
    rw [List.any_eq_false]
    intro r hr h
    simp only [Bool.and_eq_true, beq_iff_eq] at h
    exact hv (h.1.2 ▸ Port.view_verbs hr)
  simp only [State.answers]
  rw [hq _ ha, hq _ hb]
  rfl

/-- The commit phase up to the publication of SLEEP. -/
def State.effectsBefore (s : State) : State :=
  let s1 := s.releaseReserved.publishNotes.commitKeys.commitPort.cfgAnswers.writeCycle.readEffects
  { s1 with rng := s1.rng.publishSeed }

theorem State.effectsBefore_commitView (s : State) : s.effectsBefore.commitView =
    { s.commitView with
      cell := { s.cell with notes := [] }, keyWork := [], portWork := [], writes := []
      seed := (none, s.rng.seedTick.isSome || s.rng.seeded) } := by
  have h : (s.releaseReserved.publishNotes.commitKeys.commitPort.cfgAnswers.writeCycle.readEffects).commitView =
      { s.commitView with cell := { s.cell with notes := [] }, keyWork := [], portWork := [], writes := [] } := by
    rw [State.readEffects_commitView, State.writeCycle_commitView, State.cfgAnswers_commitView, State.commitPort_commitView,
      State.commitKeys_commitView, State.publishNotes_commitView]
    rfl
  have hs := congrArg CommitView.seed h
  rw [State.effectsBefore, State.publishSeed_commitView, h]
  obtain ⟨hs, hs'⟩ := Prod.mk.inj hs
  rw [hs, hs']

theorem State.commitEffects_eq (s : State) : s.commitEffects = s.effectsBefore.sleepIfDone.publishTamper.publishRecords := rfl

/-- Without a SLEEP to publish, a commit phase takes its work, its notes and its seed, and keeps all else of the view. -/
theorem State.commitEffects_commitView {s : State} (ha : 0x08 ∉ s.portA.view.verbs) (hb : 0x08 ∉ s.portB.view.verbs) :
    s.commitEffects.commitView =
      { s.commitView with
        cell := { s.cell with notes := [] }, keyWork := [], portWork := [], writes := [], commitTick := s.tick
        seed := (none, s.rng.seedTick.isSome || s.rng.seeded), due := s.commitEffects.tamper.due
        events := s.commitEffects.log.events } := by
  have hv := s.effectsBefore_commitView
  rw [State.commitEffects_eq]
  generalize s.effectsBefore = x at hv ⊢
  have hpa : x.portA.view = s.portA.view := congrArg CommitView.portA hv
  have hpb : x.portB.view = s.portB.view := congrArg CommitView.portB hv
  have ht : x.tick = s.tick := congrArg CommitView.tick hv
  have hn : x.answers 0x08 = false := State.not_answers (hpa ▸ ha) (hpb ▸ hb)
  have hq : x.publishTamper.tick = x.tick := congrArg CommitView.tick x.publishTamper_quietView
  rw [State.sleepIfDone, hn, if_neg Bool.false_ne_true]
  have hp : x.publishTamper.publishRecords.quietView = { x.quietView with commitTick := s.tick } := by
    rw [State.publishRecords_quietView, State.publishTamper_quietView, hq, ht]
  rw [State.commitView_of_quiet (v := { x.commitView with commitTick := s.tick }) hp, hv]

/-! ### What the hosts are shown -/

theorem Staged.grade_verb (d : Bool) (r : Staged) : (r.grade d).verb = r.verb := by
  rw [Staged.grade]
  split <;> rfl

theorem State.refreshReply_verb (s : State) (r : Staged) : (s.refreshReply r).verb = r.verb := by
  rw [State.refreshReply]
  split <;> rfl

theorem State.raise_commitView (i : Nat) (s : State) : (s.raise i).commitView = s.commitView :=
  s.onPorts_commitView fun _ => rfl

theorem State.settleFlags_commitView (s : State) : s.settleFlags.commitView = s.commitView := by
  unfold State.settleFlags
  extract_lets f s1 power s2
  have h1 : s1.commitView = s.commitView := by
    simp only [s1]
    split
    · exact s.raise_commitView 7
    · rfl
  have h2 : s2.commitView = s1.commitView := by
    simp only [s2]
    split <;> rfl
  exact h2.trans h1

theorem State.firstPublished_commitView (s : State) : s.firstPublished.commitView = s.commitView := by
  rw [State.firstPublished]
  show (if s.power.firstCommit then s.raise 15 else s).commitView = s.commitView
  split
  · exact s.raise_commitView 15
  · rfl

/-- The replies as the ports publish them. -/
def State.reported (s : State) : State :=
  (s.setFlags.onPorts Port.returnCredits).refreshReplies.settleFlags.firstPublished.gradeReplies.lostSeals

theorem State.reported_commitView (s : State) : s.reported.commitView = s.commitView := by
  have h1 : (s.setFlags.onPorts Port.returnCredits).refreshReplies.commitView = s.commitView :=
    (State.onPorts_commitView (fun q => q.mapReplies_view (State.refreshReply_verb _)) _).trans
      (State.onPorts_commitView (fun _ => rfl) s.setFlags)
  have h2 : (s.setFlags.onPorts Port.returnCredits).refreshReplies.settleFlags.firstPublished.commitView = s.commitView :=
    (State.firstPublished_commitView _).trans ((State.settleFlags_commitView _).trans h1)
  have h3 : (s.setFlags.onPorts Port.returnCredits).refreshReplies.settleFlags.firstPublished.gradeReplies.commitView =
      s.commitView := (State.onPorts_commitView (fun q => q.mapReplies_view fun r => r.grade_verb _) _).trans h2
  refine (State.onPorts_commitView (fun q => q.mapReplies_view fun r => ?_) _).trans h3
  split <;> rfl

theorem State.commitReports_eq (s : State) : s.commitReports = { s.reported.publishPorts.noteGraded with
    lanes := { s.reported.publishPorts.noteGraded.lanes with handoverMask := 0 } } := rfl

theorem State.noteGraded_commitView (s : State) : s.noteGraded.commitView = s.commitView := by rfl

theorem State.clearMask_commitView (s : State) : ({ s with lanes := { s.lanes with handoverMask := 0 } } : State).commitView =
    s.commitView := by rfl

/-- Before READY a commit phase shows the hosts nothing (R410). -/
theorem State.commitReports_waiting {s : State} (h : s.power.readyDue.isSome = true) :
    s.commitReports.commitView = s.commitView := by
  have hv := s.reported_commitView
  rw [State.commitReports_eq, State.clearMask_commitView, State.noteGraded_commitView]
  generalize s.reported = x at hv ⊢
  have hr : x.power.readyDue = s.power.readyDue := congrArg CommitView.readyDue hv
  rw [State.publishPorts, if_pos (hr ▸ h), hv]

end Sys2Proof.Machine
end

section
/-! What READY waits for, and what the hosts are shown before and after it (R78, R407 to R410). -/

namespace Sys2Proof.Machine

open Sys2Proof

theorem State.publishRecords_due {s : State} (h : s.log.events = 0) : s.publishRecords.tamper.due = s.tamper.due := by
  have he : ∀ (x : State), (x.eventsAppended 0).tamper.due = x.tamper.due := fun _ => rfl
  have hk : ∀ n, s.log.events - n = 0 := fun n => by rw [h, Nat.zero_sub]
  simp only [State.publishRecords, State.appending, hk, he]

/-- Before READY, without a record of a tamper event that waits, the notices of tamper events wait (R361, R410). -/
theorem State.commitEffects_due {s : State} (ha : 0x08 ∉ s.portA.view.verbs) (hb : 0x08 ∉ s.portB.view.verbs)
    (hr : s.power.readyDue.isSome = true) (h : s.log.events = 0) : s.commitEffects.tamper.due = s.tamper.due := by
  have hv := s.effectsBefore_commitView
  rw [State.commitEffects_eq]
  generalize s.effectsBefore = x at hv ⊢
  have hpa : x.portA.view = s.portA.view := congrArg CommitView.portA hv
  have hpb : x.portB.view = s.portB.view := congrArg CommitView.portB hv
  have hd : x.power.readyDue = s.power.readyDue := congrArg CommitView.readyDue hv
  have hn : x.answers 0x08 = false := State.not_answers (hpa ▸ ha) (hpb ▸ hb)
  rw [State.sleepIfDone, hn, if_neg Bool.false_ne_true, State.publishTamper, if_pos (hd ▸ hr)]
  exact (State.publishRecords_due ((congrArg CommitView.events hv).trans h)).trans (congrArg CommitView.due hv)

/-- What READY looks at, and the hosts' supply (R400, R409). -/
def State.dueView (s : State) : Option Nat × Nat × Bool × Bool × Bool :=
  (s.power.readyDue, s.tick, s.tamper.hold, s.portA.vioLow, s.portB.vioLow)

theorem State.dueView_of {s t : State} (h : t.quietView = s.quietView) : t.dueView = s.dueView :=
  congrArg (fun v => (v.readyDue, v.tick, v.hold, v.portA.vioLow, v.portB.vioLow)) h

theorem Port.foldl_dropSpore_vioLow (e : Nat) (l : List Ident) (q : Port) :
    (l.foldl (fun q i => q.dropSpore i e) q).vioLow = q.vioLow :=
  foldl_keeps Port.vioLow (fun q i => show (q.dropSpore i e).vioLow = q.vioLow from rfl) l q

theorem State.dropRequest_dueView (s : State) (e : Nat) : (s.dropRequest e).dueView = s.dueView := by
  simp only [State.dropRequest, State.dueView, State.onPorts]
  rw [Port.foldl_dropSpore_vioLow, Port.foldl_dropSpore_vioLow]

theorem State.release_dueView (s : State) (b : Booking) : (s.release b).dueView = s.dueView := by
  have hs : (if b.phase = .booked then s else (s.dropRequest b.engine).undrive b).dueView = s.dueView := by
    split
    · rfl
    · exact s.dropRequest_dueView b.engine
  exact hs

theorem State.sleepIfDone_dueView (s : State) : s.sleepIfDone.dueView = s.dueView := by
  rw [State.sleepIfDone]
  split
  · have hfold := foldl_keeps State.dueView State.release_dueView ((s.onPorts Port.sleeps).dropStages.field.bookings.filter
      Booking.isPoll) (s.onPorts Port.sleeps).dropStages
    obtain ⟨-, hrest⟩ := Prod.mk.inj hfold
    exact Prod.ext rfl hrest
  · rfl

/-- The part of the view that READY looks at. -/
def CommitView.readyPart (v : CommitView) : Option Nat × Nat × Bool × Bool × Bool :=
  (v.readyDue, v.tick, v.hold, v.portA.vioLow, v.portB.vioLow)

theorem State.dueView_eq (s : State) : s.dueView = s.commitView.readyPart := rfl

theorem State.commitEffects_dueView (s : State) : s.commitEffects.dueView = s.dueView := by
  have h2 : ∀ x : State, x.publishRecords.dueView = x.dueView := fun x => congrArg CommitView.readyPart x.publishRecords_quietView
  rw [State.commitEffects_eq, h2, State.dueView_of (State.publishTamper_quietView _), State.sleepIfDone_dueView, State.dueView_eq,
    State.effectsBefore_commitView]
  rfl

theorem Port.promote_newEvents (q : Port) : q.promote.newEvents = q.newEvents := by
  rw [Port.promote]
  split <;> rfl

/-- What is published is formed from the port whose new session is current and whose ended requests have left their stores. -/
theorem Port.publishFrames_formed (tick : Nat) (degraded : Bool) (q : Port) : ∃ rs spores no lost ev,
    q.publishFrames tick degraded =
      { Port.formAll tick degraded rs q.promote.withdraw with
        spores := spores, stagedReplies := [], stagedNotices := [], stagedSpores := [], noticeNo := no, newLost := lost
        newEvents := (Port.formAll tick degraded rs q.promote.withdraw).newEvents ||| ev } :=
  ⟨_, _, _, _, _, rfl⟩

theorem Port.formAll_newEvents (tick : Nat) (degraded : Bool) (l : List Staged) (q : Port) :
    (Port.formAll tick degraded l q).newEvents = q.newEvents := by
  rw [Port.formAll_keeps]

/-- An event set in a tick stands in the cause word its commit phase publishes (R78, R79). -/
theorem Port.published_event {enable : BitVec 16} {tamper degraded graded : Bool} {tick : Nat} {q : Port} {i : Nat}
    (h : q.newEvents.getLsbD i = true) :
    ((q.publishFrames tick graded).publishCause enable tamper degraded).cause.getLsbD i = true := by
  obtain ⟨rs, spores, no, lost, ev, hq⟩ := q.publishFrames_formed tick graded
  have he : (q.publishFrames tick graded).newEvents.getLsbD i = true := by
    rw [hq]
    simp only [Port.formAll_newEvents, Port.withdraw, Port.promote_newEvents, BitVec.getLsbD_or, h, Bool.true_or]
  have hev : ((q.publishFrames tick graded).publishCause enable tamper degraded).events.getLsbD i = true := by
    simp only [Port.publishCause, BitVec.getLsbD_or, he, Bool.or_true]
  rw [Port.getLsbD_cause, hev, Bool.true_or]

theorem State.settleFlags_firstCommit (s : State) : s.settleFlags.power.firstCommit = s.power.firstCommit := by
  unfold State.settleFlags
  extract_lets f s1 power s2
  have h2 : s2.power.firstCommit = s1.power.firstCommit := by
    simp only [s2]
    split <;> rfl
  refine h2.trans ?_
  simp only [s1]
  split <;> rfl

theorem State.firstPublished_raises {s : State} (h : s.power.firstCommit = true) (p : PortId) :
    (s.firstPublished.port p).newEvents.getLsbD 15 = true := by
  rw [State.firstPublished, if_pos h]
  cases p <;> simp [State.port, State.raise, State.onPorts, Port.raise, bitAt]

theorem State.gradeReplies_newEvents (s : State) (p : PortId) : (s.gradeReplies.port p).newEvents = (s.port p).newEvents := by
  cases p <;> rfl

theorem State.lostSeals_newEvents (s : State) (p : PortId) : (s.lostSeals.port p).newEvents = (s.port p).newEvents := by
  cases p <;> rfl

theorem State.refreshReplies_power (s : State) : s.refreshReplies.power = s.power := by rfl

/-- The cause BOOT comes with the first commit phase after READY (R78). -/
theorem State.reported_raises {u : State} (h : u.power.firstCommit = true) (p : PortId) :
    (u.reported.port p).newEvents.getLsbD 15 = true := by
  rw [State.reported, State.lostSeals_newEvents, State.gradeReplies_newEvents]
  refine State.firstPublished_raises ?_ p
  rw [State.settleFlags_firstCommit, State.refreshReplies_power]
  exact h

theorem State.readyIfDue_waits {s : State} {d : Nat} (hd : s.power.readyDue = some d) (h : s.tick < d) : s.readyIfDue = s := by
  rw [State.readyIfDue, hd, Option.any_some, if_neg (by simpa using h)]

theorem State.readyIfDue_sets {s : State} {d : Nat} (hd : s.power.readyDue = some d) (h : d ≤ s.tick) :
    s.readyIfDue = s.readySets := by
  rw [State.readyIfDue, hd, Option.any_some, if_pos (by simpa using h)]

/-- No reply of SLEEP is staged on either port. -/
theorem State.no_sleep {s : State} (h : ∀ p, ∀ r ∈ (s.port p).stagedReplies, r.verb ≠ 0x08) :
    0x08 ∉ s.portA.view.verbs ∧ 0x08 ∉ s.portB.view.verbs := by
  refine ⟨fun hm => ?_, fun hm => ?_⟩
  · obtain ⟨r, hr, hv⟩ := List.mem_map.mp hm
    exact h .a r hr hv
  · obtain ⟨r, hr, hv⟩ := List.mem_map.mp hm
    exact h .b r hr hv

theorem State.port_view_of {s t : State} (h : t.commitView = s.commitView) (p : PortId) : (t.port p).view = (s.port p).view := by
  cases p
  · exact congrArg CommitView.portA h
  · exact congrArg CommitView.portB h

theorem stageSevenEndsInReady : Claim.StageSevenEndsInReady := by
  intro s d hd
  have hdue := s.commitEffects_dueView
  have hshown : s.publish = s.commitEffects.commitReports.readyIfDue := rfl
  have heffects := fun h => State.commitEffects_commitView (State.no_sleep (s := s) h).1 (State.no_sleep h).2
  have hnotices := fun h => State.commitEffects_due (State.no_sleep (s := s) h).1 (State.no_sleep h).2 (by rw [hd]; rfl)
  dsimp only
  rw [hshown]
  generalize s.commitEffects = x at hdue heffects hnotices ⊢
  have hx : x.power.readyDue = some d := (congrArg (·.1) hdue).trans hd
  have hreports : x.commitReports.commitView = x.commitView := State.commitReports_waiting (by rw [hx]; rfl)
  generalize x.commitReports = y at hreports ⊢
  have hy : y.power.readyDue = some d := (congrArg CommitView.readyDue hreports).trans hx
  have hydue : y.dueView = s.dueView := (congrArg CommitView.readyPart hreports).trans hdue
  simp only [State.dueView, Prod.mk.injEq] at hydue
  obtain ⟨-, htick, hhold, hvioA, hvioB⟩ := hydue
  refine ⟨fun h => ?_, fun h hverbs => ?_, fun u hu hf => ?_⟩
  · rw [State.readyIfDue_sets hy (htick ▸ h)]
    refine ⟨rfl, rfl, hhold ▸ rfl, fun p => ?_⟩
    cases p
    · exact ⟨rfl, rfl, hvioA⟩
    · exact ⟨rfl, rfl, hvioB⟩
  · rw [State.readyIfDue_waits hy (htick ▸ h)]
    refine ⟨hy, fun hw => ?_, fun p => ?_⟩
    · refine (congrArg CommitView.due hreports).trans (hnotices hverbs ?_)
      simpa [Evidence.events] using hw
    · have hp : (y.port p).view = (s.port p).view := by
        rw [State.port_view_of hreports p]
        cases p
        · exact congrArg CommitView.portA (heffects hverbs)
        · exact congrArg CommitView.portB (heffects hverbs)
      exact ⟨congrArg PortView.ready hp, congrArg PortView.general hp, congrArg PortView.cause hp, congrArg PortView.irq hp⟩
  · have hv := u.reported_commitView
    have hr := State.reported_raises hf
    have hfirst : u.reported.power.firstCommit = false := rfl
    rw [State.commitReports_eq]
    generalize u.reported = z at hv hr hfirst ⊢
    have hz : z.power.readyDue.isSome = false := by
      rw [show z.power.readyDue = u.power.readyDue from congrArg CommitView.readyDue hv, hu]; rfl
    rw [State.publishPorts, if_neg (by rw [hz]; exact Bool.false_ne_true)]
    refine ⟨hfirst, fun p => ?_⟩
    cases p
    · exact Port.published_event (hr .a)
    · exact Port.published_event (hr .b)

end Sys2Proof.Machine
end

section
/-! BOOT, by a view of what its services leave alone: the tests of the stages, the banks in force, the outcome (R402 to R412). -/

namespace Sys2Proof.Machine

open Sys2Proof

/-- The banks of a kind without what BANK records have named of them (R334). -/
def Banks.plain (b : Banks) : Banks :=
  { b with bank0 := { b.bank0 with noted := false }, bank1 := { b.bank1 with noted := false } }

/-- What the boot settles before its services begin, and they leave alone (R402 to R412). -/
structure BootView where
  life : Life
  crozier : Nat
  readyDue : Option Nat
  bootCount : Nat
  bootCause : Nat
  nextCause : Nat
  tick : Nat
  causes : Nat × Nat
  cell : CellState
  hold : Bool
  rhizome : Option Bytes × Bool
  cfg : Banks
  thal : Banks
  dir : List (Nat × Entry)
  ready : Bool × Bool

def State.bootView (s : State) : BootView :=
  { life := s.power.life, crozier := s.power.crozier, readyDue := s.power.readyDue, bootCount := s.power.bootCount
    bootCause := s.power.bootCause, nextCause := s.power.nextCause, tick := s.tick
    causes := (s.lanes.causeA, s.lanes.causeB), cell := s.cell.state
    hold := s.tamper.hold, rhizome := (s.ks.rhizome, s.ks.erased), cfg := s.cfg.plain, thal := s.thal.plain, dir := s.dir
    ready := (s.portA.ready, s.portB.ready) }

@[simp] theorem Banks.plain_fresh (b : Banks) (n0 n1 : Bool) :
    Banks.plain { b with bank0 := { b.bank0 with noted := n0 }, bank1 := { b.bank1 with noted := n1 } } = b.plain := by rfl

@[simp] theorem bootView_ite (c : Prop) [Decidable c] (s t : State) :
    (if c then s else t).bootView = if c then s.bootView else t.bootView := apply_ite ..

theorem foldl_bootView {α : Type} {f : State → α → State} (h : ∀ s a, (f s a).bootView = s.bootView) (l : List α) (s : State) :
    (l.foldl f s).bootView = s.bootView := foldl_keeps State.bootView h l s

@[simp] theorem State.note_bootView (s : State) (typ : Nat) (b : Bytes) : (s.note typ b).bootView = s.bootView := by rfl

@[simp] theorem State.push_bootView (s : State) (a : Act) : (s.push a).bootView = s.bootView := by rfl

@[simp] theorem State.drew_bootView (s : State) : s.drew.bootView = s.bootView := by rfl

theorem State.notify_ready (s : State) (i : Nat) (r : Bytes) (p : PortId) : ((s.notify i r).port p).ready = (s.port p).ready := by
  cases p
  · exact (apply_ite Port.ready ..).trans (ite_self _)
  · exact (apply_ite Port.ready ..).trans (ite_self _)

@[simp] theorem State.notify_bootView (s : State) (i : Nat) (r : Bytes) : (s.notify i r).bootView = s.bootView := by
  have ha := s.notify_ready i r .a
  have hb := s.notify_ready i r .b
  simp only [State.bootView]
  congr 1
  exact Prod.ext ha hb

/-! ### Motion -/

@[simp] theorem State.odoNote_bootView (s : State) (r a b : Nat) : (s.odoNote r a b).bootView = s.bootView := by rfl

@[simp] theorem State.odoCount_bootView (s : State) (k : Nat) : (s.odoCount k).bootView = s.bootView := by
  unfold State.odoCount
  extract_lets n old s1 s2 step
  have hs : s2.bootView = s.bootView := by
    simp only [s2, bootView_ite, State.push_bootView]
    exact ite_self _
  rw [foldl_bootView fun s _ => s.odoNote_bootView 1 0 0, hs]

@[simp] theorem State.speedEdge_bootView (s : State) (n c h : Nat) : (s.speedEdge n c h).bootView = s.bootView := by
  simp only [State.speedEdge]
  split
  · split
    · rw [State.odoCount_bootView]; rfl
    · rfl
  · rfl

@[simp] theorem State.motionEvent_bootView (s : State) (e : MotionEvent) : (s.motionEvent e).bootView = s.bootView := by
  cases e with
  | edge n c h => exact s.speedEdge_bootView n c h
  | level n l h => exact (bootView_ite ..).trans (ite_self _)
  | count n c => exact (bootView_ite ..).trans (ite_self _)
  | linked c => rfl

theorem State.withTick_bootView (s : State) (t : Nat) : ({ s with tick := t } : State).bootView = { s.bootView with tick := t } := by
  rfl

theorem foldl_withTick_bootView {α : Type} (tick : State → α → Nat) (f : State → α → State)
    (hf : ∀ s a, (f s a).bootView = s.bootView) (l : List α) (s : State) :
    { (l.foldl (fun s a => f { s with tick := tick s a } a) s).bootView with tick := s.tick } = s.bootView := by
  suffices h : ∀ t, { (l.foldl (fun s a => f { s with tick := tick s a } a) s).bootView with tick := t } =
      { s.bootView with tick := t } from h _
  intro t
  induction l generalizing s with
  | nil => rfl
  | cons a l ih => rw [List.foldl_cons, ih, hf]; rfl

@[simp] theorem State.bootMotion_bootView (l : List MotionEvent) (s : State) : (s.bootMotion l).bootView = s.bootView := by
  unfold State.bootMotion
  extract_lets at_ s1
  rw [State.withTick_bootView]
  exact foldl_withTick_bootView (fun s e => s.power.startTick + at_ e / 25600) State.motionEvent State.motionEvent_bootView l s

@[simp] theorem State.episodeRecord_bootView (s : State) (i : Nat) (e : Episode) : (s.episodeRecord i e).bootView = s.bootView := by
  simp only [State.episodeRecord, State.note_bootView, bootView_ite, State.drew_bootView, ite_self]

@[simp] theorem State.episodeRecords_bootView (s : State) (n : Nat) : (s.episodeRecords n).bootView = s.bootView :=
  foldl_bootView (α := Episode × Nat) (fun s x => s.episodeRecord_bootView x.2 x.1) _ s

@[simp] theorem State.wakeMotion_bootView (s : State) : s.wakeMotion.bootView = s.bootView := by
  simp only [State.wakeMotion, bootView_ite, State.push_bootView, State.odoNote_bootView, State.odoCount_bootView,
    State.episodeRecords_bootView, ite_self]

@[simp] theorem State.afterWake_bootView (s : State) (c : Bool) : (s.afterWake c).bootView = s.bootView := by
  simp only [State.afterWake]
  split <;> rfl

/-! ### Inputs and bridges -/

@[simp] theorem State.inputSeen_bootView (s : State) (t : Nat) (x : InputPin) (v : Bool) :
    (s.inputSeen t x v).1.bootView = s.bootView := by
  cases x <;> rfl

@[simp] theorem State.inputChanged_bootView (s : State) (x : InputPin) (v : Bool) : (s.inputChanged x v).bootView = s.bootView := by
  cases x with
  | ign => exact (bootView_ite ..).trans (ite_self _)
  | start => exact (bootView_ite ..).trans (ite_self _)
  | door n => rfl
  | wake => rfl

@[simp] theorem State.sampleInput_bootView (t : Nat) (s : State) (x : InputPin × Bool) :
    (s.sampleInput t x).bootView = s.bootView := by
  simp only [State.sampleInput, bootView_ite, State.inputChanged_bootView, State.inputSeen_bootView, ite_self]

@[simp] theorem State.bootInputs_bootView (n : Nat) (l : List (InputPin × List Bool)) (s : State) :
    (s.bootInputs n l).bootView = s.bootView :=
  foldl_bootView (fun _ _ => foldl_bootView (State.sampleInput_bootView _) _ _) _ s

@[simp] theorem State.onChannel_bootView (s : State) (n : Nat) (f : Channel → Channel) :
    (s.onChannel n f).bootView = s.bootView := by rfl

@[simp] theorem State.onBookings_bootView (s : State) (p : Booking → Bool) (f : Booking → Booking) :
    (s.onBookings p f).bootView = s.bootView := by rfl

@[simp] theorem State.rescale_bootView (s : State) (ss : Nat) (p : Booking → Bool) : (s.rescale ss p).bootView = s.bootView := by
  rw [State.rescale, State.onBookings_bootView]
  exact foldl_bootView (fun s (b : Booking) => foldl_bootView (fun s (x : Nat × Nat) => s.onChannel_bootView x.1 (Channel.scaled x.2 ss)) b.base s) _ s

@[simp] theorem State.thermal_bootView (t : Int) (s : State) : (s.thermal t).bootView = s.bootView := by
  unfold State.thermal
  extract_lets off s1
  have hs : s1.bootView = s.bootView := by
    simp only [s1, bootView_ite, State.rescale_bootView, ite_self]
  exact hs

/-! ### Cores, banks, records -/

@[simp] theorem State.fenceAes_bootView (s : State) (n c : Nat) : (s.fenceAes n c).bootView = s.bootView :=
  (bootView_ite ..).trans (ite_self _)

@[simp] theorem State.dropEcc_bootView (s : State) (n c : Nat) : (s.dropEcc n c).bootView = s.bootView :=
  (bootView_ite ..).trans (ite_self _)

theorem State.setBanks_bootView (s : State) (k : BankKind) {b : Banks} (h : b.plain = (s.banks k).plain) :
    (s.setBanks k b).bootView = s.bootView := by
  cases k <;> simp_all [State.setBanks, State.banks, State.bootView]

@[simp] theorem State.bankFound_bootView (k : BankKind) (s : State) : (s.bankFound k).bootView = s.bootView := by
  simp only [State.bankFound]
  split
  · rfl
  · split
    · split
      · rfl
      · exact s.setBanks_bootView k rfl
    · split
      · rfl
      · exact s.setBanks_bootView k rfl

@[simp] theorem State.bankAtBoot_bootView (k : BankKind) (s : State) : (s.bankAtBoot k).bootView = s.bootView := by
  rw [State.bankAtBoot, State.bankFound_bootView]
  exact s.setBanks_bootView k rfl

@[simp] theorem State.laneTestRecord_bootView (s : State) (l : LaneId) : (s.laneTestRecord l).bootView = s.bootView := by
  simp only [State.laneTestRecord, State.notify_bootView, State.note_bootView, State.drew_bootView]

@[simp] theorem State.journalWaits_bootView (s : State) : s.journalWaits.bootView = s.bootView :=
  foldl_bootView (fun s _ => s.note_bootView 0x40 []) _ s

@[simp] theorem State.genesis_bootView (s : State) : s.genesis.bootView = s.bootView := by rfl

@[simp] theorem State.bootRecord_bootView (s : State) (n : Nat) : (s.bootRecord n).bootView = s.bootView := by rfl

@[simp] theorem State.holdClears_bootView (s : State) : s.holdClears.bootView = s.bootView := (bootView_ite ..).trans (ite_self _)

@[simp] theorem State.recovers_bootView (s : State) : s.recovers.bootView = s.bootView := by
  unfold State.recovers
  split <;> rfl

@[simp] theorem State.writeLatch_bootView (s : State) : s.writeLatch.bootView = s.bootView := by rfl

@[simp] theorem State.readGens_bootView (l : List (Bool × Nat × Bytes)) (s : State) : (s.readGens l).bootView = s.bootView := by rfl

@[simp] theorem State.odoResume_bootView (s : State) : s.odoResume.bootView = s.bootView := by rfl

/-! ### The tests of a boot -/

/-- The root of secrets of `w` is that of `v`, or it has been erased since. -/
def BootView.Erases (v w : BootView) : Prop := w.rhizome = v.rhizome ∨ v.rhizome.1 ≠ none ∧ w.rhizome = (none, true)

theorem BootView.Erases.trans {u v w : BootView} (h : u.Erases v) (h' : v.Erases w) : u.Erases w := by
  obtain h | ⟨hs, h⟩ := h
  · simpa [BootView.Erases, h] using h'
  · refine .inr ⟨hs, ?_⟩
    obtain h' | ⟨hs', -⟩ := h'
    · rw [h', h]
    · exact absurd (by rw [h]) hs'

/-- From `s` to `t` tamper hold may have begun and the root of secrets been erased; nothing else of the view differs. -/
def State.Tested (s t : State) : Prop :=
  t.bootView = { s.bootView with hold := t.tamper.hold, rhizome := t.bootView.rhizome } ∧ s.bootView.Erases t.bootView

theorem State.Tested.of_bootView {s t : State} (h : t.bootView = s.bootView) : s.Tested t := by
  have hh : t.tamper.hold = s.bootView.hold := congrArg BootView.hold h
  exact ⟨by rw [hh, h], .inl (by rw [h])⟩

theorem State.Tested.refl (s : State) : s.Tested s := .of_bootView rfl

theorem State.Tested.trans {s t u : State} (h : s.Tested t) (h' : t.Tested u) : s.Tested u :=
  ⟨by rw [h'.1, h.1], h.2.trans h'.2⟩

theorem State.Tested.life {s t : State} (h : s.Tested t) : t.power.life = s.power.life := congrArg BootView.life h.1

theorem State.tested_eraseRoot (s : State) : s.Tested s.eraseRoot := by
  rw [State.eraseRoot]
  split
  · exact .refl s
  · next h => exact ⟨rfl, .inr ⟨by simpa [State.bootView] using h, rfl⟩⟩

/-- A tamper response of a device that starts: the erase of its level, and tamper hold (R354). -/
theorem State.tested_respond {s : State} (h : s.power.life = .starting) (level : Nat) : s.Tested (s.respond level) := by
  have he : s.Tested (if level = 3 then s.eraseRoot else s) := by
    split
    · exact s.tested_eraseRoot
    · exact .refl s
  simp only [State.respond, h]
  exact he.trans ⟨rfl, .inl rfl⟩

theorem State.tested_sourceSees {s : State} (h : s.power.life = .starting) (code : Nat) (c : TamperCondition) (n : Nat) :
    s.Tested (s.sourceSees code c n) := by
  rw [State.sourceSees]
  split
  · have hl : s.Tested (s.latchEvent code (entryLevel (s.entryFor code)) n) := .of_bootView rfl
    exact hl.trans (State.tested_respond (hl.life.trans h) _)
  · exact .refl s

theorem State.tested_bootTamper {s : State} (h : s.power.life = .starting) (l : List (TamperSource × TamperCondition)) :
    s.Tested (s.bootTamper l) := by
  induction l generalizing s with
  | nil => exact .refl s
  | cons x l ih =>
    have hx : s.Tested (if sourceCode x.1 = 9 then s else s.sourceSees (sourceCode x.1) x.2 0) := by
      split
      · exact .refl s
      · exact State.tested_sourceSees h _ _ _
    exact hx.trans (ih (hx.life.trans h))

theorem State.tested_owedErase (old s : State) : s.Tested (old.owedErase s) := by
  rw [State.owedErase]
  split
  · exact s.tested_eraseRoot
  · exact .refl s

theorem State.tested_rhizomeCheck (s : State) (ok : Bool) : s.Tested (s.rhizomeCheck ok) := by
  rw [State.rhizomeCheck]
  split
  · exact .refl s
  · exact s.tested_eraseRoot

theorem State.tested_storeTest {s : State} (h : s.power.life = .starting) (a b : Bool) : s.Tested (s.storeTest a b) := by
  rw [State.storeTest]
  split
  · have hl : s.Tested (s.latchEvent 9 (entryLevel (s.entryFor 9)) 0) := .of_bootView rfl
    exact hl.trans (State.tested_respond (hl.life.trans h) _)
  · exact .refl s

/-- The device once the banks are chosen, the root and the store tested, and the tamper latch written (R401, R407). -/
def State.checked (b : BootIn) (s : State) : State :=
  (((s.owedErase ((s.selectBanks b.damage).readGens b.gens)).rhizomeCheck b.rhizomeOk).odoResume.storeTest b.motionTagOk
    b.fieldTagOk).writeLatch

theorem State.tested_checked {s : State} (h : s.power.life = .starting) (b : BootIn) :
    (s.selectBanks b.damage).Tested (s.checked b) := by
  have h0 := State.tested_owedErase s ((s.selectBanks b.damage).readGens b.gens)
  have h1 := h0.trans (State.tested_rhizomeCheck _ b.rhizomeOk)
  have h2 : (s.selectBanks b.damage).Tested _ := (State.Tested.of_bootView (State.readGens_bootView b.gens _)).trans h1
  have h3 := h2.trans (.of_bootView (State.odoResume_bootView _))
  have hlife := h3.life.trans h
  exact (h3.trans (State.tested_storeTest hlife b.motionTagOk b.fieldTagOk)).trans (.of_bootView (State.writeLatch_bootView _))

/-! ### The services -/

theorem State.passTicks_bootView (s : State) (n : Nat) : (s.passTicks n).bootView = { s.bootView with tick := s.tick + n } := by rfl

theorem State.servicesBegin_bootView (n : Nat) (s : State) : (s.servicesBegin n).bootView =
    { s.bootView with
      life := .awake, crozier := if s.bootView.hold then 4 else 6, readyDue := some (s.bootView.tick + n) } := by rfl

/-- What follows the records of a boot: the clear and the recovery it asks for, the ticks it takes, and the services. -/
def State.served (b : BootIn) (s : State) : State :=
  (s.holdClears.recovers.passTicks b.ticks).servicesBegin b.stage7
    |>.bootInputs b.ticks b.inputs |>.bootMotion b.motion |>.thermal b.dieTemp

/-- Between the tests and the services a boot makes only its records. -/
theorem State.bootOn_served (b : BootIn) (la lb : Bool) (s : State) :
    ∃ x : State, x.bootView = (s.checked b).bootView ∧ s.bootOn b la lb = x.served b := by
  unfold State.bootOn
  extract_lets clamped s1 w confirmed power prot log field s2 s3 s4 s5 s6 s7 s8 s9
  refine ⟨_, ?_, rfl⟩
  have h2 : s2.bootView = (s.checked b).bootView := rfl
  have h3 : s3.bootView = (s.checked b).bootView := by
    simp only [s3, State.bootRecord_bootView, bootView_ite, State.genesis_bootView, h2, ite_self]
  have h4 : s4.bootView = (s.checked b).bootView := by
    simp only [s4, State.afterWake_bootView, State.wakeMotion_bootView, bootView_ite, h3, ite_self]
  have h5 : s5.bootView = (s.checked b).bootView := (foldl_bootView (fun s n => s.fenceAes_bootView n 3) _ _).trans h4
  have h6 : s6.bootView = (s.checked b).bootView := (foldl_bootView (fun s n => s.dropEcc_bootView n 3) _ _).trans h5
  have h9 : s9.bootView = (s.checked b).bootView := by
    simp only [s9, s8, s7, State.journalWaits_bootView, bootView_ite, State.laneTestRecord_bootView, State.bankAtBoot_bootView, h6,
      ite_self]
  exact h9

/-- Stage 6 ends with the device awake and READY due (R407, R409). -/
theorem State.served_bootView (b : BootIn) (s : State) : (s.served b).bootView =
    { s.bootView with
      tick := s.tick + b.ticks, life := .awake, crozier := if s.tamper.hold then 4 else 6
      readyDue := some (s.tick + b.ticks + b.stage7) } := by
  rw [State.served, State.thermal_bootView, State.bootMotion_bootView, State.bootInputs_bootView, State.servicesBegin_bootView,
    State.passTicks_bootView, State.recovers_bootView, State.holdClears_bootView, show State.tick _ = s.tick from
      congrArg BootView.tick (s.holdClears.recovers_bootView.trans s.holdClears_bootView)]
  rfl

/-! ### The banks in force -/

/-- A valid bank with the greater SEQ is in force, the default without a valid one (R332, R335). -/
def Banks.Chosen (dflt : Mem) (b : Banks) : Prop :=
  (b.current = true → (b.bank0.cond = .valid ∧ b.cur = b.bank0.img) ∨ (b.bank1.cond = .valid ∧ b.cur = b.bank1.img)) ∧
    (b.current = false → b.cur = dflt ∧ b.bank0.cond ≠ .valid ∧ b.bank1.cond ≠ .valid) ∧
    (b.bank0.cond = .valid → b.bank1.cond = .valid → serialNewer 32 b.bank1.seq b.bank0.seq = true → b.cur = b.bank1.img)

theorem Banks.chosen_select (dflt : Mem) (b : Banks) : (b.select dflt).Chosen dflt := by
  unfold Banks.select
  generalize hs : serialNewer 32 b.bank1.seq b.bank0.seq = newer
  split
  case h_1 h0 h1 =>
    rw [beq_iff_eq] at h0 h1
    cases newer with
    | true => exact ⟨fun _ => .inr ⟨h1, rfl⟩, fun h => absurd h (by simp [Banks.adopt]), fun _ _ _ => rfl⟩
    | false =>
      refine ⟨fun _ => .inl ⟨h0, rfl⟩, fun h => absurd h (by simp [Banks.adopt]), fun _ _ h => ?_⟩
      exact absurd (hs.symm.trans h) Bool.false_ne_true
  case h_2 h0 h1 =>
    rw [beq_iff_eq] at h0
    rw [beq_eq_false_iff_ne] at h1
    exact ⟨fun _ => .inl ⟨h0, rfl⟩, fun h => absurd h (by simp [Banks.adopt]), fun _ h => absurd h h1⟩
  case h_3 h0 h1 =>
    rw [beq_iff_eq] at h1
    rw [beq_eq_false_iff_ne] at h0
    exact ⟨fun _ => .inr ⟨h1, rfl⟩, fun h => absurd h (by simp [Banks.adopt]), fun h => absurd h h0⟩
  case h_4 h0 h1 =>
    rw [beq_eq_false_iff_ne] at h0 h1
    exact ⟨fun h => absurd h (by simp), fun _ => ⟨rfl, h0, h1⟩, fun h => absurd h h0⟩

theorem Banks.Chosen.of_plain {dflt : Mem} {a b : Banks} (h : a.Chosen dflt) (hp : b.plain = a.plain) : b.Chosen dflt := by
  have hb : b.plain.Chosen dflt := by rw [hp]; exact h
  exact hb

/-! ### The clear that tamper hold requests -/

theorem foldl_subset_acts {α : Type} {f : State → α → State} (h : ∀ s a, s.acts ⊆ (f s a).acts) (l : List α) (s : State) :
    s.acts ⊆ (l.foldl f s).acts := by
  induction l generalizing s with
  | nil => exact List.Subset.refl _
  | cons a l ih => exact List.Subset.trans (h s a) (ih _)

theorem State.subset_push (s : State) (a : Act) : s.acts ⊆ (s.push a).acts := List.subset_append_left ..

theorem State.subset_of_acts {s u t : State} (h : u.acts = s.acts) (ht : u.acts ⊆ t.acts) : s.acts ⊆ t.acts := h ▸ ht

theorem State.inputSeen_acts (s : State) (t : Nat) (x : InputPin) (v : Bool) : (s.inputSeen t x v).1.acts = s.acts := by
  cases x <;> rfl

theorem State.subset_inputChanged (s : State) (x : InputPin) (v : Bool) : s.acts ⊆ (s.inputChanged x v).acts := by
  cases x with
  | ign => rw [State.inputChanged]; split <;> simp [State.push]
  | start => rw [State.inputChanged]; split <;> simp [State.push]
  | door n => exact List.Subset.trans (s.subset_push _) (State.subset_push _ _)
  | wake => exact List.Subset.refl _

theorem State.subset_sampleInput (t : Nat) (s : State) (x : InputPin × Bool) : s.acts ⊆ (s.sampleInput t x).acts := by
  rw [State.sampleInput, ← s.inputSeen_acts t x.1 x.2]
  split
  · exact State.subset_inputChanged _ _ _
  · exact List.Subset.refl _

theorem State.subset_bootInputs (n : Nat) (l : List (InputPin × List Bool)) (s : State) : s.acts ⊆ (s.bootInputs n l).acts :=
  foldl_subset_acts (fun _ _ => foldl_subset_acts (State.subset_sampleInput _) _ _) _ s

theorem State.subset_odoCount (s : State) (k : Nat) : s.acts ⊆ (s.odoCount k).acts := by
  unfold State.odoCount
  extract_lets n old s1 s2 step
  have hs : s.acts ⊆ s2.acts := by
    simp only [s2]
    split
    · exact List.Subset.refl _
    · exact s1.subset_push _
  exact List.Subset.trans hs (foldl_subset_acts (fun s _ => State.subset_push (s.note 0x36 _) _) _ s2)

theorem State.subset_motionEvent (s : State) (e : MotionEvent) : s.acts ⊆ (s.motionEvent e).acts := by
  cases e with
  | edge n c h =>
    simp only [State.motionEvent, State.speedEdge]
    split
    · split
      · refine State.subset_of_acts ?_ (State.subset_odoCount _ 1)
        rfl
      · exact List.Subset.refl _
    · exact List.Subset.refl _
  | level n l h => rw [State.motionEvent, State.levelChange]; split <;> exact List.Subset.refl _
  | count n c => rw [State.motionEvent, State.gtCount]; split <;> exact List.Subset.refl _
  | linked c => exact List.Subset.refl _

theorem State.subset_bootMotion (l : List MotionEvent) (s : State) : s.acts ⊆ (s.bootMotion l).acts := by
  refine foldl_subset_acts (fun s e => ?_) l s
  refine State.subset_of_acts ?_ (State.subset_motionEvent _ e)
  rfl

theorem foldl_acts_eq {α : Type} {f : State → α → State} (h : ∀ s a, (f s a).acts = s.acts) (l : List α) (s : State) :
    (l.foldl f s).acts = s.acts := foldl_keeps State.acts h l s

theorem State.rescale_acts (s : State) (ss : Nat) (p : Booking → Bool) : (s.rescale ss p).acts = s.acts := by
  have hone : ∀ (s : State) (x : Nat × Nat), (s.onChannel x.1 (Channel.scaled x.2 ss)).acts = s.acts := fun _ _ => rfl
  exact foldl_acts_eq (fun s (b : Booking) => foldl_acts_eq hone b.base s) _ s

theorem State.thermal_acts (t : Int) (s : State) : (s.thermal t).acts = s.acts := by
  unfold State.thermal
  extract_lets off s1
  show s1.acts = s.acts
  simp only [s1]
  split
  · exact s.rescale_acts _ _
  · rfl

theorem State.recovers_acts (s : State) : s.recovers.acts = s.acts := by
  unfold State.recovers
  split <;> rfl

/-- In tamper hold the clear of R411 waits for the first commit phase. -/
theorem State.served_held {b : BootIn} {s : State} (h : s.tamper.hold = true) : .held ∈ (s.served b).acts := by
  have hclear : .held ∈ ((s.holdClears.recovers.passTicks b.ticks).servicesBegin b.stage7).acts := by
    show _ ∈ s.holdClears.recovers.acts
    rw [State.recovers_acts, State.holdClears, if_pos h]
    exact List.mem_append_right _ (List.mem_singleton.mpr rfl)
  rw [State.served, State.thermal_acts]
  exact State.subset_bootMotion _ _ (State.subset_bootInputs _ _ _ hclear)

/-! ### BOOT -/

theorem State.bootBegins_bootView (s : State) (n : Nat) : (s.bootBegins n).bootView =
    { s.bootView with
      tick := s.firstTick n, bootCount := (s.power.bootCount + 1) % 2 ^ 32, bootCause := s.power.nextCause, crozier := 1 } := by rfl

theorem State.laneTest_bootView (s : State) (a b : Bool) : (s.laneTest a b).bootView =
    { s.bootView with causes := ((s.laneTest a b).lanes.causeA, (s.laneTest a b).lanes.causeB) } := by rfl

/-- The device behind crozier stage 1: the tamper sources seen, the lanes tested (R374, R407). -/
def State.probed (b : BootIn) (s : State) : State :=
  ((s.bootBegins b.mossCycles).bootTamper b.tamper).laneTest b.laneAOk b.laneBOk

theorem State.respond_cell {s : State} (h : s.power.life = .starting) (level : Nat) : (s.respond level).cell = s.cell := by
  have he : s.eraseRoot.cell = s.cell := by
    rw [State.eraseRoot]
    split <;> rfl
  simp only [State.respond, h]
  split
  · exact he
  · rfl

theorem State.bootTamper_cell {s : State} (h : s.power.life = .starting) (l : List (TamperSource × TamperCondition)) :
    (s.bootTamper l).cell = s.cell := by
  induction l generalizing s with
  | nil => rfl
  | cons x l ih =>
    have hx := State.tested_sourceSees h (sourceCode x.1) x.2 0
    rw [State.bootTamper, List.foldl_cons]
    split
    · exact ih h
    · refine (ih (hx.life.trans h)).trans ?_
      rw [State.sourceSees]
      split
      · exact State.respond_cell (s := s.latchEvent _ _ 0) h _
      · rfl

theorem State.probed_view {s : State} (h : s.power.life = .starting) (b : BootIn) :
    (s.bootBegins b.mossCycles).bootView.Erases (s.probed b).bootView ∧ (s.probed b).bootView =
      { s.bootView with
        tick := s.firstTick b.mossCycles, bootCount := (s.power.bootCount + 1) % 2 ^ 32, bootCause := s.power.nextCause
        crozier := 1, causes := ((s.probed b).lanes.causeA, (s.probed b).lanes.causeB), hold := (s.probed b).tamper.hold
        rhizome := (s.probed b).bootView.rhizome } := by
  have ht := State.tested_bootTamper (s := s.bootBegins b.mossCycles) h b.tamper
  have hv : (s.probed b).bootView = _ := State.laneTest_bootView _ b.laneAOk b.laneBOk
  rw [ht.1, State.bootBegins_bootView] at hv
  exact ⟨ht.2, hv⟩

/-- The flag of a lane behind its test: one lost before a wake stays lost (R374). -/
def testedCause (wake : Prop) [Decidable wake] (cause : Nat) (ok : Bool) : Nat :=
  if wake ∧ cause ≠ 0 then cause else if ok then 0 else 7

theorem State.probed_causes (b : BootIn) {s : State} (h : s.power.life = .starting) :
    (s.probed b).lanes.causeA = testedCause (0x20 ≤ s.power.nextCause) s.lanes.causeA b.laneAOk ∧
      (s.probed b).lanes.causeB = testedCause (0x20 ≤ s.power.nextCause) s.lanes.causeB b.laneBOk := by
  have ht := (State.tested_bootTamper (s := s.bootBegins b.mossCycles) h b.tamper).1
  have hn : ((s.bootBegins b.mossCycles).bootTamper b.tamper).power.nextCause = s.power.nextCause := congrArg BootView.nextCause ht
  have hc : (_, _) = (s.lanes.causeA, s.lanes.causeB) := congrArg BootView.causes ht
  obtain ⟨ha, hb⟩ := Prod.mk.inj hc
  simp [State.probed, State.laneTest, State.waking, testedCause, hn, ha, hb]

theorem State.selectBanks_bootView (s : State) (d : List (List (Nat × Byte))) : (s.selectBanks d).bootView =
    { s.bootView with cfg := (s.selectBanks d).cfg.plain, thal := (s.selectBanks d).thal.plain } := by rfl

theorem State.boot_stops {b : BootIn} {s : State}
    (h : ((s.probed b).lanes.causeA ≠ 0 ∧ (s.probed b).lanes.causeB ≠ 0) ∨ b.anchorOk = false ∨ b.firmwareOk = false) :
    ∃ n, s.boot b = (s.probed b).bootStops n := by
  simp only [State.boot, Bool.and_eq_true, bne_iff_ne, Bool.not_eq_true']
  split
  · exact ⟨2, rfl⟩
  · next hc =>
    split
    · exact ⟨3, rfl⟩
    · next ha =>
      obtain h | h | h := h
      · exact absurd h hc
      · exact absurd h ha
      · exact ⟨4, if_pos h⟩

theorem State.boot_passes {b : BootIn} {s : State} (hc : (s.probed b).lanes.causeA = 0 ∨ (s.probed b).lanes.causeB = 0)
    (ha : b.anchorOk = true) (hf : b.firmwareOk = true) : ∃ la lb, s.boot b =
      if inRange 6 9 b.resetBy then (s.probed b).systemReset b.resetBy else (s.probed b).bootOn b la lb := by
  unfold State.boot
  extract_lets s1 lostA lostB
  refine ⟨lostA, lostB, ?_⟩
  rw [if_neg, if_neg (by simp [ha]), if_neg (by simp [hf])]
  · rfl
  · simp only [Bool.and_eq_true, bne_iff_ne]
    exact fun h => hc.elim h.1 h.2

theorem bootsEndReadyOrStop : Claim.BootsEndReadyOrStop := by
  intro b s
  refine ⟨fun h => ?_, fun hl hv => ?_, fun h => ?_⟩
  · show Host.Outcome.next _ = _
    rw [if_neg]
    simp only [Bool.and_eq_true, beq_iff_eq, not_and]
    rintro hl hv
    obtain h | h := h
    · exact h hl
    · exact absurd (h.symm.trans hv) Bool.false_ne_true
  · intro wake causeA causeB
    have hboot : exec (.boot b) s = .next (s.boot b) := by
      show Host.Outcome.next _ = _
      rw [if_pos (by simp [hl, hv])]
    obtain ⟨hA, hB⟩ : (s.probed b).lanes.causeA = causeA ∧ (s.probed b).lanes.causeB = causeB := State.probed_causes b hl
    obtain ⟨hroot, hview⟩ := State.probed_view hl b
    refine ⟨fun hstop => ⟨s.boot b, hboot, ?_⟩, fun hc ha hf h6 h9 => ⟨s.boot b, hboot, ?_⟩, fun hc ha hf hr => ⟨s.boot b, hboot, ?_⟩⟩
    · rw [← hA, ← hB] at hstop
      obtain ⟨n, hn⟩ := State.boot_stops hstop
      rw [hn]
      exact ⟨rfl, rfl, State.bootTamper_cell (s := s.bootBegins b.mossCycles) hl b.tamper, congrArg (fun v => v.ready.1) hview, rfl⟩
    · rw [← hA, ← hB] at hc
      obtain ⟨la, lb, hb⟩ := State.boot_passes hc ha hf
      rw [hb, if_pos (by simp [inRange, h6, h9])]
      exact ⟨rfl, rfl, congrArg BootView.cell hview⟩
    · rw [← hA, ← hB] at hc
      obtain ⟨la, lb, hb⟩ := State.boot_passes hc ha hf
      rw [hb, if_neg (by simpa [inRange] using hr)]
      obtain ⟨x, hx, hserved⟩ := (s.probed b).bootOn_served b la lb
      have hlife : (s.probed b).power.life = .starting := (congrArg BootView.life hview).trans hl
      have hchecked := State.tested_checked hlife b
      have hbanks := State.selectBanks_bootView (s.probed b) b.damage
      have hv := x.served_bootView b
      have hhold : (x.served b).tamper.hold = x.tamper.hold := congrArg BootView.hold hv
      have htick : (x.served b).tick = x.tick + b.ticks := congrArg BootView.tick hv
      have herased : s.bootView.Erases (x.served b).bootView := by
        have hfrom : (s.probed b).bootView.Erases ((s.probed b).checked b).bootView := hchecked.2
        exact hroot.trans (by rw [hv]; rw [← hx] at hfrom; exact hfrom)
      rw [hx, hchecked.1, hbanks, hview] at hv
      have hcfg := (Banks.chosen_select defaultConfig _).of_plain (congrArg BootView.cfg hv)
      have hthal := (Banks.chosen_select factoryThallus _).of_plain (congrArg BootView.thal hv)
      rw [hserved]
      refine ⟨congrArg BootView.life hv, congrArg BootView.bootCount hv, congrArg BootView.bootCause hv, ?_, ?_, ?_, ?_, ?_,
        congrArg BootView.cell hv, fun h => State.served_held (hhold ▸ h), hcfg.1, hcfg.2.1, fun h => (hthal.2.1 h).1, hcfg.2.2,
        congrArg BootView.dir hv, ?_⟩
      · rw [hhold]; exact congrArg BootView.crozier hv
      · rw [htick]; exact congrArg BootView.readyDue hv
      · have hr := congrArg BootView.ready hv
        intro p
        cases p
        · exact congrArg Prod.fst hr
        · exact congrArg Prod.snd hr
      · rw [← hA]; exact congrArg (fun v => v.causes.1) hv
      · rw [← hB]; exact congrArg (fun v => v.causes.2) hv
      · obtain h | ⟨h, he⟩ := herased
        · exact .inl (congrArg Prod.fst h)
        · exact .inr ⟨h, congrArg Prod.snd he⟩
  · show Host.Outcome.next _ = _
    rw [if_neg (by simpa using h)]

end Sys2Proof.Machine
end

section
/-! Reset, boot and the tick number (R17, R335, R400 to R413). -/

namespace Sys2Proof.Machine

open Sys2Proof

theorem Port.getLsbD_stop_newEvents (q : Port) (h : q.session.isSome = true) : q.stop.newEvents.getLsbD 14 = true := by
  simp [Port.stop, bitAt, h]

theorem resetsKeepWhatIsStored : Claim.ResetsKeepWhatIsStored := by
  intro cause s t
  refine ⟨rfl, rfl, rfl, rfl, rfl, rfl, rfl, rfl, rfl, rfl, rfl, rfl, rfl, rfl, rfl, rfl, rfl, rfl, rfl, rfl, ?_, rfl, rfl, rfl, rfl,
    rfl, rfl, rfl, rfl, rfl, rfl, rfl, rfl⟩
  intro p
  cases p <;> exact ⟨rfl, Port.getLsbD_stop_newEvents _⟩

/-- A lasting change that records nothing is what it applies. -/
theorem State.act_of_log {s : State} {a : Act} (h : s.awake = true) (hl : (s.apply a).log = s.log) : s.act a = s.apply a := by
  rw [State.act_awake h, hl, List.take_length, List.drop_length, List.map_nil, List.append_nil, ← hl]

theorem tickNumbersGoOn : Claim.TickNumbersGoOn := by
  intro s cycles
  refine ⟨fun hm hl => ?_, fun hp hb => ?_, fun hm hl => ?_, fun ha ht => ?_, fun n ha => ?_, rfl, fun h => ?_⟩
  · have htick : (s.bootBegins cycles).tick = s.tick + 1 + cycles * 15625 / 131072 := by
      simp [State.bootBegins, State.firstTick, State.firstLife, hm]
      simp_all
    omega
  · simp [State.bootBegins, State.firstTick, State.firstLife, hp, hb]
  · simp [State.bootBegins, State.firstTick, State.firstLife, hm]
    simp_all
  · show Host.Outcome.next _ = _
    rw [if_pos (by rw [ha, ht]; rfl)]
  · exact State.act_of_log ha rfl
  · show Host.Outcome.next _ = _
    rw [if_neg]
    obtain h | h := h <;> simp only [h, Bool.false_and, Bool.and_eq_true, beq_iff_eq, and_false, not_false_eq_true, Bool.false_eq_true]

/-- Settles O58: what a reset keeps, by its definition; the outcome of a boot, by the view its services leave alone; READY, by
the view a commit phase leaves alone; the tick number, by the first tick of a boot. -/
theorem bootsReachReady : Obligations.BootsReachReady :=
  ⟨resetsKeepWhatIsStored, bootsEndReadyOrStop, stageSevenEndsInReady, tickNumbersGoOn⟩

end Sys2Proof.Machine
end

section
/-! What a reply shows of its commit phase (R82, R181, R210, R211, R226, R227, R265, R379, R414). -/

namespace Sys2Proof.Machine

open Sys2Proof

theorem State.refreshReply_now {s : State} {r : Staged} {results : Bytes} (ha : r.admitted = true) (hs : r.status = 0)
    (h : s.resultsNow r.verb = some results) : s.refreshReply r = { r with results := results } := by
  rw [State.refreshReply, if_pos (by rw [ha, hs]; rfl), h]
  rfl

theorem State.refreshReply_same {s : State} {r : Staged}
    (h : r.admitted = false ∨ r.status ≠ 0 ∨ s.resultsNow r.verb = none) : s.refreshReply r = r := by
  rw [State.refreshReply]
  split
  · next hc =>
    rw [Bool.and_eq_true, beq_iff_eq] at hc
    obtain h | h | h := h
    · exact absurd (h.symm.trans hc.1) Bool.false_ne_true
    · exact absurd hc.2 h
    · rw [h]; rfl
  · rfl

theorem repliesShowTheirCommit : Claim.RepliesShowTheirCommit := by
  intro s r now
  have hnow : ∀ (verb : Nat) (results : Bytes), s.resultsNow verb = some results → now verb results :=
    fun verb results h ha hs hv => State.refreshReply_now ha hs (hv ▸ h)
  refine ⟨hnow _ _ rfl, hnow _ _ rfl, hnow _ _ rfl, hnow _ _ rfl, hnow _ _ rfl, hnow _ _ rfl, hnow _ _ rfl, hnow _ _ rfl,
    hnow _ _ rfl, fun h => State.refreshReply_same ?_⟩
  refine h.imp_right (Or.imp_right fun hv => ?_)
  unfold State.resultsNow
  split <;> simp_all

end Sys2Proof.Machine
end

section
/-! Ticks that are not published: the exchanges that miss their hand-over, the leads that end, TICK by its verdict (R16, R366 to R371). -/

namespace Sys2Proof.Machine

open Sys2Proof

/-! ### Exchanges of an engine -/

/-- What keeps each booking's engine, and each running one running, moves the exchange of an engine with it. -/
theorem State.current_map {s t : State} {g : Booking → Booking} (h : t.field.bookings = s.field.bookings.map g)
    (hg : ∀ x, (g x).engine = x.engine ∧ ((g x).phase = .booked ↔ x.phase = .booked)) (e : Nat) :
    t.current e = (s.current e).map g := by
  have hp : ((fun b : Booking => b.engine == e && b.phase != .booked) ∘ g) = fun b => b.engine == e && b.phase != .booked := by
    funext x
    have hphase : ((g x).phase != .booked) = (x.phase != .booked) := by
      rw [Bool.eq_iff_iff, bne_iff_ne, bne_iff_ne, ne_eq, ne_eq, (hg x).2]
    simp only [Function.comp, (hg x).1, hphase]
  rw [State.current, State.current, h, List.find?_map, hp]

theorem State.current_running {s : State} {e : Nat} {b : Booking} (h : s.current e = some b) : b.engine = e ∧ b.phase ≠ .booked := by
  simpa [State.current] using List.find?_some h

theorem State.onCurrent_current {s : State} {e : Nat} {b : Booking} (h : s.current e = some b) {f : Booking → Booking}
    (he : ∀ x, (f x).engine = x.engine) (hf : ∀ x, x.phase ≠ .booked → (f x).phase ≠ .booked) :
    (s.onCurrent e f).current e = some (f b) := by
  obtain ⟨hengine, hrun⟩ := State.current_running h
  have hb : (s.onCurrent e f).field.bookings =
      s.field.bookings.map fun x => if x.id == b.id && x.phase != .booked then f x else x := by
    rw [State.onCurrent, h]
    rfl
  rw [State.current_map hb, h]
  · simp [hrun]
  · intro x
    split
    · next hx =>
      have hx' : x.phase ≠ .booked := by
        rw [Bool.and_eq_true, bne_iff_ne] at hx
        exact hx.2
      exact ⟨he x, by simp [hx', hf x hx']⟩
    · exact ⟨rfl, Iff.rfl⟩

theorem State.onCurrent_lanes (s : State) (e : Nat) (f : Booking → Booking) : (s.onCurrent e f).lanes = s.lanes := by
  rw [State.onCurrent]
  split <;> rfl

/-! ### Exchanges that miss their hand-over -/

theorem State.keyDone_current {s : State} {e : Nat} {b : Booking} (h : s.current e = some b) (r : KeyRec) (tag n : Nat) :
    ∃ b', (s.keyDone b r tag n).current e = some b' := by
  obtain ⟨hengine, -⟩ := State.current_running h
  rw [State.keyDone, hengine]
  exact ⟨_, State.onCurrent_current (s := s.authRecord b r tag n) h (fun _ => rfl) (fun _ hx => hx)⟩

theorem State.endWith_current {s : State} {e : Nat} {b : Booking} (h : s.current e = some b) (hv : b.await ≠ .verdict) (code : Nat) :
    (∃ b', (s.endWith e code).current e = some (Booking.stop code b')) ∧ (s.endWith e code).lanes = s.lanes := by
  have hstop : ∀ (u : State) (b' : Booking), u.current e = some b' →
      ((u.dropRequest e).onCurrent e (Booking.stop code)).current e = some (Booking.stop code b') := fun u b' hu =>
    State.onCurrent_current (s := u.dropRequest e) (f := Booking.stop code) hu (fun _ => rfl) fun _ _ => nofun
  cases hc : b.cur with
  | none =>
    simp only [State.endWith, h, if_neg hv, hc]
    exact ⟨⟨b, hstop s b h⟩, State.onCurrent_lanes _ _ _⟩
  | some c =>
    simp only [State.endWith, h, if_neg hv, hc]
    obtain ⟨b', hb'⟩ := s.keyDone_current h (c.plain (if code = 5 then 6 else 7)) c.tag 0
    exact ⟨⟨b', hstop _ b' hb'⟩, (State.onCurrent_lanes _ _ _).trans (State.onCurrent_lanes _ _ _)⟩

theorem State.missHandover_current {s : State} {e : Nat} {b : Booking} (h : s.current e = some b) :
    (∃ b', (s.missHandover e).current e = some b' ∧ b'.again = true ∧ b'.phase = .ending ∧ b'.todo = [] ∧ b'.endCode = some 6) ∧
      (s.missHandover e).lanes = s.lanes := by
  simp only [State.missHandover, h]
  split
  · exact ⟨⟨_, State.onCurrent_current h (fun _ => rfl) (fun _ _ => by simp), rfl, rfl, rfl, rfl⟩, State.onCurrent_lanes _ _ _⟩
  · next hw =>
    obtain ⟨⟨b', hb'⟩, hl⟩ := State.endWith_current h (fun hv => hw (.inr hv)) 6
    exact ⟨⟨_, State.onCurrent_current hb' (fun _ => rfl) (fun _ hx => hx), rfl, rfl, rfl, rfl⟩,
      (State.onCurrent_lanes _ _ _).trans hl⟩

theorem State.missLanes_idle {s : State} {e : Nat} (h : s.awaitsLanes e = false) : s.missLanes e = s := by
  rw [State.missLanes, if_neg (by rw [h]; exact Bool.false_ne_true)]

theorem State.missLanes_current {s : State} {e : Nat} {b : Booking} (h : s.current e = some b) (ha : s.awaitsLanes e = true)
    (hd : s.drawLookup e = s) : ∃ b', (s.missLanes e).current e = some b' ∧ b'.again = true ∧ b'.phase = .ending ∧ b'.todo = [] ∧
      b'.endCode = some 6 ∧ (s.missLanes e).lanes = { s.lanes with handoverMask := s.lanes.handoverMask ||| 2 ^ e } := by
  obtain ⟨⟨b', hb', hagain, hphase, htodo, hcode⟩, hl⟩ := State.missHandover_current h
  rw [State.missLanes, if_pos ha, hd]
  exact ⟨b', hb', hagain, hphase, htodo, hcode, by dsimp only; rw [hl]⟩

/-! ### A tick that is not published -/

/-- A booking that a commit phase which is not published leaves behind (R146, R367). -/
def State.leadEnded (s : State) (b : Booking) : Booking :=
  let x := if b.phase = .lead then { b.stop 6 with again := true } else b
  if (x.phase == .booked && x.endCode.isNone && x.first ≤ s.tick && s.arbitrationTick) = true then x.fail s.tick else x

theorem State.endLeads_bookings (s : State) : s.endLeads.field = { s.field with bookings := s.field.bookings.map s.leadEnded } := by
  simp only [State.endLeads, State.onBookings, List.map_map]
  congr 1
  refine List.map_congr_left fun b _ => ?_
  simp only [Function.comp, State.leadEnded, beq_iff_eq]

theorem State.leadEnded_of_arbitration {s : State} (h : s.arbitrationTick = false) (b : Booking) :
    s.leadEnded b = if b.phase = .lead then { b.stop 6 with again := true } else b := by
  simp only [State.leadEnded, h, Bool.and_false, Bool.false_eq_true, if_false]

theorem State.leadEnded_keeps (s : State) (b : Booking) :
    (s.leadEnded b).engine = b.engine ∧ ((s.leadEnded b).phase = .booked ↔ b.phase = .booked) := by
  simp only [State.leadEnded]
  by_cases hb : b.phase = .lead
  · rw [if_pos hb, if_neg (by simp [Booking.stop])]
    exact ⟨rfl, by simp [Booking.stop, hb]⟩
  · rw [if_neg hb]
    split <;> exact ⟨rfl, Iff.rfl⟩

/-- A booking that has ended its lead hands nothing over. -/
theorem State.leadEnded_waits (s : State) (t : Option Nat) (b : Booking)
    (h : (b.planned == t && !b.todo.all b.byHardware) = false) :
    ((s.leadEnded b).planned == t && !(s.leadEnded b).todo.all (s.leadEnded b).byHardware) = false := by
  simp only [State.leadEnded]
  by_cases hb : b.phase = .lead
  · rw [if_pos hb, if_neg (by simp [Booking.stop])]
    simp [Booking.stop]
  · rw [if_neg hb]
    split <;> exact h

theorem State.awaitsLanes_endLeads {s : State} {e : Nat} (h : s.awaitsLanes e = false) (l : Evidence) :
    ({ s.endLeads with log := l } : State).awaitsLanes e = false := by
  simp only [State.awaitsLanes, Bool.or_eq_false_iff] at h ⊢
  obtain ⟨hacts, hbook⟩ := h
  refine ⟨hacts, ?_⟩
  have hcur : ({ s.endLeads with log := l } : State).current e = (s.current e).map s.leadEnded :=
    State.current_map (congrArg Field.bookings s.endLeads_bookings) s.leadEnded_keeps e
  rw [hcur]
  cases hc : s.current e with
  | none => rfl
  | some b =>
    rw [hc] at hbook
    exact s.leadEnded_waits _ b hbook

theorem foldl_missLanes_idle {s : State} (l : List Nat) (h : ∀ e ∈ l, s.awaitsLanes e = false) : l.foldl State.missLanes s = s := by
  induction l with
  | nil => rfl
  | cons e l ih =>
    rw [List.foldl_cons, State.missLanes_idle (h e List.mem_cons_self)]
    exact ih fun x hx => h x (List.mem_cons_of_mem _ hx)

theorem State.endLeads_eq (s : State) : s.endLeads = { s with field := s.endLeads.field, lanes := s.endLeads.lanes } := by rfl

/-- Where no exchange waits for the lanes and nothing was drawn, only leads, seals and attempts end (R16, R146, R366). -/
theorem State.notPublished_idle {s : State} (hidle : ∀ e < 4, s.awaitsLanes e = false) (hd : s.drawn = []) :
    s.notPublished = { s with
      field := s.endLeads.field, lanes := { s.endLeads.lanes with probeLeft := s.probeDue }, log := s.log.abortSeals s.tick
      drawn := [], cipher := { s.cipher with aesRetry := [], aesLost := [], eccExhausted := false, hashExhausted := false } } := by
  have hmiss := foldl_missLanes_idle (s := { s.endLeads with log := s.log.abortSeals s.tick }) (List.range 4) fun e he =>
    State.awaitsLanes_endLeads (hidle e (List.mem_range.mp he)) _
  simp only [State.notPublished]
  rw [hmiss, s.endLeads_eq]
  simp only [hd, List.foldl_nil, State.endOps]

theorem State.endLeads_mask {s : State} (ha : s.arbitrationTick = false)
    (h : s.field.bookings.all (fun b => b.phase != .lead) = true) : s.endLeads.lanes.handoverMask = s.lanes.handoverMask := by
  have hled : s.field.bookings.foldl (fun m b => if b.phase = .lead ∨ (b.phase == .booked && b.endCode.isNone && b.first ≤ s.tick &&
      s.arbitrationTick) = true then m ||| 2 ^ b.engine else m) 0 = 0 := by
    refine List.foldlRecOn (motive := fun m => m = 0) _ _ rfl fun m hm b hb => ?_
    have hlead : b.phase ≠ .lead := by simpa using List.all_eq_true.mp h b hb
    rw [if_neg (by simp [hlead, ha]), hm]
  simp only [State.endLeads]
  show s.lanes.handoverMask ||| _ = _
  rw [hled, Nat.or_zero]

/-! ### TICK by its verdict -/

theorem State.takeOver_none {s : State} (h : s.lanes.takeoverDue = none) : s.takeOver = s := by
  rw [State.takeOver, h]

theorem exec_tick_published {i : TickIn} {s : State} (ha : s.awake = true) (ht : s.lanes.takeoverDue = none)
    (hv : s.verdictOn i.matched = .published) :
    exec (.tick i) s = .next (if s.endTick.awake then s.endTick.beginTick i else s.endTick) := by
  show execTick i s = _
  simp only [execTick, ha, State.takeOver_none ht, hv, Bool.not_true, Bool.false_eq_true, if_false]

theorem exec_tick_mismatch {i : TickIn} {s : State} (ha : s.awake = true) (ht : s.lanes.takeoverDue = none)
    (hv : s.verdictOn i.matched = .mismatch) : exec (.tick i) s =
      .next ((State.notPublished { s with lanes := { s.lanes with faultTick := some s.tick } }).beginTick i) := by
  show execTick i s = _
  simp only [execTick, ha, State.takeOver_none ht, hv, Bool.not_true, Bool.false_eq_true, if_false]

theorem exec_tick_withheld {i : TickIn} {s : State} (ha : s.awake = true) (ht : s.lanes.takeoverDue = none)
    (hv : s.verdictOn i.matched = .withheld) : exec (.tick i) s = .next (s.notPublished.beginTick i) := by
  show execTick i s = _
  simp only [execTick, ha, State.takeOver_none ht, hv, Bool.not_true, Bool.false_eq_true, if_false]

theorem exec_tick_unresolved {i : TickIn} {s : State} (ha : s.awake = true) (ht : s.lanes.takeoverDue = none)
    (hv : s.verdictOn i.matched = .unresolved) : exec (.tick i) s = .next (s.systemReset 7) := by
  show execTick i s = _
  simp only [execTick, ha, State.takeOver_none ht, hv, Bool.not_true, Bool.false_eq_true, if_false]

theorem State.awaitsLanes_lanes (s : State) (l : Lanes) (e : Nat) :
    ({ s with lanes := l } : State).awaitsLanes e = s.awaitsLanes e := by rfl

/-- What a tick that is not published keeps, where no exchange waits for the lanes and nothing was drawn (R366, R367). -/
theorem State.notPublished_keeps {s : State} (hidle : ∀ e < 4, s.awaitsLanes e = false) (hd : s.drawn = []) :
    let t := s.notPublished
    (t.tick = s.tick ∧ t.cell = s.cell ∧ t.ses = s.ses ∧ t.cfg = s.cfg ∧ t.thal = s.thal ∧
      t.dir = s.dir ∧ t.lock = s.lock ∧ t.acts = s.acts ∧ t.ks = s.ks ∧ t.log = s.log.abortSeals s.tick ∧ t.ledger = s.ledger ∧
      t.work = s.work ∧ t.fp = s.fp ∧ t.win = s.win ∧ t.motion = s.motion ∧ t.tamper = s.tamper ∧ t.drawn = [] ∧
      ∀ p, t.port p = s.port p) ∧ t.field = s.endLeads.field ∧ t.lanes = { s.endLeads.lanes with probeLeft := s.probeDue } := by
  dsimp only
  rw [State.notPublished_idle hidle hd]
  exact ⟨⟨rfl, rfl, rfl, rfl, rfl, rfl, rfl, rfl, rfl, rfl, rfl, rfl, rfl, rfl, rfl, rfl, rfl, fun p => by cases p <;> rfl⟩,
    rfl, rfl⟩

theorem ticksAreWithheld : Claim.TicksAreWithheld := by
  intro i s kept idle probes
  refine ⟨fun h => ?_, fun hawake hdeg hdue hfault htrans hdrawn hm hidle => ?_, fun f hawake hdue htrans hfault hf hdrawn hidle => ?_,
    fun f l hawake hdue hfault htrans htick hdrawn hidle => ?_, fun e b _ hc ha hd => State.missLanes_current hc ha hd,
    fun e h => State.missLanes_idle h, fun q => rfl, fun f l hawake hdeg hdue hfault htrans htick hm => ?_⟩
  · show Host.Outcome.next _ = _
    rw [h]
    rfl
  · have hv : s.verdictOn i.matched = .mismatch := by
      simp [State.verdictOn, State.arbitrationTick, State.lossWithholds, hdue, hfault, htrans, hm, hdeg]
    rw [exec_tick_mismatch hawake hdue hv]
    generalize hu : ({ s with lanes := { s.lanes with faultTick := some s.tick } } : State) = u
    have hwait : ∀ e < 4, u.awaitsLanes e = false := fun e he => by rw [← hu]; exact hidle e he
    have harb : u.arbitrationTick = false := by rw [← hu]; simp [State.arbitrationTick, hdue, htrans]
    obtain ⟨hkept, hfield, hlanes⟩ := State.notPublished_keeps hwait (by rw [← hu]; exact hdrawn)
    have hmask := State.endLeads_mask harb
    have hended : u.field.bookings.map u.leadEnded =
        u.field.bookings.map fun b => if b.phase = .lead then { b.stop 6 with again := true } else b :=
      List.map_congr_left fun b _ => u.leadEnded_of_arbitration harb b
    rw [u.endLeads_bookings, hended] at hfield
    subst hu
    exact ⟨_, rfl, hkept, by rw [hlanes]; rfl, fun h => (congrArg Lanes.handoverMask hlanes).trans (hmask h), hfield⟩
  · have harb : s.arbitrationTick = true := by simp [State.arbitrationTick, hfault, hf]
    have hv : s.verdictOn i.matched = .withheld := by simp [State.verdictOn, harb]
    obtain ⟨hkept, -, hlanes⟩ := State.notPublished_keeps hidle hdrawn
    exact ⟨s.notPublished, exec_tick_withheld hawake hdue hv, hkept, (congrArg Lanes.faultTick hlanes).trans hfault⟩
  · have harb : s.arbitrationTick = true := by simp [State.arbitrationTick, htrans, htick]
    have hv : s.verdictOn i.matched = .withheld := by simp [State.verdictOn, harb]
    obtain ⟨hkept, -, hlanes⟩ := State.notPublished_keeps hidle hdrawn
    refine ⟨s.notPublished, exec_tick_withheld hawake hdue hv, hkept, ?_⟩
    rw [hlanes]
    rfl
  · refine exec_tick_unresolved hawake hdue ?_
    simp [State.verdictOn, State.arbitrationTick, State.lossWithholds, hdue, hfault, htrans, htick, hm, hdeg]

end Sys2Proof.Machine
end

section
/-! The beginning of a tick (R34, R61, R230, R367, R369). -/

namespace Sys2Proof.Machine

open Sys2Proof

/-! ### The bridges between two ticks -/

/-- From `s` to `t` only the bridges, the exchanges and the flags of their supply differ. -/
def State.DriveOnly (s t : State) : Prop := t = { s with power := t.power, field := t.field }

theorem State.DriveOnly.refl (s : State) : s.DriveOnly s := rfl

theorem State.DriveOnly.trans {s t u : State} (h : s.DriveOnly t) (h' : t.DriveOnly u) : s.DriveOnly u := by
  rw [State.DriveOnly] at h h' ⊢
  rw [h', h]

theorem foldl_driveOnly {α : Type} {f : State → α → State} (h : ∀ (s : State) a, s.DriveOnly (f s a)) (l : List α) (s : State) :
    s.DriveOnly (l.foldl f s) := by
  induction l generalizing s with
  | nil => exact .refl s
  | cons a l ih => exact (h s a).trans (ih _)

theorem State.driveOnly_onChannel (s : State) (n : Nat) (f : Channel → Channel) : s.DriveOnly (s.onChannel n f) := rfl

theorem State.driveOnly_onBookings (s : State) (p : Booking → Bool) (f : Booking → Booking) : s.DriveOnly (s.onBookings p f) := rfl

theorem State.driveOnly_onCurrent (s : State) (e : Nat) (f : Booking → Booking) : s.DriveOnly (s.onCurrent e f) := by
  rw [State.onCurrent]
  split
  · exact s.driveOnly_onBookings _ f
  · exact .refl s

theorem State.driveOnly_driveAerials (s : State) (b : Booking) (l : List (Nat × Nat × Nat)) : s.DriveOnly (s.driveAerials b l) := by
  obtain ⟨clamp, h⟩ := s.driveAerials_eq b l
  rw [h]
  rfl

theorem State.driveOnly_endStep (s : State) (b : Booking) : s.DriveOnly (s.endStep b) :=
  (foldl_driveOnly (fun s n => s.driveOnly_onChannel n Channel.off) _ s).trans (State.driveOnly_onCurrent _ _ _)

theorem State.driveOnly_measureGoesOn (s : State) (b : Booking) : s.DriveOnly (s.measureGoesOn b) := by
  have hrun := s.driveOnly_onCurrent b.engine fun b => { b with phase := .running }
  simp only [State.measureGoesOn]
  split
  · exact .refl s
  · split
    · refine hrun.trans ?_
      rw [State.nextStep]
      split
      · exact (State.driveOnly_endStep _ _).trans (State.driveOnly_driveAerials _ _ _)
      · exact .refl _
    · exact hrun

theorem State.driveOnly_measureSteps (s : State) : s.DriveOnly s.measureSteps := foldl_driveOnly State.driveOnly_measureGoesOn _ s

theorem State.driveOnly_rescale (s : State) (ss : Nat) (p : Booking → Bool) : s.DriveOnly (s.rescale ss p) := by
  have hone : ∀ (s : State) (x : Nat × Nat), s.DriveOnly (s.onChannel x.1 (Channel.scaled x.2 ss)) := fun s x =>
    s.driveOnly_onChannel x.1 _
  exact (foldl_driveOnly (fun s (b : Booking) => foldl_driveOnly hone b.base s) _ s).trans (State.driveOnly_onBookings _ _ _)

theorem State.driveOnly_thermal (t : Int) (s : State) : s.DriveOnly (s.thermal t) := by
  unfold State.thermal
  extract_lets off s1
  have hs : s.DriveOnly s1 := by
    simp only [s1]
    split
    · exact s.driveOnly_rescale _ _
    · exact .refl s
  exact hs.trans rfl

/-! ### The beginning of a tick -/

/-- A tick as it begins, before its frames are latched (R34, R61, R230). -/
def State.begun (i : TickIn) (m : State) : State :=
  let t := Tamper.meshTick { m.tamper with present := i.present } (m.tick - m.power.startTick)
  let s1 := (State.thermal i.dieTemp { m with tick := m.tick + 1, tamper := t }).measureSteps
  State.onPorts { s1 with win := s1.win.snapshot (25600 * (s1.tick - s1.power.startTick)) } Port.seeDiscards

theorem State.begun_eq (i : TickIn) (m : State) : m.begun i =
    { m with
      tick := m.tick + 1, tamper := Tamper.meshTick { m.tamper with present := i.present } (m.tick - m.power.startTick)
      power := (m.begun i).power, field := (m.begun i).field, win := (m.begun i).win
      portA := m.portA.seeDiscards, portB := m.portB.seeDiscards } := by
  have h := (State.driveOnly_thermal i.dieTemp
    { m with
      tick := m.tick + 1
      tamper := Tamper.meshTick { m.tamper with present := i.present } (m.tick - m.power.startTick) }).trans
    (State.driveOnly_measureSteps _)
  simp only [State.begun]
  generalize (State.thermal i.dieTemp _).measureSteps = s1 at h ⊢
  rw [State.DriveOnly] at h
  rw [h]
  rfl

theorem State.beginTick_begun (i : TickIn) (v : State) :
    v.beginTick i =
      if ((i.motion.foldl State.motionEvent v).begun i).arbitrationTick then
        ((i.motion.foldl State.motionEvent v).begun i).onPorts (Port.holdFrames ((i.motion.foldl State.motionEvent v).begun i).tick)
      else (((i.motion.foldl State.motionEvent v).begun i).latchAgain.latchPort .a).latchPort .b := rfl

theorem State.beginTick_latches (i : TickIn) (v : State) :
    let m := i.motion.foldl State.motionEvent v
    ∃ u : State, u.tick = m.tick + 1 ∧ u.tamper.present = i.present ∧ u.ledger = m.ledger ∧ u.work = m.work ∧ u.acts = m.acts ∧
      u.lanes = m.lanes ∧
      (∀ p, (u.port p).frames = (m.port p).frames ∧ (u.port p).late = (m.port p).late ∧
        (u.port p).stagedReplies = (m.port p).stagedReplies ∧ (u.port p).held = [] ∧ (u.port p).cutFrames = 0 ∧
        (u.port p).stagedNotices = (m.port p).stagedNotices ++ (m.port p).held.flatMap Held.notices ∧
        (u.port p).newDiscards = (m.port p).newDiscards + (m.port p).held.length + (m.port p).cutFrames) ∧
      (u.arbitrationTick = true → v.beginTick i = u.onPorts fun q =>
        { q with frames := [], late := q.late ++ q.frames.map fun f => (u.tick, f) }) ∧
      (u.arbitrationTick = false →
        let l := (u.latchLate .a).latchLate .b
        let n := ({ l with lanes := { l.lanes with tickOrder := l.orderNo } } : State)
        ((∀ f, u.lanes.transientTicks.head? = some f → u.tick ≠ f + 2) → v.beginTick i = (n.latchPort .a).latchPort .b) ∧
        (∀ f, u.lanes.transientTicks.head? = some f → u.tick = f + 2 →
          v.beginTick i = ((n.extendWork n.orderNo).latchPort .a).latchPort .b)) := by
  intro m
  have hb := v.beginTick_begun i
  have hu := m.begun_eq i
  change v.beginTick i = if (m.begun i).arbitrationTick then (m.begun i).onPorts (Port.holdFrames (m.begun i).tick)
    else ((m.begun i).latchAgain.latchPort .a).latchPort .b at hb
  generalize m.begun i = u at hb hu
  have hport : ∀ p, u.port p = (m.port p).seeDiscards := fun p => by rw [hu]; cases p <;> rfl
  refine ⟨u, by rw [hu], by rw [hu]; rfl, by rw [hu], by rw [hu], by rw [hu], by rw [hu], fun p => ?_, fun h => ?_, fun h => ?_⟩
  · rw [hport, Port.seeDiscards_eq]
    exact ⟨rfl, rfl, rfl, rfl, rfl, rfl, by dsimp only; omega⟩
  · rw [hb, if_pos h]
    rfl
  · intro l n
    rw [hb, if_neg (by rw [h]; exact Bool.false_ne_true)]
    refine ⟨fun hf => ?_, fun f hf ht => ?_⟩
    · rw [State.latchAgain, if_neg]
      rw [Option.any_eq_true]
      rintro ⟨f, hf', ht⟩
      exact hf f hf' (beq_iff_eq.mp ht).symm
    · rw [State.latchAgain, if_pos (by rw [hf, Option.any_some, ht, beq_self_eq_true])]

theorem State.extendWork_all {s : State} {n : Nat} (hl : ∀ d ∈ s.ledger, d.order < n) (hw : ∀ q ∈ s.work, q.ticket.order < n)
    (hh : ∀ h ∈ s.fp.held, h.ticket.order < n) : s.extendWork n = { s with
      ledger := s.ledger.map fun d => { d with last := d.last + 2 }
      work := s.work.map fun q => { q with last := q.last + 2 }
      fp := { s.fp with held := s.fp.held.map fun h => { h with last := h.last + 2 } } } := by
  simp only [State.extendWork]
  rw [List.map_congr_left fun d hd => if_pos (hl d hd), List.map_congr_left fun q hq => if_pos (hw q hq),
    List.map_congr_left fun h hm => if_pos (hh h hm)]

end Sys2Proof.Machine
end

section
/-! The published tick (R33, R35). -/

namespace Sys2Proof.Machine

open Sys2Proof

theorem Sess.step_id (i : BitVec 32) (se : Sess) : (se.step i).id = se.id := by
  rw [Sess.step]
  split <;> rfl

theorem Port.form_session (tick : Nat) (r : Staged) (more : Bool) (q : Port) :
    (q.form tick r more).2.session.map Sess.id = q.session.map Sess.id := by
  rw [Port.form]
  split
  · rfl
  · simp only [Option.map_map]
    congr 1
    exact funext fun x => x.step_id _

theorem Port.formOne_session (tick : Nat) (d : Bool) (r : Staged) (more : Bool) (q : Port) :
    (q.formOne tick d r more).session.map Sess.id = q.session.map Sess.id := by
  have h := q.form_session tick (r.grade d) more
  unfold Port.formOne
  split
  · exact h
  · exact h

theorem Port.formAll_session (tick : Nat) (d : Bool) (l : List Staged) (q : Port) :
    (Port.formAll tick d l q).session.map Sess.id = q.session.map Sess.id := by
  induction l generalizing q with
  | nil => rfl
  | cons r l ih => rw [Port.formAll_cons, ih, Port.formOne_session]

theorem Port.promote_eq (q : Port) : q.promote = { q with
    session := q.promote.session, oldSessions := q.promote.oldSessions, newSession := none } := by
  rw [Port.promote]
  split
  · next h => rw [← h]
  · rfl

theorem Port.promote_session {q : Port} (h : q.newSession ≠ none) : q.promote.session = q.newSession := by
  rw [Port.promote]
  split
  · next hn => exact absurd hn h
  · next hs => exact hs.symm

/-- What a port's publication leaves: nothing staged, and a new session current (R60, R75). -/
theorem Port.published_keeps (tick : Nat) (graded : Bool) (enable : BitVec 16) (tamper degraded : Bool) (q : Port) :
    let z := (q.publishFrames tick graded).publishCause enable tamper degraded
    (z.frames = q.frames ∧ z.late = q.late ∧ z.stagedReplies = [] ∧ z.stagedSpores = [] ∧ z.stagedNotices = [] ∧
      z.held = q.held ∧ z.cutFrames = q.cutFrames ∧ z.newDiscards = 0 ∧ z.newSession = none) ∧
    (q.newSession ≠ none → z.session.map Sess.id = q.newSession.map Sess.id) := by
  obtain ⟨rs, spores, no, lost, ev, hq⟩ := q.publishFrames_formed tick graded
  have hf := Port.formAll_keeps tick graded rs q.promote.withdraw
  dsimp only
  rw [hq]
  refine ⟨?_, fun h => ?_⟩
  · rw [hf, Port.withdraw, q.promote_eq]
    exact ⟨rfl, rfl, rfl, rfl, rfl, rfl, rfl, rfl, rfl⟩
  · refine (Port.formAll_session tick graded rs q.promote.withdraw).trans ?_
    exact congrArg _ (Port.promote_session h)

/-- A published tick has spent its work, its notes and its seed, published what was staged, and keeps the rest (R33, R35). -/
theorem State.publish_keeps {w : State} (hverbs : ∀ p, ∀ r ∈ (w.port p).stagedReplies, r.verb ≠ 0x08)
    (hready : w.power.readyDue = none) :
    let v : State := { w.publish.endOps with latched := [] }
    v.power.life = w.power.life ∧
      v.tick = w.tick ∧ v.ledger = w.ledger ∧ v.work = w.work ∧ v.acts = w.acts ∧ v.latched = [] ∧ v.drawn = [] ∧
      v.log.commitTick = w.tick ∧ v.lanes.faultTick = w.lanes.faultTick ∧ v.lanes.takeoverDue = w.lanes.takeoverDue ∧
      (∀ p, (v.port p).frames = (w.port p).frames ∧ (v.port p).late = (w.port p).late ∧ (v.port p).stagedReplies = [] ∧
        (v.port p).stagedSpores = [] ∧ (v.port p).stagedNotices = [] ∧ (v.port p).held = (w.port p).held ∧
        (v.port p).cutFrames = (w.port p).cutFrames ∧ (v.port p).newDiscards = 0 ∧ (v.port p).newSession = none ∧
        ((w.port p).newSession ≠ none → (v.port p).session.map Sess.id = (w.port p).newSession.map Sess.id)) ∧
      v.ks.work = [] ∧ v.fp.work = [] ∧ v.win.writes = [] ∧
      (w.rng.seedTick ≠ none → v.rng.seeded = true) ∧ v.cell = { w.cell with notes := [] } ∧ v.ses = w.ses ∧ v.cfg = w.cfg ∧
      v.thal = w.thal ∧ v.dir = w.dir ∧ v.lock = w.lock := by
  obtain ⟨ha, hb⟩ := State.no_sleep hverbs
  have hx := State.commitEffects_commitView ha hb
  have hpub : w.publish = w.commitEffects.commitReports.readyIfDue := rfl
  dsimp only
  rw [hpub]
  generalize w.commitEffects = x at hx ⊢
  have hy := x.reported_commitView
  rw [State.commitReports_eq]
  generalize x.reported = y at hy ⊢
  rw [hx] at hy
  have hyr : y.power.readyDue = none := (congrArg CommitView.readyDue hy).trans hready
  have hyv : ∀ p, (y.port p).view = (w.port p).view := fun p => by
    cases p
    · exact congrArg CommitView.portA hy
    · exact congrArg CommitView.portB hy
  have hz : y.publishPorts = { y with
      portA := (y.portA.publishFrames y.tick y.gradesDown).publishCause (irqEn y.cfg.cur .a) y.tamperCause y.degraded
      portB := (y.portB.publishFrames y.tick y.gradesDown).publishCause (irqEn y.cfg.cur .b) y.tamperCause y.degraded } :=
    if_neg (by rw [hyr]; exact Bool.false_ne_true)
  have hdone : ∀ u : State, u.power.readyDue = none → u.readyIfDue = u := fun u hu => by
    rw [State.readyIfDue, hu]; rfl
  obtain ⟨n, hn⟩ : ∃ n : State, n =
      { y.publishPorts.noteGraded with lanes := { y.publishPorts.noteGraded.lanes with handoverMask := 0 } } := ⟨_, rfl⟩
  rw [← hn]
  rw [hz] at hn
  have hnr : n.power.readyDue = none := by rw [hn]; exact hyr
  rw [hdone n hnr, hn]
  refine ⟨congrArg CommitView.life hy, congrArg CommitView.tick hy, congrArg CommitView.ledger hy, congrArg CommitView.work hy,
    congrArg CommitView.acts hy, rfl, rfl, congrArg CommitView.commitTick hy, congrArg CommitView.faultTick hy,
    congrArg CommitView.takeoverDue hy, fun p => ?_, congrArg CommitView.keyWork hy, congrArg CommitView.portWork hy,
    congrArg CommitView.writes hy, fun hs => ?_, congrArg CommitView.cell hy, congrArg CommitView.ses hy, congrArg CommitView.cfg hy,
    congrArg CommitView.thal hy, congrArg CommitView.dir hy, congrArg CommitView.lock hy⟩
  · have hv := hyv p
    obtain ⟨⟨hf, hl, hr, hsp, hn, hh, hc, hd, hns⟩, hse⟩ :=
      (y.port p).published_keeps y.tick y.gradesDown (irqEn y.cfg.cur p) y.tamperCause y.degraded
    have hsess : (y.port p).newSession = (w.port p).newSession := congrArg PortView.newSession hv
    rw [hsess] at hse
    have hkeeps := And.intro (hf.trans (congrArg PortView.frames hv)) (And.intro (hl.trans (congrArg PortView.late hv))
      (And.intro hr (And.intro hsp (And.intro hn (And.intro (hh.trans (congrArg PortView.held hv))
        (And.intro (hc.trans (congrArg PortView.cutFrames hv)) (And.intro hd (And.intro hns hse))))))))
    cases p
    · exact hkeeps
    · exact hkeeps
  · have hseed : y.rng.seeded = (w.rng.seedTick.isSome || w.rng.seeded) := congrArg (fun v => v.seed.2) hy
    refine hseed.trans ?_
    rw [Option.isSome_iff_ne_none.mpr hs, Bool.true_or]

theorem ticksPublishAndLatch : Claim.TicksPublishAndLatch := by
  refine ⟨fun i s hawake hfault hdue htrans hm => ?_, fun i v => v.beginTick_latches i, fun s n => State.extendWork_all,
    fun s p => rfl⟩
  have hv : s.verdictOn i.matched = .published := by
    simp only [State.verdictOn, State.arbitrationTick, State.lossWithholds, hfault, hdue, htrans, List.head?_nil, Bool.or_false,
      Bool.false_eq_true, if_false, Bool.or_eq_true, hm, if_true]
  rw [exec_tick_published hawake hdue hv]
  have hend : s.endTick = { (if s.spendTick.runReady.commitActs.awake then s.spendTick.runReady.commitActs.publish
      else s.spendTick.runReady.commitActs).endOps with latched := [] } := rfl
  intro w
  change s.endTick = { (if w.awake then w.publish else w).endOps with latched := [] } at hend
  generalize s.endTick = v at hend
  clear_value w
  refine ⟨fun hw => ?_, fun hw hverbs hready => ?_⟩
  · rw [hw, if_neg Bool.false_ne_true] at hend
    have hva : v.awake = false := by rw [hend]; exact hw
    rw [hva, if_neg Bool.false_ne_true, hend]
  · rw [hw, if_pos rfl] at hend
    obtain ⟨hlife, hkeeps⟩ := State.publish_keeps hverbs hready
    rw [← hend] at hlife hkeeps
    have hva : v.awake = true := by
      rw [State.awake] at hw ⊢
      rw [hlife]
      exact hw
    exact ⟨v, by rw [if_pos hva], hva, hkeeps⟩

/-- Settles O56: the published tick by what its commit phase keeps, the replies by their verbs, the tick that is not published by
the leads and hand-overs it ends. -/
theorem ticksPublishOrWait : Obligations.TicksPublishOrWait :=
  ⟨ticksPublishAndLatch, repliesShowTheirCommit, ticksAreWithheld⟩

end Sys2Proof.Machine
end

section
/-! PROOF. A clause command and the frame that spells it: what the tests of its work depend on, the bytes of the frame,
how it opens, and its admission (O10). -/

namespace Sys2Proof.Machine

open Sys2Proof

/-! ### What the tests of a clause's work depend on -/

/-- Two works ask for the same needs and make the same checks. -/
def Work.SameTests (w v : Work) : Prop := w.need = v.need ∧ w.check = v.check

/-- The needs of a work are those of the thallus in force. -/
def Work.NeedsOfThallus (w : Work) : Prop := ∀ s t : State, s.thal.cur = t.thal.cur → w.need s = w.need t

theorem bankWork_sameTests (verb : Nat) (args : Bytes) (sup sup' : Supplied) :
    (bankWork verb args sup).SameTests (bankWork verb args sup') := by
  unfold bankWork
  split <;> exact ⟨rfl, rfl⟩

theorem motionWork_sameTests (verb : Nat) (args : Bytes) (sup sup' : Supplied) :
    (motionWork verb args sup).SameTests (motionWork verb args sup') := by
  unfold motionWork
  split <;> exact ⟨rfl, rfl⟩

theorem keyWork_sameTests (verb : Nat) (args : Bytes) (sup sup' : Supplied) :
    (keyWork verb args sup).SameTests (keyWork verb args sup') := by
  unfold keyWork
  split <;> exact ⟨rfl, rfl⟩

theorem serviceWork_sameTests (verb : Nat) (args : Bytes) (sup sup' : Supplied) :
    (serviceWork verb args sup).SameTests (serviceWork verb args sup') := by
  unfold serviceWork
  split <;> exact ⟨rfl, rfl⟩

/-- What the outside world supplies bears on what a clause does, never on whether it is admitted. -/
theorem workOf_sameTests (verb : Nat) (args : Bytes) (sup sup' : Supplied) :
    (workOf verb args sup).SameTests (workOf verb args sup') := by
  unfold workOf
  split
  case h_7 =>
    by_cases h20 : verb < 0x20
    · simpa only [if_pos h20] using bankWork_sameTests verb args sup sup'
    by_cases h30 : verb < 0x30
    · simp only [if_neg h20, if_pos h30]; exact ⟨rfl, rfl⟩
    by_cases h40 : verb < 0x40
    · simpa only [if_neg h20, if_neg h30, if_pos h40] using motionWork_sameTests verb args sup sup'
    by_cases h48 : verb < 0x48
    · simpa only [if_neg h20, if_neg h30, if_neg h40, if_pos h48] using keyWork_sameTests verb args sup sup'
    by_cases h60 : verb < 0x60
    · simp only [if_neg h20, if_neg h30, if_neg h40, if_neg h48, if_pos h60]; exact ⟨rfl, rfl⟩
    · simpa only [if_neg h20, if_neg h30, if_neg h40, if_neg h48, if_neg h60] using serviceWork_sameTests verb args sup sup'
  all_goals exact ⟨rfl, rfl⟩

theorem lichenEndorseWork_needs (args : Bytes) : (lichenEndorseWork args).NeedsOfThallus := fun _ _ h =>
  congrArg (fun m => eccNeed m 0x15 (readEndorsements m (oct args 0) (args.drop 4))) h

theorem tamperAckWork_needs (args : Bytes) : (tamperAckWork args).NeedsOfThallus := fun _ _ h =>
  congrArg (fun m => eccNeed m 0x71 (readEndorsements m (oct args 0) (args.drop 8))) h

/-- The need of EVIDENCE_SIGN under the thallus `m` (R49). -/
def signNeed (m : Mem) : Need :=
  let n := (verbNeed 0x50).getD {}
  if 2 < evidenceCurve m then { n with ecc := 2 * n.ecc } else n

theorem evidenceSignWork_needs (args : Bytes) : (evidenceSignWork args).NeedsOfThallus := fun _ _ h => congrArg signNeed h

theorem bankWork_needs (verb : Nat) (args : Bytes) (sup : Supplied) : (bankWork verb args sup).NeedsOfThallus := by
  intro s t h
  unfold bankWork
  split
  case h_9 => exact lichenEndorseWork_needs args s t h
  all_goals rfl

/-- The needs of the LINK verbs, which depend on the calendar, are those of clauses that take a place in it. -/
theorem fieldWork_needs (verb : Nat) (args : Bytes) (hair : booksAir verb args = false) :
    (fieldWork verb args).NeedsOfThallus := by
  intro s t _
  unfold fieldWork
  split
  case h_3 | h_7 | h_8 | h_9 => simp [booksAir] at hair
  all_goals rfl

theorem motionWork_needs (verb : Nat) (args : Bytes) (sup : Supplied) : (motionWork verb args sup).NeedsOfThallus := by
  intro s t _
  unfold motionWork
  split <;> rfl

theorem keyWork_needs (verb : Nat) (args : Bytes) (sup : Supplied) : (keyWork verb args sup).NeedsOfThallus := by
  intro s t _
  unfold keyWork
  split <;> rfl

theorem randomWorks_need (args : Bytes) (s t : State) :
    (if bit (oct args 1) 0 then randomPrWork args else randomWork args).need s =
      (if bit (oct args 1) 0 then randomPrWork args else randomWork args).need t := by
  split <;> rfl

theorem cryptoWork_needs (verb : Nat) (args : Bytes) : (cryptoWork verb args).NeedsOfThallus := by
  intro s t h
  unfold cryptoWork
  split
  case h_17 => exact evidenceSignWork_needs args s t h
  case h_19 => exact randomWorks_need args s t
  all_goals rfl

theorem readerWork_need (verb : Nat) (write : Bool) (args : Bytes) (s t : State) :
    (readerWork verb write args).need s = (readerWork verb write args).need t := by
  unfold readerWork
  split <;> rfl

theorem serviceWork_needs (verb : Nat) (args : Bytes) (sup : Supplied) : (serviceWork verb args sup).NeedsOfThallus := by
  intro s t h
  unfold serviceWork
  split
  case h_5 => exact readerWork_need 0x61 false _ s t
  case h_8 => exact readerWork_need 0x62 true _ s t
  case h_11 => rfl
  case h_12 => exact tamperAckWork_needs args s t h
  all_goals rfl

/-- The needs of a clause that takes no place in the air calendar are those of the thallus in force (R49, Table 02.6). -/
theorem workOf_needs (verb : Nat) (args : Bytes) (sup : Supplied) (hair : booksAir verb args = false) :
    (workOf verb args sup).NeedsOfThallus := by
  unfold workOf
  split
  case h_7 =>
    by_cases h20 : verb < 0x20
    · simpa only [if_pos h20] using bankWork_needs verb args sup
    by_cases h30 : verb < 0x30
    · simpa only [if_neg h20, if_pos h30] using fieldWork_needs verb args hair
    by_cases h40 : verb < 0x40
    · simpa only [if_neg h20, if_neg h30, if_pos h40] using motionWork_needs verb args sup
    by_cases h48 : verb < 0x48
    · simpa only [if_neg h20, if_neg h30, if_neg h40, if_pos h48] using keyWork_needs verb args sup
    by_cases h60 : verb < 0x60
    · simpa only [if_neg h20, if_neg h30, if_neg h40, if_neg h48, if_pos h60] using cryptoWork_needs verb args
    · simpa only [if_neg h20, if_neg h30, if_neg h40, if_neg h48, if_neg h60] using serviceWork_needs verb args sup
  all_goals exact fun _ _ _ => rfl

/-- The outside world supplies nothing to a clause that takes a place in the air calendar. -/
theorem suppliedOf_of_booksAir (c : Instr) (k : Clause) (s : State) (hk : clauseOf c = some k)
    (hair : booksAir k.verb k.args = true) : suppliedOf c s = .nothing := by
  cases c
  case configCommit | thallusCommit | keyRetire | fieldportCfgPort | fieldportCfgReaderKey | mailboxWriteLocal | selftest |
      kat | peek =>
    cases hk
    simp [booksAir, oct] at hair
  all_goals rfl

/-! ### Bytes and numbers -/

theorem ofLe_leN (k n : Nat) : ofLe (leN k n) = n % 256 ^ k := by
  induction k generalizing n with
  | zero => simp [leN, ofLe, Nat.mod_one]
  | succ k ih =>
    calc ofLe (leN (k + 1) n) = n % 256 + 256 * (n / 256 % 256 ^ k) := by rw [leN, ofLe, ih, BitVec.toNat_ofNat]
      _ = n % 256 ^ (k + 1) := by rw [Nat.pow_succ, Nat.mul_comm (256 ^ k), Nat.mod_mul]

theorem ofLe_leN_of_lt {k n : Nat} (h : n < 256 ^ k) : ofLe (leN k n) = n := by
  rw [ofLe_leN, Nat.mod_eq_of_lt h]

@[simp] theorem length_crc32cBytes (b : Bytes) : (Crypto.crc32cBytes b).length = 4 := length_leN 4 _

@[simp] theorem length_headBytes (flags : Byte) (seq : BitVec 16) (verb n : Nat) :
    (headBytes flags seq verb n).length = 6 := by simp [headBytes]

/-! ### GCM text -/

/-- The keystream block of index `i` (R297). -/
def keystream (key iv : Bytes) (i : Nat) : Bytes := padTo 16 (Crypto.aesEnc key (iv ++ beN 4 (2 + i)))

@[simp] theorem length_padTo (n : Nat) (b : Bytes) : (padTo n b).length = n := by
  simp [padTo]; omega

theorem xorBytes_xorBytes (a k : Bytes) (h : a.length ≤ k.length) : xorBytes (xorBytes a k) k = a := by
  induction a generalizing k with
  | nil => rfl
  | cons x a ih =>
    cases k with
    | nil => simp at h
    | cons y k =>
      have hk : a.length ≤ k.length := by simpa using h
      simp only [xorBytes, List.zipWith_cons_cons] at ih ⊢
      rw [ih k hk, BitVec.xor_assoc, BitVec.xor_self, BitVec.xor_zero]

theorem length_xorBytes (a k : Bytes) (h : a.length ≤ k.length) : (xorBytes a k).length = a.length := by
  simp [xorBytes, Nat.min_eq_left h]

/-- `n` blocks of `b` under the keystream from index `j` on: what `Crypto.ctr32` applies, block by block. -/
def streamed (key iv : Bytes) (n j : Nat) (b : Bytes) : Bytes :=
  (((Crypto.blocksAux n b).zipIdx j).map fun (x, i) => xorBytes x (keystream key iv i)).flatten

theorem gcmCrypt_eq_streamed (key iv b : Bytes) : Crypto.gcmCrypt key iv b = streamed key iv (b.length / 16 + 1) 0 b := rfl

@[simp] theorem streamed_nil (key iv : Bytes) (n j : Nat) : streamed key iv n j [] = [] := by
  cases n <;> rfl

theorem streamed_succ (key iv : Bytes) (n j : Nat) (b : Bytes) (hb : b ≠ []) :
    streamed key iv (n + 1) j b = xorBytes (b.take 16) (keystream key iv j) ++ streamed key iv n (j + 1) (b.drop 16) := by
  cases b with
  | nil => exact absurd rfl hb
  | cons x r => simp only [streamed, Crypto.blocksAux, List.zipIdx_cons, List.map_cons, List.flatten_cons]

theorem length_block (key iv : Bytes) (j : Nat) (b : Bytes) :
    (xorBytes (b.take 16) (keystream key iv j)).length = min 16 b.length := by
  rw [length_xorBytes _ _ (by simp [keystream]), List.length_take]

theorem length_streamed (key iv : Bytes) (n j : Nat) (b : Bytes) (hn : b.length < 16 * n) :
    (streamed key iv n j b).length = b.length := by
  induction n generalizing j b with
  | zero => omega
  | succ n ih =>
    by_cases hb : b = []
    · simp [hb]
    by_cases h16 : b.length ≤ 16
    · rw [streamed_succ _ _ _ _ _ hb, List.drop_of_length_le h16, streamed_nil, List.append_nil, length_block]
      omega
    · rw [streamed_succ _ _ _ _ _ hb, List.length_append, length_block, ih _ _ (by rw [List.length_drop]; omega),
        List.length_drop]
      omega

/-- The keystream takes itself away. -/
theorem streamed_streamed (key iv : Bytes) (n j : Nat) (b : Bytes) (hn : b.length < 16 * n) :
    streamed key iv n j (streamed key iv n j b) = b := by
  induction n generalizing j b with
  | zero => omega
  | succ n ih =>
    by_cases hb : b = []
    · simp [hb]
    have hlen := length_streamed key iv (n + 1) j b hn
    have hne : streamed key iv (n + 1) j b ≠ [] := by
      intro h
      rw [h] at hlen
      exact hb (List.eq_nil_of_length_eq_zero hlen.symm)
    have hblk := length_block key iv j b
    have hxor : xorBytes (xorBytes (b.take 16) (keystream key iv j)) (keystream key iv j) = b.take 16 :=
      xorBytes_xorBytes _ _ (by simp [keystream])
    rw [streamed_succ _ _ _ _ _ hne, streamed_succ _ _ _ _ _ hb]
    by_cases h16 : b.length ≤ 16
    · rw [List.drop_of_length_le h16, streamed_nil, List.append_nil, List.take_of_length_le (by omega), hxor,
        List.drop_of_length_le (by omega), streamed_nil, List.append_nil, List.take_of_length_le h16]
    · rw [List.take_left' (by omega), List.drop_left' (by omega), hxor,
        ih _ _ (by rw [List.length_drop]; omega), List.take_append_drop]

theorem length_gcmCrypt (key iv b : Bytes) : (Crypto.gcmCrypt key iv b).length = b.length :=
  length_streamed key iv _ 0 b (by omega)

/-- GCM text deciphers to what was enciphered (R297). -/
theorem gcmCrypt_gcmCrypt (key iv b : Bytes) : Crypto.gcmCrypt key iv (Crypto.gcmCrypt key iv b) = b := by
  rw [gcmCrypt_eq_streamed key iv (Crypto.gcmCrypt key iv b), length_gcmCrypt, gcmCrypt_eq_streamed]
  exact streamed_streamed key iv _ 0 b (by omega)

/-! ### The frame of a clause -/

/-- The payload of the clause, as it stands on the wire (Table 03.10). -/
def Clause.payload (k : Clause) (s : State) : Bytes := hdrPayload k.hdr k.args s

/-- The frame without its CRC. -/
def Clause.body (k : Clause) (s : State) : Bytes :=
  headBytes (hdrFlags k.hdr) k.hdr.seq k.verb (k.payload s).length ++ k.payload s

theorem Clause.wire_eq (k : Clause) (s : State) : k.wire s = k.body s ++ Crypto.crc32cBytes (k.body s) := rfl

@[simp] theorem Clause.length_body (k : Clause) (s : State) : (k.body s).length = 6 + (k.payload s).length := by
  simp [Clause.body]

@[simp] theorem Clause.length_wire (k : Clause) (s : State) : (k.wire s).length = 10 + (k.payload s).length := by
  rw [Clause.wire_eq, List.length_append, Clause.length_body, length_crc32cBytes]
  omega

/-- ARG_LEN is the length of the payload. -/
theorem Clause.length_payload (k : Clause) (s : State) : (k.payload s).length = hdrArgLen k.hdr k.args := by
  unfold Clause.payload hdrPayload hdrArgLen
  cases k.hdr.sealing with
  | sealed counter tag =>
    cases (s.port k.hdr.port).session <;> simp [length_gcmCrypt] <;> omega
  | openClause => rfl
  | short => rfl

theorem Clause.wire_drop_one (k : Clause) (s : State) : 0xC1#8 :: (k.wire s).drop 1 = k.wire s := rfl

theorem Clause.wire_flags (k : Clause) (s : State) : oct (k.wire s) 1 = (hdrFlags k.hdr).toNat := rfl

theorem Clause.wire_seq (k : Clause) (s : State) : num (k.wire s) 2 2 = k.hdr.seq.toNat :=
  ofLe_leN_of_lt (k := 2) k.hdr.seq.isLt

theorem Clause.wire_verb (k : Clause) (s : State) (hv : k.verb < 256) : oct (k.wire s) 4 = k.verb :=
  Nat.mod_eq_of_lt hv

theorem Clause.wire_argLen (k : Clause) (s : State) (hn : (k.payload s).length < 256) :
    oct (k.wire s) 5 = (k.payload s).length :=
  Nat.mod_eq_of_lt hn

theorem Clause.wire_payload (k : Clause) (s : State) : slice (k.wire s) 6 (k.payload s).length = k.payload s := by
  rw [Clause.wire_eq, Clause.body, List.append_assoc, slice, List.drop_left' (by simp), List.take_left']
  rfl

theorem Clause.wire_take_body (k : Clause) (s : State) : (k.wire s).take (6 + (k.payload s).length) = k.body s :=
  List.take_left' (k.length_body s)

theorem Clause.wire_crc (k : Clause) (s : State) :
    slice (k.wire s) (6 + (k.payload s).length) 4 = Crypto.crc32cBytes (k.body s) := by
  rw [slice, Clause.wire_eq, List.drop_left' (k.length_body s), List.take_of_length_le (by simp)]

/-- The frame passes the tests of the frame buffer (R57, R59). -/
theorem Clause.checkFrame_wire (k : Clause) (s : State) (hn : (k.payload s).length ≤ 240) :
    checkFrame (k.wire s) = .good (k.wire s) := by
  unfold checkFrame
  simp only [k.wire_argLen s (by omega), Clause.length_wire, k.wire_take_body, k.wire_crc]
  rw [if_neg (by simp; omega), if_neg (by simp), if_neg (by omega), List.take_of_length_le (by simp)]

theorem State.onPort_eq_setPort (s : State) (p : PortId) (f : Port → Port) : s.onPort p f = s.setPort p (f (s.port p)) := by
  cases p <;> rfl

/-- A clause that can be latched finds the SPI side of its port out of reset, and its payload fits (R60). -/
theorem Clause.latched_iff (k : Clause) (s : State) :
    k.latched s = true ↔ (s.port k.hdr.port).arrival = .latched ∧ (k.payload s).length ≤ 240 := by
  rw [Clause.latched, Bool.and_eq_true, beq_iff_eq, decide_eq_true_iff, Clause.length_payload]

theorem Port.spiReset_of_latched {q : Port} (h : q.arrival = .latched) : q.spiReset = false := by
  unfold Port.arrival at h
  cases hs : q.spiReset with
  | false => rfl
  | true => simp [hs] at h

theorem Port.acceptFrame_good {q : Port} {f : Bytes} (hf : checkFrame f = .good f) (hq : q.arrival = .latched) :
    q.acceptFrame f = { q.takeCredit with frames := q.frames ++ [f] } := by
  unfold Port.acceptFrame
  rw [hf, hq]

/-- The frame of a clause that can be latched is placed whole (R57, R59, R60). -/
theorem writtenFramesArePlaced : Claim.WrittenFramesArePlaced := by
  intro k s hl
  obtain ⟨harr, hlen⟩ := (k.latched_iff s).mp hl
  have hwire : 1 + ((k.wire s).drop 1).length = (k.wire s).length := by
    rw [List.length_drop, k.length_wire]
    omega
  have harr' : ((s.port k.hdr.port).shift [] (k.wire s).length).arrival = .latched := harr
  calc exec (.clauseWrite k.hdr.port ((k.wire s).drop 1)) s
      = .next (s.onPort k.hdr.port fun q => (q.shift [] (k.wire s).length).acceptFrame (k.wire s)) := by
        rw [← hwire]; rfl
    _ = _ := by
        rw [State.onPort_eq_setPort, Port.acceptFrame_good (k.checkFrame_wire s hlen) harr', Port.shift,
          if_neg (by simp [Port.spiReset_of_latched harr])]
        rfl

/-! ### How the frame opens -/

/-- The inner arguments of the frame, as it is opened: none where there is nothing to read. -/
def Clause.read (k : Clause) (s : State) : Bytes :=
  match k.hdr.sealing, (s.port k.hdr.port).session with
  | .openClause, _ => k.args
  | .sealed _ _, some _ => k.args
  | _, _ => []

theorem openFrame_of_plain (s : State) (p : PortId) (flags seq verb : Nat) (args : Bytes) (h : bit flags 0 = false) :
    openFrame s p flags seq verb args = (.plain, args) := by simp [openFrame, h]

theorem openFrame_of_short (s : State) (p : PortId) (flags seq verb : Nat) (args : Bytes) (h : bit flags 0 = true)
    (hl : args.length < 24) : openFrame s p flags seq verb args = (.short, []) := by simp [openFrame, h, hl]

/-- A sealed payload is taken apart as it was put together (Table 03.10). -/
theorem openFrame_of_sealed (s : State) (p : PortId) (flags seq verb : Nat) (counter : BitVec 64) (ct tag : Bytes)
    (h : bit flags 0 = true) (ht : tag.length = 16) :
    openFrame s p flags seq verb (leN 8 counter.toNat ++ ct ++ tag) =
      (openPayload (s.port p).session (headBytes (BitVec.ofNat 8 flags) (BitVec.ofNat 16 seq) verb (24 + ct.length))
          counter.toNat ct tag,
        match (s.port p).session with
        | some se => Crypto.gcmCrypt se.key (payloadIv se.id counter.toNat) ct
        | none => []) := by
  have hlen : (leN 8 counter.toNat ++ ct ++ tag).length = 24 + ct.length := by simp [ht]; omega
  have hctr : num (leN 8 counter.toNat ++ ct ++ tag) 0 8 = counter.toNat := by
    rw [num, slice, List.drop_zero, List.append_assoc, List.take_left' (length_leN 8 _)]
    exact ofLe_leN_of_lt (k := 8) counter.isLt
  have hct : slice (leN 8 counter.toNat ++ ct ++ tag) 8 (24 + ct.length - 24) = ct := by
    rw [slice, List.append_assoc, List.drop_left' (length_leN 8 _), List.take_left' (by omega)]
  have htag : (leN 8 counter.toNat ++ ct ++ tag).drop (24 + ct.length - 16) = tag :=
    List.drop_left' (by simp; omega)
  unfold openFrame
  simp only [h, hlen, hctr, hct, htag, Bool.not_true, Bool.false_eq_true, if_false]
  rw [if_neg (by omega)]
  cases (s.port p).session <;> rfl

theorem bit_hdrFlags (h : Hdr) : bit (hdrFlags h).toNat 0 = decide (h.sealing ≠ .openClause) := by
  cases hs : h.sealing <;> simp [hdrFlags, hs]

/-- The frame of a clause opens as the clause command does. -/
theorem Clause.openFrame_wire (k : Clause) (s : State) (hw : k.wellSealed = true) :
    openFrame s k.hdr.port (hdrFlags k.hdr).toNat k.hdr.seq.toNat k.verb (k.payload s) = (k.opened s, k.read s) := by
  have hb := bit_hdrFlags k.hdr
  unfold Clause.payload hdrPayload Clause.opened hdrOpened Clause.read
  cases hs : k.hdr.sealing with
  | openClause => exact openFrame_of_plain _ _ _ _ _ _ (by simp [hb, hs])
  | short =>
    rw [Clause.wellSealed, hs] at hw
    exact openFrame_of_short _ _ _ _ _ _ (by simp [hb, hs]) (of_decide_eq_true hw)
  | sealed counter tag =>
    have hbit : bit (hdrFlags k.hdr).toNat 0 = true := by simp [hb, hs]
    refine (openFrame_of_sealed _ _ _ _ _ _ _ _ hbit (length_beN 16 _)).trans ?_
    rw [BitVec.ofNat_toNat, BitVec.ofNat_toNat, BitVec.setWidth_eq, BitVec.setWidth_eq]
    cases (s.port k.hdr.port).session with
    | none => rfl
    | some se => simp only [length_gcmCrypt, gcmCrypt_gcmCrypt]

/-! ### Admission -/

/-- The state once the frame holds its credit (R60). -/
def Clause.credited (k : Clause) (s : State) : State := s.onPort k.hdr.port Port.takeCredit

theorem Clause.credited_session (k : Clause) (s : State) :
    ((k.credited s).port k.hdr.port).session = (s.port k.hdr.port).session := by
  unfold Clause.credited
  cases k.hdr.port <;> rfl

/-- A frame opens by the session of its port, and by nothing else of the state. -/
theorem openFrame_congr {s t : State} {p : PortId} (h : (s.port p).session = (t.port p).session) (flags seq verb : Nat)
    (args : Bytes) : openFrame s p flags seq verb args = openFrame t p flags seq verb args := by
  unfold openFrame
  rw [h]

/-- The frame of a clause is admitted by its header, with what could be read of it. -/
theorem Clause.latchFrame_wire (k : Clause) (s : State) (hv : k.verb < 256) (hw : k.wellSealed = true)
    (hl : k.latched s = true) :
    (k.credited s).latchFrame k.hdr.port (s.tick, k.wire s) =
      admitClause k.head (k.opened s) (workOf k.verb (k.read s)) s.tick
        (frameGo k.head (k.read s) (workOf k.verb (k.read s)) s.tick (k.credited s))
        ((k.credited s).keepLatched k.head (k.read s) (k.opened s) s.tick) := by
  have hlen := ((k.latched_iff s).mp hl).2
  have hopen : openFrame (k.credited s) k.hdr.port (hdrFlags k.hdr).toNat k.hdr.seq.toNat k.verb (k.payload s) =
      (k.opened s, k.read s) :=
    (openFrame_congr (k.credited_session s) _ _ _ _).trans (k.openFrame_wire s hw)
  have hhead : (⟨k.hdr.port, BitVec.ofNat 8 (hdrFlags k.hdr).toNat, BitVec.ofNat 16 k.hdr.seq.toNat, k.verb⟩ : Head) =
      k.head := by
    simp [Clause.head]
  unfold State.latchFrame
  simp only [k.wire_flags, k.wire_seq, k.wire_verb s hv, k.wire_argLen s (by omega), k.wire_payload, hopen, hhead]

/-- What could be read of the frame: the arguments, or nothing of a payload that did not open. -/
theorem Clause.read_cases (k : Clause) (s : State) :
    k.read s = k.args ∨ (k.read s = [] ∧ (k.opened s = .fails ∨ k.opened s = .short)) := by
  unfold Clause.read Clause.opened hdrOpened
  cases k.hdr.sealing with
  | openClause => exact .inl rfl
  | short => exact .inr ⟨rfl, .inr rfl⟩
  | sealed counter tag =>
    cases (s.port k.hdr.port).session with
    | none => exact .inr ⟨rfl, .inl rfl⟩
    | some se => exact .inl rfl

/-- What is kept until a commit phase is published is what the clause command keeps. -/
theorem Clause.keepLatched_read (k : Clause) (s : State) :
    (k.credited s).keepLatched k.head (k.read s) (k.opened s) s.tick = k.held s := by
  have hinner : (k.opened s).inner (k.read s) = (k.opened s).inner k.args := by
    obtain h | ⟨-, h | h⟩ := k.read_cases s
    · rw [h]
    · rw [h]; rfl
    · rw [h]; rfl
  unfold State.keepLatched
  rw [hinner]
  rfl

/-- A payload that did not open is refused, whatever its verb asks for (R72). -/
theorem refusal_of_unopened (hd : Head) {o : Opened} (ho : o = .fails ∨ o = .short) (t : Nat) :
    ∃ code, ∀ w tk s, refusal hd o w tk t s = some code := by
  by_cases hb : outerBad hd o = true
  · exact ⟨0x13, fun w tk s => by rw [refusal, if_pos hb]⟩
  · obtain rfl | rfl := ho
    · exact ⟨0x12, fun w tk s => by rw [refusal, if_neg hb]; rfl⟩
    · simp [outerBad] at hb

theorem refusal_sameTests {w v : Work} (h : w.SameTests v) (hd : Head) (o : Opened) (tk : Ticket) (t : Nat) (s : State) :
    refusal hd o w tk t s = refusal hd o v tk t s := by
  obtain ⟨hneed, hcheck⟩ := h
  unfold refusal
  rw [hneed, hcheck]

/-- The frame is refused as the clause command is. -/
theorem Clause.refusal_read (k : Clause) (s : State) (sup : Supplied) (tk : Ticket) (t : Nat) (x : State) :
    refusal k.head (k.opened s) (workOf k.verb (k.read s)) tk t x =
      refusal k.head (k.opened s) (workOf k.verb k.args sup) tk t x := by
  obtain h | ⟨-, h⟩ := k.read_cases s
  · rw [h]
    exact refusal_sameTests (workOf_sameTests k.verb k.args .nothing sup) _ _ _ _ _
  · obtain ⟨code, hcode⟩ := refusal_of_unopened k.head h t
    rw [hcode, hcode]

/-- A clause that passes the checks could be read. -/
theorem Clause.read_of_admitted (k : Clause) (s : State) {w : Work} {tk : Ticket} {t : Nat} {x : State}
    (h : refusal k.head (k.opened s) w tk t x = none) : k.read s = k.args := by
  obtain hr | ⟨-, ho⟩ := k.read_cases s
  · exact hr
  · obtain ⟨code, hcode⟩ := refusal_of_unopened k.head ho t
    rw [hcode] at h
    contradiction

theorem Clause.verb_lt (c : Instr) (k : Clause) (hc : clauseOf c = some k) : k.verb < 256 := by
  cases c <;> cases hc <;> simp

theorem Clause.supplied_credited (k : Clause) (s : State) (verb t : Nat) :
    (k.credited s).supplied verb t = s.supplied verb t := rfl

/-- What is done with the admitted frame: a clause that takes a place in the air calendar runs as its command does, the
work of another waits (R43). -/
theorem Clause.frameGo_eq (k : Clause) (s : State) (sup : Supplied)
    (hair : booksAir k.verb k.args = true → sup = .nothing) :
    frameGo k.head k.args (workOf k.verb k.args) s.tick (k.credited s) (k.ticket s)
        (k.begun ((workOf k.verb k.args sup).need (k.counted s)) s) =
      if booksAir k.verb k.args then
        (workOf k.verb k.args sup).run (k.ticket s) (k.begun ((workOf k.verb k.args sup).need (k.counted s)) s)
      else
        let n := (workOf k.verb k.args sup).need (k.counted s)
        let b := ((k.begun n s).reserveFor k.verb k.args (k.ticket s)).bookLoops k.verb k.args (s.tick + n.deadline - 1)
          (k.ticket s)
        { b with work := b.work ++ [k.queued n (s.supplied k.verb s.tick) s] } := by
  by_cases h : booksAir k.verb k.args = true
  · have hhead : booksAir k.head.verb k.args = true := h
    rw [frameGo, if_pos hhead, if_pos h, hair h]
  · have hhead : ¬ booksAir k.head.verb k.args = true := h
    have hneed : (workOf k.verb k.args).need (k.credited s) = (workOf k.verb k.args sup).need (k.counted s) :=
      (workOf_needs k.verb k.args .nothing (Bool.eq_false_iff.mpr h) (k.credited s) (k.counted s) rfl).trans
        (congrFun (workOf_sameTests k.verb k.args .nothing sup).1 _)
    rw [frameGo, if_neg hhead, if_neg h, hneed]
    rfl

theorem clauseCommandsMatchFrames : Claim.ClauseCommandsMatchFrames := by
  intro c k s hc _ hw hl _
  have hgo := k.frameGo_eq s (suppliedOf c s) (suppliedOf_of_booksAir c k s hc)
  have hneed : (workOf k.verb k.args).need = (workOf k.verb k.args (suppliedOf c s)).need :=
    (workOf_sameTests k.verb k.args .nothing (suppliedOf c s)).1
  refine (k.latchFrame_wire s (Clause.verb_lt c k hc) hw hl).trans ?_
  rw [k.keepLatched_read]
  unfold admitClause
  refine if_congr Iff.rfl rfl (if_congr Iff.rfl rfl ?_)
  change (match refusal k.head (k.opened s) (workOf k.verb (k.read s)) (k.ticket s) s.tick (k.counted s) with
    | some code => _
    | none => _) = _
  rw [k.refusal_read s (suppliedOf c s)]
  cases hr : refusal k.head (k.opened s) (workOf k.verb k.args (suppliedOf c s)) (k.ticket s) s.tick (k.counted s) with
  | some code => rfl
  | none =>
    rw [k.read_of_admitted s hr, hneed]
    exact hgo

/-- Settles O10: the bytes of the frame give back the header and, by the involution of the GCM keystream, the arguments;
what the outside world supplies bears on no check, and no need of a clause that waits depends on more than the thallus. -/
theorem clauseCommandsAreTheirFrames : Obligations.ClauseCommandsAreTheirFrames :=
  ⟨clauseCommandsMatchFrames, writtenFramesArePlaced⟩

end Sys2Proof.Machine
end

section
/-! PROOF. The reads of a port (R55, R63, R79, R80), and the frames written to it (R57 to R61, R398 to R401; O8,
O9). -/

namespace Sys2Proof.Machine

open Sys2Proof

/-! ### What a port shifts out -/

/-- While its SPI side is out of reset a port shifts out the status byte and a body (R55, R56). -/
theorem Port.shift_of_running {q : Port} (h : q.spiReset = false) (body : Bytes) (n : Nat) :
    q.shift body n = { q with sdo := padTo n (q.statusByte :: body) } := by
  rw [Port.shift, if_neg (by simp [h])]

/-- The step is fixed by the port that it leaves. -/
theorem next_setPort {s : State} {p : PortId} {q r : Port} (h : q = r) :
    (Host.Outcome.next (s.setPort p q) : Host.Outcome State Fault Refusal) = .next (s.setPort p r) := by
  rw [h]

/-! ### Reply reads -/

/-- What a reply read does to its port (R63). -/
def Port.read (clocked : Nat) (q : Port) : Port :=
  match q.nextReply with
  | none => q.shift [] clocked
  | some b => if 1 + b.length ≤ clocked then (q.shift b clocked).consume else q.shift b clocked

theorem exec_replyRead {p : PortId} {s : State} (h : (s.port p).spiReset = false) (n : Nat) :
    exec (.replyRead p n) s = .next (s.setPort p ((s.port p).read n)) := by
  change Host.Outcome.next (s.onPort p _) = _
  rw [State.onPort_eq_setPort, if_neg (by simp [h])]
  rfl

theorem Port.read_empty {q : Port} (hr : q.spiReset = false) (h : q.nextReply = none) (n : Nat) :
    q.read n = { q with sdo := padTo n [q.statusByte] } := by
  simp only [Port.read, h, Port.shift_of_running hr]

/-- Too few bytes are clocked: nothing is consumed (R63). -/
theorem Port.read_part {q : Port} {b : Bytes} {n : Nat} (hr : q.spiReset = false) (h : q.nextReply = some b)
    (hn : n < 1 + b.length) : q.read n = { q with sdo := padTo n (q.statusByte :: b) } := by
  simp only [Port.read, h, if_neg (Nat.not_le.mpr hn), Port.shift_of_running hr]

/-- The reply clocked in full is consumed (R63). -/
theorem Port.read_whole {q : Port} {b : Bytes} {n : Nat} (hr : q.spiReset = false) (h : q.nextReply = some b)
    (hn : 1 + b.length ≤ n) : q.read n = Port.consume { q with sdo := padTo n (q.statusByte :: b) } := by
  simp only [Port.read, h, if_pos hn, Port.shift_of_running hr]

theorem Port.nextReply_spore {q : Port} {m : SporeStore} {r : List SporeStore} (h : q.spores = m :: r) :
    q.nextReply = some m.bytes := by
  simp only [Port.nextReply, h]

theorem Port.nextReply_general {q : Port} {f : Stored} {r : List Stored} (hs : q.spores = []) (h : q.general = f :: r) :
    q.nextReply = some f.bytes := by
  simp only [Port.nextReply, hs, h]

theorem Port.consume_spore {q : Port} {m : SporeStore} {r : List SporeStore} (h : q.spores = m :: r) :
    q.consume = { q with spores := r, lastRead := m.bytes } := by
  simp only [Port.consume, h]

theorem Port.consume_general {q : Port} {f : Stored} {r : List Stored} (hs : q.spores = []) (h : q.general = f :: r) :
    q.consume = Port.settle f { q with general := r, lastRead := f.bytes } := by
  simp only [Port.consume, hs, h]

theorem Port.settle_notice {f : Stored} (h : f.clause = none) (q : Port) : q.settle f = q := by
  simp only [Port.settle, h]

/-- The clause is no longer outstanding, its credit returns when it was admitted, and a session of the past goes with the last
reply sealed under it (R62, R63, R77). -/
theorem Port.settle_clause {f : Stored} {c : BitVec 16} (h : f.clause = some c) (q : Port) :
    q.settle f =
      let out := q.outstanding.eraseP fun o => o.seq == c && o.answered && o.order == f.order
      { q with
        outstanding := out, credits := if f.admitted then q.credits + 1 else q.credits
        oldSessions := q.oldSessions.filter fun se => out.any fun o => o.sess == some se.id } := by
  simp only [Port.settle, h, Port.dropOldSessions]

/-- A reply of the general stores, clocked in full, is consumed when no SPORE_NEEDED notice waits (R63, R64). -/
theorem Port.read_general {q : Port} {f : Stored} {r : List Stored} {n : Nat} (hr : q.spiReset = false) (hs : q.spores = [])
    (h : q.general = f :: r) (hn : 1 + f.bytes.length ≤ n) : q.read n =
      Port.settle f { q with sdo := padTo n (q.statusByte :: f.bytes), general := r, lastRead := f.bytes } :=
  (Port.read_whole hr (Port.nextReply_general hs h) hn).trans
    (Port.consume_general (q := { q with sdo := padTo n (q.statusByte :: f.bytes) }) hs h)

theorem replyReadConsumesWhatWasClocked : Claim.ReplyReadConsumesWhatWasClocked := by
  intro p n s q hq
  rw [exec_replyRead hq]
  refine ⟨?_, ?_, ?_, ?_, ?_⟩
  · intro m r hm hn
    exact next_setPort ((Port.read_whole hq (Port.nextReply_spore hm) hn).trans (Port.consume_spore hm))
  · intro f r hs hg hc hn
    rw [Port.read_general hq hs hg hn, Port.settle_notice hc]
  · intro f r c hs hg hc hn
    rw [Port.read_general hq hs hg hn, Port.settle_clause hc]
  · intro b hb hn
    rw [Port.read_part hq hb hn]
  · intro hb
    rw [Port.read_empty hq hb]

/-! ### The other reads -/

theorem otherReadsConsumeNothing : Claim.OtherReadsConsumeNothing := by
  intro p n b s q body hq
  refine ⟨?_, ?_, ?_⟩
  · change Host.Outcome.next (s.onPort p _) = _
    rw [State.onPort_eq_setPort, Port.shift_of_running hq]
  · change Host.Outcome.next (s.onPort p _) = _
    rw [State.onPort_eq_setPort, Port.shift_of_running hq]
  · change Host.Outcome.next (s.onPort p _) = _
    rw [State.onPort_eq_setPort, Port.shift_of_running hq, hq]
    simp only [Bool.false_or, decide_eq_true_iff]
    rfl

/-- Settles O9: each read is one change of its port, and the SPI side out of reset makes every shift the status byte and a
body. -/
theorem replyReadsConsume : Obligations.ReplyReadsConsume :=
  ⟨replyReadConsumesWhatWasClocked, otherReadsConsumeNothing⟩

/-! ### Written frames -/

/-- The frame is complete: its head, then as many bytes as ARG_LEN says, then a CRC (R57). -/
abbrev frameWhole (f : Bytes) : Prop := 6 ≤ f.length ∧ 10 + oct f 5 ≤ f.length

/-- The CRC at its end is that of the frame (R59). -/
abbrev frameCrcOk (f : Bytes) : Prop := Crypto.crc32cBytes (f.take (6 + oct f 5)) = slice f (6 + oct f 5) 4

theorem checkFrame_short {f : Bytes} (hw : ¬ frameWhole f) : checkFrame f = .short := by
  unfold checkFrame
  rw [if_pos (by simp only [Bool.or_eq_true, decide_eq_true_iff]; omega)]

theorem checkFrame_whole {f : Bytes} (hw : frameWhole f) : checkFrame f =
    if frameCrcOk f then (if 240 < oct f 5 then .badLength else .good (f.take (10 + oct f 5))) else .badCrc := by
  unfold checkFrame
  rw [if_neg (by simp only [Bool.or_eq_true, decide_eq_true_iff]; omega)]
  by_cases hc : frameCrcOk f
  · rw [if_pos hc, if_neg (by simpa using hc)]
  · rw [if_neg hc, if_pos (by simpa using hc)]

theorem Port.arrival_latched {q : Port} (hq : q.ready = true) (hr : q.spiReset = false) (hc : q.credits ≠ 0)
    (hb : q.boundStores < 12) : q.arrival = .latched := by
  unfold Port.arrival
  rw [if_neg (by simp [hq, hr]), if_neg (by simp [hc, hb])]

theorem Port.arrival_overrun {q : Port} (hq : q.ready = true) (hr : q.spiReset = false)
    (h : q.credits = 0 ∨ 12 ≤ q.boundStores) : q.arrival = .overrun := by
  unfold Port.arrival
  rw [if_neg (by simp [hq, hr]), if_pos (by simpa using h)]

/-- A port that is READY and out of reset takes in what it is sent, or discards it (R60). -/
theorem Port.arrival_of_ready {q : Port} (hq : q.ready = true) (hr : q.spiReset = false) :
    q.arrival = .latched ∨ q.arrival = .overrun := by
  unfold Port.arrival
  rw [if_neg (by simp [hq, hr])]
  split
  · exact .inr rfl
  · exact .inl rfl

theorem Port.acceptFrame_overrun {q : Port} {f g : Bytes} (hf : checkFrame f = .good g) (hq : q.arrival = .overrun) :
    q.acceptFrame f = q.hold 11 [] := by
  unfold Port.acceptFrame
  rw [hf, hq]

theorem Port.acceptFrame_placed {q : Port} {f g : Bytes} (hf : checkFrame f = .good g) (hq : q.arrival = .latched) :
    q.acceptFrame f = { q.takeCredit with frames := q.frames ++ [g] } := by
  unfold Port.acceptFrame
  rw [hf, hq]

theorem Port.acceptFrame_short {q : Port} {f : Bytes} (hf : checkFrame f = .short)
    (hq : q.arrival = .latched ∨ q.arrival = .overrun) : q.acceptFrame f = q.hold 12 [] := by
  unfold Port.acceptFrame
  obtain hq | hq := hq <;> rw [hf, hq]

/-- The FRAME_CRC notice of a whole frame: reason 1 CRC, 2 length (R67). -/
def badNotice (f : Bytes) : Staged :=
  { seq := BitVec.ofNat 16 (num f 2 2), verb := oct f 4, status := 0x16
    results := [0x03#8, if frameCrcOk f then 0x02#8 else 0x01#8], unverified := true, notice := true }

theorem Port.acceptFrame_bad {q : Port} {f : Bytes} (hw : frameWhole f) (hbad : ¬ frameCrcOk f ∨ 240 < oct f 5)
    (hq : q.arrival = .latched ∨ q.arrival = .overrun) :
    q.acceptFrame f = q.hold 12 [badNotice f] := by
  unfold Port.acceptFrame badNotice
  rw [checkFrame_whole hw]
  by_cases hc : frameCrcOk f
  · have hn : 240 < oct f 5 := hbad.resolve_left (not_not_intro hc)
    rw [if_pos hc, if_pos hn, if_pos hc]
    obtain hq | hq := hq <;> rw [hq] <;> rfl
  · rw [if_neg hc, if_neg hc]
    obtain hq | hq := hq <;> rw [hq] <;> rfl

/-- CLAUSE_WRITE shifts out the status byte, and the frame is placed or discarded (R55, R60). -/
theorem exec_clauseWrite {p : PortId} {s : State} (hr : (s.port p).spiReset = false) (m : Bytes) :
    exec (.clauseWrite p m) s = .next (s.setPort p (Port.acceptFrame (0xC1#8 :: m)
      { s.port p with sdo := padTo (1 + m.length) [(s.port p).statusByte] })) := by
  change Host.Outcome.next (s.onPort p _) = _
  rw [State.onPort_eq_setPort, Port.shift_of_running hr]

theorem clauseWritePlacesOrDiscards : Claim.ClauseWritePlacesOrDiscards := by
  intro p m s q f n sdo whole crcOk hr hq
  rw [exec_clauseWrite hr]
  have harr : Port.arrival { q with sdo := sdo } = .latched ∨ Port.arrival { q with sdo := sdo } = .overrun :=
    Port.arrival_of_ready hq hr
  refine ⟨?_, ?_, ?_, ?_⟩
  · intro hw hc hn hcr hb
    have hf : checkFrame f = .good (f.take (10 + n)) := by rw [checkFrame_whole hw, if_pos hc, if_neg (by omega)]
    exact next_setPort (Port.acceptFrame_placed hf (Port.arrival_latched hq hr hcr hb))
  · intro hw hc hn h
    have hf : checkFrame f = .good (f.take (10 + n)) := by rw [checkFrame_whole hw, if_pos hc, if_neg (by omega)]
    exact next_setPort (Port.acceptFrame_overrun hf (Port.arrival_overrun hq hr h))
  · intro hw
    exact next_setPort (Port.acceptFrame_short (checkFrame_short hw) harr)
  · intro hw hbad
    exact ⟨_, next_setPort (Port.acceptFrame_bad hw hbad harr), rfl⟩

/-! ### The reset of an SPI side -/

theorem State.crossingsClosed_iff (s : State) : s.crossingsClosed = true ↔ s.power.readyDue.isSome = true ∨
    s.power.life = .starting ∨ s.power.life = .bootStopped ∨ s.power.life = .unpowered := by
  unfold State.crossingsClosed
  rw [Bool.or_eq_true]
  cases s.power.life <;> simp

theorem exec_crossingReopen (p : PortId) (s : State) : exec (.crossingReopen p) s =
    .next (s.setPort p { s.port p with vioLow := false, spiReset := (s.port p).spiReset && s.crossingsClosed }) := by
  change Host.Outcome.next (s.onPort p _) = _
  rw [State.onPort_eq_setPort]

theorem State.setPort_self (s : State) (p : PortId) : s.setPort p (s.port p) = s := by
  cases p <;> rfl

theorem exec_spiSideReset (p : PortId) (inFrame : Bool) (s : State) : exec (.spiSideReset p inFrame) s =
    .next { s.setPort p ((s.port p).spiSideReset inFrame) with
      power := { s.power with newFlush := s.power.newFlush || s.awake } } := by
  change Host.Outcome.next { s.onPort p (Port.spiSideReset inFrame) with
    power := { s.power with newFlush := s.power.newFlush || s.awake } } = _
  rw [State.onPort_eq_setPort]

/-- A frame being shifted in is cut once, by the reset that begins (R61). -/
theorem Port.spiSideReset_eq (inFrame : Bool) (q : Port) : q.spiSideReset inFrame =
    { q with
      spiReset := true, vioLow := true
      cutFrames := q.cutFrames + (if inFrame = true ∧ q.spiReset = false then 1 else 0)
      latches := [], wbuf := [], sdo := [] } := by
  unfold Port.spiSideReset
  cases inFrame <;> cases q.spiReset <;> rfl

theorem Port.arrival_of_reset {q : Port} (h : q.spiReset = true) : q.arrival = .notReady := by
  unfold Port.arrival
  rw [if_pos (by simp [h])]

theorem Port.acceptFrame_of_notReady {q : Port} (h : q.arrival = .notReady) (f : Bytes) : q.acceptFrame f = q := by
  unfold Port.acceptFrame
  rw [h]

/-- An SPI side in reset drives nothing and takes nothing in (R400). -/
theorem exec_clauseWrite_of_reset {p : PortId} {s : State} (h : (s.port p).spiReset = true) (m : Bytes) :
    exec (.clauseWrite p m) s = .next (s.setPort p { s.port p with sdo := [] }) := by
  have hshift : (s.port p).shift [] (1 + m.length) = { s.port p with sdo := [] } := by rw [Port.shift, if_pos h]
  have harr : Port.arrival { s.port p with sdo := [] } = .notReady := Port.arrival_of_reset h
  change Host.Outcome.next (s.onPort p _) = _
  rw [State.onPort_eq_setPort, hshift, Port.acceptFrame_of_notReady harr]

theorem exec_replyRead_of_reset {p : PortId} {s : State} (h : (s.port p).spiReset = true) (n : Nat) :
    exec (.replyRead p n) s = .next s := by
  change Host.Outcome.next (s.onPort p _) = _
  rw [State.onPort_eq_setPort, if_pos h, State.setPort_self]

theorem spiSideResetKeepsClauses : Claim.SpiSideResetKeepsClauses := by
  intro p inFrame s
  refine ⟨?_, ⟨?_, ?_⟩, fun q => ⟨rfl, rfl, rfl⟩,
    fun hr m n => ⟨exec_clauseWrite_of_reset hr m, exec_replyRead_of_reset hr n⟩⟩
  · rw [exec_spiSideReset, Port.spiSideReset_eq]
  · intro hclosed
    rw [exec_crossingReopen, s.crossingsClosed_iff.mpr hclosed, Bool.and_true]
  · intro hopen
    rw [exec_crossingReopen, Bool.eq_false_iff.mpr (mt s.crossingsClosed_iff.mp hopen), Bool.and_false]

/-- Settles O8: what the frame is and what the port can take decide between the cases, and a port out of READY or in reset
takes nothing in. -/
theorem writtenFramesAreHeld : Obligations.WrittenFramesAreHeld :=
  ⟨clauseWritePlacesOrDiscards, spiSideResetKeepsClauses⟩

end Sys2Proof.Machine
end

section
/-! PROOF. Every clause command is tested as `workOf` says and, once admitted, goes on as `Clause.proceeds` says (R36, R41,
R43, R50, R60, R65, R66, R367, R373; O5). -/

namespace Sys2Proof.Machine

open Sys2Proof

/-! ### What a clause command does with a clause that is admitted -/

/-- LANE_HINT alone decides whether the admitted clause waits: it takes no place in the air calendar, is no test of the MAINT
class and answers no SPORE_NEEDED (R36, R50). -/
def Clause.waitsOnHint (k : Clause) : Bool :=
  !booksAir k.verb k.args && k.verb != 0x68 && k.verb != 0x69 && !(k.verb == 0x40 && oct k.args 0 == 0)

theorem Clause.waitsOnHint_iff (k : Clause) : k.waitsOnHint = true ↔ booksAir k.verb k.args = false ∧ k.verb ≠ 0x68 ∧
    k.verb ≠ 0x69 ∧ ¬ (k.verb = 0x40 ∧ oct k.args 0 = 0) := by
  simp only [Clause.waitsOnHint, Bool.and_eq_true, Bool.not_eq_true', bne_iff_ne, Bool.and_eq_false_iff,
    beq_eq_false_iff_ne, not_and_or, and_assoc]

theorem Clause.waits_iff (k : Clause) (s : State) : k.waits s = true ↔ k.hint = true ∨ k.verb = 0x68 ∨ k.verb = 0x69 ∨
    (k.verb = 0x40 ∧ oct k.args 0 = 0 ∧ 3 ≤ s.ks.loadsStaged) := by
  simp only [Clause.waits, Bool.or_eq_true, Bool.and_eq_true, beq_iff_eq, decide_eq_true_iff, or_assoc, and_assoc]

theorem Clause.waits_of_waitsOnHint {k : Clause} (h : k.waitsOnHint = true) (s : State) : k.waits s = k.hint := by
  obtain ⟨-, h68, h69, h40⟩ := k.waitsOnHint_iff.mp h
  rw [Bool.eq_iff_iff, Clause.waits_iff]
  tauto

theorem State.bookLoops_of_ne {verb : Nat} (h : verb ≠ 0x68) (args : Bytes) (last : Nat) (tk : Ticket) (s : State) :
    s.bookLoops verb args last tk = s := by
  rw [State.bookLoops, if_neg (by simp [h])]

theorem State.reserveFor_of_ne {verb : Nat} (h58 : verb ≠ 0x58) (h16 : verb ≠ 0x16) (args : Bytes) (tk : Ticket) (s : State) :
    s.reserveFor verb args tk = s := by
  rw [State.reserveFor, if_neg (by simp [h58, h16])]

/-- The admission of the clause may reserve an entropy block (R329, R342). -/
def Clause.mayReserve (k : Clause) : Bool := k.verb == 0x58 || k.verb == 0x16

theorem Clause.reserveFor_of_not {k : Clause} (h : k.mayReserve = false) (tk : Ticket) (s : State) :
    s.reserveFor k.verb k.args tk = s := by
  rw [Clause.mayReserve, Bool.or_eq_false_iff, beq_eq_false_iff_ne, beq_eq_false_iff_ne] at h
  exact State.reserveFor_of_ne h.1 h.2 k.args tk s

/-- The clause waits, in the state that admission leaves once a block and loopback tests are booked. -/
theorem Clause.proceeds_waits {k : Clause} {s : State} (hair : booksAir k.verb k.args = false) (h : k.waits s = true)
    (w : Work) (sup : Supplied) : k.proceeds w sup s =
      let n := w.need (k.counted s)
      let b := (k.reserved n s).bookLoops k.verb k.args (s.tick + n.deadline - 1) (k.ticket s)
      { b with work := b.work ++ [k.queued n sup s] } := by
  rw [Clause.proceeds, if_neg (by simp [hair])]
  exact if_pos h

/-- A clause that draws nothing runs, or waits with LANE_HINT. -/
theorem Clause.proceeds_goes {k : Clause} {s : State} (h : k.waitsOnHint = true) (hd : k.drawsRandom s = false) (w : Work)
    (sup : Supplied) :
    k.proceeds w sup s = k.goesFrom (k.reserved (w.need (k.counted s)) s) (w.need (k.counted s)) sup w.run s := by
  obtain ⟨hair, h68, -, -⟩ := k.waitsOnHint_iff.mp h
  rw [Clause.proceeds, if_neg (by simp [hair]), Clause.waits_of_waitsOnHint h, hd, State.bookLoops_of_ne h68]
  rfl

/-- A clause that draws is noted when it runs (R322). -/
theorem Clause.proceeds_draws {k : Clause} {s : State} (h : k.waitsOnHint = true) (hd : k.drawsRandom s = true) (w : Work) :
    k.proceeds w .nothing s = k.draws (w.need (k.counted s)) w.run s := by
  obtain ⟨hair, h68, -, -⟩ := k.waitsOnHint_iff.mp h
  rw [Clause.proceeds, if_neg (by simp [hair]), Clause.waits_of_waitsOnHint h, hd, State.bookLoops_of_ne h68]
  rfl

/-! ### Commands that are run as the work of their clause -/

/-- The work `w` with the continuation `go` is run as the clause `k`: its tests are those of the clause's work, and a clause that
they admit goes on as `Clause.proceeds` says. -/
structure Clause.RunBy (k : Clause) (sup : Supplied) (s : State) (w : Work) (go : Ticket → State → State) : Prop where
  tests : ∀ tk t x, refusal k.head (k.opened s) w tk t x = refusal k.head (k.opened s) (workOf k.verb k.args sup) tk t x
  goesOn : refusal k.head (k.opened s) (workOf k.verb k.args sup) (k.ticket s) s.tick (k.counted s) = none →
    go (k.ticket s) (k.begun (w.need (k.counted s)) s) = k.proceeds (workOf k.verb k.args sup) sup s

/-- Taking the frame and its counter in changes no need of a clause that takes no place in the air calendar. -/
theorem Clause.need_counted {k : Clause} (hair : booksAir k.verb k.args = false) (sup : Supplied) (s : State) :
    (workOf k.verb k.args sup).need s = (workOf k.verb k.args sup).need (k.counted s) :=
  workOf_needs k.verb k.args sup hair s (k.counted s) rfl

/-- An admitted clause command runs, or waits with LANE_HINT (R66, R373). -/
theorem hdrGo_goesFrom {k : Clause} {s : State} {w : Work} {n : Need} (hn : w.need s = n) (sup : Supplied) (b : State) :
    hdrGo k.verb k.hdr k.args sup w s (k.ticket s) b = k.goesFrom b n sup w.run s := by
  rw [hdrGo, Clause.goesFrom, hn, Clause.hint]
  split <;> rfl

/-- A clause that takes a place in the air calendar runs at once (R45, R116, R266). -/
theorem Clause.runBy_air {k : Clause} (h : booksAir k.verb k.args = true) (sup : Supplied) (s : State) :
    k.RunBy sup s (workOf k.verb k.args sup) (workOf k.verb k.args sup).run where
  tests _ _ _ := rfl
  goesOn _ := by rw [Clause.proceeds, if_pos h]

/-- A clause command whose admission may reserve a block; the work may be given what the outside world supplies in its own way,
as long as it runs to the same state. -/
theorem Clause.runBy_reserve {k : Clause} {sup : Supplied} {s : State} {w : Work} (h : k.waitsOnHint = true)
    (hd : k.drawsRandom s = false) (hw : w.SameTests (workOf k.verb k.args sup))
    (hrun : ∀ n, w.run (k.ticket s) (k.reserved n s) = (workOf k.verb k.args sup).run (k.ticket s) (k.reserved n s)) :
    k.RunBy sup s w fun tk s1 => hdrGo k.verb k.hdr k.args sup w s tk (s1.reserveFor k.verb k.args tk) where
  tests tk t x := refusal_sameTests hw _ _ _ _ _
  goesOn _ := by
    have hneed := Clause.need_counted (k.waitsOnHint_iff.mp h).1 sup s
    rw [← hw.1] at hneed
    rw [Clause.proceeds_goes h hd, hdrGo_goesFrom hneed, ← hw.1, Clause.goesFrom, Clause.goesFrom]
    exact if_congr Iff.rfl rfl (hrun _)

/-- Of every other clause command the admission reserves nothing. -/
theorem Clause.runBy_command {k : Clause} {sup : Supplied} {s : State} {w : Work} (h : k.waitsOnHint = true)
    (hr : k.mayReserve = false) (hd : k.drawsRandom s = false) (hw : w.SameTests (workOf k.verb k.args sup))
    (hrun : ∀ n, w.run (k.ticket s) (k.begun n s) = (workOf k.verb k.args sup).run (k.ticket s) (k.begun n s)) :
    k.RunBy sup s w (hdrGo k.verb k.hdr k.args sup w s) := by
  have hres : ∀ (tk : Ticket) (b : State), b.reserveFor k.verb k.args tk = b := fun tk b =>
    Clause.reserveFor_of_not hr tk b
  have hrun' : ∀ n, w.run (k.ticket s) (k.reserved n s) = (workOf k.verb k.args sup).run (k.ticket s) (k.reserved n s) := by
    intro n
    rw [Clause.reserved, hres, hrun]
  simpa only [hres] using Clause.runBy_reserve h hd hw hrun'

/-- A clause that draws random values is noted when it runs (R322). -/
theorem Clause.runBy_draw {k : Clause} {s : State} {w : Work} (h : k.waitsOnHint = true) (hd : k.drawsRandom s = true)
    (hw : workOf k.verb k.args .nothing = w) :
    k.RunBy .nothing s w fun tk s1 =>
      (hdrGo k.verb k.hdr k.args .nothing w s tk (s1.reserveFor k.verb k.args tk)).noteDraw (hdrHint k.hdr)
        ⟨tk, k.args, .nothing, (hdrHead k.hdr k.verb).prio, s.tick, s.tick + (w.need s).deadline - 1, none⟩ where
  tests _ _ _ := by rw [hw]
  goesOn _ := by
    have hneed := Clause.need_counted (k.waitsOnHint_iff.mp h).1 .nothing s
    rw [Clause.proceeds_draws h hd, ← hw, hdrGo_goesFrom hneed, hneed, Clause.draws, Clause.goesFrom,
      Clause.goesFrom, State.noteDraw]
    change (if k.hint = true then _ else _) = _
    split <;> rfl

/-- SELFTEST and KAT wait for their slack (R50, R381). -/
theorem Clause.runBy_maint {k : Clause} {s : State} {r : TestResult} (hv : k.verb = 0x68 ∨ k.verb = 0x69) :
    let w := workOf k.verb k.args (.test r)
    let d := (w.need s).deadline
    k.RunBy (.test r) s w fun tk s1 =>
      (s1.bookLoops k.verb k.args (s.tick + d - 1) tk).enqueue k.args (.test r) (hdrHead k.hdr k.verb).prio s.tick d tk where
  tests _ _ _ := rfl
  goesOn _ := by
    have hair : booksAir k.verb k.args = false := by obtain hv | hv := hv <;> rw [hv] <;> rfl
    have hwaits : k.waits s = true := (k.waits_iff s).mpr (.inr (by tauto))
    have hres := State.reserveFor_of_ne (verb := k.verb) (by omega) (by omega) k.args (k.ticket s)
    rw [Clause.proceeds_waits hair hwaits, Clause.need_counted hair]
    simp only [Clause.reserved, hres]
    rfl

/-- A SPORE_LOAD that answers a request waits behind three others of its tick (R36). -/
theorem Clause.runBy_sporeLoad {k : Clause} {s : State} (hv : k.verb = 0x40) (hop : oct k.args 0 = 0) :
    let w := workOf k.verb k.args .nothing
    k.RunBy .nothing s w (if 3 ≤ s.ks.loadsStaged then
        State.enqueue k.args .nothing (hdrHead k.hdr k.verb).prio s.tick (w.need s).deadline
      else hdrGo k.verb k.hdr k.args .nothing w s) where
  tests _ _ _ := rfl
  goesOn _ := by
    have hair : booksAir k.verb k.args = false := by rw [hv]; rfl
    have hdraws : k.drawsRandom s = false := by rw [Clause.drawsRandom, hv]; rfl
    have hplain : ∀ b : State, b.reserveFor k.verb k.args (k.ticket s) = b :=
      State.reserveFor_of_ne (by omega) (by omega) k.args (k.ticket s)
    have hneed := Clause.need_counted hair .nothing s
    by_cases h3 : 3 ≤ s.ks.loadsStaged
    · have hwaits : k.waits s = true := (k.waits_iff s).mpr (.inr (.inr (.inr ⟨hv, hop, h3⟩)))
      rw [if_pos h3, Clause.proceeds_waits hair hwaits, hneed]
      simp only [Clause.reserved, hplain, State.bookLoops_of_ne (show k.verb ≠ 0x68 by omega)]
      rfl
    · have hwaits : k.waits s = k.hint := by
        rw [Bool.eq_iff_iff, Clause.waits_iff]
        simp only [hv, h3]
        tauto
      rw [if_neg h3, hdrGo_goesFrom hneed, Clause.proceeds, if_neg (by simp [hair]), hwaits, hdraws]
      simp only [hplain, State.bookLoops_of_ne (show k.verb ≠ 0x68 by omega)]
      rfl

/-- A clause of a stream is noted as one that draws when its BEGIN drew in this tick (R322). -/
theorem Clause.runBy_stream (h : Hdr) (args : Bytes) (s : State) (hop : (oct args 0 == 0 || oct args 0 == 1) = false) :
    let k : Clause := ⟨0x48, h, args⟩
    ∃ w go, (Host.Outcome.next (streamCommand h args (workOf 0x48 args .nothing) s) : Host.Outcome State Fault Refusal) =
      .next (commandWith 0x48 h args w go s) ∧ k.RunBy .nothing s w go := by
  intro k
  have hon : k.waitsOnHint = true := rfl
  have hbegun : k.drawsRandom s = s.drawn.any fun q =>
      q.ticket.port == h.port && q.ticket.verb == 0x48 && oct q.args 0 == 1 && oct q.args 2 == oct args 2 := by
    change (false || (true && ((oct args 0 == 0 || oct args 0 == 1) || _))) = _
    rw [hop, Bool.false_or, Bool.true_and, Bool.false_or]
  rw [streamCommand, ← hbegun]
  cases hd : k.drawsRandom s with
  | true => exact ⟨_, _, rfl, Clause.runBy_draw hon hd rfl⟩
  | false => exact ⟨_, _, rfl, Clause.runBy_command hon rfl hd ⟨rfl, rfl⟩ fun _ => rfl⟩

/-! ### RANDOM -/

/-- Arguments too short to hold FLAGS spell no PR bit. -/
theorem bit_randomArgs_false (args : Bytes) : bit (oct (randomArgs false args) 1) 0 = false := by
  match args with
  | [] | [_] => simp [randomArgs, oct]
  | x :: y :: r =>
    change ((y &&& 0xFE#8).toNat.testBit 0) = false
    simp

theorem bit_randomArgs_true {args : Bytes} (h : 2 ≤ args.length) : bit (oct (randomArgs true args) 1) 0 = true := by
  match args, h with
  | x :: y :: r, _ =>
    change ((y ||| 1#8).toNat.testBit 0) = true
    simp

theorem randomBad_of_short {args : Bytes} (h : args.length < 4) (tk : Ticket) : randomBad args tk = true := by
  simp [randomBad, h]

/-- Arguments that a verb does not take turn the clause away, whatever its other checks. -/
theorem refusal_of_arg {hd : Head} {o : Opened} {w : Work} {tk : Ticket} {t : Nat} {s : State}
    (h : (w.check tk s).arg = true) :
    refusal hd o w tk t s = some (if outerBad hd o then 0x13 else if o == .fails then 0x12 else 0x13) := by
  simp only [refusal, h, if_true]
  split_ifs <;> rfl

/-- Two works that both reject the arguments are refused alike. -/
theorem Clause.runBy_of_arg {k : Clause} {sup : Supplied} {w : Work} (h : ∀ tk x, (w.check tk x).arg = true)
    (h' : ∀ tk x, ((workOf k.verb k.args sup).check tk x).arg = true) (s : State) (go : Ticket → State → State) :
    k.RunBy sup s w go where
  tests tk t x := by rw [refusal_of_arg (h tk x), refusal_of_arg (h' tk x)]
  goesOn hr := by
    rw [refusal_of_arg (h' _ _)] at hr
    contradiction

/-- RANDOM_PR with arguments too short for its FLAGS is spelt as a plain RANDOM; both are refused. -/
theorem Clause.runBy_randomPr_short {args : Bytes} (hlen : args.length < 2) (h : Hdr) (s : State)
    (go : Ticket → State → State) :
    Clause.RunBy ⟨0x58, h, randomArgs true args⟩ .nothing s (randomPrWork (randomArgs true args)) go := by
  have hbad : ∀ tk, randomBad (randomArgs true args) tk = true := randomBad_of_short (by simp [randomArgs]; omega)
  refine Clause.runBy_of_arg (fun tk _ => hbad tk) (fun tk x => ?_) s go
  change ((if bit (oct (randomArgs true args) 1) 0 = true then _ else _ : Work).check tk x).arg = true
  split <;> exact hbad tk

/-! ### The stage that a commit takes -/

/-- A THALLUS_COMMIT that runs at once takes the stage and the endorsers that it would have held (R349). -/
theorem thallusCommitWork_run_held (args : Bytes) (nvm : BankOutcome) (tk : Ticket) {b s : State} (ht : b.thal = s.thal)
    (hp : b.prot = s.prot) : (thallusCommitWork args nvm).run tk b =
      (thallusCommitWork args nvm (some (s.thal.stage.getD [], s.prot.endorsed))).run tk b := by
  rw [← ht, ← hp]
  rfl

theorem State.reserveFor_banks (verb : Nat) (args : Bytes) (tk : Ticket) (s : State) :
    (s.reserveFor verb args tk).thal = s.thal ∧ (s.reserveFor verb args tk).prot = s.prot := by
  unfold State.reserveFor
  split <;> exact ⟨rfl, rfl⟩

theorem Clause.reserved_thal (k : Clause) (n : Need) (s : State) : (k.reserved n s).thal = s.thal :=
  (State.reserveFor_banks k.verb k.args (k.ticket s) (k.begun n s)).1

theorem Clause.reserved_prot (k : Clause) (n : Need) (s : State) : (k.reserved n s).prot = s.prot :=
  (State.reserveFor_banks k.verb k.args (k.ticket s) (k.begun n s)).2

/-! ### Every clause command -/

/-- A clause command is run as the work of its clause. -/
theorem exec_clause (c : Instr) (k : Clause) (hc : clauseOf c = some k) (s : State) :
    ∃ w go, exec c s = .next (commandWith k.verb k.hdr k.args w go s) ∧ k.RunBy (suppliedOf c s) s w go := by
  cases c
  case configCommit h args nvm =>
    cases hc
    exact ⟨_, _, rfl, Clause.runBy_command rfl rfl rfl ⟨rfl, rfl⟩ fun _ => rfl⟩
  case thallusCommit h args nvm =>
    cases hc
    exact ⟨_, _, rfl, Clause.runBy_reserve rfl rfl ⟨rfl, rfl⟩ fun n =>
      thallusCommitWork_run_held args nvm _ (Clause.reserved_thal _ n s) (Clause.reserved_prot _ n s)⟩
  case fieldVector | aerialCal | inventory | authenticate | locate | mailboxReadReader | mailboxWriteReader =>
    cases hc
    exact ⟨_, _, rfl, Clause.runBy_air rfl _ s⟩
  case sporeWrap | evidenceSign | hostPair | encryptOneshot | encryptBegin =>
    cases hc
    exact ⟨_, _, rfl, Clause.runBy_draw rfl rfl rfl⟩
  case encryptUpdate h args =>
    cases hc
    exact Clause.runBy_stream h (2#8 :: args) s rfl
  case encryptFinal h args =>
    cases hc
    exact Clause.runBy_stream h (3#8 :: args) s rfl
  case encryptAbort h args =>
    cases hc
    exact Clause.runBy_stream h (5#8 :: args) s rfl
  case random h args =>
    cases hc
    exact ⟨_, _, rfl, Clause.runBy_draw rfl rfl (if_neg (Bool.eq_false_iff.mp (bit_randomArgs_false args)))⟩
  case randomPr h args =>
    cases hc
    by_cases hlen : 2 ≤ args.length
    · exact ⟨_, _, rfl, Clause.runBy_draw rfl rfl (if_pos (bit_randomArgs_true hlen))⟩
    · exact ⟨_, _, rfl, Clause.runBy_randomPr_short (by omega) h s _⟩
  case selftest =>
    cases hc
    exact ⟨_, _, rfl, Clause.runBy_maint (.inl rfl)⟩
  case kat =>
    cases hc
    exact ⟨_, _, rfl, Clause.runBy_maint (.inr rfl)⟩
  case sporeLoadNeeded =>
    cases hc
    exact ⟨_, _, rfl, Clause.runBy_sporeLoad rfl rfl⟩
  all_goals
    cases hc <;> exact ⟨_, _, rfl, Clause.runBy_command rfl rfl rfl ⟨rfl, rfl⟩ fun _ => rfl⟩

/-! ### Latched clauses -/

/-- In an arbitration tick the frame waits, with that tick as its latch tick (R53, R367). -/
theorem commandWith_arbitration (k : Clause) (w : Work) (go : Ticket → State → State) (s : State) (hl : k.latched s = true)
    (ha : s.arbitrationTick = true) :
    commandWith k.verb k.hdr k.args w go s =
      s.onPort k.hdr.port fun q => { q with credits := q.credits - 1, late := q.late ++ [(s.tick, k.wire s)] } := by
  rw [Clause.latched, Bool.and_eq_true, beq_iff_eq, decide_eq_true_iff] at hl
  simp only [commandWith, hl.1, ha]
  rw [if_neg (by omega)]
  rfl

/-- A clause that fails a check of R41 gets one of the statuses of Table 03.7. -/
theorem isRefusalCode_of_refusal {hd : Head} {o : Opened} {w : Work} {tk : Ticket} {t : Nat} {s : State} {code : Nat}
    (h : refusal hd o w tk t s = some code) : isRefusalCode code := by
  unfold refusal at h
  unfold isRefusalCode
  simp only at h
  split_ifs at h <;> cases h <;> decide

theorem latchedClausesAreTested : Claim.LatchedClausesAreTested := by
  intro c k s hc hl w checked
  obtain ⟨v, go, hexec, hrun⟩ := exec_clause c k hc s
  rw [hexec]
  refine ⟨fun ha => ?_, fun ha => ⟨fun hd => ?_, fun hd hx => ?_, fun hd hx => ?_⟩⟩
  · rw [commandWith_arbitration k v go s hl ha]
  · rw [commandWith_duplicate k v go s hl ha hd]
  · rw [commandWith_openingLost k v go s hl ha hd hx]
  · rw [commandWith_tested k v go s hl ha hd hx, hrun.tests]
    refine ⟨fun code hcode => ⟨isRefusalCode_of_refusal hcode, ?_⟩, fun hnone => ?_⟩
    · change refusal _ _ _ _ _ _ = some code at hcode
      rw [hcode]
    · have hgo := hrun.goesOn hnone
      change refusal _ _ _ _ _ _ = none at hnone
      rw [hnone]
      exact congrArg Host.Outcome.next hgo

/-! ### Admitted clauses -/

/-- What `Clause.clear` says: the clause is latched outside an arbitration tick, is no duplicate, a core has opened it, and
no check of R41 that all verbs share fails. -/
theorem Clause.clear_iff (k : Clause) (n : Need) (s : State) : k.clear n s = true ↔
    k.latched s = true ∧ s.arbitrationTick = false ∧ k.duplicate (k.held s) = false ∧
      (k.held s).openingLost k.head = false ∧ outerBad k.head (k.opened s) = false ∧ (k.opened s == .fails) = false ∧
      authBad k.head (k.opened s) (k.counted s) = false ∧ stateBad k.head (k.counted s) = false ∧
      (verbSeeded k.verb && !(k.counted s).seeded) = false ∧ budgetBad k.head s.tick n (k.counted s) = false := by
  simp only [Clause.clear, Bool.and_eq_true, Bool.not_eq_true', and_assoc]

theorem Clause.refusal_of_clear {k : Clause} {s : State} {w : Work} (hc : k.clear (w.need (k.counted s)) s = true)
    (hw : w.check (k.ticket s) (k.counted s) = {}) :
    refusal k.head (k.opened s) w (k.ticket s) s.tick (k.counted s) = none := by
  obtain ⟨-, -, -, -, houter, hfails, hauth, hstate, hseed, hbudget⟩ := (k.clear_iff _ s).mp hc
  have hseed' : (verbSeeded k.head.verb && !(k.counted s).seeded) = false := hseed
  simp [refusal, houter, hfails, hauth, hstate, hseed', hbudget, hw]

/-- A clause that the common checks and its own let pass goes on. -/
theorem exec_clause_clear {c : Instr} {k : Clause} {s : State} (hc : clauseOf c = some k)
    (hclear : k.clear ((workOf k.verb k.args (suppliedOf c s)).need (k.counted s)) s = true)
    (hcheck : (workOf k.verb k.args (suppliedOf c s)).check (k.ticket s) (k.counted s) = {}) :
    exec c s = .next (k.proceeds (workOf k.verb k.args (suppliedOf c s)) (suppliedOf c s) s) := by
  obtain ⟨hl, ha, hd, hx, -⟩ := (k.clear_iff _ s).mp hclear
  obtain ⟨-, htested⟩ := latchedClausesAreTested c k s hc hl
  obtain ⟨-, -, hgo⟩ := htested ha
  exact (hgo hd hx).2 (Clause.refusal_of_clear hclear hcheck)

/-- A clause that neither books air nor waits runs; the only trace it may leave besides is that it drew (R322). -/
theorem Clause.proceeds_runs {k : Clause} {s : State} (hair : booksAir k.verb k.args = false) (h : k.waits s = false)
    (w : Work) (sup : Supplied) :
    let n := w.need (k.counted s)
    let b := (k.reserved n s).bookLoops k.verb k.args (s.tick + n.deadline - 1) (k.ticket s)
    ∃ d, k.proceeds w sup s = { w.run (k.ticket s) b with drawn := (w.run (k.ticket s) b).drawn ++ d } ∧
      (d = [] ∨ d = [k.queued n .nothing s]) := by
  intro n b
  rw [Clause.proceeds, if_neg (by simp [hair]), h]
  cases k.drawsRandom s with
  | true => exact ⟨[k.queued n .nothing s], rfl, .inr rfl⟩
  | false => exact ⟨[], by rw [List.append_nil]; rfl, .inl rfl⟩

theorem admittedClausesProceed : Claim.AdmittedClausesProceed := by
  intro c k s hc w n b hclear hcheck
  rw [exec_clause_clear hc hclear hcheck]
  refine ⟨fun hair => ?_, fun hair hwaits => ?_, fun hair hhint h68 h69 h40 => ?_⟩
  · rw [Clause.proceeds, if_pos hair]
  · rw [Clause.proceeds_waits hair ((k.waits_iff s).mpr hwaits)]
    rfl
  · have hruns : k.waits s = false := by
      rw [Bool.eq_false_iff, ne_eq, Clause.waits_iff, hhint]
      tauto
    obtain ⟨d, hd, hcases⟩ := Clause.proceeds_runs hair hruns w (suppliedOf c s)
    exact ⟨d, congrArg Host.Outcome.next hd, hcases⟩

theorem waitingWorkRuns : Claim.WaitingWorkRuns := by
  intro s q ha
  simp only [State.runQueued, ha]
  rfl

/-- Settles O5: every arm of `exec` for a clause hands the clause to the checks of R41 with the work that `workOf` gives it, and
what it does with an admitted clause is `Clause.proceeds`. -/
theorem everyLatchedClauseIsAnswered : Obligations.EveryLatchedClauseIsAnswered :=
  ⟨latchedClausesAreTested, admittedClausesProceed, waitingWorkRuns⟩

end Sys2Proof.Machine
end

section
/-! PROOF. Duplicates, discarded frames and the order of the checks (R41, R60, R65, R67; O6). -/

namespace Sys2Proof.Machine

open Sys2Proof

/-! ### Duplicates -/

/-- Holding the frame leaves the outstanding clauses alone. -/
theorem Clause.duplicate_held (k : Clause) (s : State) : k.duplicate (k.held s) = k.duplicate s := by
  rw [Clause.duplicate, Clause.duplicate, Clause.held]
  cases k.hdr.port <;> rfl

theorem duplicateSeqIsRefused : Claim.DuplicateSeqIsRefused := by
  intro c k s hc hl ha hd
  obtain ⟨w, go, hexec, -⟩ := exec_clause c k hc s
  rw [← k.duplicate_held s] at hd
  rw [hexec, commandWith_duplicate k w go s hl ha hd, Clause.held, State.refuse]
  unfold Clause.head Clause.kept
  cases hp : k.hdr.port with
  | a => rfl
  | b => rfl

/-! ### Clauses that are not latched -/

theorem commandWith_notReady {k : Clause} {s : State} (h : (s.port k.hdr.port).arrival = .notReady) (w : Work)
    (go : Ticket → State → State) : commandWith k.verb k.hdr k.args w go s = s := by
  simp only [commandWith, h]

/-- A frame longer than 240 argument bytes is discarded with its notice, whatever the credit or the store (R60, R67). -/
theorem commandWith_tooLong {k : Clause} {s : State} (h : (s.port k.hdr.port).arrival ≠ .notReady)
    (hlen : 240 < hdrArgLen k.hdr k.args) (w : Work) (go : Ticket → State → State) :
    commandWith k.verb k.hdr k.args w go s =
      s.onPort k.hdr.port fun q => (q.discard 12).frameNotice k.hdr.seq.toNat k.verb 2 := by
  unfold commandWith
  rw [if_pos hlen, if_pos hlen]
  cases ha : (s.port k.hdr.port).arrival with
  | notReady => exact absurd ha h
  | overrun => rfl
  | latched => rfl

theorem commandWith_overrun {k : Clause} {s : State} (h : (s.port k.hdr.port).arrival = .overrun)
    (hlen : hdrArgLen k.hdr k.args ≤ 240) (w : Work) (go : Ticket → State → State) :
    commandWith k.verb k.hdr k.args w go s = s.onPort k.hdr.port (Port.discard 11) := by
  simp only [commandWith, h]
  rw [if_neg (by omega)]

theorem unlatchedClausesAreDiscarded : Claim.UnlatchedClausesAreDiscarded := by
  intro c k s hc
  obtain ⟨w, go, hexec, -⟩ := exec_clause c k hc s
  rw [hexec]
  refine ⟨fun h => ?_, fun h hlen => ?_, fun h hlen => ?_⟩
  · rw [commandWith_notReady h]
  · rw [commandWith_tooLong h hlen]
    simp only [Port.frameNotice, crcNotice, BitVec.ofNat_toNat, BitVec.setWidth_eq]
    rfl
  · rw [commandWith_overrun h hlen]
    rfl

/-! ### The order of the checks -/

/-- A verb without checks of its own and without the seed is refused by the checks of R41 that all verbs share, in order. -/
theorem refusal_of_plain {hd : Head} {w : Work} (hw : ∀ tk s, w.check tk s = {}) (hv : verbSeeded hd.verb = false) (o : Opened)
    (tk : Ticket) (t : Nat) (s : State) : refusal hd o w tk t s =
      if outerBad hd o then some 0x13 else if authBad hd o s then some 0x12 else if stateBad hd s then some 0x11
      else if budgetBad hd t (w.need s) s then some 0x10 else none := by
  unfold refusal
  cases hf : o == .fails with
  | true => simp [authBad, hf]
  | false => simp [hw, hv]

theorem checksComeInOrder : Claim.ChecksComeInOrder := by
  intro h args s k turnedAway hl ha hd
  rw [← k.duplicate_held s] at hd
  have hexec : exec (.echo h args) s = .next (commandWith k.verb k.hdr k.args (echoWork args)
      (hdrGo k.verb k.hdr k.args .nothing (echoWork args) s) s) := rfl
  rw [hexec]
  have hneed : (echoWork args).need (k.counted s) = { lane := 4 } := rfl
  refine congrArg Host.Outcome.next ?_
  by_cases hx : (k.held s).openingLost k.head = true
  · rw [if_pos hx, commandWith_openingLost k _ _ s hl ha hd hx]
  · rw [if_neg hx, commandWith_tested k _ _ s hl ha hd (Bool.eq_false_iff.mpr hx),
      refusal_of_plain (fun _ _ => rfl) rfl, hneed]
    split_ifs
    · rfl
    · rfl
    · rfl
    · rfl
    · exact hdrGo_goesFrom rfl .nothing _

/-- Settles O6: every clause command is `commandWith`, which tests the frame, then the SEQ, then the checks in order. -/
theorem refusedClausesChangeOnlyTheirPort : Obligations.RefusedClausesChangeOnlyTheirPort :=
  ⟨duplicateSeqIsRefused, unlatchedClausesAreDiscarded, checksComeInOrder⟩

end Sys2Proof.Machine
end

section
/-! PROOF. The services ECHO, STATUS, CLOCK, LANE_STATUS and CLOCK_SET (R81 to R84, R379; O11). -/

namespace Sys2Proof.Machine

open Sys2Proof

/-! ### ECHO, STATUS, CLOCK, LANE_STATUS -/

/-- LANE_STATUS up to the cores in service, and the 18 bytes after them (Table 15.4). -/
theorem State.laneStatusResults_cut (s : State) : ∃ rest : Bytes, rest.length = 18 ∧ s.laneStatusResults =
    leN 1 s.serviceCode ++ leN 1 s.lanes.causeA ++ leN 1 s.lanes.causeB ++ leN 1 s.clockCode ++ leN 8 s.lanes.takeoverTick ++
      leN 2 (min 0xFFFF s.lanes.transients) ++ zeros 2 ++ leN 4 (s.lanes.transientTicks.headD 0) ++
      leN 1 (~~~ s.cipher.aesFenced).toNat ++ leN 1 (~~~ s.cipher.eccOut).toNat ++ rest := by
  unfold State.laneStatusResults
  generalize s.enginesIn = engines, s.banksValid = banks, maskOf _ = channels
  refine ⟨leN 1 engines ++ (leN 1 _ ++ (leN 2 channels ++ (leN 1 banks ++ (zeros 1 ++ (leN 2 _ ++ (zeros 2 ++
    (leN 4 _ ++ (leN 2 _ ++ zeros 2)))))))), ?_, by simp only [List.append_assoc]; rfl⟩
  simp only [List.length_append, length_leN, List.length_replicate]

theorem State.laneStatusResults_fields (s : State) : s.laneStatusResults.length = 40 ∧
    slice s.laneStatusResults 0 4 = leN 1 s.serviceCode ++ leN 1 s.lanes.causeA ++ leN 1 s.lanes.causeB ++ leN 1 s.clockCode ∧
    slice s.laneStatusResults 4 8 = leN 8 s.lanes.takeoverTick ∧
    slice s.laneStatusResults 16 4 = leN 4 (s.lanes.transientTicks.headD 0) ∧
    slice s.laneStatusResults 20 2 = leN 1 (~~~ s.cipher.aesFenced).toNat ++ leN 1 (~~~ s.cipher.eccOut).toNat := by
  obtain ⟨rest, hlen, hcut⟩ := s.laneStatusResults_cut
  rw [hcut]
  refine ⟨?_, rfl, rfl, rfl, rfl⟩
  simp only [List.length_append, length_leN, List.length_replicate, hlen]

theorem serviceVerbsAnswer : Claim.ServiceVerbsAnswer := by
  intro h args s
  refine ⟨fun hc => ?_, fun hc => ?_, fun hc => ?_, fun hc => ?_, s.laneStatusResults_fields⟩
  · exact congrArg Host.Outcome.next (command_clear ⟨0x01, h, args⟩ (echoWork args) .nothing _ s hc rfl rfl rfl)
  · exact congrArg Host.Outcome.next (command_clear ⟨0x02, h, []⟩ (statusWork []) .nothing _ s hc rfl rfl rfl)
  · exact congrArg Host.Outcome.next (command_clear ⟨0x03, h, []⟩ (clockWork []) .nothing _ s hc rfl rfl rfl)
  · exact congrArg Host.Outcome.next (command_clear ⟨0x09, h, []⟩ (laneStatusWork []) .nothing _ s hc rfl rfl rfl)

/-! ### CLOCK_SET -/

/-- The number of the clause and the time, of a CLOCK_SET that waits for its commit phase. -/
def Act.timeSet : Act → Option (Nat × Nat)
  | .clockSet tk t => some (tk.order, t)
  | _ => none

/-- The times that CLOCK_SETs admitted before will set, each with the number of its clause, in the order of admission (R84). -/
def State.clocksDue (s : State) : List (Nat × Nat) :=
  let due := (s.work.filter fun q => q.ticket.verb == 0x04).map fun q => (q.ticket.order, num q.args 0 8)
  sortBy (fun a b => decide (a.1 ≤ b.1)) (s.acts.filterMap Act.timeSet ++ due)

/-- Of times that are set one after another the last stays. -/
theorem foldl_setUtc (l : List (Nat × Nat)) (s : State) :
    l.foldl (fun s x => s.setUtc x.2) s = l.getLast?.elim s fun x => s.setUtc x.2 := by
  induction l generalizing s with
  | nil => rfl
  | cons x r ih =>
    rw [List.foldl_cons, ih, List.getLast?_cons]
    cases r.getLast? <;> rfl

theorem State.clockAhead_eq (s : State) : s.clockAhead = s.clocksDue.getLast?.elim s fun x => s.setUtc x.2 :=
  foldl_setUtc s.clocksDue s

theorem State.clockAhead_thal (s : State) : s.clockAhead.thal = s.thal := by
  rw [State.clockAhead_eq]
  cases s.clocksDue.getLast? <;> rfl

/-- CLOCK_SET changes no clock until its reply's commit phase, so the admission of another clause leaves the test alone. -/
theorem Clause.stepTooFar_counted (k : Clause) (s : State) (new : Nat) :
    (k.counted s).clockAhead.stepTooFar new = s.clockAhead.stepTooFar new := by
  have hdue : (k.counted s).clocksDue = s.clocksDue := rfl
  rw [State.clockAhead_eq, State.clockAhead_eq, hdue]
  cases s.clocksDue.getLast? <;> rfl

theorem State.stepTooFar_iff (s : State) (new : Nat) : s.stepTooFar new = true ↔
    s.utcFree = false ∧ clockStepLimit s.thal.cur * 1000 < ((new : Int) - (s.utcNow : Int)).natAbs := by
  rw [State.stepTooFar, Bool.and_eq_true, Bool.not_eq_true', decide_eq_true_iff]
  rfl

theorem clockSetWork_arg {k : Clause} {args : Bytes} (hlen : args.length = 8) (tk : Ticket) (s : State) :
    (clockSetWork args).check tk (k.counted s) = { arg := s.clockAhead.stepTooFar (num args 0 8) } := by
  change ({ arg := args.length != 8 || (k.counted s).clockAhead.stepTooFar (num args 0 8) } : Checks) = _
  rw [k.stepTooFar_counted, hlen]
  rfl

/-- No CLOCK_SET has been admitted whose commit phase is still to come. -/
def State.noClockDue (s : State) : Prop :=
  (∀ a ∈ s.acts, ∀ tk t, a ≠ .clockSet tk t) ∧ ∀ q ∈ s.work, q.ticket.verb ≠ 0x04

theorem filterMap_timeSet_none {l : List Act} (h : ∀ a ∈ l, ∀ tk t, a ≠ .clockSet tk t) :
    l.filterMap Act.timeSet = [] := by
  rw [List.filterMap_eq_nil_iff]
  intro a ha
  cases a
  case clockSet tk t => exact absurd rfl (h _ ha tk t)
  all_goals rfl

theorem filter_clockSet_none {l : List Queued} (h : ∀ q ∈ l, q.ticket.verb ≠ 0x04) :
    (l.filter fun q => q.ticket.verb == 0x04) = [] := by
  rw [List.filter_eq_nil_iff]
  intro q hq
  rw [beq_iff_eq]
  exact h q hq

theorem State.clocksDue_none {s : State} (h : s.noClockDue) : s.clocksDue = [] := by
  rw [State.clocksDue, filter_clockSet_none h.2, filterMap_timeSet_none h.1]
  rfl

theorem State.clocksDue_push {s : State} (h : s.noClockDue) (tk : Ticket) (t : Nat) :
    (s.push (.clockSet tk t)).clocksDue = [(tk.order, t)] := by
  have hwork : (s.push (.clockSet tk t)).work = s.work := rfl
  have hacts : (s.push (.clockSet tk t)).acts = s.acts ++ [.clockSet tk t] := rfl
  rw [State.clocksDue, hwork, hacts, filter_clockSet_none h.2, List.filterMap_append, filterMap_timeSet_none h.1]
  rfl

/-- A change whose records are those of its clause's reply is what it does: they need no other place (R306). -/
theorem State.act_of_replies {s : State} {a : Act} {l : List Waiting} (h : s.awake = true) (ha : a.rank.1 = 3)
    (hl : (s.apply a).log.waiting = s.log.waiting ++ l) (hw : ∀ w ∈ l, w.cls = .reply ∧ w.rank = 3) :
    s.act a = s.apply a := by
  have hof : ∀ w ∈ l, Waiting.of a w = w := by
    intro w hm
    obtain ⟨cls, typ, body, deferred, order, rank⟩ := w
    obtain ⟨rfl, rfl⟩ : cls = .reply ∧ rank = 3 := hw _ hm
    rw [Waiting.of, ha]
    cases a.clause <;> rfl
  rw [State.act_awake h, hl, List.take_left, List.drop_left, List.map_congr_left hof, List.map_id', ← hl]

theorem clockSetSteps : Claim.ClockSetSteps := by
  intro h args s k n new by_ r
  refine ⟨fun hc hlen hok => ?_, fun hc hlen hfree hfar => ?_, fun ha hw => ?_, fun tk t ha hw => ?_, fun tk hs => ?_⟩
  · have hstep : s.clockAhead.stepTooFar new = false := by
      rw [Bool.eq_false_iff, ne_eq, State.stepTooFar_iff, s.clockAhead_thal]
      rintro ⟨hfree, hfar⟩
      obtain hfree' | hle := hok
      · rw [hfree] at hfree'
        contradiction
      · exact absurd hfar (Nat.not_lt.mpr hle)
    have hcheck : (clockSetWork args).check (k.ticket s) (k.counted s) = {} := by
      rw [clockSetWork_arg hlen, hstep]
    exact congrArg Host.Outcome.next (command_clear k (clockSetWork args) .nothing n s hc rfl rfl hcheck)
  · have hstep : s.clockAhead.stepTooFar new = true := by
      rw [State.stepTooFar_iff, s.clockAhead_thal]
      exact ⟨hfree, hfar⟩
    obtain ⟨hl, harb, hd, hx, houter, hfails, -⟩ := (k.clear_iff n s).mp hc
    have harg : ((clockSetWork args).check (k.ticket s) (k.counted s)).arg = true := by
      rw [clockSetWork_arg hlen, hstep]
    change Host.Outcome.next (commandWith k.verb k.hdr k.args (clockSetWork args) _ s) = _
    rw [commandWith_tested k _ _ s hl harb hd hx, refusal_of_arg harg, houter, hfails]
    rfl
  · rw [State.clockAhead_eq, State.clocksDue_none ⟨ha, hw⟩]
    rfl
  · rw [State.clockAhead_eq, State.clocksDue_push ⟨ha, hw⟩ tk t]
    exact ⟨rfl, rfl⟩
  · obtain ⟨l, hlog, hw⟩ := (s.setUtc new).record_log .reply 0x05
      (leN 8 s.utcNow ++ leN 8 new ++ leN 8 (twos 64 (by_ s)) ++ leN 1 (portCode tk.port)) tk.order
    exact State.act_of_replies hs rfl hlog hw

/-- Settles O11: the service verbs run at once with no check of their own; what CLOCK_SET is tested against is the last time that
CLOCK_SETs admitted before it leave. -/
theorem servicesAnswer : Obligations.ServicesAnswer := ⟨serviceVerbsAnswer, clockSetSteps⟩

end Sys2Proof.Machine
end

section
/-! Placement in the air calendar: what an engine, the caps and the isolation of zones allow, and why a start at which nothing
ends can be moved to the last end before it (R44, R45, R95, R145). -/

namespace Sys2Proof.Machine

open Sys2Proof

/-! ### What is free -/

theorem Booking.overlaps_iff (b : Booking) (first closing : Nat) :
    b.overlaps first closing = true ↔ first ≤ b.closing ∧ b.first ≤ closing := by
  simp [Booking.overlaps]

theorem Loopback.within_iff (e first closing : Nat) (l : Loopback) :
    l.within e first closing = true ↔ l.engine = e ∧ ∃ t, l.tick = some t ∧ first ≤ t ∧ t ≤ closing := by
  simp [Loopback.within, Option.any_eq_true]

theorem State.engineFree_iff (s : State) (first closing e : Nat) :
    s.engineFree first closing e = true ↔ s.field.enginesOut.getLsbD e = false ∧
      (∀ b ∈ s.field.bookings, b.engine = e → ¬ b.overlaps first closing = true) ∧
      ∀ l ∈ s.field.loops, ¬ l.within e first closing = true := by
  simp [State.engineFree, and_assoc]

theorem State.not_engineFree_iff (s : State) (first closing e : Nat) :
    s.engineFree first closing e = false ↔ s.field.enginesOut.getLsbD e = true ∨
      (∃ b ∈ s.field.bookings, b.engine = e ∧ b.overlaps first closing = true) ∨
      ∃ l ∈ s.field.loops, l.within e first closing = true := by
  rw [← Bool.not_eq_true, State.engineFree_iff]
  simp only [not_and_or, not_forall, not_not, exists_prop, Bool.not_eq_false]

theorem State.freeEngine_eq_some_iff (s : State) (first closing e : Nat) :
    s.freeEngine first closing = some e ↔
      s.engineFree first closing e = true ∧ e < 4 ∧ ∀ e' < e, s.engineFree first closing e' = false := by
  simp [State.freeEngine, List.find?_range_eq_some]

theorem State.freeEngine_ne_none_iff (s : State) (first closing : Nat) :
    s.freeEngine first closing ≠ none ↔ ∃ e < 4, s.engineFree first closing e = true := by
  simp [State.freeEngine]

/-! ### The caps of R95 -/

/-- What an exchange asks stays under the total cap and the bridge limit beside some bookings (R95). -/
def State.underCaps (s : State) (a : Ask) (l : List Booking) : Prop :=
  1000 * (a.current + Machine.total (l.map Booking.current)) ≤ totalCap s.cfg.cur * 1023 * 65536 ∧
    a.estimate + Machine.total (l.map Booking.estimate) ≤ 3 * estimateWatt

/-- The bookings that overlap an interval and are in force at tick `t`. -/
def State.inForce (s : State) (first closing t : Nat) : List Booking :=
  (s.field.bookings.filter fun b => b.overlaps first closing).filter fun b => b.overlaps t t

theorem State.capsHold_iff (s : State) (a : Ask) (first closing : Nat) :
    s.capsHold a first closing = true ↔ s.underCaps a (s.inForce first closing first) ∧
      ∀ b ∈ s.field.bookings, b.overlaps first closing = true → first < b.first →
        s.underCaps a (s.inForce first closing b.first) := by
  simp only [State.capsHold, State.underCaps, State.inForce, List.all_eq_true, List.forall_mem_cons, List.mem_filter,
    List.mem_map, Bool.and_eq_true, decide_eq_true_eq, and_imp, forall_exists_index]
  exact and_congr_right fun _ => ⟨fun h b hb ho => h b.first b hb ho rfl, fun h _ b hb ho hb' => hb' ▸ h b hb ho⟩

theorem filter_sublist_filter_of_mem {α : Type} {p q : α → Bool} {l : List α} (h : ∀ x ∈ l, p x = true → q x = true) :
    (l.filter p).Sublist (l.filter q) := by
  have hp : l.filter p = (l.filter q).filter p := by
    rw [List.filter_filter]
    refine List.filter_congr fun x hx => ?_
    rw [Bool.eq_iff_iff, Bool.and_eq_true, iff_self_and]
    exact h x hx
  rw [hp]
  exact List.filter_sublist

theorem total_eq_sum (l : List Nat) : total l = l.sum := List.sum_eq_foldl.symm

theorem total_map_le {α : Type} (f : α → Nat) {l m : List α} (h : l.Sublist m) : total (l.map f) ≤ total (m.map f) := by
  rw [total_eq_sum, total_eq_sum]
  exact (h.map f).sum_le_sum fun _ _ => Nat.zero_le _

/-- Fewer bookings leave as much room under the caps. -/
theorem State.underCaps_of_sublist {s : State} {a : Ask} {l m : List Booking} (h : l.Sublist m) (hm : s.underCaps a m) :
    s.underCaps a l := by
  obtain ⟨hcurrent, hestimate⟩ := hm
  have hc := total_map_le Booking.current h
  have he := total_map_le Booking.estimate h
  exact ⟨by omega, by omega⟩

/-! ### Starts -/

theorem State.fits_eq_some_iff (s : State) (a : Ask) (f e : Nat) :
    s.fits a f = some e ↔
      (∀ b ∈ s.field.bookings, b.overlaps f (f + a.ticks) = true → s.zonesClash a.zones b.zones = false) ∧
        s.capsHold a f (f + a.ticks) = true ∧ s.freeEngine f (f + a.ticks) = some e := by
  simp [State.fits, and_assoc]

theorem State.fits_ne_none_iff (s : State) (a : Ask) (f : Nat) :
    s.fits a f ≠ none ↔
      (∀ b ∈ s.field.bookings, b.overlaps f (f + a.ticks) = true → s.zonesClash a.zones b.zones = false) ∧
        s.capsHold a f (f + a.ticks) = true ∧ s.freeEngine f (f + a.ticks) ≠ none := by
  simp only [Option.ne_none_iff_exists', State.fits_eq_some_iff, exists_and_left]

/-- No booking and no loopback test ends from tick `h` on before tick `g`. -/
structure State.NoneEnds (s : State) (h g : Nat) : Prop where
  bookings : ∀ b ∈ s.field.bookings, h ≤ b.closing → g ≤ b.closing
  loops : ∀ l ∈ s.field.loops, ∀ t, l.tick = some t → h ≤ t → g ≤ t

section

variable {s : State} {h g : Nat} (hle : h ≤ g) (hnone : s.NoneEnds h g)

include hle hnone

theorem State.NoneEnds.overlaps {b : Booking} (hb : b ∈ s.field.bookings) {n : Nat} (ho : b.overlaps h (h + n) = true) :
    b.overlaps g (g + n) = true := by
  rw [Booking.overlaps_iff] at ho ⊢
  exact ⟨hnone.bookings b hb ho.1, by omega⟩

theorem State.NoneEnds.engineFree {n e : Nat} (hfree : s.engineFree g (g + n) e = true) :
    s.engineFree h (h + n) e = true := by
  rw [State.engineFree_iff] at hfree ⊢
  obtain ⟨hin, hbooked, htests⟩ := hfree
  refine ⟨hin, fun b hb he ho => hbooked b hb he (hnone.overlaps hle hb ho), fun l hl hw => htests l hl ?_⟩
  rw [Loopback.within_iff] at hw ⊢
  obtain ⟨he, t, ht, hfirst, hlast⟩ := hw
  exact ⟨he, t, ht, hnone.loops l hl t ht hfirst, by omega⟩

/-- What is in force at a tick of the earlier interval is in force in the later one, at that tick or at its start. -/
theorem State.NoneEnds.inForce_sublist {n t : Nat} (ht : h ≤ t) :
    (s.inForce h (h + n) t).Sublist (s.inForce g (g + n) (max g t)) := by
  simp only [State.inForce, List.filter_filter]
  refine filter_sublist_filter_of_mem fun b hb hin => ?_
  rw [Bool.and_eq_true] at hin ⊢
  obtain ⟨hat, ho⟩ := hin
  refine ⟨?_, hnone.overlaps hle hb ho⟩
  rw [Booking.overlaps_iff] at hat ⊢
  have hclosing := hnone.bookings b hb (ht.trans hat.1)
  omega

theorem State.NoneEnds.capsHold {a : Ask} {n : Nat} (hcaps : s.capsHold a g (g + n) = true) :
    s.capsHold a h (h + n) = true := by
  rw [State.capsHold_iff] at hcaps ⊢
  obtain ⟨hstart, hlater⟩ := hcaps
  have hmoved : ∀ t, h ≤ t → s.underCaps a (s.inForce g (g + n) (max g t)) → s.underCaps a (s.inForce h (h + n) t) :=
    fun t ht => State.underCaps_of_sublist (hnone.inForce_sublist hle ht)
  refine ⟨hmoved h le_rfl (by rwa [max_eq_left hle]), fun b hb ho hfirst => hmoved _ hfirst.le ?_⟩
  by_cases hg : g < b.first
  · rw [max_eq_right hg.le]
    exact hlater b hb (hnone.overlaps hle hb ho) hg
  · rwa [max_eq_left (Nat.not_lt.mp hg)]

/-- What fits at `g` fits at an earlier `h` already, where nothing ends in between. -/
theorem State.NoneEnds.fits {a : Ask} (hfits : s.fits a g ≠ none) : s.fits a h ≠ none := by
  rw [State.fits_ne_none_iff] at hfits ⊢
  obtain ⟨hzones, hcaps, hengine⟩ := hfits
  rw [State.freeEngine_ne_none_iff] at hengine ⊢
  obtain ⟨e, he, hfree⟩ := hengine
  exact ⟨fun b hb ho => hzones b hb (hnone.overlaps hle hb ho), hnone.capsHold hle hcaps,
    e, he, hnone.engineFree hle hfree⟩

end

theorem State.mem_starts (s : State) (earliest h : Nat) :
    h ∈ s.starts earliest ↔ h = earliest ∨ earliest < h ∧
      ((∃ b ∈ s.field.bookings, b.closing + 1 = h) ∨ ∃ l ∈ s.field.loops, ∃ t, l.tick = some t ∧ t + 1 = h) := by
  simp [State.starts, and_comm, and_or_left]

/-- Before every tick stands a start behind which nothing ends until that tick: the last one. -/
theorem State.exists_start_noneEnds (s : State) {earliest g : Nat} (hg : earliest ≤ g) :
    ∃ h ∈ s.starts earliest, h ≤ g ∧ s.NoneEnds h g := by
  let h := Nat.findGreatest (· ∈ s.starts earliest) g
  have hmem : h ∈ s.starts earliest := Nat.findGreatest_spec hg ((s.mem_starts _ _).mpr (.inl rfl))
  have hfirst : earliest ≤ h := Nat.le_findGreatest hg ((s.mem_starts _ _).mpr (.inl rfl))
  have hlast : ∀ t, h ≤ t → t + 1 ∈ s.starts earliest → g ≤ t := fun t ht hstart =>
    Nat.not_lt.mp fun hlt => absurd (Nat.le_findGreatest (P := (· ∈ s.starts earliest)) hlt hstart) (by omega)
  refine ⟨h, hmem, Nat.findGreatest_le g, fun b hb hc => hlast _ hc ?_, fun l hl t ht hc => hlast _ hc ?_⟩
  · exact (s.mem_starts _ _).mpr (.inr ⟨by omega, .inl ⟨b, hb, rfl⟩⟩)
  · exact (s.mem_starts _ _).mpr (.inr ⟨by omega, .inr ⟨l, hl, t, ht, rfl⟩⟩)

/-! ### Placement -/

theorem State.place_eq_some {s : State} {earliest limit e f : Nat} {a : Ask}
    (h : s.place earliest (some limit) a = some (e, f)) :
    f ∈ s.starts earliest ∧ f ≤ limit ∧ s.fits a f = some e ∧ ∀ g ∈ s.starts earliest, g < f → s.fits a g = none := by
  simp only [State.place, List.head?_filterMap, Option.filter_eq_some_iff, List.findSome?_eq_some_iff,
    Option.map_eq_some_iff, Prod.mk.injEq, decide_eq_true_eq, Option.map_eq_none_iff] at h
  obtain ⟨⟨before, x, after, hstarts, ⟨_, hfits, rfl, rfl⟩, hbefore⟩, hlimit⟩ := h
  have hsorted : (s.starts earliest).Pairwise (· ≤ ·) := pairwise_sortBy_key id _
  rw [hstarts] at hsorted ⊢
  refine ⟨by simp, hlimit, hfits, fun g hg hlt => ?_⟩
  have hafter : ∀ y ∈ after, x ≤ y := (List.pairwise_cons.mp (List.pairwise_append.mp hsorted).2.1).1
  rcases List.mem_append.mp hg with hg | hg
  · exact hbefore g hg
  · rcases List.mem_cons.mp hg with rfl | hg
    · exact absurd hlt (lt_irrefl _)
    · exact absurd hlt (hafter g hg).not_gt

/-- The start that a placement takes is the earliest of all ticks that fit, not only of the starts it tries. -/
theorem State.place_earliest {s : State} {earliest limit e f : Nat} {a : Ask}
    (h : s.place earliest (some limit) a = some (e, f)) {g : Nat} (hfirst : earliest ≤ g) (hlt : g < f) :
    s.fits a g = none := by
  obtain ⟨-, -, -, hnot⟩ := State.place_eq_some h
  obtain ⟨h', hstart, hle, hnone⟩ := s.exists_start_noneEnds hfirst
  by_contra hg
  exact hnone.fits hle hg (hnot h' hstart (hle.trans_lt hlt))

/-- Settles O16: the starts tried are in order, so the first that fits is the least of them; and what fits at any tick fits at
the last start before it already, since nothing ends in between. -/
theorem placementIsEarliestAndFree : Obligations.PlacementIsEarliestAndFree := by
  intro s a e f h
  obtain ⟨hplace, hdeadline⟩ := Option.filter_eq_some_iff.mp h
  obtain ⟨hstart, hlimit, hfits, -⟩ := State.place_eq_some hplace
  obtain ⟨hzones, -, hengine⟩ := (s.fits_eq_some_iff a f e).mp hfits
  obtain ⟨hfree, he, hlower⟩ := (s.freeEngine_eq_some_iff _ _ e).mp hengine
  obtain ⟨hin, hbooked, htests⟩ := (s.engineFree_iff _ _ e).mp hfree
  have hnext : s.tick < f := by
    rcases (s.mem_starts _ _).mp hstart with rfl | ⟨hlt, -⟩ <;> omega
  simp only [Loopback.within_iff] at htests
  refine ⟨hnext, hlimit, of_decide_eq_true hdeadline, hfits, he, hin,
    fun b hb ho => ⟨fun heq => hbooked b hb heq ho, hzones b hb ho⟩,
    ⟨fun ⟨l, hl, ht⟩ => htests l hl ht, fun e' he' => ?_⟩,
    fun g hg hlt => State.place_earliest hplace hg hlt⟩
  simpa only [State.not_engineFree_iff, Loopback.within_iff] using hlower e' he'

end Sys2Proof.Machine
end

section
/-! Why the statement about gain and trim fails: nothing keeps two exchanges from bearing one number. -/

namespace Sys2Proof.Machine

open Sys2Proof

/-- An exchange in its lead on engine `e`, number 0, that has aerial 0. -/
def leading (e : Nat) : Booking := { numberedZero .authenticate e with phase := .lead, copied := oneAerial }

/-- What the lead on aerial 0 shows. -/
def leadHeard : LeadMeasure := { channel := 0, inputPermille := 100, phaseError := 0 }

/-- Refutes O20: where engines 0 and 1 each have an exchange of number 0 in its lead, the gain set for engine 0 is held by the
exchange of engine 1 too, so that the booking of engine 1 does not stay as it was. -/
theorem not_loopsAndAerialFaultsAct : ¬ Obligations.LoopsAndAerialFaultsAct := by
  rintro ⟨hgain, -, -⟩
  obtain ⟨-, hlead⟩ := hgain 0 leadHeard (.withExchanges (leading 0) (leading 1))
  obtain ⟨-, hset⟩ := hlead (leading 0) {} (by decide +kernel)
  obtain ⟨t, -, -, ht, -, -, -, -, -, hothers, -⟩ := hset rfl (by decide +kernel) (by decide +kernel)
  have hkept : Answers (execGainAndTrimSet 0 [leadHeard] (.withExchanges (leading 0) (leading 1))) fun u =>
      leading 1 ∈ u.field.bookings := ⟨t, ht, hothers (leading 1) (by decide +kernel) (.inl (by decide +kernel))⟩
  rw [execGainAndTrimSet, answers_next] at hkept
  exact absurd hkept (by decide +kernel)

end Sys2Proof.Machine
end

section
/-! PROOF. The device as a tag: what a frame does to the responder (R123 to R138, R149, R250 to R253; O47). -/

namespace Sys2Proof.Machine

open Sys2Proof

/-! ### Bits of a reply -/

@[simp] theorem length_airBits (w n : Nat) : (airBits w n).length = w := by simp [airBits]

theorem getElem?_airBits {w k : Nat} (n : Nat) (h : k < w) : (airBits w n)[k]? = some (n.testBit (w - 1 - k)) := by
  simp [airBits, h]

/-- Bit `k` of an identifier in the order of the air is its bit 63 - `k` (R121). -/
theorem getElem?_airBits_ident {k : Nat} (i : Ident) (h : k < 64) :
    (airBits 64 i.toNat)[k]? = some (i.getLsbD (63 - k)) := by
  rw [getElem?_airBits i.toNat h, BitVec.testBit_toNat]

theorem repliesCarryPreambleAndCrc : Claim.RepliesCarryPreambleAndCrc := by
  intro f bits
  have hcrc : (crcBits (airBits 64 f.ident.toNat) bits).length = 16 := length_airBits 16 _
  refine ⟨rfl, hcrc, ?_⟩
  simp only [FieldPort.crcReply, preamble, List.length_append, List.length_cons, List.length_nil, hcrc]
  omega

/-! ### How a frame finds the responder -/

/-- The port once a frame has reached it: the idle timer runs anew at `limit`, and no reply is sent yet (R149). -/
def FieldPort.heard (limit : Nat) (f : FieldPort) : FieldPort := { f with idleLimit := limit, reply := [] }

@[simp] theorem FieldPort.heard_now (limit : Nat) (f : FieldPort) : (f.heard limit).now = f.now := rfl

@[simp] theorem FieldPort.heard_state (limit : Nat) (f : FieldPort) : (f.heard limit).state = f.state := rfl

@[simp] theorem FieldPort.heard_ident (limit : Nat) (f : FieldPort) : (f.heard limit).ident = f.ident := rfl

theorem FieldPort.now_eq_selected_iff (f : FieldPort) :
    f.now = .selected ↔ f.state = .selected ∨ ∃ k, f.state = .streaming k := by
  cases h : f.state <;> simp [FieldPort.now, h]

theorem FieldPort.now_eq_halted_iff (f : FieldPort) : f.now = .halted ↔ f.state = .halted := by
  cases h : f.state <;> simp [FieldPort.now, h]

theorem State.tagFrame_of_noField {s : State} (h : s.fp.field = false) (limit : Nat) (act : FieldPort → FieldPort) :
    s.tagFrame limit act = s := by
  simp [State.tagFrame, h]

theorem State.tagFrame_of_deaf {s : State} (hf : s.fp.field = true) (hd : s.tagDeaf = true) (limit : Nat)
    (act : FieldPort → FieldPort) : s.tagFrame limit act = { s with fp := s.fp.heard limit } := by
  simp [State.tagFrame, FieldPort.heard, hf, hd]

theorem State.tagFrame_of_hears {s : State} (hf : s.fp.field = true) (hd : s.tagDeaf = false) (limit : Nat)
    (act : FieldPort → FieldPort) : s.tagFrame limit act = { s with fp := act (s.fp.heard limit) } := by
  simp [State.tagFrame, FieldPort.heard, hf, hd]

/-- The idle limit of each opcode in numbers (R149, Table 05.5). -/
theorem idleOf_eq (opcode : Nat) : idleOf opcode =
    if opcode = 5 then 544 else if opcode = 2 ∨ opcode = 4 then 1472 else if opcode = 3 then 1456
    else if opcode = 6 then 6880 else if opcode = 9 then 6400 else if opcode = 10 then 2304
    else if opcode = 11 then 768 else 256 := by
  unfold idleOf longestReply
  split
  case isTrue => rfl
  case isFalse => split <;> simp_all

/-! ### Walk frames in a field -/

section Hearing

variable {s : State} (hf : s.fp.field = true) (hd : s.tagDeaf = false)
include hf hd

/-- What a frame does is what it makes of the port that has heard it. -/
theorem exec_of_hears {c : Instr} {limit : Nat} {act : FieldPort → FieldPort} {g : FieldPort}
    (hc : exec c s = .next (s.tagFrame limit act)) (hg : act (s.fp.heard limit) = g) :
    exec c s = .next { s with fp := g } := by
  rw [hc, State.tagFrame_of_hears hf hd, hg]

theorem exec_fieldInventoryBegin_streams {round : Nat} (hl : s.fp.state ≠ .listen) (hq : s.fp.state ≠ .quiet round) :
    exec (.fieldInventoryBegin round) s =
      .next { s with fp := FieldPort.stream 0 { s.fp.heard 1472 with round := round } } := by
  refine exec_of_hears (limit := 1472) hf hd rfl ?_
  cases h : s.fp.state with
  | listen => exact absurd h hl
  | quiet q =>
    have hne : q ≠ round := fun e => hq (e ▸ h)
    rw [FieldPort.heard_now]
    simp only [FieldPort.now, h, if_neg hne]
  | awake | streaming | halted | lost | selected =>
    rw [FieldPort.heard_now]
    simp only [FieldPort.now, h]

theorem exec_fieldInventoryBegin_stands {round : Nat} (h : s.fp.state = .listen ∨ s.fp.state = .quiet round) :
    exec (.fieldInventoryBegin round) s = .next { s with fp := s.fp.heard 1472 } := by
  refine exec_of_hears (limit := 1472) hf hd rfl ?_
  rw [FieldPort.heard_now]
  rcases h with h | h <;> simp only [FieldPort.now, h, if_true]

theorem exec_fieldStopGap_halts {k : Nat} (h : s.fp.state = .streaming k) :
    exec .fieldStopGap s = .next { s with fp := { s.fp.heard 256 with state := .halted } } := by
  refine exec_of_hears (limit := 256) hf hd rfl ?_
  simp only [FieldPort.heard_state, h]

theorem exec_fieldStopGap_stands (h : ∀ k, s.fp.state ≠ .streaming k) :
    exec .fieldStopGap s = .next { s with fp := s.fp.heard 256 } := by
  refine exec_of_hears (limit := 256) hf hd rfl ?_
  split
  case h_1 k hk => exact absurd hk (h k)
  case h_2 => rfl

/-- A responder that is selected or halted compares the bit with its identifier's (R133). -/
theorem exec_fieldTreeBit_compares {k : Nat} (v : Bool) (h : s.fp.now = .selected ∨ s.fp.state = .halted) :
    exec (.fieldTreeBit k v) s = .next { s with
      fp := if s.fp.ident.getLsbD (63 - k) = v then (s.fp.heard 1456).stream (k + 1)
        else { s.fp.heard 1456 with state := .lost } } := by
  refine exec_of_hears (limit := 1456) hf hd rfl ?_
  rw [← FieldPort.now_eq_halted_iff] at h
  rcases h with h | h <;> simp only [FieldPort.heard_now, h, FieldPort.heard_ident, beq_iff_eq]

theorem exec_fieldTreeBit_stands (k : Nat) (v : Bool) (hs : s.fp.now ≠ .selected) (hh : s.fp.state ≠ .halted) :
    exec (.fieldTreeBit k v) s = .next { s with fp := s.fp.heard 1456 } := by
  refine exec_of_hears (limit := 1456) hf hd rfl ?_
  split
  case h_1 h => exact absurd ((FieldPort.now_eq_halted_iff _).mp h) hh
  case h_2 h => exact absurd h hs
  case h_3 => rfl

theorem exec_fieldSelect_answers (hl : s.fp.state ≠ .listen) :
    exec (.fieldSelect s.fp.ident) s = .next { s with fp := { s.fp.heard 1472 with
      state := .selected
      reply := s.fp.statusReply (!s.awake) } } := by
  refine exec_of_hears (limit := 1472) hf hd rfl ?_
  rw [FieldPort.heard_state, if_neg hl, FieldPort.heard_ident, if_pos rfl]
  rfl

theorem exec_fieldSelect_deselects {i : Ident} (hi : i ≠ s.fp.ident) :
    exec (.fieldSelect i) s = .next { s with fp :=
      { s.fp.heard 1472 with state := if s.fp.now = .selected then .awake else s.fp.state } } := by
  refine exec_of_hears (limit := 1472) hf hd rfl ?_
  by_cases hl : s.fp.state = .listen
  · have hn : s.fp.now ≠ .selected := by simp [FieldPort.now, hl]
    rw [FieldPort.heard_state, if_pos hl, if_neg hn]
    rfl
  · rw [FieldPort.heard_state, if_neg hl, FieldPort.heard_ident, if_neg hi, FieldPort.heard_now]
    split <;> rfl

theorem exec_fieldSelect_stands (i : Ident) (hl : s.fp.state = .listen) :
    exec (.fieldSelect i) s = .next { s with fp := s.fp.heard 1472 } :=
  exec_of_hears (limit := 1472) hf hd rfl (if_pos hl)

theorem exec_fieldQuiet_silences {scope : Bool} (hl : s.fp.state ≠ .listen) (h : scope = true ∨ s.fp.now = .selected) :
    exec (.fieldQuiet scope) s = .next { s with fp := { s.fp.heard 256 with state := .quiet s.fp.round } } := by
  refine exec_of_hears (limit := 256) hf hd rfl ?_
  have hreaches : (scope || decide (s.fp.now = .selected)) = true := by simpa using h
  rw [FieldPort.heard_state, if_neg hl, FieldPort.heard_now, if_pos hreaches]
  rfl

theorem exec_fieldQuiet_stands {scope : Bool} (h : s.fp.state = .listen ∨ (scope = false ∧ s.fp.now ≠ .selected)) :
    exec (.fieldQuiet scope) s = .next { s with fp := s.fp.heard 256 } := by
  refine exec_of_hears (limit := 256) hf hd rfl ?_
  rcases h with hl | ⟨hscope, hn⟩
  · exact if_pos hl
  · have hmisses : ¬(scope || decide (s.fp.now = .selected)) = true := by simp [hscope, hn]
    rw [FieldPort.heard_now, if_neg hmisses, ite_self]

theorem exec_fieldFrameIgnored (opcode : Nat) :
    exec (.fieldFrameIgnored opcode) s = .next { s with fp := s.fp.heard (idleOf opcode) } :=
  exec_of_hears hf hd rfl rfl

theorem exec_harvestOn_selected {d flags : Nat} {v : Bool} {g : FieldPort} (hs : s.fp.now = .selected)
    (hh : s.tamper.hold = false) (hg : FieldPort.harvest d flags v { s.fp.heard 768 with state := .selected } = g) :
    exec (.harvestOn d flags v) s = .next { s with fp := g } := by
  refine exec_of_hears (limit := 768) hf hd rfl ?_
  rw [FieldPort.heard_now, if_pos (by simp [hs, hh])]
  exact hg

end Hearing

theorem tagStatesFollowFrames : Claim.TagStatesFollowFrames := by
  intro s hf hd f heard streams chosen
  have hnow : f.now = .selected ↔ chosen := f.now_eq_selected_iff
  refine ⟨fun g => exec_of_hears hf hd rfl rfl, fun r hl hq => exec_fieldInventoryBegin_streams hf hd hl hq,
    fun r h => exec_fieldInventoryBegin_stands hf hd h, fun k h => exec_fieldStopGap_halts hf hd h,
    fun h => exec_fieldStopGap_stands hf hd h, fun k v hk h => ?_,
    fun k v hc hh => exec_fieldTreeBit_stands hf hd k v (mt hnow.mp hc) hh, fun hl => ?_,
    fun i hi => exec_fieldSelect_deselects hf hd hi, fun hl => exec_fieldSelect_stands hf hd _ hl,
    fun scope hl h => exec_fieldQuiet_silences hf hd hl (h.imp_right hnow.mpr),
    fun scope h => exec_fieldQuiet_stands hf hd (h.imp_right (And.imp_right (mt hnow.mp))), fun opcode => ?_⟩
  · have hbit : (airBits 64 f.ident.toNat)[k]? = some v ↔ f.ident.getLsbD (63 - k) = v := by
      rw [getElem?_airBits_ident f.ident hk, Option.some_inj]
    rw [exec_fieldTreeBit_compares hf hd v (h.imp_left hnow.mpr)]
    refine ⟨fun hv => ?_, fun hv => ?_⟩
    · rw [if_pos (hbit.mp hv)]
      rfl
    · rw [if_neg (mt hbit.mpr hv)]
      rfl
  · rw [exec_fieldSelect_answers hf hd hl, FieldPort.statusReply]
    cases s.awake <;> rfl
  · rw [exec_fieldFrameIgnored hf hd, idleOf_eq]
    rfl

/-! ### No field, or a responder that is deaf -/

theorem State.tagFrame_journal_of_unheard {s : State} (h : s.fp.field = false ∨ s.tagDeaf = true) (limit : Nat)
    (act : FieldPort → FieldPort) : (s.tagFrame limit act).fp.journal = s.fp.journal := by
  cases hf : s.fp.field with
  | false => rw [State.tagFrame_of_noField hf]
  | true =>
    rw [State.tagFrame_of_deaf hf (h.resolve_left (by simp [hf]))]
    rfl

/-- A MAILBOX_WRITE that the responder does not answer enters nothing in the journal, so that no record waits (R264). -/
theorem exec_fieldMailboxWrite_unheard {s : State} (page flags : Nat) (data tag : Bytes) (env : FieldEnv)
    (h : s.fp.field = false ∨ s.tagDeaf = true) :
    exec (.fieldMailboxWrite page flags data tag env) s = .next (s.tagFrame 2304 fun f =>
      if f.now = .selected then s.answerWrite page flags data tag env f else f) :=
  congrArg Host.Outcome.next (if_neg (by simp [State.tagFrame_journal_of_unheard h]))

/-- A frame that the responder does not answer leaves all as it is, but for the idle timer of a responder in a field (R251). -/
theorem exec_unheard {s : State} {c : Instr} {limit : Nat} {act : FieldPort → FieldPort}
    (hc : s.fp.field = false ∨ s.tagDeaf = true → exec c s = .next (s.tagFrame limit act)) :
    (s.fp.field = false → exec c s = .next s) ∧
      (s.fp.field = true → s.tagDeaf = true → ∃ limit, exec c s = .next
        { s with fp := { s.fp with idleLimit := limit, reply := [] } }) := by
  refine ⟨fun hf => ?_, fun hf hd => ⟨limit, ?_⟩⟩
  · rw [hc (.inl hf), State.tagFrame_of_noField hf]
  · rw [hc (.inr hd), State.tagFrame_of_deaf hf hd, FieldPort.heard]

theorem tagNeedsAField : Claim.TagNeedsAField := by
  intro s
  refine ⟨rfl, rfl, rfl, rfl, fun c hc => ?_⟩
  rcases hc with ⟨_, rfl⟩ | ⟨_, rfl⟩ | rfl | ⟨_, _, rfl⟩ | ⟨_, rfl⟩ | ⟨_, rfl⟩ | ⟨_, _, _, rfl⟩ |
    ⟨_, _, _, _, rfl⟩ | ⟨_, _, _, _, _, rfl⟩ | ⟨_, rfl⟩
  pick_goal 9 -- MAILBOX_WRITE alone does more than hand a frame to the responder
  · exact exec_unheard (exec_fieldMailboxWrite_unheard _ _ _ _ _)
  all_goals exact exec_unheard fun _ => rfl

/-! ### Harvesting -/

section Harvest

variable {duration flags : Nat} {v : Bool} {f : FieldPort}

theorem FieldPort.harvest_format (hflags : flags ≠ 0) :
    f.harvest duration flags v = { f with reply := f.crcReply (airBits 4 8) } := by
  simp [FieldPort.harvest, hflags]

theorem FieldPort.harvest_off :
    f.harvest 0 0 v = { f with reply := f.crcReply (airBits 4 0), harv := false, harvLeft := 0 } := rfl

theorem FieldPort.harvest_denied (hdur : duration ≠ 0) (hen : f.harvEn = false) :
    f.harvest duration 0 v = { f with reply := f.crcReply (airBits 4 1) } := by
  simp [FieldPort.harvest, hdur, hen]

theorem FieldPort.harvest_lowField (hdur : duration ≠ 0) (hen : f.harvEn = true) :
    f.harvest duration 0 false = { f with reply := f.crcReply (airBits 4 5) } := by
  simp [FieldPort.harvest, hdur, hen]

theorem FieldPort.harvest_drives (hdur : duration ≠ 0) (hen : f.harvEn = true) :
    f.harvest duration 0 true =
      { f with reply := f.crcReply (airBits 4 0), harv := true, harvLeft := duration } := by
  simp [FieldPort.harvest, hdur, hen]

end Harvest

theorem harvestIsAnswered : Claim.HarvestIsAnswered := by
  intro d flags v s hf hd hs hh out
  refine ⟨fun hflags => ?_, ?_, ?_, ?_, ?_⟩
  · exact exec_harvestOn_selected hf hd hs hh (FieldPort.harvest_format hflags)
  · rintro rfl rfl
    exact exec_harvestOn_selected hf hd hs hh FieldPort.harvest_off
  · rintro rfl hdur hen
    exact exec_harvestOn_selected hf hd hs hh (FieldPort.harvest_denied hdur hen)
  · rintro rfl hdur hen rfl
    exact exec_harvestOn_selected hf hd hs hh (FieldPort.harvest_lowField hdur hen)
  · rintro rfl hdur hen rfl
    exact exec_harvestOn_selected hf hd hs hh (FieldPort.harvest_drives hdur hen)

/-- Settles O47: a frame acts on the port that has heard it, and there the state that it finds decides. -/
theorem tagFollowsTheWalk : Obligations.TagFollowsTheWalk :=
  ⟨tagStatesFollowFrames, repliesCarryPreambleAndCrc, tagNeedsAField, harvestIsAnswered⟩

end Sys2Proof.Machine
end

section
/-! PROOF. The responses that wait to be judged, by a view of the state: operations that bring in none, and take none (R17, R161;
O24). -/

namespace Sys2Proof.Machine

open Sys2Proof

/-- A response that waits to be judged. -/
@[simp] def Act.isVerdict : Act → Bool
  | .judge _ _ => true
  | _ => false

/-- The responses that wait to be judged (R17). -/
def State.verdicts (s : State) : List Act := s.acts.filter Act.isVerdict

@[simp] theorem verdicts_mk (p t u ut ub us uf pa pb le w o la d ln po cf th pr di lk se ce ac mo wi fp ks ci lg rn ta fi fc) :
    (State.mk p t u ut ub us uf pa pb le w o la d ln po cf th pr di lk se ce ac mo wi fp ks ci lg rn ta fi fc).verdicts =
      ac.filter Act.isVerdict := by rfl

@[simp] theorem verdicts_eta (s : State) : s.acts.filter Act.isVerdict = s.verdicts := by rfl

@[simp] theorem verdicts_ite (c : Prop) [Decidable c] (s t : State) :
    (if c then s else t).verdicts = if c then s.verdicts else t.verdicts := apply_ite ..

@[simp] theorem foldl_verdicts {α : Type} {f : State → α → State} (h : ∀ s a, (f s a).verdicts = s.verdicts) (l : List α)
    (s : State) : (l.foldl f s).verdicts = s.verdicts := foldl_keeps State.verdicts h l s

theorem foldl_fst_verdicts {α β : Type} {f : State × β → α → State × β}
    (h : ∀ s a, (f s a).1.verdicts = s.1.verdicts) (l : List α) (s : State × β) : (l.foldl f s).1.verdicts = s.1.verdicts :=
  foldl_keeps (fun x : State × β => x.1.verdicts) h l s

/-! ### Shared operations -/

@[simp] theorem State.onPort_verdicts (s : State) (p : PortId) (f : Port → Port) :
    (State.onPort s p f).verdicts = s.verdicts := by rfl

@[simp] theorem State.onPorts_verdicts (s : State) (f : Port → Port) : (State.onPorts s f).verdicts = s.verdicts := by rfl

@[simp] theorem State.raise_verdicts (i : Nat) (s : State) : (State.raise i s).verdicts = s.verdicts := by rfl

@[simp] theorem State.drew_verdicts (s : State) : (State.drew s).verdicts = s.verdicts := by rfl

@[simp] theorem State.record_verdicts (s : State) (cls : RecClass) (typ : Nat) (body : Bytes) (order : Nat) :
    (State.record s cls typ body order).verdicts = s.verdicts := by rfl

@[simp] theorem State.push_verdicts (s : State) (a : Act) :
    (s.push a).verdicts = s.verdicts ++ [a].filter Act.isVerdict := List.filter_append ..

@[simp] theorem State.notify_verdicts (s : State) (i : Nat) (results : Bytes) :
    (State.notify s i results).verdicts = s.verdicts := by rfl

@[simp] theorem State.bookNeed_verdicts (s : State) (t prio : Nat) (n : Need) :
    (State.bookNeed s t prio n).verdicts = s.verdicts := by rfl

@[simp] theorem Work.unknown_verdicts (tk s) : (Work.unknown.run tk s).verdicts = s.verdicts := by rfl

@[simp] theorem State.reply_verdicts (s : State) (tk : Ticket) (status : Nat) (results : Bytes) :
    (State.reply s tk status results).verdicts = s.verdicts := by rfl

@[simp] theorem State.amend_verdicts (s : State) (tk : Ticket) (status : Nat) (results : Bytes) :
    (State.amend s tk status results).verdicts = s.verdicts := by rfl

@[simp] theorem State.tookLoss_verdicts (u : AesUser) (s : State) : (State.tookLoss u s).verdicts = s.verdicts := by rfl

@[simp] theorem State.enqueue_verdicts (args : Bytes) (sup : Supplied) (prio t deadline : Nat) (tk : Ticket) (s : State) :
    (State.enqueue args sup prio t deadline tk s).verdicts = s.verdicts := by rfl

@[simp] theorem Work.aes_verdicts (w : Work) (h : ∀ tk s, (w.run tk s).verdicts = s.verdicts) (tk s) :
    (w.aes.run tk s).verdicts = s.verdicts := by
  simp only [Work.aes]; split <;> simp [h]

@[simp] theorem Work.hashed_verdicts (w : Work) (h : ∀ tk s, (w.run tk s).verdicts = s.verdicts) (tk s) :
    (w.hashed.run tk s).verdicts = s.verdicts := by
  simp only [Work.hashed]; split <;> simp [h]

@[simp] theorem Work.signed_verdicts (w : Work) (h : ∀ tk s, (w.run tk s).verdicts = s.verdicts) (tk s) :
    (w.signed.run tk s).verdicts = s.verdicts := by
  simp only [Work.signed]; split <;> simp [h]

@[simp] theorem Work.again_verdicts (f) (w : Work) (h : ∀ tk s, (w.run tk s).verdicts = s.verdicts) (tk s) :
    ((w.again f).run tk s).verdicts = s.verdicts := by
  simp only [Work.again]; split <;> simp [h]

/-! ### Session and odometer -/

@[simp] theorem State.storeOdo_verdicts (s : State) : (State.storeOdo s).verdicts = s.verdicts := by rfl

@[simp] theorem State.odoRecord_verdicts (s : State) (cls : RecClass) (reason k0 k1 : Nat) :
    (State.odoRecord s cls reason k0 k1).verdicts = s.verdicts := by rfl

@[simp] theorem State.sesRecord_verdicts (s : State) (old : SesState) (end_ : Nat) :
    (State.sesRecord s old end_).verdicts = s.verdicts := by rfl

@[simp] theorem State.endSession_verdicts (s : State) (reason : Nat) :
    (State.endSession s reason).verdicts = s.verdicts := by
  unfold State.endSession
  split <;> simp

@[simp] theorem State.sessionTimer_verdicts (s : State) : (State.sessionTimer s).verdicts = s.verdicts := by
  unfold State.sessionTimer
  split <;> simp

@[simp] theorem State.moveSession_verdicts (s : State) (new : SesState) (token : Ident) (zone location : Nat) :
    (State.moveSession s new token zone location).verdicts = s.verdicts := by
  simp [State.moveSession]

@[simp] theorem State.recordToken_verdicts (s : State) (token : Ident) (zone location : Nat) :
    (State.recordToken s token zone location).verdicts = s.verdicts := by rfl

@[simp] theorem State.decideEntry_verdicts (s : State) (token : Ident) (zone location : Nat) :
    (State.decideEntry s token zone location).verdicts = s.verdicts := by
  unfold State.decideEntry
  split <;> simp

/-! ### Draws, keys, calendar -/

@[simp] theorem State.draw_verdicts (s w n) : (State.draw s w n).2.verdicts = s.verdicts := by
  unfold State.draw; split <;> simp

@[simp] theorem State.mask_verdicts (s : State) : (State.mask s).verdicts = s.verdicts := by simp [State.mask]

@[simp] theorem State.drawScalar_verdicts (s cv) : (State.drawScalar s cv).2.verdicts = s.verdicts := by
  simp [State.drawScalar]

@[simp] theorem State.drawId_verdicts (n s) : (State.drawId n s).2.verdicts = s.verdicts := by
  induction n generalizing s with
  | zero => simp [State.drawId]
  | succ n ih => simp [State.drawId, ih]

@[simp] theorem State.signWith_verdicts (cv d m n s) : (State.signWith cv d m n s).2.verdicts = s.verdicts := by
  induction n generalizing s with
  | zero => simp [State.signWith]
  | succ n ih => simp only [State.signWith]; split <;> simp [ih]

@[simp] theorem State.reserveFor_verdicts (verb : Nat) (args : Bytes) (tk : Ticket) (s : State) :
    (State.reserveFor verb args tk s).verdicts = s.verdicts := by
  simp [State.reserveFor]

@[simp] theorem State.writeEntry_verdicts (s : State) (n : Nat) (e : Entry) :
    (State.writeEntry s n e).verdicts = s.verdicts := by rfl

@[simp] theorem State.addBooking_verdicts (s : State) (b : Booking) : (State.addBooking s b).verdicts = s.verdicts := by rfl

@[simp] theorem State.onBookings_verdicts (s : State) (p : Booking → Bool) (f : Booking → Booking) :
    (State.onBookings s p f).verdicts = s.verdicts := by rfl

@[simp] theorem State.onCurrent_verdicts (s : State) (e : Nat) (f : Booking → Booking) :
    (State.onCurrent s e f).verdicts = s.verdicts := by
  unfold State.onCurrent
  split <;> simp

@[simp] theorem State.dropRequest_verdicts (s : State) (e : Nat) : (State.dropRequest s e).verdicts = s.verdicts := by rfl

@[simp] theorem State.undrive_verdicts (s : State) (b : Booking) : (State.undrive s b).verdicts = s.verdicts := by rfl

@[simp] theorem State.release_verdicts (s : State) (b : Booking) : (State.release s b).verdicts = s.verdicts := by
  simp [State.release]

@[simp] theorem State.onChannel_verdicts (s : State) (n : Nat) (f : Channel → Channel) :
    (State.onChannel s n f).verdicts = s.verdicts := by rfl

/-! ### Exchanges and verdicts -/

@[simp] theorem State.authRecord_verdicts (s : State) (b : Booking) (r : KeyRec) (tag session : Nat) :
    (State.authRecord s b r tag session).verdicts = s.verdicts := by rfl

@[simp] theorem State.keyDone_verdicts (s : State) (b : Booking) (r : KeyRec) (tag session : Nat) :
    (State.keyDone s b r tag session).verdicts = s.verdicts := by
  simp [State.keyDone]

@[simp] theorem State.endWith_verdicts (s : State) (e code : Nat) : (State.endWith s e code).verdicts = s.verdicts := by
  unfold State.endWith
  (repeat' split) <;> simp

@[simp] theorem State.needSpore_verdicts (s : State) (b : Booking) (i : Ident) :
    (State.needSpore s b i).verdicts = s.verdicts := by rfl

@[simp] theorem State.crownSlot_verdicts (s b e) : (State.crownSlot s b e).1.verdicts = s.verdicts := by
  simp [State.crownSlot]

@[simp] theorem State.challengeKey_verdicts (s : State) (b : Booking) (i : Ident) (o : Lookup) (e : Entry) :
    (State.challengeKey s b i o e).verdicts = s.verdicts := by
  simp [State.challengeKey]

@[simp] theorem State.quietKey_verdicts (s : State) (b : Booking) (i : Ident) (o : Lookup) (e : Option Entry) :
    (State.quietKey s b i o e).verdicts = s.verdicts := by
  simp [State.quietKey]

@[simp] theorem State.lookupKey_verdicts (s : State) (b : Booking) : (State.lookupKey s b).verdicts = s.verdicts := by
  unfold State.lookupKey
  dsimp only
  split
  · split <;> simp
  · split <;> simp
  · simp

@[simp] theorem State.listHeard_verdicts (s : State) (b : Booking) : (State.listHeard s b).verdicts = s.verdicts := by
  simp [State.listHeard]

@[simp] theorem State.identified_verdicts (s : State) (engine : Nat) :
    (State.identified s engine).verdicts = s.verdicts := by
  unfold State.identified
  split <;> simp

@[simp] theorem State.endAgain_verdicts (s : State) (e : Nat) : (State.endAgain s e).verdicts = s.verdicts := by
  simp [State.endAgain]

@[simp] theorem State.lockBegins_verdicts (s : State) (scope fails ident expiry : Nat) :
    (State.lockBegins s scope fails ident expiry).verdicts = s.verdicts := by rfl

@[simp] theorem State.failIdent_verdicts (s : State) (i : Ident) : (State.failIdent s i).verdicts = s.verdicts := by
  unfold State.failIdent
  split <;> simp

@[simp] theorem State.failDevice_verdicts (s : State) : (State.failDevice s).verdicts = s.verdicts := by
  simp [State.failDevice]

@[simp] theorem State.countFailure_verdicts (s : State) (i : Ident) : (State.countFailure s i).verdicts = s.verdicts := by
  simp [State.countFailure]

@[simp] theorem State.calibrate_verdicts (s b c e r v) : (State.calibrate s b c e r v).1.verdicts = s.verdicts := by
  unfold State.calibrate
  split
  · simp only; split
    · simp
    · split
      · simp
      · split <;> simp
  · rfl

@[simp] theorem State.stopStarts_verdicts (s : State) (e : Nat) : (State.stopStarts s e).verdicts = s.verdicts := by rfl

@[simp] theorem State.verdictLost_verdicts (s : State) (engine : Nat) (b : Booking) :
    (State.verdictLost s engine b).verdicts = s.verdicts := by
  simp [State.verdictLost]

/-! ### Motion and polls -/

@[simp] theorem State.doorMotion_verdicts (s : State) : (State.doorMotion s).verdicts = s.verdicts := by
  unfold State.doorMotion
  split <;> simp

@[simp] theorem State.doorCheckBegins_verdicts (s : State) : (State.doorCheckBegins s).verdicts = s.verdicts := by
  unfold State.doorCheckBegins
  split <;> simp

@[simp] theorem State.applyOdoInit_verdicts (s : State) (tk : Ticket) (metres : Nat) :
    (State.applyOdoInit s tk metres).verdicts = s.verdicts := by
  simp [State.applyOdoInit]

@[simp] theorem State.pollZone_verdicts (p acc z) : (State.pollZone p acc z).1.verdicts = acc.1.verdicts := by
  unfold State.pollZone
  dsimp only
  split
  · rfl
  · split
    · rfl
    · split <;> simp

@[simp] theorem State.noteLastPoll_verdicts (s : State) (index : Option Nat) (r : Booked) :
    (State.noteLastPoll s index r).verdicts = s.verdicts := by
  unfold State.noteLastPoll
  split <;> simp

@[simp] theorem State.runPoll_verdicts (s p) : (State.runPoll s p).1.verdicts = s.verdicts := by
  simp [State.runPoll, foldl_fst_verdicts]

@[simp] theorem State.holdTrigger_verdicts (s : State) (i aerials : Nat) :
    (State.holdTrigger s i aerials).verdicts = s.verdicts := by rfl

@[simp] theorem State.trigger_verdicts (s : State) (i aerials : Nat) :
    (State.trigger s i aerials).verdicts = s.verdicts := by
  simp [State.trigger]

@[simp] theorem State.hostPoll_verdicts (s p i z) : (State.hostPoll s p i z).1.verdicts = s.verdicts := by
  simp [State.hostPoll]

@[simp] theorem State.onSchedule_verdicts (s : State) (i : Nat) (f : Schedule → Schedule) :
    (State.onSchedule s i f).verdicts = s.verdicts := by rfl

@[simp] theorem State.repetition_verdicts (s : State) (index : Nat) : (State.repetition s index).verdicts = s.verdicts := by
  unfold State.repetition
  split <;> simp

/-! ### The field engine -/

@[simp] theorem State.endStep_verdicts (s : State) (b : Booking) : (State.endStep s b).verdicts = s.verdicts := by
  simp [State.endStep]

@[simp] theorem State.reassign_verdicts (s : State) (id : Nat) : (State.reassign s id).verdicts = s.verdicts := by
  unfold State.reassign
  (repeat' split) <;> simp

@[simp] theorem State.engineOut_verdicts (s : State) (engine : Nat) : (State.engineOut s engine).verdicts = s.verdicts := by
  unfold State.engineOut
  (repeat' split) <;> simp

/-! ### Banks, tamper, key storage -/

@[simp] theorem State.stageCfg_verdicts (s : State) (off : Nat) (b : Bytes) :
    (State.stageCfg s off b).verdicts = s.verdicts := by rfl

@[simp] theorem State.dropAtlas_verdicts (s : State) : (State.dropAtlas s).verdicts = s.verdicts := by rfl

@[simp] theorem State.keepOldTables_verdicts (s : State) (m : Mem) :
    (State.keepOldTables s m).verdicts = s.verdicts := by rfl

@[simp] theorem State.dropEndorsements_verdicts (s : State) : (State.dropEndorsements s).verdicts = s.verdicts := by rfl

@[simp] theorem State.kChange_verdicts (old : Mem) (oldSource : Nat) (s : State) :
    (State.kChange old oldSource s).verdicts = s.verdicts := by
  simp [State.kChange]

@[simp] theorem State.applyThallus_verdicts (s : State) (nb : Bank) : (State.applyThallus s nb).verdicts = s.verdicts := by
  simp [State.applyThallus, State.dropEndorsements]

@[simp] theorem State.setBanks_verdicts (s : State) (k : BankKind) (b : Banks) :
    (State.setBanks s k b).verdicts = s.verdicts := by
  unfold State.setBanks
  split <;> simp

@[simp] theorem State.bankRecord_verdicts (s : State) (k : BankKind) (index cause : Nat) :
    (State.bankRecord s k index cause).verdicts = s.verdicts := by rfl

@[simp] theorem State.repairBank_verdicts (s : State) (k : BankKind) : (State.repairBank s k).verdicts = s.verdicts := by
  simp [State.repairBank]

@[simp] theorem State.bankFound_verdicts (k : BankKind) (s : State) : (State.bankFound k s).verdicts = s.verdicts := by
  simp [State.bankFound]

@[simp] theorem State.readBanks_verdicts (s : State) (find : Option (BankKind × Bool × List (Nat × Byte))) :
    (State.readBanks s find).verdicts = s.verdicts := by
  unfold State.readBanks
  simp only [State.bankFound_verdicts]
  split <;> simp

@[simp] theorem State.applyAck_verdicts (s : State) (tk : Ticket) (by_ : List Nat) :
    (State.applyAck s tk by_).verdicts = s.verdicts := by
  simp [State.applyAck]

@[simp] theorem State.stageSpore_verdicts (s : State) (tk : Ticket) (host : Bool) (slot : Nat) (sp : Bytes) :
    (State.stageSpore s tk host slot sp).verdicts = s.verdicts := by
  unfold State.stageSpore
  (repeat' split) <;> simp

@[simp] theorem frondDerivePublicWork_verdicts (args : Bytes) (tk : Ticket) (s : State) :
    ((frondDerivePublicWork args).run tk s).verdicts = s.verdicts := by
  unfold frondDerivePublicWork
  split <;> simp

/-! ### Tokens, the field port, reader exchanges -/

@[simp] theorem State.applyEnrol_verdicts (s : State) (tk : Ticket) (args key : Bytes) :
    (State.applyEnrol s tk args key).verdicts = s.verdicts := by
  unfold State.applyEnrol
  split <;> simp

@[simp] theorem tokenEnrolWork_verdicts (args : Bytes) (tk : Ticket) (s : State) :
    ((tokenEnrolWork args).run tk s).verdicts = s.verdicts := by
  refine Work.aes_verdicts _ (fun tk s => ?_) tk s
  dsimp only
  split
  · simp
  · split <;> simp

@[simp] theorem State.revokeInExchange_verdicts (s : State) (i : Ident) :
    (State.revokeInExchange s i).verdicts = s.verdicts := by
  simp [State.revokeInExchange]

@[simp] theorem tokenQueryWork_verdicts (args : Bytes) (tk : Ticket) (s : State) :
    ((tokenQueryWork args).run tk s).verdicts = s.verdicts := by
  simp only [tokenQueryWork]
  split <;> simp

@[simp] theorem State.portWork_verdicts (s : State) (tk : Ticket) (w : PortWork) :
    (State.portWork s tk w).verdicts = s.verdicts := by rfl

@[simp] theorem State.hostMailbox_verdicts (s : State) (tk : Ticket) (page count : Nat) (data : Option Bytes) (nvmOk : Bool)
    :
    (State.hostMailbox s tk page count data nvmOk).verdicts = s.verdicts := by
  unfold State.hostMailbox
  (repeat' split) <;> simp

@[simp] theorem State.bookReader_verdicts (s : State) (tk : Ticket) (write : Bool) (args : Bytes) :
    (State.bookReader s tk write args).verdicts = s.verdicts := by
  unfold State.bookReader
  split <;> simp

@[simp] theorem readerBase_verdicts (verb : Nat) (write : Bool) (args : Bytes) (tk : Ticket) (s : State) :
    ((readerBase verb write args).run tk s).verdicts = s.verdicts := by
  change (if bit (oct args 2) 3 then s.bookReader tk write args else _).verdicts = _
  split
  · simp
  · split <;> simp

@[simp] theorem readerWork_verdicts (verb : Nat) (write : Bool) (args : Bytes) (tk : Ticket) (s : State) :
    ((readerWork verb write args).run tk s).verdicts = s.verdicts := by
  unfold readerWork
  split
  · exact readerBase_verdicts ..
  · exact Work.aes_verdicts _ (readerBase_verdicts verb write args) tk s

@[simp] theorem mailboxReadFetchWork_verdicts (args : Bytes) (tk : Ticket) (s : State) :
    ((mailboxReadFetchWork args).run tk s).verdicts = s.verdicts := by
  simp only [mailboxReadFetchWork]
  split <;> simp

/-! ### Clauses of the air and the ends of bookings -/

@[simp] theorem State.bookLink_verdicts (s : State) (a : Ask) (b : Booking) :
    (State.bookLink s a b).verdicts = s.verdicts := by
  unfold State.bookLink
  split <;> simp

@[simp] theorem aerialCalWork_verdicts (args : Bytes) (tk : Ticket) (s : State) :
    ((aerialCalWork args).run tk s).verdicts = s.verdicts := by
  simp only [aerialCalWork]
  split <;> simp

@[simp] theorem State.senseCal_verdicts (s : State) (b : Booking) (mask : Nat) (m : Measurement) :
    (State.senseCal s b mask m).verdicts = s.verdicts := by
  simp [State.senseCal]

@[simp] theorem State.stageCal_verdicts (b : Booking) (m : Measurement) (mask options : Nat) (s : State) (n : Nat) :
    (State.stageCal b m mask options s n).verdicts = s.verdicts := by
  simp [State.stageCal]

@[simp] theorem State.applyCal_verdicts (s : State) (b : Booking) (mask options : Nat) (m : Measurement) :
    (State.applyCal s b mask options m).verdicts = s.verdicts := by
  simp [State.applyCal]

@[simp] theorem State.calEvent_verdicts (s : State) (tk : Ticket) (b : Booking) (m : Measurement) :
    (State.calEvent s tk b m).verdicts = s.verdicts := by
  unfold State.calEvent
  split <;> simp

@[simp] theorem State.endMeasure_verdicts (s : State) (b : Booking) (tk : Ticket) (m : Measurement) :
    (State.endMeasure s b tk m).verdicts = s.verdicts := by
  unfold State.endMeasure
  (repeat' split) <;> simp

@[simp] theorem State.applyPhaseRef_verdicts (s : State) (tk : Ticket) (zone : Nat) (i : Ident) (mean : Int) (spread : Nat) :
    (State.applyPhaseRef s tk zone i mean spread).verdicts = s.verdicts := by
  unfold State.applyPhaseRef
  split <;> simp

@[simp] theorem State.writePhaseRef_verdicts (s : State) (tk : Ticket) (b : Booking) :
    (State.writePhaseRef s tk b).verdicts = s.verdicts := by
  unfold State.writePhaseRef
  split <;> simp

@[simp] theorem State.pollResult_verdicts (s : State) (b : Booking) : (State.pollResult s b).verdicts = s.verdicts := by rfl

@[simp] theorem State.rebook_verdicts (s : State) (b : Booking) : (State.rebook s b).verdicts = s.verdicts := by
  unfold State.rebook
  split
  · rfl
  · dsimp only; split <;> simp

@[simp] theorem State.checkEnds_verdicts (s : State) (b : Booking) : (State.checkEnds s b).verdicts = s.verdicts := by
  simp [State.checkEnds]

@[simp] theorem State.publishEnd_verdicts (s : State) (b : Booking) (m : Measurement) :
    (State.publishEnd s b m).verdicts = s.verdicts := by
  unfold State.publishEnd
  split <;> simp

@[simp] theorem State.bookingEnds_verdicts (s : State) (engine : Nat) (m : Measurement) :
    (State.bookingEnds s engine m).verdicts = s.verdicts := by
  unfold State.bookingEnds
  split
  · rfl
  · split
    · rfl
    · dsimp only
      split <;> simp

@[simp] theorem State.endFailed_verdicts (s : State) : (State.endFailed s).verdicts = s.verdicts := by simp [State.endFailed]

@[simp] theorem State.sporeTimeout_verdicts (s : State) (engine : Nat) :
    (State.sporeTimeout s engine).verdicts = s.verdicts := by
  unfold State.sporeTimeout
  split
  · dsimp only; split <;> simp
  · rfl

/-! ### Evidence, random numbers, cipher contexts -/

@[simp] theorem State.makeSeal_verdicts (s l c) : (State.makeSeal s l c).2.verdicts = s.verdicts := by
  unfold State.makeSeal
  dsimp only
  split <;> simp

@[simp] theorem evidenceSignWork_verdicts (args : Bytes) (tk : Ticket) (s : State) :
    ((evidenceSignWork args).run tk s).verdicts = s.verdicts := by
  refine Work.aes_verdicts _ (Work.signed_verdicts _ (Work.hashed_verdicts _ fun tk s => ?_)) tk s
  dsimp only
  split <;> simp

@[simp] theorem State.coreFence_verdicts (s : State) (core cause : Nat) :
    (State.coreFence s core cause).verdicts = s.verdicts := by rfl

@[simp] theorem State.fenceAes_verdicts (s : State) (n cause : Nat) : (State.fenceAes s n cause).verdicts = s.verdicts := by
  simp [State.fenceAes]

@[simp] theorem State.dropEcc_verdicts (s : State) (n cause : Nat) : (State.dropEcc s n cause).verdicts = s.verdicts := by
  simp [State.dropEcc]

@[simp] theorem State.random_verdicts (s : State) (tk : Ticket) (n : Nat) (g : Rng → Bytes × Rng) :
    (State.random s tk n g).verdicts = s.verdicts := by
  simp [State.random]

@[simp] theorem State.withKey_verdicts (s tk a f) (h : ∀ k g s, (f k g s : State).verdicts = s.verdicts) :
    (State.withKey s tk a f).verdicts = s.verdicts := by
  unfold State.withKey
  dsimp only
  split
  · split
    · simp
    · exact h _ _ _
  · simp

@[simp] theorem State.closeWith_verdicts (s : State) (tk : Ticket) (n status : Nat) (results : Bytes) :
    (State.closeWith s tk n status results).verdicts = s.verdicts := by rfl

@[simp] theorem State.withCtx_verdicts (s tk a f) (h : ∀ k g s, (f k g s : State).verdicts = s.verdicts) :
    (State.withCtx s tk a f).verdicts = s.verdicts := by
  unfold State.withCtx
  dsimp only
  split
  · simp
  · split
    · split
      · simp
      · exact h _ _ _
    · simp

@[simp] theorem State.withCtxAes_verdicts (s tk a f) (h : ∀ k g s, (f k g s : State).verdicts = s.verdicts) :
    (State.withCtxAes s tk a f).verdicts = s.verdicts := by
  refine State.withCtx_verdicts _ _ _ _ (fun c k s => ?_)
  split <;> simp [h]

@[simp] theorem State.keepCtx_verdicts (s : State) (tk : Ticket) (args : Bytes) (c : Ctx) (results : Bytes) :
    (State.keepCtx s tk args c results).verdicts = s.verdicts := by rfl

@[simp] theorem State.endCtx_verdicts (s : State) (tk : Ticket) (args : Bytes) (results : Bytes) :
    (State.endCtx s tk args results).verdicts = s.verdicts := by rfl

@[simp] theorem Work.suits_verdicts (a p w) (h : ∀ tk s, (w.run tk s).verdicts = s.verdicts) (tk s) :
    ((Work.suits a p w).run tk s).verdicts = s.verdicts := by
  exact Work.again_verdicts _ w h tk s

@[simp] theorem Work.opens_verdicts (a w) (h : ∀ tk s, (w.run tk s).verdicts = s.verdicts) (tk s) :
    ((Work.opens a w).run tk s).verdicts = s.verdicts := by
  exact Work.again_verdicts _ w h tk s

@[simp] theorem Work.spares_verdicts (a w) (h : ∀ tk s, (w.run tk s).verdicts = s.verdicts) (tk s) :
    ((Work.spares a w).run tk s).verdicts = s.verdicts := by
  exact Work.again_verdicts _ w h tk s

@[simp] theorem encryptOneshotWork_verdicts (args : Bytes) (tk : Ticket) (s : State) :
    ((encryptOneshotWork args).run tk s).verdicts = s.verdicts := by
  refine Work.spares_verdicts _ _ (Work.aes_verdicts _ fun tk s => State.withKey_verdicts _ _ _ _ fun k g s => ?_) tk s
  dsimp only
  split <;> simp

@[simp] theorem encryptBeginWork_verdicts (args : Bytes) (tk : Ticket) (s : State) :
    ((encryptBeginWork args).run tk s).verdicts = s.verdicts := by
  exact Work.spares_verdicts _ _ (Work.opens_verdicts _ _ (Work.aes_verdicts _ fun tk s => State.withKey_verdicts _ _ _ _
      fun k g s => by simp)) tk s

@[simp] theorem decryptBeginWork_verdicts (args : Bytes) (tk : Ticket) (s : State) :
    ((decryptBeginWork args).run tk s).verdicts = s.verdicts := by
  refine Work.opens_verdicts _ _ (Work.aes_verdicts _ fun tk s => State.withKey_verdicts _ _ _ _ fun k g s => ?_) tk s
  simp

@[simp] theorem Work.holds_verdicts (a w) (h : ∀ tk s, (w.run tk s).verdicts = s.verdicts) (tk s) :
    ((Work.holds a w).run tk s).verdicts = s.verdicts := by
  exact Work.again_verdicts _ w h tk s

@[simp] theorem Work.holdsLast_verdicts (a w) (h : ∀ tk s, (w.run tk s).verdicts = s.verdicts) (tk s) :
    ((Work.holdsLast a w).run tk s).verdicts = s.verdicts := by
  exact Work.again_verdicts _ w h tk s

@[simp] theorem decryptUpdateWork_verdicts (args : Bytes) (tk : Ticket) (s : State) :
    ((decryptUpdateWork args).run tk s).verdicts = s.verdicts := by
  refine Work.holds_verdicts _ _ (Work.suits_verdicts _ _ _ fun tk s => State.withCtxAes_verdicts _ _ _ _ fun c k s => ?_)
      tk s
  simp

@[simp] theorem State.compatFail_verdicts (s : State) (tk : Ticket) (n : Nat) (c : Ctx) :
    (State.compatFail s tk n c).verdicts = s.verdicts := by rfl

@[simp] theorem decryptFinalWork_verdicts (args : Bytes) (tk : Ticket) (s : State) :
    ((decryptFinalWork args).run tk s).verdicts = s.verdicts := by
  refine Work.holdsLast_verdicts _ _ (Work.suits_verdicts _ _ _ fun tk s => State.withCtxAes_verdicts _ _ _ _ fun c k s =>
      ?_) tk s
  simp

@[simp] theorem macBeginWork_verdicts (args : Bytes) (tk : Ticket) (s : State) :
    ((macBeginWork args).run tk s).verdicts = s.verdicts := by
  exact Work.opens_verdicts _ _ (Work.aes_verdicts _ fun tk s => State.withKey_verdicts _ _ _ _ fun k g s => by simp) tk s

/-! ### Lanes, pairing, the work of a clause -/

@[simp] theorem State.extendWork_verdicts (n : Nat) (s : State) : (State.extendWork n s).verdicts = s.verdicts := by rfl

@[simp] theorem State.refuseHinted_verdicts (f : Nat) (s : State) : (State.refuseHinted f s).verdicts = s.verdicts := by
  simp [State.refuseHinted]

@[simp] theorem State.bookLoops_verdicts (verb : Nat) (args : Bytes) (last : Nat) (tk : Ticket) (s : State) :
    (State.bookLoops verb args last tk s).verdicts = s.verdicts := by
  simp [State.bookLoops]

@[simp] theorem State.dropLoops_verdicts (s : State) (order : Nat) :
    (State.dropLoops s order).verdicts = s.verdicts := by rfl

@[simp] theorem State.lastTest_verdicts (s : State) (failed : BitVec 16) (corrected : Nat) :
    (State.lastTest s failed corrected).verdicts = s.verdicts := by rfl

@[simp] theorem State.pair_verdicts (s : State) (tk : Ticket) (args : Bytes) :
    (State.pair s tk args).verdicts = s.verdicts := by
  unfold State.pair
  split <;> simp

@[simp] theorem hostPairWork_verdicts (args : Bytes) (tk : Ticket) (s : State) :
    ((hostPairWork args).run tk s).verdicts = s.verdicts := by
  exact Work.aes_verdicts _ (Work.signed_verdicts _ (Work.hashed_verdicts _ fun tk s => by simp)) tk s

@[simp] theorem State.applyClockSet_verdicts (s : State) (tk : Ticket) (new : Nat) :
    (State.applyClockSet s tk new).verdicts = s.verdicts := by rfl

@[simp] theorem State.storeTick_verdicts (s : State) (n : Nat) : (State.storeTick s n).verdicts = s.verdicts := by rfl

@[simp] theorem State.endIfOver_verdicts (s : State) (engine : Nat) : (State.endIfOver s engine).verdicts = s.verdicts := by
  unfold State.endIfOver
  split <;> simp

@[simp] theorem bankWork_verdicts (verb : Nat) (args : Bytes) (sup : Supplied) (tk : Ticket) (s : State) :
    ((bankWork verb args sup).run tk s).verdicts = s.verdicts := by
  unfold bankWork
  split <;> simp [configStageBeginWork, configStageWriteWork, configStageDiscardWork, configCommitWork, configReadWork,
    thallusStageBeginWork, thallusStageWriteWork, thallusStageDiscardWork, lichenEndorseWork, thallusCommitWork,
    State.setCfgStage]

@[simp] theorem fieldWork_verdicts (verb : Nat) (args : Bytes) (tk : Ticket) (s : State) :
    ((fieldWork verb args).run tk s).verdicts = s.verdicts := by
  unfold fieldWork
  split <;> simp [pollStartWork, pollStopWork, fieldVectorWork, atlasLoadBeginWork, atlasLoadPointsWork, inventoryWork,
    authenticateWork, locateWork, sessionQueryWork, sessionEndWork, tokenRevokeWork, State.setCfgStage]

@[simp] theorem motionWork_verdicts (verb : Nat) (args : Bytes) (sup : Supplied) (tk : Ticket) (s : State) :
    ((motionWork verb args sup).run tk s).verdicts = s.verdicts := by
  unfold motionWork
  split <;> simp [releaseStateWork, releaseClearWork, odoIntervalWork, odoInitWork, motionReadWork, timerCfgWork, peekWork,
    pokeWork]

@[simp] theorem keyWork_verdicts (verb : Nat) (args : Bytes) (sup : Supplied) (tk : Ticket) (s : State) :
    ((keyWork verb args sup).run tk s).verdicts = s.verdicts := by
  unfold keyWork
  split <;> simp [sporeLoadNeededWork, sporeLoadHostWork, sporeEvictWork, sporeWrapWork, frondDeriveDeriveWork,
    frondDeriveNodeWork, keyRetireWork]

@[simp] theorem cryptoWork_verdicts (verb : Nat) (args : Bytes) (tk : Ticket) (s : State) :
    ((cryptoWork verb args).run tk s).verdicts = s.verdicts := by
  unfold cryptoWork
  (repeat' split) <;> simp [abortWork, encryptUpdateWork, encryptFinalWork, decryptOneshotWork, decryptReadWork,
    macOneshotWork, macUpdateWork, macFinalWork, evidenceReadWork, randomPrWork, randomWork]

@[simp] theorem State.unlatch_verdicts (s : State) (x : Latched) : (State.unlatch s x).verdicts = s.verdicts := by
  simp [State.unlatch]

@[simp] theorem State.rewindRounds_verdicts (s : State) (first : Latched) :
    (State.rewindRounds s first).verdicts = s.verdicts := by rfl

@[simp] theorem State.spendTick_verdicts (s : State) : (State.spendTick s).verdicts = s.verdicts := by rfl

@[simp] theorem State.dropCores_verdicts (s : State) (f : TestFail) : (s.dropCores f).verdicts = s.verdicts := by
  simp [State.dropCores]

/-! ### Judging a response -/

@[simp] theorem State.setCell_verdicts (s : State) (i : Ident) : (s.setCell i).verdicts = s.verdicts := by
  unfold State.setCell
  split
  · rfl
  · simp

@[simp] theorem State.decideStart_verdicts (s : State) (d r : Bool) (i : Ident) (z l : Nat) :
    (s.decideStart d r i z l).verdicts = s.verdicts := by
  simp [State.decideStart]

@[simp] theorem State.decideOn_verdicts (s : State) (b : Booking) (i : Ident) (cls : Nat) :
    (s.decideOn b i cls).1.verdicts = s.verdicts := by
  unfold State.decideOn
  split
  · simp
  · simp

@[simp] theorem State.judge_verdicts (s : State) (b : Booking) (c : CurKey) (e : Entry) (r : Response) :
    (s.judge b c e r).verdicts = s.verdicts := by
  simp [State.judge]

@[simp] theorem State.judgeResponse_verdicts (s : State) (e : Nat) (r : Response) :
    (s.judgeResponse e r).verdicts = s.verdicts := by
  unfold State.judgeResponse
  (repeat' split) <;> simp

/-- Judging a response brings in no other. -/
@[simp] theorem State.verdictEvent_verdicts (s : State) (e : Nat) (r : Response) :
    (s.verdictEvent e r).verdicts = s.verdicts := by
  simp [State.verdictEvent]

end Sys2Proof.Machine
end

section
/-! PROOF. What sets no release of the start lock: operations, resets, the work of clauses, the lasting changes but a judgement
(R17, R202, R203, R405; O24). -/

namespace Sys2Proof.Machine

open Sys2Proof

/-! ### What an operation may do -/

/-- What the start lock's release rests on: the cell's and the motion state, and the responses to be judged. -/
@[simp] def State.releaseView (s : State) : (CellState × MotionState) × List Act := (s.lockView, s.verdicts)

/-- The release is not set. -/
structure GrantsNone (s t : State) : Prop where
  released : t.cell.state = .released → s.cell.state = .released

/-- The release is not set, and no response to be judged comes in (R17, R202). -/
def Withholds (s t : State) : Prop := GrantsNone s t ∧ t.verdicts ⊆ s.verdicts

theorem GrantsNone.of_lockView {s t : State} (h : t.lockView = s.lockView) : GrantsNone s t :=
  ⟨fun ht => (Prod.mk.inj h).1 ▸ ht⟩

theorem GrantsNone.refl (s : State) : GrantsNone s s := ⟨id⟩

theorem GrantsNone.trans {s t u : State} (h : GrantsNone s t) (k : GrantsNone t u) : GrantsNone s u :=
  ⟨h.released ∘ k.released⟩

theorem Withholds.of_view {s t : State} (h : t.releaseView = s.releaseView) : Withholds s t := by
  obtain ⟨hl, hv⟩ := Prod.mk.inj h
  exact ⟨.of_lockView hl, hv ▸ List.Subset.refl _⟩

theorem Withholds.refl (s : State) : Withholds s s := .of_view rfl

theorem Withholds.trans {s t u : State} (h : Withholds s t) (k : Withholds t u) : Withholds s u :=
  ⟨h.1.trans k.1, List.Subset.trans k.2 h.2⟩

/-- An operation after one that leaves the view alone. -/
theorem Withholds.after {s t u : State} (h : t.releaseView = s.releaseView) (k : Withholds t u) : Withholds s u :=
  (Withholds.of_view h).trans k

/-- An operation that leaves the view alone, after another. -/
theorem Withholds.then {s t u : State} (h : Withholds s t) (k : u.releaseView = t.releaseView) : Withholds s u :=
  h.trans (.of_view k)

theorem Withholds.ite {s t u : State} {c : Prop} [Decidable c] (h : Withholds s t) (k : Withholds s u) :
    Withholds s (if c then t else u) := by
  split
  · exact h
  · exact k

theorem Withholds.foldl {α : Type} {f : State → α → State} (h : ∀ s a, Withholds s (f s a)) (l : List α) (s : State) :
    Withholds s (l.foldl f s) := by
  induction l generalizing s with
  | nil => exact .refl s
  | cons a l ih => exact (h s a).trans (ih _)

/-- Locking the cell, or holding its clear, sets no release. -/
theorem Withholds.of_not_released {s t : State} (hc : t.cell.state ≠ .released) (hv : t.verdicts = s.verdicts) :
    Withholds s t :=
  ⟨⟨fun ht => absurd ht hc⟩, hv ▸ List.Subset.refl _⟩

/-! ### Clears -/

theorem State.lockCell_withholds (s : State) (r : Nat) (hr : Byte) (p : Nat) : Withholds s (s.lockCell r hr p) := by
  refine .of_not_released ?_ ?_
  · have h : (s.lockCell r hr p).lockView = (.locked, s.motion.state) := by simp [State.lockCell]
    simp [(Prod.mk.inj h).1]
  · simp [State.lockCell]

theorem State.clearRequest_withholds (s : State) (r : Nat) (hr : Byte) : Withholds s (s.clearRequest r hr) := by
  unfold State.clearRequest
  split
  · exact .refl s
  · exact .refl s
  · refine .ite (s.lockCell_withholds ..) (.of_not_released ?_ ?_)
    · simp [(Prod.mk.inj (s.holdClear_lockView r hr)).1]
    · simp [State.holdClear]

theorem State.endSessionClear_withholds (s : State) (r : Nat) : Withholds s (s.endSessionClear r) := by
  unfold State.endSessionClear
  split
  · exact .refl s
  · exact .after (by simp) (State.clearRequest_withholds ..)

theorem State.enterHold_withholds (s : State) : Withholds s s.enterHold := by
  unfold State.enterHold
  dsimp only
  split
  · exact s.clearRequest_withholds ..
  · exact (Withholds.after (by simp) (State.clearRequest_withholds ..)).trans (State.clearRequest_withholds ..)

theorem State.pendingClear_withholds (s : State) : Withholds s s.pendingClear := by
  unfold State.pendingClear
  split
  · exact .ite (s.lockCell_withholds ..) (.refl s)
  · exact .refl s

/-! ### Resets -/

/-- A reset keeps the cell, and drops what waits. -/
theorem State.systemReset_withholds (s : State) (cause : Nat) : Withholds s (s.systemReset cause) :=
  ⟨⟨id⟩, List.nil_subset _⟩

theorem State.flagLanes_withholds (a b : Bool) (cause : Nat) (s : State) : Withholds s (s.flagLanes a b cause) := by
  unfold State.flagLanes
  refine .ite (.refl s) (.ite (.of_view (by simp)) (.ite (s.systemReset_withholds _) ?_))
  split
  · exact .ite (s.systemReset_withholds _) (.of_view (by simp [State.loseLane]))
  · exact .ite (s.systemReset_withholds _) (.refl s)

theorem State.probeFails_withholds (a b : Bool) (s : State) : Withholds s (s.probeFails a b) :=
  .ite (.refl s) (.ite (s.systemReset_withholds _) (.ite (s.systemReset_withholds _) (.ite (.refl s)
    (.of_view (by simp [State.loseLane])))))

theorem State.sramFails_withholds (s : State) (x : Option (Option LaneId)) : Withholds s (s.sramFails x) := by
  cases x with
  | none => exact .refl s
  | some l =>
    cases l with
    | none => exact s.systemReset_withholds _
    | some l => exact s.flagLanes_withholds ..

/-! ### Work -/

theorem selftestWork_withholds (args : Bytes) (r : TestResult) (tk : Ticket) (s : State) :
    Withholds s ((selftestWork args r).run tk s) := by
  simp only [selftestWork]
  refine .ite (s.systemReset_withholds _) ?_
  have tested : ∀ (a b : Bool) (u : State), Withholds s u →
      Withholds s (if (BitVec.ofNat 16 (num args 0 2)).getLsbD 1 = true then (u.probeFails a b).sramFails r.sram
        else u.probeFails a b) :=
    fun a b u h => (h.trans (u.probeFails_withholds a b)).trans (.ite (State.sramFails_withholds ..) (.refl _))
  exact tested _ _ _ (.of_view (by simp))

theorem katWork_withholds (args : Bytes) (r : TestResult) (tk : Ticket) (s : State) :
    Withholds s ((katWork args r).run tk s) := by
  simp only [katWork]
  exact .ite (s.systemReset_withholds _) (.of_view (by simp))

theorem serviceWork_withholds (v : Nat) (args : Bytes) (sup : Supplied) (tk : Ticket) (s : State) :
    Withholds s ((serviceWork v args sup).run tk s) := by
  unfold serviceWork
  dsimp only
  split
  case h_9 => exact selftestWork_withholds ..
  case h_10 => exact katWork_withholds ..
  all_goals exact .of_view (by simp [fieldportCfgPortWork, fieldportCfgReaderKeyWork, fieldportCfgQueryWork,
    mailboxReadLocalWork, mailboxReadReaderWork, mailboxWriteLocalWork, mailboxWriteReaderWork, tamperStatusWork,
    tamperAckWork])

theorem workOf_withholds (v : Nat) (args : Bytes) (sup : Supplied) (tk : Ticket) (s : State) :
    Withholds s ((workOf v args sup).run tk s) := by
  unfold workOf
  split
  case h_7 =>
    split
    · exact .of_view (by simp)
    split
    · exact .of_view (by simp)
    split
    · exact .of_view (by simp)
    split
    · exact .of_view (by simp)
    split
    · exact .of_view (by simp)
    · exact serviceWork_withholds ..
  all_goals exact .of_view (by simp [echoWork, statusWork, clockWork, clockSetWork, sleepWork, laneStatusWork])

/-! ### Lasting changes -/

theorem State.doorUndecided_withholds (s : State) : Withholds s s.doorUndecided := by
  unfold State.doorUndecided
  split
  · exact s.endSessionClear_withholds _
  · exact .refl s

theorem State.doorCheck_withholds (s : State) : Withholds s s.doorCheck := by
  unfold State.doorCheck
  split
  · extract_lets old s1 r
    have h1 : s1.releaseView = s.releaseView := by simp [s1]
    have hr : r.1.releaseView = s.releaseView := by simpa [r] using h1
    exact .ite (.refl s) (.ite (.after h1 s1.doorUndecided_withholds) (.ite (.of_view (by simpa using h1))
      (.ite (.after hr r.1.doorUndecided_withholds) (.of_view hr))))
  · exact .refl s

theorem State.doorEvent_withholds (s : State) (b : Bool) : Withholds s (s.doorEvent b) :=
  .ite (.of_view (by simp)) (.ite s.doorCheck_withholds (.refl s))

theorem State.recoveryUndecided_withholds (s : State) : Withholds s s.recoveryUndecided :=
  .ite (.after (by simp) (State.clearRequest_withholds ..)) (.refl s)

theorem State.recoveryPoll_withholds (s : State) : Withholds s s.recoveryPoll := by
  unfold State.recoveryPoll
  extract_lets old s1 r
  have h1 : s1.releaseView = s.releaseView := by simp [s1, old]
  have hr : r.1.releaseView = s.releaseView := by simpa [r] using h1
  exact .ite (.refl s) (.ite (.after h1 s1.recoveryUndecided_withholds)
    (.ite (.after hr r.1.recoveryUndecided_withholds) (.of_view hr)))

theorem State.startHeld_withholds (s : State) (x : Nat × Nat) : Withholds s (s.startHeld x) :=
  .ite (.after (by simp) (State.doorCheck_withholds _)) (.of_view (by simp))

theorem State.heldStart_withholds (s : State) : Withholds s s.heldStart := by
  refine .ite ?_ (.refl s)
  unfold State.startAllHeld
  extract_lets hs old s1 s2
  have h2 : Withholds s s2 :=
    .after (t := s1) (by simp [s1]) (.foldl (fun u x => .ite (.refl u) (u.startHeld_withholds x)) hs s1)
  exact h2.then (by simp)

theorem State.timerEvent_withholds (s : State) : Withholds s s.timerEvent := by
  refine .ite (.refl s) ?_
  split
  · exact .refl s
  · exact .of_view (by simp)
  · exact s.endSessionClear_withholds _
  · exact s.doorCheck_withholds

theorem State.applyConfig_withholds (s : State) (tk : Ticket) (img : Mem) (nvm : BankOutcome) :
    Withholds s (s.applyConfig tk img nvm) := by
  unfold State.applyConfig
  dsimp only
  split
  · exact .of_view (by simp)
  · exact .after (by simp) (State.systemReset_withholds ..)
  · exact .after (by simp) (State.systemReset_withholds ..)
  · exact .of_view (by simp)
  · exact .of_view (by simp)

theorem State.applyThallusCommit_withholds (s : State) (tk : Ticket) (img : Mem) (l : List Nat) (nvm : BankOutcome) :
    Withholds s (s.applyThallusCommit tk img l nvm) := by
  have cell : ∀ u : State, (u.personalise tk).lockView = u.lockView := fun u => by simp [State.personalise]
  have verdicts : ∀ u : State, (u.personalise tk).verdicts = u.verdicts := fun u => by simp [State.personalise]
  unfold State.applyThallusCommit
  dsimp only
  split
  · exact .of_view (by simp)
  · exact .after (by simp) (State.systemReset_withholds ..)
  · exact .after (by simp) (State.systemReset_withholds ..)
  · exact .of_view (by simp [cell, verdicts])
  · exact .of_view (by simp [cell, verdicts])

theorem State.applyRevoke_withholds (s : State) (tk : Ticket) (i : Ident) : Withholds s (s.applyRevoke tk i) := by
  unfold State.applyRevoke
  split
  · exact .refl s
  · have revoked : ∀ u : State, u.releaseView = s.releaseView → Withholds s (u.revokeSession i) :=
      fun u hu => .after hu (.ite (u.endSessionClear_withholds _) (.refl u))
    exact (revoked _ (by simp)).then (Prod.ext ((State.amend_lockView ..).trans (State.revokeInExchange_lockView ..))
      ((State.amend_verdicts ..).trans (State.revokeInExchange_verdicts ..)))

theorem State.applySleep_withholds (s : State) (wake : Nat) : Withholds s (s.applySleep wake) := by
  unfold State.applySleep
  have cleared : ∀ u : State, u.releaseView = s.releaseView → Withholds s (u.clearRequest 5 0) :=
    fun u hu => .after hu (u.clearRequest_withholds ..)
  exact (cleared _ (by simp)).then (Prod.ext (State.odoRecord_lockView ..) (State.odoRecord_verdicts ..))

/-- Of the lasting changes only a judgement sets the release. -/
theorem State.apply_withholds (s : State) {a : Act} (ha : a.isVerdict = false) : Withholds s (s.apply a) := by
  cases a with
  | judge e r => exact absurd ha (by simp)
  | undecided e r =>
    cases r
    · exact s.doorUndecided_withholds
    · exact s.recoveryUndecided_withholds
  | revoke tk i => exact s.applyRevoke_withholds tk i
  | config tk img nvm => exact s.applyConfig_withholds tk img nvm
  | thallus tk img l nvm => exact s.applyThallusCommit_withholds tk img l nvm
  | endSession tk => exact s.endSessionClear_withholds _
  | clear tk r => exact s.clearRequest_withholds ..
  | sleep tk w => exact s.applySleep_withholds w
  | timer => exact s.timerEvent_withholds
  | door o => exact s.doorEvent_withholds o
  | still =>
    exact (Withholds.after (t := s.storeOdo) (by simp) (State.pendingClear_withholds _)).then
      (Prod.ext (State.doorCheckBegins_lockView _) (State.doorCheckBegins_verdicts _))
  | held => exact s.enterHold_withholds
  | probe a b => exact .ite (State.probeFails_withholds ..) (.refl s)
  | heldStart => exact s.heldStart_withholds
  | recovery => exact s.recoveryPoll_withholds
  | _ => exact .of_view (by simp [State.apply])

end Sys2Proof.Machine
end

section
/-! PROOF. What a judgement needs to release the start lock, and where in a TICK it stands (R17, R162, R202, R204, R372; O24). -/

namespace Sys2Proof.Machine

open Sys2Proof

/-! ### The judgement that sets the release -/

/-- What a judgement needs to release the start lock: a START exchange whose key, not revoked, with the START privilege, gave
the right MAC under the key the exchange holds, was found inside, and may release where one lane stands alone (R162, R202,
R372). -/
def State.ProvedStart (s : State) (a : Act) : Prop :=
  ∃ e r b k en key, a = .judge e r ∧ s.current e = some b ∧ b.await = .verdict ∧ b.cur = some k ∧ k.entry = some en ∧
    k.revoked = false ∧ b.purpose = 1 ∧ s.heldKey b k = some key ∧
    (Crypto.cmac key (keyMacInput b.group k r)).take en.macLength = r.mac ∧
    en.privileges.getLsbD 0 = true ∧ (s.relayVerdict b k en r).cls = 1 ∧
    (s.alone = true → thalSingleLane s.thal.cur = true)

/-- Relay checks with outcome 0 have found the privilege of the purpose. -/
theorem State.relayVerdict_privileged {s : State} {b : Booking} {c : CurKey} {e : Entry} {r : Response}
    (h : (s.relayVerdict b c e r).outcome = 0) : e.privileged b.purpose = true := by
  have zero : ∀ fails privileged : Bool,
      (if fails then 5 else if privileged then 0 else 9) = 0 → privileged = true := by decide
  exact zero _ _ h

/-- A verdict with outcome 0 is that of the relay checks, on the right MAC of a key that is held and not revoked. -/
theorem State.verdict_proved {s : State} {b : Booking} {c : CurKey} {e : Entry} {r : Response}
    (h : (s.verdict b c e r).outcome = 0) :
    c.revoked = false ∧ s.verdict b c e r = s.relayVerdict b c e r ∧
      ∃ key, s.heldKey b c = some key ∧ (Crypto.cmac key (keyMacInput b.group c r)).take e.macLength = r.mac := by
  unfold State.verdict at h ⊢
  dsimp only at h ⊢
  split at h
  · cases h
  next hrev =>
    split at h
    · cases h
    next key hkey =>
      split at h
      · cases h
      next hmac => exact ⟨by simpa using hrev, by rw [if_neg hrev, if_neg hmac], key, hkey, by simpa using hmac⟩

/-- A judgement that decides nothing, or no START exchange, leaves the cell alone. -/
theorem State.judge_lockView {s : State} {b : Booking} {c : CurKey} {e : Entry} {r : Response}
    (h : s.decides b (s.verdict b c e r).outcome (s.verdict b c e r).cls = true → b.purpose ≠ 1) :
    (s.judge b c e r).lockView = s.lockView := by
  by_cases hd : s.decides b (s.verdict b c e r).outcome (s.verdict b c e r).cls = true
  · simp [State.judge, State.decideOn, h hd]
  · simp [State.judge, hd]

theorem State.judge_proved {s : State} {e : Nat} {b : Booking} {c : CurKey} {en : Entry} {r : Response}
    (hb : s.current e = some b) (hawait : b.await = .verdict) (hc : b.cur = some c) (hen : c.entry = some en)
    (h : (s.judge b c en r).cell.state = .released) (hs : s.cell.state ≠ .released) : s.ProvedStart (.judge e r) := by
  have hdec : s.decides b (s.verdict b c en r).outcome (s.verdict b c en r).cls = true ∧ b.purpose = 1 := by
    by_contra hn
    exact hs ((GrantsNone.of_lockView (State.judge_lockView fun hd hp => hn ⟨hd, hp⟩)).released h)
  obtain ⟨hdec, hp⟩ := hdec
  simp only [State.decides, hp, Bool.and_eq_true, beq_iff_eq, Bool.or_eq_true, Bool.not_eq_true'] at hdec
  obtain ⟨⟨hout, -⟩, hcls, hlane⟩ := hdec
  obtain ⟨hrev, hv, key, hkey, hmac⟩ := State.verdict_proved hout
  have hpriv := State.relayVerdict_privileged (hv ▸ hout)
  rw [hp] at hpriv
  have hlane : s.alone = true → thalSingleLane s.thal.cur = true := fun ha => by simpa [ha] using hlane
  exact ⟨e, r, b, c, en, key, rfl, hb, hawait, hc, hen, hrev, hp, hkey, hmac, hpriv, hv ▸ hcls, hlane⟩

theorem State.judgeResponse_proved {s : State} {e : Nat} {r : Response} (h : (s.judgeResponse e r).cell.state = .released)
    (hs : s.cell.state ≠ .released) : s.ProvedStart (.judge e r) := by
  unfold State.judgeResponse at h
  split at h
  · exact absurd h hs
  next b hb =>
    split at h
    next c hawait hc =>
      split at h
      · exact absurd h hs
      next en hen =>
        split at h
        · exact absurd ((GrantsNone.of_lockView (s.verdictLost_lockView e b)).released h) hs
        · exact s.judge_proved hb hawait hc hen h hs
    · exact absurd h hs

/-- Of the lasting changes only a judgement that proves a START key sets the release (R162, R202, R204). -/
theorem State.act_released {s : State} {a : Act} (h : (s.act a).cell.state = .released) (hs : s.cell.state ≠ .released) :
    s.ProvedStart a := by
  unfold State.act at h
  split at h
  · exact absurd h hs
  · cases a with
    | judge e r => exact State.judgeResponse_proved ((GrantsNone.of_lockView (State.endIfOver_lockView ..)).released h) hs
    | _ => exact absurd ((s.apply_withholds rfl).1.released h) hs

/-- No lasting change brings in a response to be judged. -/
theorem State.act_verdicts_subset (s : State) (a : Act) : (s.act a).verdicts ⊆ s.verdicts := by
  unfold State.act
  split
  · exact List.Subset.refl _
  · show (s.apply a).verdicts ⊆ s.verdicts
    cases a with
    | judge e r => exact (s.verdictEvent_verdicts e r) ▸ List.Subset.refl _
    | _ => exact (s.apply_withholds rfl).2

/-! ### The takeover -/

/-- A clause that takes a place in the air calendar brings in no response to be judged. -/
theorem workOf_air_verdicts {v : Nat} {args : Bytes} (h : booksAir v args = true) (sup : Supplied) (tk : Ticket) (s : State) :
    ((workOf v args sup).run tk s).verdicts = s.verdicts := by
  have hv : v = 0x22 ∨ v = 0x23 ∨ v = 0x28 ∨ v = 0x29 ∨ v = 0x2A ∨ ((v = 0x61 ∨ v = 0x62) ∧ oct args 0 = 1) := by
    simpa [booksAir, or_assoc] using h
  rcases hv with rfl | rfl | rfl | rfl | rfl | ⟨rfl | rfl, ho⟩
  · simp [workOf]
  · simp [workOf]
  · simp [workOf]
  · simp [workOf]
  · simp [workOf]
  · simp [workOf, serviceWork, ho, mailboxReadReaderWork]
  · simp [workOf, serviceWork, ho, mailboxWriteReaderWork]

@[simp] theorem frameGo_verdicts (hd : Head) (args : Bytes) (sup : Supplied) (t : Nat) (s0 : State) (tk : Ticket) (s : State) :
    (frameGo hd args (workOf hd.verb args sup) t s0 tk s).verdicts = s.verdicts := by
  unfold frameGo
  split
  · exact workOf_air_verdicts ‹_› ..
  · simp

@[simp] theorem State.readmit_verdicts (s : State) (x : Latched) : (s.readmit x).verdicts = s.verdicts := by
  unfold State.readmit
  dsimp only
  split
  · simp
  · exact (frameGo_verdicts ⟨_, _, _, x.verb⟩ ..).trans (by simp)

@[simp] theorem State.runAgain_verdicts (f : Nat) (s : State) : (s.runAgain f).verdicts = s.verdicts := by
  unfold State.runAgain
  dsimp only
  split <;> simp

@[simp] theorem State.takeOver_verdicts (s : State) : s.takeOver.verdicts = s.verdicts := by
  unfold State.takeOver
  split
  · rfl
  · split <;> simp

/-! ### TICK -/

theorem State.runQueued_withholds (s : State) (q : Queued) : Withholds s (s.runQueued q) :=
  .ite (.refl s) ((workOf_withholds q.ticket.verb q.args q.supplied q.ticket s).then (by simp))

theorem State.drawAgain_withholds (s : State) (q : Queued) : Withholds s (s.drawAgain q) :=
  .after (by simp) (workOf_withholds ..)

/-- Up to the lasting changes of a published tick the release is not set. -/
theorem State.beforeActs_withholds (s : State) : Withholds s s.takeOver.spendTick.runReady.endFailed :=
  have h : Withholds s s.takeOver.spendTick.runReady :=
    .after (t := s.takeOver.spendTick) (by simp) (.foldl State.runQueued_withholds ..)
  h.then (by simp)

/-- A tick that is not published sets no release. -/
theorem State.notPublished_grants_none (s : State) : GrantsNone s s.notPublished := by
  unfold State.notPublished
  extract_lets +onlyGivenNames old s1 s2
  have h1 : ((List.range 4).foldl State.missLanes s1).lockView = s.lockView := by simp [s1, old]
  have h2 : GrantsNone s s2 := (GrantsNone.of_lockView h1).trans (Withholds.foldl State.drawAgain_withholds ..).1
  exact h2.trans (.of_lockView (by simp))

/-- Where a row of lasting changes sets the release, one of them in its place is a judgement that does. -/
theorem exists_judgement_of_released (l : List Act) (u : State) (h : (l.foldl State.act u).cell.state = .released)
    (hu : u.cell.state ≠ .released) :
    ∃ (n e : Nat) (r : Response), l[n]? = some (.judge e r) ∧ ((l.take n).foldl State.act u).cell.state ≠ .released ∧
      (((l.take n).foldl State.act u).act (.judge e r)).cell.state = .released := by
  induction l generalizing u with
  | nil => exact absurd h hu
  | cons a l ih =>
    by_cases ha : (u.act a).cell.state = .released
    · obtain ⟨e, r, -, -, -, -, rfl, -⟩ := State.act_released ha hu
      exact ⟨0, e, r, rfl, hu, ha⟩
    · obtain ⟨n, e, r, hn⟩ := ih (u.act a) h ha
      exact ⟨n + 1, e, r, hn⟩

theorem State.judge_mem_verdicts {s : State} {e : Nat} {r : Response} : .judge e r ∈ s.verdicts ↔ .judge e r ∈ s.acts := by
  simp only [State.verdicts, List.mem_filter, Act.isVerdict, and_true]

theorem mem_of_sorted {l : List Act} {n : Nat} {a : Act} (h : (sortBy Act.before l)[n]? = some a) : a ∈ l :=
  (perm_sortBy Act.before l).mem_iff.mp (List.mem_of_getElem? h)

/-- What waits after the lasting changes of a commit phase holds no response to be judged. -/
theorem State.actAll_verdicts (s : State) : s.actAll.verdicts = [] := by
  have h : ∀ (l : List Act) (u : State), (l.foldl State.act u).verdicts ⊆ u.verdicts := fun l => by
    induction l with
    | nil => exact fun u => List.Subset.refl _
    | cons a l ih => exact fun u => List.Subset.trans (ih _) (u.act_verdicts_subset a)
  exact List.eq_nil_of_subset_nil (h _ _)

/-- The second row of lasting changes, which the first asks for, sets no release. -/
theorem State.actAll_twice_grants_none (s : State) : GrantsNone s.actAll s.actAll.actAll := by
  refine ⟨fun h => ?_⟩
  by_contra hs
  obtain ⟨n, e, r, hn, -⟩ := exists_judgement_of_released _ _ h hs
  have hmem := State.judge_mem_verdicts.mpr (mem_of_sorted hn)
  rw [State.actAll_verdicts] at hmem
  exact List.not_mem_nil hmem

/-- The release set by a commit phase is set among its lasting changes. -/
theorem State.commitActs_released {s : State} (h : s.commitActs.cell.state = .released) :
    s.endFailed.actAll.cell.state = .released :=
  (s.endFailed.actAll_twice_grants_none.trans
    ((State.pendingClear_withholds _).1.trans (.of_lockView (State.sessionTimer_lockView _)))).released h

theorem State.endTick_released {s : State} (h : s.endTick.cell.state = .released) :
    s.spendTick.runReady.endFailed.actAll.cell.state = .released := by
  refine State.commitActs_released ((GrantsNone.of_lockView ?_).released h)
  unfold State.endTick
  simp

/-- A TICK sets the release only in a published tick, among its lasting changes. -/
theorem execTick_released {i : TickIn} {s t : State} (ht : execTick i s = .next t) (h : t.cell.state = .released)
    (hs : s.cell.state ≠ .released) : s.takeOver.spendTick.runReady.endFailed.actAll.cell.state = .released := by
  have taken : GrantsNone s s.takeOver := .of_lockView (by simp)
  unfold execTick at ht
  cases ht
  split at h
  · exact absurd h hs
  · dsimp only at h
    split at h
    · refine State.endTick_released ?_
      split at h
      · exact (GrantsNone.of_lockView (State.beginTick_lockView ..)).released h
      · exact h
    · have flagged : GrantsNone s { s.takeOver with lanes := { s.takeOver.lanes with faultTick := some s.takeOver.tick } } :=
        .of_lockView (by simp)
      exact absurd ((flagged.trans ((State.notPublished_grants_none _).trans
        (.of_lockView (State.beginTick_lockView ..)))).released h) hs
    · exact absurd ((taken.trans ((State.notPublished_grants_none _).trans
        (.of_lockView (State.beginTick_lockView ..)))).released h) hs
    · exact absurd (taken.released h) hs

end Sys2Proof.Machine
end

section
/-! PROOF. No command but TICK releases the start lock (R17, R202; O24). -/

namespace Sys2Proof.Machine

open Sys2Proof

/-! ### The other commands -/

theorem GrantsNone.ite {s t u : State} {c : Prop} [Decidable c] (h : GrantsNone s t) (k : GrantsNone s u) :
    GrantsNone s (if c then t else u) := by
  split
  · exact h
  · exact k

theorem GrantsNone.foldl {α : Type} {f : State → α → State} (h : ∀ s a, GrantsNone s (f s a)) (l : List α) (s : State) :
    GrantsNone s (l.foldl f s) := by
  induction l generalizing s with
  | nil => exact .refl s
  | cons a l ih => exact (h s a).trans (ih _)

/-- A reset after an operation that leaves the cell alone. -/
theorem State.systemReset_grants_none {s t : State} (h : t.lockView = s.lockView) (cause : Nat) :
    GrantsNone s (t.systemReset cause) :=
  (GrantsNone.of_lockView h).trans (t.systemReset_withholds cause).1

theorem State.respond_grants_none (s : State) (level : Nat) : GrantsNone s (s.respond level) := by
  unfold State.respond
  dsimp only
  split
  · exact .of_lockView (by simp)
  · exact .of_lockView (by simp)
  · exact .of_lockView (by simp)
  · exact .refl s
  all_goals exact .ite (.of_lockView (by simp)) (.ite (.of_lockView (by simp)) (State.systemReset_grants_none (by simp) _))

theorem State.sourceSees_grants_none (s : State) (n : Nat) (c : TamperCondition) (k : Nat) :
    GrantsNone s (s.sourceSees n c k) := by
  unfold State.sourceSees
  exact .ite ((GrantsNone.of_lockView (by simp)).trans (State.respond_grants_none ..)) (.refl _)

theorem State.transient_grants_none (f : Nat) (s : State) : GrantsNone s (s.transient f) := by
  unfold State.transient
  exact .ite (State.systemReset_grants_none rfl _) (.of_lockView (by simp))

theorem State.bootOn_grants_none (b : BootIn) (x y : Bool) (s : State) : GrantsNone s (s.bootOn b x y) := by
  unfold State.bootOn
  extract_lets +onlyGivenNames clamped s1
  have tested : ∀ (u : State) (a b : Bool), u.lockView = s.lockView → GrantsNone s (u.storeTest a b) := fun u a b h =>
    (GrantsNone.of_lockView h).trans (.ite ((GrantsNone.of_lockView (by simp)).trans (State.respond_grants_none ..)) (.refl _))
  have h1 : GrantsNone s s1 := (tested _ _ _ (by simp)).trans (.of_lockView (State.writeLatch_lockView _))
  exact h1.trans (.of_lockView (by simp))

theorem State.boot_grants_none (b : BootIn) (s : State) : GrantsNone s (s.boot b) := by
  unfold State.boot
  extract_lets s1 lostA lostB
  have tampered : ∀ (u : State) (l : List (TamperSource × TamperCondition)), GrantsNone u (u.bootTamper l) := fun u l =>
    .foldl (fun u _ => .ite (.refl u) (u.sourceSees_grants_none ..)) l u
  have h1 : GrantsNone s s1 :=
    (GrantsNone.of_lockView (by simp)).trans ((tampered _ _).trans (.of_lockView (State.laneTest_lockView ..)))
  have stops : ∀ n, GrantsNone s (s1.bootStops n) := fun n => h1.trans (.of_lockView (State.bootStops_lockView ..))
  exact .ite (stops 2) (.ite (stops 3) (.ite (stops 4) (.ite (h1.trans (s1.systemReset_withholds _).1)
    (h1.trans (s1.bootOn_grants_none ..)))))

/-- No command but TICK sets the release (R17, R202). -/
theorem exec_grants_none {c : Instr} (hc : ∀ i, c ≠ .tick i) (s : State) : Answers (exec c s) (GrantsNone s) := by
  have view : ∀ {o}, Answers o (fun t => t.lockView = s.lockView) → Answers o (GrantsNone s) :=
    fun ⟨t, ho, h⟩ => ⟨t, ho, .of_lockView h⟩
  have reset : ∀ {p : Prop} [Decidable p] {t : State} (n : Nat), t.lockView = s.lockView →
      Answers (.next (if p then t.systemReset n else s)) (GrantsNone s) :=
    fun n h => ⟨_, rfl, .ite (State.systemReset_grants_none h n) (.refl s)⟩
  cases c with
  | tick i => exact absurd rfl (hc i)
  | vholdStop => exact ⟨_, rfl, .ite (.refl s) ⟨fun h => nomatch h⟩⟩
  | boot b => exact ⟨_, rfl, .ite (s.boot_grants_none b) (.refl s)⟩
  | sleepEntry l =>
    have stopped : GrantsNone s s.lanesStop := ⟨id⟩
    refine ⟨_, rfl, .ite ?_ (.refl s)⟩
    dsimp only
    split
    · exact stopped.trans (.of_lockView (by simp))
    · exact stopped.trans (.of_lockView (by simp))
  | arbitration a b =>
    refine ⟨_, rfl, ?_⟩
    split
    · exact .refl s
    · refine .ite (.refl s) ?_
      split
      · exact s.transient_grants_none _
      · exact .of_lockView (by simp)
      · exact .of_lockView (by simp)
      · exact State.systemReset_grants_none rfl 7
  | laneFlagged l n => exact ⟨_, rfl, (s.flagLanes_withholds ..).1⟩
  | sramUncorrectable l =>
    cases l with
    | some l => exact ⟨_, rfl, (s.flagLanes_withholds ..).1⟩
    | none => exact reset 9 rfl
  | tamperSourceLatch x y => exact ⟨_, rfl, .ite (s.sourceSees_grants_none ..) (.refl s)⟩
  | pllLockLoss p => exact reset 8 rfl
  | keyStoreFault => exact reset 0x0A rfl
  | personalisationReset => exact reset 3 rfl
  | tamperAckReset => exact reset 5 rfl
  | vbatReset =>
    refine ⟨_, rfl, ?_⟩
    split
    · exact State.systemReset_grants_none (by rfl) 2
    · exact State.systemReset_grants_none (by rfl) 2
    · exact State.systemReset_grants_none (by rfl) 2
    · exact .of_lockView (by simp)
    · exact .of_lockView rfl
    · exact .of_lockView rfl
  | motionMoving => exact ⟨_, rfl, .ite ⟨id⟩ (.refl s)⟩
  | motionStationary => exact ⟨_, rfl, .ite ⟨id⟩ (.refl s)⟩
  | lichenWindowExpiry => exact view (execLichenWindowExpiry_lockView s)
  | sporeLoadNeeded h a => exact view (execSporeLoadNeeded_lockView h a s)
  | contextTimeout p n => exact view (execContextTimeout_lockView p n s)
  | signaturePoint => exact view (execSignaturePoint_lockView s)
  | bookingStart e => exact view (execBookingStart_lockView e s)
  | gainAndTrimSet e m => exact view (execGainAndTrimSet_lockView e m s)
  | openAerialDetect e n k => exact view (execOpenAerialDetect_lockView e n k s)
  | aerialOvercurrent e n k => exact view (execAerialOvercurrent_lockView e n k s)
  | downlinkFrameSent e l => exact view (execDownlinkFrameSent_lockView e l s)
  | identifierStream e r => exact view (execIdentifierStream_lockView e r s)
  | silentReply e => exact view (execSilentReply_lockView e s)
  | identifierComplete e => exact view (execIdentifierComplete_lockView e s)
  | responseReceived e r => exact view (execResponseReceived_lockView e r s)
  | selectStatusReply e r => exact view (execSelectStatusReply_lockView e r s)
  | readerReplyReceived e r => exact view (execReaderReplyReceived_lockView e r s)
  | handoverMissed e => exact view (execHandoverMissed_lockView e s)
  | bookingEnd e m => exact view (execBookingEnd_lockView e m s)
  | vbatValid => exact view (execVbatValid_lockView s)
  | episodeEnd n => exact view (execEpisodeEnd_lockView n s)
  | _ => exact view ⟨_, rfl, by simp⟩

/-- Settles O24: of the lasting changes a judgement of a proved START key alone sets the release, and no response to be judged
comes in but by RESPONSE_RECEIVED, so that a TICK judges those that have waited. -/
theorem releaseNeedsAProvedKey : Obligations.ReleaseNeedsAProvedKey := by
  refine ⟨fun s a h => or_iff_not_imp_left.mpr (State.act_released h), fun c s t hc ht h => ?_, fun i s t ht h => ?_⟩
  · obtain ⟨u, hu, hnone⟩ := exec_grants_none hc s
    cases hu.symm.trans ht
    exact hnone.released h
  · refine or_iff_not_imp_left.mpr fun hs => ?_
    have before := s.beforeActs_withholds
    obtain ⟨n, e, r, hn, hu, hset⟩ := exists_judgement_of_released _ _ (execTick_released ht h hs) (mt before.1.released hs)
    exact ⟨n, e, r, State.judge_mem_verdicts.mp (before.2 (State.judge_mem_verdicts.mpr (mem_of_sorted hn))), hn, hu, hset⟩

end Sys2Proof.Machine
end

section
/-! PROOF. What clear requests and ends of sessions do to the cell, the session and the records, and what they leave (R178, R179,
R203, Table 06.14; O30, O31). -/

namespace Sys2Proof.Machine

open Sys2Proof

/-! ### Records -/

/-- Behind the records that wait in `s` those of `l` wait in `t`; else its log is that of `s`. -/
def State.Appends (s : State) (l : List Waiting) (t : State) : Prop :=
  t.log = { s.log with waiting := s.log.waiting ++ l }

theorem State.Appends.nil {s t : State} (h : t.log = s.log) : s.Appends [] t := by
  rw [State.Appends, h, List.append_nil]

theorem State.Appends.trans {s t u : State} {l m : List Waiting} (h : s.Appends l t) (k : t.Appends m u) :
    s.Appends (l ++ m) u := by
  rw [State.Appends, k, h, List.append_assoc]

/-- An operation after one that leaves the log alone. -/
theorem State.Appends.of_log {s t u : State} {l : List Waiting} (h : t.log = s.log) (k : t.Appends l u) : s.Appends l u :=
  (Appends.nil h).trans k

/-- A record of the log reserve as it waits. -/
def Waiting.noted (typ : Nat) (body : Bytes) : Waiting := { cls := .other, typ := typ, body := padTo 32 body }

def Waiting.IsNoted (w : Waiting) : Prop := ∃ typ body, w = .noted typ body

@[simp] theorem Waiting.isNoted_noted (typ : Nat) (body : Bytes) : (Waiting.noted typ body).IsNoted := ⟨typ, body, rfl⟩

theorem State.note_appends {s : State} (h : s.log.begun = true) (typ : Nat) (body : Bytes) :
    s.Appends [.noted typ body] (s.note typ body) := by
  simp only [State.Appends, State.record, h, if_true]
  rfl

/-- A lasting change gives its records their place (R306). -/
theorem State.act_appends {s : State} {a : Act} {l : List Waiting} (ha : s.awake = true) (h : s.Appends l (s.apply a)) :
    s.Appends (l.map (Waiting.of a)) (s.act a) := by
  rw [State.act_awake ha, State.Appends]
  dsimp only
  rw [h, List.take_left, List.drop_left]

/-- The records of the log reserve that a clause's change makes go with the clause's reply (R39, R306). -/
theorem Waiting.of_noted {a : Act} {tk : Ticket} (hc : a.clause = some tk) (hr : a.rank.1 = 3) {w : Waiting}
    (hw : w.IsNoted) : Waiting.of a w = { w with cls := .reply, order := tk.order, rank := 3 } := by
  obtain ⟨typ, body, rfl⟩ := hw
  rw [Waiting.of, hc, hr]
  rfl

/-! ### The end of a session -/

theorem State.endSession_of_closed {s : State} (h : s.ses.state = .closed) (reason : Nat) : s.endSession reason = s := by
  rw [State.endSession, h]

/-- An open session ends with its record (R178, Table 12.7). -/
theorem State.endSession_open {s : State} (h : s.ses.state ≠ .closed) (reason : Nat) : s.endSession reason =
    ({ s with ses := { s.ses with state := .closed, lastEnd := reason, expires := none, checking := false } }).sesRecord
      s.ses.state reason := by
  unfold State.endSession
  split
  next hc => exact absurd hc h
  next => rfl

theorem State.endSession_ses {s : State} (h : s.ses.state ≠ .closed) (reason : Nat) : (s.endSession reason).ses =
    { s.ses with state := .closed, lastEnd := reason, expires := none, checking := false } := by
  rw [State.endSession_open h]
  rfl

theorem State.endSession_closes (s : State) (reason : Nat) : (s.endSession reason).ses.state = .closed := by
  by_cases h : s.ses.state = .closed
  · rw [State.endSession_of_closed h, h]
  · rw [State.endSession_ses h]

/-- The record of a session's end begins with its number, its old and new state and the reason (Table 12.7). -/
theorem State.endSession_appends {s : State} (hb : s.log.begun = true) (h : s.ses.state ≠ .closed) (reason : Nat) :
    ∃ body, s.Appends [.noted 0x12 body] (s.endSession reason) ∧ (Waiting.noted 0x12 body).body.take 5 =
      leN 2 s.ses.number ++ leN 1 (sesCode s.ses.state) ++ leN 1 (sesCode .closed) ++ leN 1 reason := by
  rw [State.endSession_open h]
  exact ⟨_, State.note_appends (s := { s with ses := _ }) hb 0x12 _, rfl⟩

/-! ### Clear requests -/

theorem State.lockCell_of_closed {s : State} (h : s.ses.state = .closed) (reason : Nat) (host : Byte) (pending : Nat) :
    (s.lockCell reason host pending).ses = s.ses := by
  rw [State.lockCell, State.endSession_of_closed (by exact h)]
  rfl

theorem State.lockCell_cell_eq (s : State) (reason : Nat) (host : Byte) (pending : Nat) :
    (s.lockCell reason host pending).cell = { s.cell with
      state := .locked, pendingReason := 0, pendingSince := 0, clearTick := s.tick, living := false, hostReason := 0 } := by
  rw [State.lockCell, State.endSession_cell]
  rfl

/-- Locking notes RELEASE_CLEAR, which begins with the reason and the host's byte, before the session ends (R203, Table 12.7). -/
theorem State.lockCell_notes (s : State) (reason : Nat) (host : Byte) (pending : Nat) : ∃ (u : State) (body : Bytes),
    u.log = s.log ∧ u.ses = s.ses ∧ s.lockCell reason host pending = ((u.note 0x30 body).raise 8).endSession 0x04 ∧
      (Waiting.noted 0x30 body).body.take 1 = leN 1 reason ∧ slice (Waiting.noted 0x30 body).body 1 1 = [host] := by
  refine ⟨_, _, ?log, ?ses, rfl, ?reason, ?host⟩
  all_goals rfl

/-- Locking records RELEASE_CLEAR, with its reason, and the end of a session that is open (R203). -/
theorem State.lockCell_appends {s : State} (hb : s.log.begun = true) (reason : Nat) (host : Byte) (pending : Nat) :
    ∃ body m, s.Appends (.noted 0x30 body :: m) (s.lockCell reason host pending) ∧
      (Waiting.noted 0x30 body).body.take 1 = leN 1 reason ∧ slice (Waiting.noted 0x30 body).body 1 1 = [host] ∧
      (∀ w ∈ m, w.IsNoted) ∧ m.map Waiting.typ = if s.ses.state = .closed then [] else [0x12] := by
  obtain ⟨u, body, hlog, hses, heq, hreason, hhost⟩ := s.lockCell_notes reason host pending
  have hnote : s.Appends [.noted 0x30 body] ((u.note 0x30 body).raise 8) :=
    (State.Appends.of_log hlog (State.note_appends (hlog ▸ hb) 0x30 body)).trans (.nil rfl)
  have hbegun : ((u.note 0x30 body).raise 8).log.begun = true := by rw [hnote]; exact hb
  by_cases hc : s.ses.state = .closed
  · refine ⟨body, [], ?_, hreason, hhost, by simp, by simp [hc]⟩
    rw [heq, State.endSession_of_closed (by rw [← hc, ← hses]; rfl)]
    exact hnote
  · obtain ⟨last, hend, -⟩ := State.endSession_appends hbegun (fun h => hc (by rw [← h, ← hses]; rfl)) 0x04
    exact ⟨body, [.noted 0x12 last], heq ▸ hnote.trans hend, hreason, hhost, by simp, by simp [hc, Waiting.noted]⟩

/-- What a clear request of a cell in its state records: RELEASE_CLEAR with the end of a session that is open, CLEAR_HELD, or
nothing (R203). -/
theorem State.clearRequest_appends {s : State} (hb : s.log.begun = true) (reason : Nat) (host : Byte) :
    ∃ l, s.Appends l (s.clearRequest reason host) ∧ (∀ w ∈ l, w.IsNoted) ∧
      (s.cell.state = .released → ∃ w ∈ l, w.typ = (if s.motion.state = .stationary then 0x30 else 0x31) ∧
        w.body.take 1 = leN 1 reason ∧ (s.motion.state = .stationary → slice w.body 1 1 = [host])) ∧
      l.map Waiting.typ = if s.cell.state = .released then
        (if s.motion.state = .stationary then 0x30 :: (if s.ses.state = .closed then [] else [0x12]) else [0x31]) else [] := by
  by_cases hr : s.cell.state = .released
  · by_cases hm : s.motion.state = .stationary
    · rw [State.clearRequest_still hr (by simp [State.still, hm])]
      obtain ⟨body, m, happ, hreason, hhost, hcls, htyp⟩ := State.lockCell_appends hb reason host 0
      refine ⟨_, happ, ?_, fun _ => ⟨_, List.mem_cons_self, by rw [if_pos hm]; rfl, hreason, fun _ => hhost⟩, ?_⟩
      · exact List.forall_mem_cons.mpr ⟨Waiting.isNoted_noted .., hcls⟩
      · rw [List.map_cons, htyp, if_pos hr, if_pos hm]
        rfl
    · rw [State.clearRequest_moving hr (by simp [State.still, hm])]
      refine ⟨_, (Appends.nil rfl).trans (State.note_appends (s := { s with cell := _ }) hb 0x31 _), by simp,
        fun _ => ⟨_, List.mem_singleton_self _, by rw [if_neg hm]; rfl, rfl, fun h => absurd h hm⟩, ?_⟩
      rw [if_pos hr, if_neg hm]
      rfl
  · rw [State.clearRequest_unreleased hr]
    exact ⟨[], .nil rfl, by simp, fun h => absurd h hr, by rw [if_neg hr]; rfl⟩

theorem State.clearRequest_of_closed {s : State} (h : s.ses.state = .closed) (reason : Nat) (host : Byte) :
    (s.clearRequest reason host).ses = s.ses := by
  unfold State.clearRequest
  split
  · rfl
  · rfl
  · split
    · exact State.lockCell_of_closed h ..
    · rfl

theorem State.clearRequest_locked {s : State} (hr : s.cell.state = .released) (hm : s.motion.state = .stationary) (reason : Nat)
    (host : Byte) : (s.clearRequest reason host).cell = { s.cell with
      state := .locked, pendingReason := 0, pendingSince := 0, clearTick := s.tick, living := false, hostReason := 0 } ∧
    (s.clearRequest reason host).ses.state = .closed := by
  rw [State.clearRequest_still hr (by simp [State.still, hm])]
  exact ⟨s.lockCell_cell_eq .., State.endSession_closes _ _⟩

/-! ### What they leave alone -/

/-- What a clear request and the end of a session leave alone. -/
def State.restView (s : State) :=
  (s.tick, s.cfg, s.thal, s.dir, s.motion, s.field, s.rng, s.ks, s.tamper, s.win, s.fp, s.lanes)

theorem State.endSession_restView (s : State) (reason : Nat) : (s.endSession reason).restView = s.restView := by
  unfold State.endSession
  split <;> rfl

theorem State.lockCell_restView (s : State) (reason : Nat) (host : Byte) (pending : Nat) :
    (s.lockCell reason host pending).restView = s.restView :=
  State.endSession_restView _ _

theorem State.clearRequest_restView (s : State) (reason : Nat) (host : Byte) :
    (s.clearRequest reason host).restView = s.restView := by
  unfold State.clearRequest
  split
  · rfl
  · rfl
  · split
    · exact s.lockCell_restView ..
    · rfl

theorem State.act_restView {s : State} {a : Act} (ha : s.awake = true) (h : (s.apply a).restView = s.restView) :
    (s.act a).restView = s.restView := by
  rw [State.act_awake ha]
  exact h

theorem State.eq_of_restView {s t : State} (h : t.restView = s.restView) : t = { t with
    tick := s.tick, cfg := s.cfg, thal := s.thal, dir := s.dir, motion := s.motion, field := s.field, rng := s.rng, ks := s.ks
    tamper := s.tamper, win := s.win, fp := s.fp, lanes := s.lanes } := by
  simp only [State.restView, Prod.mk.injEq] at h
  obtain ⟨htick, hcfg, hthal, hdir, hmotion, hfield, hrng, hks, htamper, hwin, hfp, hlanes⟩ := h
  rw [← htick, ← hcfg, ← hthal, ← hdir, ← hmotion, ← hfield, ← hrng, ← hks,
    ← htamper, ← hwin, ← hfp, ← hlanes]

theorem State.endSessionClear_open {s : State} (h : s.ses.state ≠ .closed) (reason : Nat) :
    s.endSessionClear reason = (s.endSession reason).clearRequest reason 0 := by
  unfold State.endSessionClear
  split
  next hc => exact absurd hc h
  next => rfl

end Sys2Proof.Machine
end

section
/-! PROOF. SESSION_QUERY, RELEASE_STATE, MOTION_READ, RELEASE_CLEAR and SESSION_END (R26, R39, R179 to R181, R203, R210, R211,
R227; O30). -/

namespace Sys2Proof.Machine

open Sys2Proof

/-! ### The queries -/

/-- REMAINING reads 0xFFFFFFFF where the session timer does not run (Table 06.15). -/
theorem State.sessionResults_eq (s : State) : s.sessionResults =
    leN 1 (sesCode s.ses.state) ++ leN 1 s.ses.lastEnd ++ leN 2 s.ses.number ++ leN 8 s.ses.token.toNat ++
      leN 4 s.ses.opened ++ leN 4 ((s.ses.expires.map (· - s.tick)).getD 0xFFFFFFFF) ++ leN 1 s.ses.zone ++
      leN 1 s.ses.location ++ [0#8, 0#8] := by
  unfold State.sessionResults
  cases s.ses.expires <;> rfl

/-- The flags of RELEASE_STATE as their bits (Table 08.4). -/
theorem State.releaseResults_eq (s : State) : s.releaseResults =
    leN 1 (cellCode s.cell.state) ++ leN 1 (motionCode s.motion.state) ++
      leN 1 ((if s.cell.faultA then 1 else 0) + (if s.cell.faultB then 2 else 0) +
        (if s.cell.singleLane then 4 else 0) + (if s.cell.recovery || s.cell.recoveryDue then 8 else 0)) ++
      leN 1 s.cell.pendingReason ++ leN 4 s.cell.setTick ++ leN 4 s.cell.clearTick ++ leN 4 s.cell.pendingSince ++
      leN 8 s.cell.token.toNat := by
  have bit : ∀ (k : Nat) (b : Bool), k * b2n b = if b then k else 0 := fun k b => by cases b <;> simp
  unfold State.releaseResults
  rw [bit, bit, bit]

theorem State.motionResults_fields (s : State) : s.motionResults.length = 56 ∧
    slice s.motionResults 0 1 = leN 1 (motionCode s.motion.state) ∧ slice s.motionResults 2 1 = leN 1 s.odoSource ∧
    slice s.motionResults 4 16 = leN 8 s.motion.odoM ++ leN 4 s.motion.odoR ++ leN 4 s.motion.lastEdgeTick ∧
    slice s.motionResults 44 8 = leN 4 s.motion.sleepCount0 ++ leN 4 s.motion.sleepCount1 :=
  ⟨rfl, rfl, rfl, rfl, rfl⟩

theorem stateQueriesAnswer : Claim.StateQueriesAnswer := by
  intro h s
  refine ⟨fun hc => ?_, fun hc => ?_, fun hc => ⟨State.motionResults, ?_, State.motionResults_fields⟩⟩
  · simp only [← State.sessionResults_eq]
    exact congrArg Host.Outcome.next (command_clear ⟨0x2B, h, []⟩ (sessionQueryWork []) .nothing _ s hc rfl rfl rfl)
  · simp only [← State.releaseResults_eq]
    exact congrArg Host.Outcome.next (command_clear ⟨0x30, h, []⟩ (releaseStateWork []) .nothing _ s hc rfl rfl rfl)
  · exact congrArg Host.Outcome.next (command_clear ⟨0x39, h, []⟩ (motionReadWork []) .nothing _ s hc rfl rfl rfl)

/-! ### RELEASE_CLEAR and SESSION_END -/

theorem execReleaseClear_clear {h : Hdr} {args : Bytes} {s : State}
    (hc : Clause.clear ⟨0x31, h, args⟩ { lane := 20, deadline := 8 } s = true)
    (hlen : args.length = 4) (hz : slice args 1 3 = [0#8, 0#8, 0#8]) (hl : s.cell.state ≠ .locked) :
    exec (.releaseClear h args) s =
      .next (Clause.goes ⟨0x31, h, args⟩ { lane := 20, deadline := 8 } .nothing (releaseClearWork args).run s) := by
  refine congrArg Host.Outcome.next (command_clear ⟨0x31, h, args⟩ (releaseClearWork args) .nothing _ s hc rfl rfl ?_)
  change ({ arg := args.length != 4 || !zero args 1 3, state := s.cell.state == .locked } : Checks) = {}
  simp [hlen, slice_zeros hz, hl]

theorem execSessionEnd_clear {h : Hdr} {args : Bytes} {s : State}
    (hc : Clause.clear ⟨0x2C, h, args⟩ { lane := 20, deadline := 8 } s = true)
    (hlen : args.length = 4) (hz : slice args 2 2 = [0#8, 0#8]) (ho : s.ses.state ≠ .closed)
    (hn : num args 0 2 = s.ses.number) :
    exec (.sessionEnd h args) s =
      .next (Clause.goes ⟨0x2C, h, args⟩ { lane := 20, deadline := 8 } .nothing (sessionEndWork args).run s) := by
  refine congrArg Host.Outcome.next (command_clear ⟨0x2C, h, args⟩ (sessionEndWork args) .nothing _ s hc rfl rfl ?_)
  change ({ arg := args.length != 4 || !zero args 2 2
            state := s.ses.state == .closed || num args 0 2 != s.ses.number } : Checks) = {}
  simp [hlen, zero, hz, ho, hn]

/-- The records of a clear request whose change goes with a clause's reply, those of `m` before them (R39, R306). -/
theorem State.clear_records {s u : State} {a : Act} {tk : Ticket} {m : List Waiting} {reason : Nat} {host : Byte}
    (ha : s.awake = true) (hc : a.clause = some tk) (hrank : a.rank.1 = 3) (hb : s.log.begun = true)
    (hu : s.Appends m u) (hm : ∀ w ∈ m, w.IsNoted) (happly : s.apply a = u.clearRequest reason host) :
    ∃ l, (s.act a).log = { s.log with waiting := s.log.waiting ++ l } ∧
      (∀ w ∈ l, w.cls = .reply ∧ w.order = tk.order ∧ w.rank = 3) ∧
      (u.cell.state = .released → ∃ w ∈ l, w.typ = (if u.motion.state = .stationary then 0x30 else 0x31) ∧
        w.body.take 1 = leN 1 reason ∧ (u.motion.state = .stationary → slice w.body 1 1 = [host])) ∧
      l.map Waiting.typ = m.map Waiting.typ ++ if u.cell.state = .released then
        (if u.motion.state = .stationary then 0x30 :: (if u.ses.state = .closed then [] else [0x12]) else [0x31]) else [] := by
  have hbegun : u.log.begun = true := by rw [hu]; exact hb
  obtain ⟨l, happ, hcls, hbody, htyp⟩ := State.clearRequest_appends hbegun reason host
  have hother : ∀ w ∈ m ++ l, Waiting.of a w = { w with cls := .reply, order := tk.order, rank := 3 } := fun w hw =>
    Waiting.of_noted hc hrank ((List.mem_append.mp hw).elim (hm w) (hcls w))
  refine ⟨(m ++ l).map (Waiting.of a), State.act_appends ha (happly ▸ hu.trans happ), ?_, fun hr => ?_, ?_⟩
  · intro w hw
    obtain ⟨x, hx, rfl⟩ := List.mem_map.mp hw
    rw [hother x hx]
    exact ⟨rfl, rfl, rfl⟩
  · obtain ⟨w, hw, hfields⟩ := hbody hr
    have hmem := List.mem_append_right m hw
    refine ⟨_, List.mem_map_of_mem hmem, ?_⟩
    rw [hother w hmem]
    exact hfields
  · rw [List.map_map, ← htyp, ← List.map_append]
    exact List.map_congr_left fun w hw => by rw [Function.comp_apply, hother w hw]

/-- What a clear request by a clause does, in the state in which it comes (R203). -/
theorem State.clear_cell {s u : State} {a : Act} {reason : Nat} {host : Byte} (ha : s.awake = true)
    (happly : s.apply a = u.clearRequest reason host) (hcell : u.cell = s.cell) (hrest : u.restView = s.restView) :
    (s.cell.state = .released → s.motion.state = .stationary →
      (s.act a).cell = { s.cell with
        state := .locked, pendingReason := 0, pendingSince := 0, clearTick := s.tick, living := false, hostReason := 0 } ∧
      (s.act a).ses.state = .closed) ∧
    (s.cell.state = .released → s.motion.state ≠ .stationary →
      (s.act a).cell = { s.cell with state := .clearPending, pendingReason := reason, pendingSince := s.tick
                                     hostReason := (s.act a).cell.hostReason }) ∧
    (s.cell.state ≠ .released → (s.act a).cell = s.cell) ∧ (s.act a).restView = s.restView := by
  have hact : (s.act a).cell = (u.clearRequest reason host).cell := (State.act_cell ha a).trans (congrArg State.cell happly)
  have htick : u.tick = s.tick := congrArg (fun v => v.1) hrest
  have hmotion : u.motion = s.motion := congrArg (fun v => v.2.2.2.2.1) hrest
  refine ⟨fun hr hm => ?_, fun hr hm => ?_, fun hr => ?_, State.act_restView ha ?_⟩
  · obtain ⟨hlocked, hclosed⟩ := State.clearRequest_locked (hcell ▸ hr) (hmotion ▸ hm) reason host
    refine ⟨by rw [hact, hlocked, hcell, htick], ?_⟩
    rw [State.act_awake ha, happly]
    exact hclosed
  · rw [hact, State.clearRequest_moving (hcell ▸ hr) (by simp [State.still, hmotion, hm]), State.holdClear]
    dsimp only [State.record]
    rw [hcell, htick]
    rfl
  · rw [hact, State.clearRequest_unreleased (hcell ▸ hr), hcell]
  · rw [happly, State.clearRequest_restView, hrest]

theorem clearRequestsLockOnlyWhenStill : Claim.ClearRequestsLockOnlyWhenStill := by
  refine ⟨fun h args s => ⟨fun hc hlen hz hl => execReleaseClear_clear hc hlen hz hl,
    fun hc hlen hz ho hn => execSessionEnd_clear hc hlen hz ho hn⟩,
    fun tk host s ha => ⟨?_, fun hclosed => ?_, fun hopen => ?_⟩⟩
  · obtain ⟨hlock, hpend, hkeep, hrest⟩ := State.clear_cell (a := .clear tk host) ha rfl rfl rfl
    refine ⟨fun hb => ?_, hlock, hpend, hkeep, State.eq_of_restView hrest⟩
    have hrec := State.clear_records (a := .clear tk host) (tk := tk) (m := []) ha rfl rfl hb (.nil rfl) (by simp) rfl
    simpa using hrec
  · refine State.act_unchanged ha ?_
    change s.endSessionClear 0x03 = s
    rw [State.endSessionClear, hclosed]
  · have happly : s.apply (.endSession tk) = (s.endSession 0x03).clearRequest 0x03 0 := State.endSessionClear_open hopen 3
    have hses : (s.act (.endSession tk)).ses =
        { s.ses with state := .closed, lastEnd := 0x03, expires := none, checking := false } := by
      rw [State.act_awake ha, happly]
      exact (State.clearRequest_of_closed (s.endSession_closes 3) _ _).trans (State.endSession_ses hopen 3)
    obtain ⟨hlock, hpend, hkeep, hrest⟩ :=
      State.clear_cell (a := .endSession tk) ha happly (s.endSession_cell 3) (s.endSession_restView 3)
    refine ⟨by rw [hses], by rw [hses], by rw [hses], fun hb => ?_, hlock, hpend, hkeep, State.eq_of_restView hrest⟩
    obtain ⟨body, hend, -⟩ := State.endSession_appends hb hopen 3
    have hrec := State.clear_records (a := .endSession tk) ha rfl rfl hb hend (by simp) happly
    have hmotion : (s.endSession 3).motion = s.motion := congrArg (fun v => v.2.2.2.2.1) (s.endSession_restView 3)
    rw [s.endSession_cell, hmotion, s.endSession_closes] at hrec
    simpa [Waiting.noted] using hrec

/-- Settles O30: the queries run at once with no check of their own; a clear request acts by the cell's and the motion state,
and its records go with the reply of its clause. -/
theorem releaseAndSessionAreKept : Obligations.ReleaseAndSessionAreKept :=
  ⟨stateQueriesAnswer, clearRequestsLockOnlyWhenStill⟩

end Sys2Proof.Machine
end

section
/-! PROOF. The session timer and the recovery poll (R16, R30, R178, R179, R203, R205, R410, Table 06.14; O31). -/

namespace Sys2Proof.Machine

open Sys2Proof

/-! ### Changes whose records keep their place -/

/-- Of the records only some with the place `k` in the order of R179 are new in `t` (R306). -/
def State.RecordsAt (k : Nat) (s t : State) : Prop := ∃ l, s.Appends l t ∧ ∀ w ∈ l, w.rank = k

theorem State.RecordsAt.of_log {k : Nat} {s t : State} (h : t.log = s.log) : s.RecordsAt k t := ⟨[], .nil h, by simp⟩

theorem State.RecordsAt.trans {k : Nat} {s t u : State} (h : s.RecordsAt k t) (h' : t.RecordsAt k u) : s.RecordsAt k u := by
  obtain ⟨l, hl, hlk⟩ := h
  obtain ⟨m, hm, hmk⟩ := h'
  exact ⟨l ++ m, hl.trans hm, fun w hw => (List.mem_append.mp hw).elim (hlk w) (hmk w)⟩

/-- Before the log begins nothing is recorded. -/
theorem State.recordsAt_record (s : State) (cls : RecClass) (typ : Nat) (body : Bytes) (order : Nat) :
    s.RecordsAt cls.rank (s.record cls typ body order) := by
  cases hb : s.log.begun
  case false => exact .of_log (congrArg State.log (s.record_before cls typ body order hb))
  case true =>
    refine ⟨[{ cls := cls, typ := typ, body := padTo 32 body, order := order, rank := cls.rank }], ?_, by simp⟩
    simp only [State.Appends, State.record, hb, if_true]

theorem State.recordsAt_note (s : State) (typ : Nat) (body : Bytes) : s.RecordsAt 4 (s.note typ body) :=
  s.recordsAt_record .other typ body 0

/-- The records of a change that no clause asks for stay as it makes them, where they have its place already (R306). -/
theorem State.act_recordsAt {s : State} {a : Act} {k : Nat} (ha : s.awake = true) (hc : a.clause = none) (hr : a.rank.1 = k)
    (hk : k ≠ 5) (h : s.RecordsAt k (s.apply a)) : s.act a = s.apply a := by
  obtain ⟨l, hl, hw⟩ := h
  have hkeep : ∀ w ∈ l, Waiting.of a w = w := fun w hmem => by
    rw [Waiting.of, hc, hr, if_neg hk, ← hw w hmem]
  have hlog := State.act_appends ha hl
  rw [(List.map_congr_left hkeep).trans l.map_id, State.Appends, ← hl] at hlog
  rw [State.act_awake ha] at hlog ⊢
  exact congrArg (fun g => { s.apply a with log := g }) hlog

theorem State.act_event {s : State} {a : Act} (ha : s.awake = true) (hc : a.clause = none) (hr : a.rank.1 = 4)
    (h : s.RecordsAt 4 (s.apply a)) : s.act a = s.apply a :=
  State.act_recordsAt ha hc hr (by decide) h

/-! ### Clear requests and ends of sessions record events -/

theorem State.recordsAt_endSession (s : State) (reason : Nat) : s.RecordsAt 4 (s.endSession reason) := by
  by_cases h : s.ses.state = .closed
  · exact .of_log (by rw [State.endSession_of_closed h])
  · rw [State.endSession_open h]
    exact State.recordsAt_note { s with ses := _ } 0x12 _

theorem State.recordsAt_lockCell (s : State) (reason : Nat) (host : Byte) (pending : Nat) :
    s.RecordsAt 4 (s.lockCell reason host pending) := by
  obtain ⟨u, body, hlog, -, heq, -⟩ := s.lockCell_notes reason host pending
  rw [heq]
  have hnote : s.RecordsAt 4 ((u.note 0x30 body).raise 8) :=
    (RecordsAt.of_log hlog).trans ((u.recordsAt_note 0x30 body).trans (.of_log rfl))
  exact hnote.trans (State.recordsAt_endSession ..)

theorem State.recordsAt_clearRequest (s : State) (reason : Nat) (host : Byte) : s.RecordsAt 4 (s.clearRequest reason host) := by
  unfold State.clearRequest
  split
  · exact .of_log rfl
  · exact .of_log rfl
  · split
    · exact s.recordsAt_lockCell ..
    · exact State.recordsAt_note { s with cell := _ } 0x31 _

/-! ### Polls leave all but the calendar alone -/

/-- The state without the field engine's own part and the numbers it gives out. -/
def State.offField (s : State) : State := { s with orderNo := 0, field := {} }

theorem State.pollZone_offField (p : Poll) (acc : State × Booked) (z : Nat) :
    (State.pollZone p acc z).1.offField = acc.1.offField := by
  unfold State.pollZone
  dsimp only
  split
  · rfl
  · split
    · rfl
    · split <;> rfl

theorem State.noteLastPoll_offField (s : State) (index : Option Nat) (r : Booked) :
    (s.noteLastPoll index r).offField = s.offField := by
  unfold State.noteLastPoll
  split
  · split <;> rfl
  · rfl

theorem State.runPoll_offField (s : State) (p : Poll) : (s.runPoll p).1.offField = s.offField :=
  (State.noteLastPoll_offField ..).trans
    (foldl_keeps (fun acc : State × Booked => acc.1.offField) (State.pollZone_offField p) p.zones _)

theorem State.runPoll_log (s : State) (p : Poll) : (s.runPoll p).1.log = s.log :=
  congrArg (fun t => t.log) (s.runPoll_offField p)

theorem State.runPoll_cell (s : State) (p : Poll) : (s.runPoll p).1.cell = s.cell :=
  congrArg (fun t => t.cell) (s.runPoll_offField p)

/-! ### The session timer -/

theorem State.timerOver_eq_true {s : State} {x : Nat} (he : s.ses.expires = some x) (hx : x ≤ s.tick) :
    s.timerOver = true := by
  simp [State.timerOver, he, hx]

theorem State.timerOver_eq_false {s : State} (h : s.ses.expires = none ∨ ∃ x, s.ses.expires = some x ∧ s.tick < x) :
    s.timerOver = false := by
  rcases h with he | ⟨x, he, hx⟩
  · simp [State.timerOver, he]
  · simpa [State.timerOver, he] using hx

theorem State.timerEvent_running {s : State} (h : s.timerOver = false) : s.timerEvent = s := by simp [State.timerEvent, h]

theorem State.timerEvent_closed {s : State} (hs : s.ses.state = .closed) : s.timerEvent = s := by
  simp [State.timerEvent, hs]

theorem State.timerEvent_entry {s : State} (h : s.timerOver = true) (hs : s.ses.state = .entry) :
    s.timerEvent = s.endSession 0x01 := by
  simp [State.timerEvent, h, hs]

theorem State.timerEvent_released {s : State} (h : s.timerOver = true) (hs : s.ses.state = .released) :
    s.timerEvent = s.endSessionClear 0x01 := by
  simp [State.timerEvent, h, hs]

theorem State.timerEvent_doorCheck {s : State} (h : s.timerOver = true) (hs : s.ses.state = .doorCheck) :
    s.timerEvent = s.doorCheck := by
  simp [State.timerEvent, h, hs]

theorem State.act_timer_running {s : State} (h : s.timerOver = false) : s.act .timer = s := by
  by_cases ha : s.awake = true
  · exact State.act_unchanged ha (State.timerEvent_running h)
  · simp [State.act, ha]

/-- The timer of an ENTRY session ends it (Table 06.14). -/
theorem State.act_timer_entry {s : State} (ha : s.awake = true) (h : s.timerOver = true) (hs : s.ses.state = .entry) :
    s.act .timer = s.endSession 0x01 := by
  have happly : s.apply .timer = s.endSession 0x01 := State.timerEvent_entry h hs
  rw [State.act_event ha rfl rfl (by rw [happly]; exact s.recordsAt_endSession 1), happly]

/-- That of a RELEASED one ends it with a clear request (Table 06.14). -/
theorem State.act_timer_released {s : State} (ha : s.awake = true) (h : s.timerOver = true) (hs : s.ses.state = .released) :
    s.act .timer = (s.endSession 0x01).clearRequest 0x01 0 := by
  have happly : s.apply .timer = (s.endSession 0x01).clearRequest 0x01 0 :=
    (State.timerEvent_released h hs).trans (State.endSessionClear_open (by simp [hs]) 1)
  rw [State.act_event ha rfl rfl, happly]
  rw [happly]
  exact (s.recordsAt_endSession 1).trans (State.recordsAt_clearRequest ..)

/-- `s` while the door-check poll runs, its session timer stopped. -/
def State.checkingDoor (s : State) : State := { s with ses := { s.ses with checking := true, expires := none } }

/-- That of a DOOR_CHECK session books its poll (Table 06.14). -/
theorem State.act_timer_doorCheck {s : State} (ha : s.awake = true) (h : s.timerOver = true) (hs : s.ses.state = .doorCheck)
    (hk : s.ses.checking = false) (hd : s.pollsDiscarded = false) (hm : s.mayPoll = true)
    (hb : (s.checkingDoor.runPoll (checkPoll s.cfg.cur false)).2.booked ≠ 0) :
    s.act .timer = (s.checkingDoor.runPoll (checkPoll s.cfg.cur false)).1 := by
  have hdoor : s.doorCheck = (s.checkingDoor.runPoll (checkPoll s.cfg.cur false)).1 := by
    unfold State.doorCheck
    rw [hs, hk, hd, hm]
    exact if_neg hb
  have happly : s.apply .timer = (s.checkingDoor.runPoll (checkPoll s.cfg.cur false)).1 :=
    (State.timerEvent_doorCheck h hs).trans hdoor
  rw [State.act_event ha rfl rfl, happly]
  rw [happly]
  exact .of_log (State.runPoll_log ..)

theorem execSessionTimerExpiry_eq (s : State) :
    exec .sessionTimerExpiry s = .next (if s.timerOver then s.push .timer else s) := rfl

theorem sessionTimerExpires : Claim.SessionTimerExpires := by
  intro s
  refine ⟨fun h => ?_, fun x he hx => ?_, fun x ha he hx => ⟨fun hs => ?_, fun hs => ?_, fun hs hr hm => ?_, ?_⟩⟩
  · have hrun := State.timerOver_eq_false h
    exact ⟨by rw [execSessionTimerExpiry_eq, hrun]; rfl, State.act_timer_running hrun⟩
  · rw [execSessionTimerExpiry_eq, State.timerOver_eq_true he hx]
    rfl
  · exact State.act_unchanged ha (State.timerEvent_closed hs)
  · have hopen : s.ses.state ≠ .closed := by simp [hs]
    simp only [State.act_timer_entry ha (State.timerOver_eq_true he hx) hs]
    refine ⟨State.endSession_ses hopen 1, by rw [State.endSession_open hopen]; rfl, fun hb => ?_⟩
    obtain ⟨body, happ, hhead⟩ := State.endSession_appends hb hopen 1
    exact ⟨_, happ, rfl, rfl, hs ▸ hhead⟩
  · have hrest : ((s.endSession 1).clearRequest 1 0).restView = s.restView :=
      (State.clearRequest_restView ..).trans (s.endSession_restView 1)
    have hmotion : (s.endSession 1).motion = s.motion := congrArg (fun v => v.2.2.2.2.1) (s.endSession_restView 1)
    have hend : ((s.endSession 1).clearRequest 1 0).ses = (s.endSession 1).ses :=
      State.clearRequest_of_closed (s.endSession_closes 1) 1 0
    obtain ⟨hlocked, hclosed⟩ := State.clearRequest_locked ((s.endSession_cell 1).symm ▸ hr) (hmotion.symm ▸ hm) 1 0
    simp only [State.act_timer_released ha (State.timerOver_eq_true he hx) hs]
    refine ⟨hclosed, ?_, by rw [hlocked], congrArg (fun v => v.2.2.2.2.1) hrest, congrArg (fun v => v.2.2.2.2.2.1) hrest⟩
    rw [hend, State.endSession_ses (by simp [hs])]
  · exact State.act_timer_doorCheck ha (State.timerOver_eq_true he hx)

/-! ### The recovery poll -/

theorem State.recordsAt_recoveryUndecided (s : State) : s.RecordsAt 4 s.recoveryUndecided := by
  unfold State.recoveryUndecided
  split
  · exact (RecordsAt.of_log rfl).trans (State.recordsAt_clearRequest { s with cell := _ } 0x11 0)
  · exact .of_log rfl

/-- `s` while the recovery poll runs. -/
def State.recovering (s : State) : State := { s with cell := { s.cell with recoveryDue := false, recovery := true } }

/-- `s` once the recovery poll is over without a decision. -/
def State.recovered (s : State) : State := { s with cell := { s.cell with recoveryDue := false, recovery := false } }

theorem State.recoveryUndecided_of_recovering {s : State} (hdue : s.cell.recoveryDue = false) (hr : s.cell.recovery = true) :
    s.recoveryUndecided = s.recovered.clearRequest 0x11 0 := by
  rw [State.recoveryUndecided, if_pos hr, State.recovered, ← hdue]

theorem State.recoveryPoll_discarded {s : State} (hdue : s.cell.recoveryDue = true) (hm : s.mayPoll = true)
    (hd : s.pollsDiscarded = true) : s.recoveryPoll = s.recovering.recoveryUndecided := by
  simp [State.recoveryPoll, hdue, hm, hd, State.recovering]

theorem State.recoveryPoll_runs {s : State} (hdue : s.cell.recoveryDue = true) (hm : s.mayPoll = true)
    (hd : s.pollsDiscarded = false) : s.recoveryPoll =
      let r := s.recovering.runPoll (checkPoll s.cfg.cur true)
      if r.2.booked = 0 then r.1.recoveryUndecided else r.1 := by
  rw [State.recoveryPoll, hdue, hm, hd]
  rfl

theorem State.recordsAt_recoveryPoll (s : State) : s.RecordsAt 4 s.recoveryPoll := by
  have hrun := State.runPoll_log s.recovering (checkPoll s.cfg.cur true)
  unfold State.recoveryPoll
  split
  · exact .of_log rfl
  · dsimp only
    split
    · exact (RecordsAt.of_log rfl).trans (State.recordsAt_recoveryUndecided _)
    · split
      · exact (RecordsAt.of_log hrun).trans (State.recordsAt_recoveryUndecided _)
      · exact .of_log hrun

theorem recoveryPollIsBooked : Claim.RecoveryPollIsBooked := by
  intro s
  refine ⟨fun h => ?_, fun hdue ha hm => ⟨?_, fun hd hb => ?_, fun hd hb => ?_, fun hd => ?_⟩⟩
  · have hoff : (s.cell.recoveryDue && s.awake && s.mayPoll) = false := by rcases h with h | h | h <;> simp [h]
    change Host.Outcome.next (if s.cell.recoveryDue && s.awake && s.mayPoll then s.push .recovery else s) = _
    rw [hoff]
    rfl
  · change Host.Outcome.next (if s.cell.recoveryDue && s.awake && s.mayPoll then s.push .recovery else s) = _
    rw [hdue, ha, hm]
    rfl
  all_goals rw [State.act_event (a := .recovery) ha rfl rfl s.recordsAt_recoveryPoll]; change s.recoveryPoll = _
  · rw [State.recoveryPoll_runs hdue hm hd]
    exact if_neg hb
  · have hcell := State.runPoll_cell s.recovering (checkPoll s.cfg.cur true)
    rw [State.recoveryPoll_runs hdue hm hd]
    exact (if_pos hb).trans (State.recoveryUndecided_of_recovering (by rw [hcell]; rfl) (by rw [hcell]; rfl))
  · rw [State.recoveryPoll_discarded hdue hm hd]
    exact State.recoveryUndecided_of_recovering rfl rfl

/-- Settles O31: both events come once their condition holds, and their records stay records of an event. -/
theorem sessionTimersEndSessions : Obligations.SessionTimersEndSessions := ⟨sessionTimerExpires, recoveryPollIsBooked⟩

end Sys2Proof.Machine
end

section
/-! PROOF. The end of a booking: the state in which it ends, its reply and its results (R46, R148, R163, R169, R170, R194, R195,
R268, R378; O25). -/

namespace Sys2Proof.Machine

open Sys2Proof

/-! ### What the steps of an end leave alone -/

@[simp] theorem State.onCurrent_log (s : State) (e : Nat) (f : Booking → Booking) : (s.onCurrent e f).log = s.log := by
  unfold State.onCurrent
  split <;> rfl

@[simp] theorem State.release_log (s : State) (b : Booking) : (s.release b).log = s.log := by
  unfold State.release
  split <;> rfl

theorem State.foldl_onChannel_log {α : Type} (g : α → Nat) (f : α → Channel → Channel) (l : List α) (s : State) :
    (l.foldl (fun x a => x.onChannel (g a) (f a)) s).log = s.log :=
  foldl_keeps State.log (f := fun x a => x.onChannel (g a) (f a)) (fun _ _ => rfl) l s

@[simp] theorem State.endStep_log (s : State) (b : Booking) : (s.endStep b).log = s.log :=
  (State.onCurrent_log ..).trans (State.foldl_onChannel_log (fun n => n) (fun _ => Channel.off) _ s)

@[simp] theorem State.writePhaseRef_log (s : State) (tk : Ticket) (b : Booking) : (s.writePhaseRef tk b).log = s.log := by
  unfold State.writePhaseRef
  split <;> rfl

@[simp] theorem State.rebook_log (s : State) (b : Booking) : (s.rebook b).log = s.log := by
  unfold State.rebook
  split
  · rfl
  · dsimp only
    split <;> rfl

@[simp] theorem State.checkEnds_log (s : State) (b : Booking) : (s.checkEnds b).log = s.log := by
  unfold State.checkEnds
  dsimp only
  split <;> rfl

@[simp] theorem State.endMeasure_log (s : State) (b : Booking) (tk : Ticket) (m : Measurement) :
    (s.endMeasure b tk m).log = s.log := by
  unfold State.endMeasure
  split
  · rfl
  · split <;> rfl

@[simp] theorem State.pollResult_log (s : State) (b : Booking) : (s.pollResult b).log = s.log := rfl

@[simp] theorem State.publishEnd_log (s : State) (b : Booking) (m : Measurement) : (s.publishEnd b m).log = s.log := by
  unfold State.publishEnd
  split
  · split
    · simp
    · split
      · rfl
      · exact State.writePhaseRef_log ..
  · rfl
  · simp

theorem State.recordsAt_keyDone (s : State) (b : Booking) (r : KeyRec) (tag n : Nat) : s.RecordsAt 2 (s.keyDone b r tag n) :=
  (s.recordsAt_record (.auth b.engine) 0x10 _ 0).trans (.of_log (State.onCurrent_log ..))

theorem State.recordsAt_endWith (s : State) (e code : Nat) : s.RecordsAt 2 (s.endWith e code) := by
  unfold State.endWith
  split
  · exact .of_log rfl
  · split
    · exact .of_log (State.onCurrent_log ..)
    · split
      · exact (s.recordsAt_keyDone ..).trans (.of_log (State.onCurrent_log ..))
      · exact .of_log (State.onCurrent_log ..)

theorem State.recordsAt_bookingEnds (s : State) (e : Nat) (m : Measurement) : s.RecordsAt 2 (s.bookingEnds e m) := by
  unfold State.bookingEnds
  split
  · exact .of_log rfl
  next b _ =>
  split
  · exact .of_log rfl
  dsimp only
  have hended : s.RecordsAt 2 (if b.kind.measures then s.endStep b else if b.kind == .inventory then s.listHeard b
      else if b.endCode.isSome && b.cur.isNone then s else s.endWith e b.endByte) := by
    split
    · exact .of_log (s.endStep_log b)
    · split
      · exact .of_log (State.onCurrent_log ..)
      · split
        · exact .of_log rfl
        · exact s.recordsAt_endWith ..
  split
  · exact hended
  · exact hended.trans (.of_log (by simp))

/-- Its AUTH records have the place of their engine's verdict already (R179, R306; log entry 60). -/
theorem State.act_bookingEnd {s : State} (ha : s.awake = true) (e : Nat) (m : Measurement) :
    s.act (.bookingEnd e m) = s.bookingEnds e m :=
  State.act_recordsAt (k := 2) ha rfl rfl (by decide) (s.recordsAt_bookingEnds e m)

/-! ### The booking as it ends -/

/-- An exchange as it ends: what was still open has failed on air (R163). -/
def Booking.closed (b : Booking) : Booking :=
  if b.endCode.isSome && b.cur.isNone then b
  else { b with endCode := some b.endByte, phase := .ending, todo := [], await := .nothing, cur := none
                records := b.records ++ (b.cur.map fun c => c.plain (if b.endByte = 5 then 6 else 7)).toList }

/-- The state in which an exchange has ended. -/
def State.closing (s : State) (e : Nat) (b : Booking) : State :=
  if b.endCode.isSome && b.cur.isNone then s else s.endWith e b.endByte

theorem Booking.await_of_ended {b : Booking} {t : Nat} (h : b.ended t = true) : b.await ≠ .verdict := by
  simp only [Booking.ended, Bool.and_eq_true, bne_iff_ne] at h
  exact h.1.1

/-- The exchange once the record of the key being handled is kept (R169). -/
def Booking.keeping (r : KeyRec) (b : Booking) : Booking := { b with records := b.records ++ [r], cur := none }

theorem State.current_endWith {s : State} {e : Nat} {b : Booking} (h : s.current e = some b) (hv : b.await ≠ .verdict)
    (code : Nat) : (s.endWith e code).current e =
      some { b with endCode := some code, phase := .ending, todo := [], await := .nothing, cur := none
                    records := b.records ++ (b.cur.map fun c => c.plain (if code = 5 then 6 else 7)).toList } := by
  obtain ⟨rfl, -⟩ := State.current_running h
  have hstop : ∀ (u : State) (b' : Booking), u.current b.engine = some b' →
      ((u.dropRequest b.engine).onCurrent b.engine (Booking.stop code)).current b.engine = some (Booking.stop code b') :=
    fun u b' hu =>
    State.onCurrent_current (s := u.dropRequest b.engine) (f := Booking.stop code) hu (fun _ => rfl) fun _ _ => nofun
  cases hc : b.cur with
  | none =>
    simp only [State.endWith, h, if_neg hv, hc]
    rw [hstop s b h]
    simp [Booking.stop, hc]
  | some c =>
    simp only [State.endWith, h, if_neg hv, hc]
    rw [Option.map_some, Option.toList_some]
    generalize c.plain (if code = 5 then 6 else 7) = r
    exact hstop (s.keyDone b r c.tag 0) _ (State.onCurrent_current (s := s.authRecord b r c.tag 0) (f := Booking.keeping r) h
      (fun _ => rfl) fun _ hx => hx)

theorem State.current_closing {s : State} {e : Nat} {b : Booking} (h : s.current e = some b) (hv : b.await ≠ .verdict) :
    (s.closing e b).current e = some b.closed := by
  unfold State.closing Booking.closed
  split
  · exact h
  · exact State.current_endWith h hv _

/-! ### BOOKING_END by the kind of the booking -/

theorem State.bookingEnds_of_current {s u : State} {e : Nat} {b b' : Booking} (m : Measurement) (h : s.current e = some b)
    (hend : b.ended s.tick = true)
    (hu : (if b.kind.measures then s.endStep b else if b.kind == .inventory then s.listHeard b
      else if b.endCode.isSome && b.cur.isNone then s else s.endWith e b.endByte) = u) (hb' : u.current e = some b') :
    s.bookingEnds e m = (u.release b').publishEnd b' m := by
  unfold State.bookingEnds
  simp only [h, hend, Bool.not_true, Bool.false_eq_true, if_false, hu, hb']

theorem State.bookingEnds_exchange {s : State} {e : Nat} {b : Booking} (m : Measurement) (h : s.current e = some b)
    (hend : b.ended s.tick = true) (hm : b.kind.measures = false) (hi : b.kind ≠ .inventory) :
    s.bookingEnds e m = ((s.closing e b).release b.closed).publishEnd b.closed m :=
  State.bookingEnds_of_current m h hend (by simp [hm, hi, State.closing]) (State.current_closing h (Booking.await_of_ended hend))

/-- An INVENTORY's booking once what it has heard is listed (R148). -/
def Booking.listed (dir : List (Nat × Entry)) (b : Booking) : Booking :=
  { b with heard := [], found := b.found ++ b.heard.map fun h => (h.1, dir.any fun x => x.2.ident == h.1, h.2) }

theorem State.bookingEnds_inventory {s : State} {e : Nat} {b : Booking} (m : Measurement) (h : s.current e = some b)
    (hend : b.ended s.tick = true) (hi : b.kind = .inventory) :
    s.bookingEnds e m = ((s.listHeard b).release (b.listed s.dir)).publishEnd (b.listed s.dir) m := by
  obtain ⟨rfl, -⟩ := State.current_running h
  exact State.bookingEnds_of_current m h hend (by simp [hi, Kind.measures])
    (State.onCurrent_current (f := Booking.listed s.dir) h (fun _ => rfl) fun _ hx => hx)

/-- A measurement's booking once its last step is over (R117). -/
def Booking.stepped (steps : List Burst) (b : Booking) : Booking := { b with steps := steps, settled := false }

theorem State.current_endStep {s : State} {e : Nat} {b : Booking} (h : s.current e = some b) :
    ∃ steps, (s.endStep b).current e = some (b.stepped steps) := by
  obtain ⟨rfl, -⟩ := State.current_running h
  refine ⟨_, State.onCurrent_current (b := b) ?_ (fun _ => rfl) fun _ hx => hx⟩
  rw [← h]
  exact foldl_keeps (fun t => t.current b.engine) (f := fun s n => s.onChannel n Channel.off) (fun _ _ => rfl) _ s

theorem State.bookingEnds_measures {s : State} {e : Nat} {b b' : Booking} (m : Measurement) (h : s.current e = some b)
    (hend : b.ended s.tick = true) (hm : b.kind.measures = true) (hb' : (s.endStep b).current e = some b') :
    s.bookingEnds e m = ((s.endStep b).release b').publishEnd b' m :=
  State.bookingEnds_of_current m h hend (by simp [hm]) hb'

/-! ### What is answered -/

theorem State.publishEnd_exchange {b : Booking} {tk : Ticket} (s : State) (m : Measurement) (ht : b.ticket = some tk)
    (hm : b.kind.measures = false) (hi : b.kind ≠ .inventory) :
    s.publishEnd b m = (s.writePhaseRef tk b).reply tk b.status b.exchangeResults := by
  simp [State.publishEnd, ht, hm, hi]

theorem State.publishEnd_inventory {b : Booking} {tk : Ticket} (s : State) (m : Measurement) (ht : b.ticket = some tk)
    (hi : b.kind = .inventory) : s.publishEnd b m = s.reply tk b.inventoryReply.1 b.inventoryReply.2 := by
  simp [State.publishEnd, ht, hi, Kind.measures]

theorem State.publishEnd_measures {b : Booking} {tk : Ticket} (s : State) (m : Measurement) (ht : b.ticket = some tk)
    (hm : b.kind.measures = true) : s.publishEnd b m = s.endMeasure b tk m := by
  simp [State.publishEnd, ht, hm]

theorem State.publishEnd_reader {b : Booking} {r : Reader} (s : State) (m : Measurement) (ht : b.ticket = none)
    (hr : b.reader = some r) : s.publishEnd b m = { s with field := { s.field with
      readers := s.field.readers ++ [if r.done then r else { r with invalid := true, done := true }] } } := by
  simp [State.publishEnd, ht, hr]

theorem State.publishEnd_poll {b : Booking} (s : State) (m : Measurement) (ht : b.ticket = none) (hr : b.reader = none) :
    s.publishEnd b m = ((s.pollResult b).rebook b).checkEnds b := by
  simp [State.publishEnd, ht, hr]

theorem State.writePhaseRef_congr {b c : Booking} (s : State) (tk : Ticket) (hw : c.calWrite = b.calWrite)
    (hz : c.zones = b.zones) : s.writePhaseRef tk c = s.writePhaseRef tk b := by
  simp only [State.writePhaseRef, Booking.zone, hw, hz]

theorem State.rebook_of_over {b : Booking} (s : State) (h5 : b.endByte ≠ 5) (ha : b.again = false) : s.rebook b = s := by
  rw [State.rebook, if_pos (by simp [h5, ha])]

theorem State.checkEnds_of_plain {b : Booking} (s : State) (hd : b.doorCheck = false) (hr : b.recoveryPoll = false) :
    s.checkEnds b = s := by
  simp [State.checkEnds, hd, hr]

/-- What the end of a clause's booking does to the calendar is its release alone. -/
theorem State.publishEnd_bookings {b : Booking} {tk : Ticket} (s : State) (m : Measurement) (ht : b.ticket = some tk) :
    (s.publishEnd b m).field.bookings = s.field.bookings := by
  unfold State.publishEnd
  rw [ht]
  dsimp only
  split
  · unfold State.endMeasure
    split
    · rfl
    · split <;> rfl
  · split
    · rfl
    · unfold State.writePhaseRef
      split <;> rfl

theorem State.release_bookings (s : State) (b : Booking) :
    (s.release b).field.bookings = s.field.bookings.filter fun x => x.id != b.id := by
  unfold State.release
  split <;> rfl

theorem State.release_readers (s : State) (b : Booking) : (s.release b).field.readers = s.field.readers := by
  unfold State.release
  split <;> rfl

theorem State.ended_leaves {s t : State} {b : Booking} {tk : Ticket} {m : Measurement} (ht : b.ticket = some tk)
    (h : t = (s.release b).publishEnd b m) : ∀ x ∈ t.field.bookings, x.id ≠ b.id := by
  intro x hx
  rw [h, State.publishEnd_bookings _ m ht, State.release_bookings] at hx
  simpa using (List.mem_filter.mp hx).2

/-! ### The end of a poll -/

/-- What decides whether a poll is over with the booking of number `id`. -/
def State.pollsView (s : State) (id : Nat) :=
  (s.tick, s.field.lastPoll, s.field.pollEnd, s.field.bookings.filter fun x => x.id != id)

theorem State.onCurrent_pollsView {s : State} {e : Nat} {b : Booking} {f : Booking → Booking} (h : s.current e = some b)
    (hf : ∀ x, (f x).id = x.id) : (s.onCurrent e f).pollsView b.id = s.pollsView b.id := by
  have hmap : ((s.field.bookings.map fun x => if x.id == b.id && x.phase != .booked then f x else x).filter
      fun x => x.id != b.id) = s.field.bookings.filter fun x => x.id != b.id := by
    induction s.field.bookings with
    | nil => rfl
    | cons x l ih =>
      by_cases hx : x.id = b.id
      · have hid : (if x.id == b.id && x.phase != .booked then f x else x).id = b.id := by
          split
          · rw [hf, hx]
          · exact hx
        rw [List.map_cons, List.filter_cons_of_neg (by rw [hid]; simp), List.filter_cons_of_neg (by simp [hx]), ih]
      · rw [List.map_cons, if_neg (by simp [hx]), List.filter_cons_of_pos (by simp [hx]), List.filter_cons_of_pos (by simp [hx]),
          ih]
  rw [State.onCurrent, h]
  exact congrArg (fun l => (s.tick, s.field.lastPoll, s.field.pollEnd, l)) hmap

theorem State.closing_pollsView {s : State} {e : Nat} {b : Booking} (h : s.current e = some b) (hv : b.await ≠ .verdict) :
    (s.closing e b).pollsView b.id = s.pollsView b.id := by
  obtain ⟨rfl, -⟩ := State.current_running h
  have hstop : ∀ (u : State) (b' : Booking), u.current b.engine = some b' → b'.id = b.id → ∀ code,
      ((u.dropRequest b.engine).onCurrent b.engine (Booking.stop code)).pollsView b.id = u.pollsView b.id :=
    fun u b' hu hid code => by
      rw [← hid]
      exact State.onCurrent_pollsView (s := u.dropRequest b.engine) hu fun _ => rfl
  unfold State.closing
  split
  · rfl
  · cases hc : b.cur with
    | none =>
      simp only [State.endWith, h, if_neg hv, hc]
      exact hstop s b h rfl _
    | some c =>
      simp only [State.endWith, h, if_neg hv, hc]
      generalize hr : c.plain (if b.endByte = 5 then 6 else 7) = r
      have hrec : (s.authRecord b r c.tag 0).current b.engine = some b := h
      exact (hstop (s.keyDone b r c.tag 0) _
        (State.onCurrent_current (f := Booking.keeping r) hrec (fun _ => rfl) fun _ hx => hx) rfl _).trans
        (State.onCurrent_pollsView (f := Booking.keeping r) hrec fun _ => rfl)

theorem State.release_pollEnd {s : State} {b : Booking} {i : Nat} (hi : b.index = some i)
    (hlast : b.poll = s.field.lastPoll.getD i 0)
    (hleft : ∀ x ∈ s.field.bookings.filter fun x => x.id != b.id, ¬ (x.index = some i ∧ x.poll = b.poll)) :
    (s.release b).field.pollEnd = s.field.pollEnd.set i (some s.tick) := by
  have hends : ∀ f : Field, f.lastPoll = s.field.lastPoll →
      f.pollEnds (s.field.bookings.filter fun x => x.id != b.id) b s.tick = f.pollEnd.set i (some s.tick) := by
    intro f hf
    have hany : ((s.field.bookings.filter fun x => x.id != b.id).any fun x => x.index == some i && x.poll == b.poll) = false := by
      rw [List.any_eq_false]
      exact fun x hx => by simpa using hleft x hx
    rw [Field.pollEnds, hi]
    dsimp only
    rw [hany, hf, ← hlast]
    simp
  unfold State.release
  split
  · exact hends _ rfl
  · exact hends _ rfl

theorem State.publishEnd_pollEnd {b : Booking} (s : State) (m : Measurement) (ht : b.ticket = none) (hr : b.reader = none)
    (h5 : b.endByte ≠ 5) (ha : b.again = false) : (s.publishEnd b m).field = s.field := by
  rw [State.publishEnd_poll s m ht hr, State.rebook_of_over _ h5 ha]
  unfold State.checkEnds
  dsimp only
  split <;> rfl

/-! ### The exchange as it ends -/

@[simp] theorem Booking.closed_id (b : Booking) : b.closed.id = b.id := by unfold Booking.closed; split <;> rfl

@[simp] theorem Booking.closed_kind (b : Booking) : b.closed.kind = b.kind := by unfold Booking.closed; split <;> rfl

@[simp] theorem Booking.closed_ticket (b : Booking) : b.closed.ticket = b.ticket := by unfold Booking.closed; split <;> rfl

@[simp] theorem Booking.closed_reader (b : Booking) : b.closed.reader = b.reader := by unfold Booking.closed; split <;> rfl

@[simp] theorem Booking.closed_index (b : Booking) : b.closed.index = b.index := by unfold Booking.closed; split <;> rfl

@[simp] theorem Booking.closed_poll (b : Booking) : b.closed.poll = b.poll := by unfold Booking.closed; split <;> rfl

@[simp] theorem Booking.closed_again (b : Booking) : b.closed.again = b.again := by unfold Booking.closed; split <;> rfl

@[simp] theorem Booking.closed_aborted (b : Booking) : b.closed.aborted = b.aborted := by unfold Booking.closed; split <;> rfl

@[simp] theorem Booking.closed_zones (b : Booking) : b.closed.zones = b.zones := by unfold Booking.closed; split <;> rfl

@[simp] theorem Booking.closed_round (b : Booking) : b.closed.round = b.round := by unfold Booking.closed; split <;> rfl

@[simp] theorem Booking.closed_purpose (b : Booking) : b.closed.purpose = b.purpose := by unfold Booking.closed; split <;> rfl

@[simp] theorem Booking.closed_session (b : Booking) : b.closed.session = b.session := by unfold Booking.closed; split <;> rfl

@[simp] theorem Booking.closed_calWrite (b : Booking) : b.closed.calWrite = b.calWrite := by
  unfold Booking.closed; split <;> rfl

@[simp] theorem Booking.closed_endByte (b : Booking) : b.closed.endByte = b.endByte := by unfold Booking.closed; split <;> rfl

/-- One that has said how it ended, with no key in hand, ends as it is. -/
theorem Booking.closed_of_over {b : Booking} (hcode : b.endCode ≠ none) (hcur : b.cur = none) : b.closed = b :=
  if_pos (by simp [Option.isSome_iff_ne_none, hcode, hcur])

theorem State.closing_of_over {b : Booking} (s : State) (e : Nat) (hcode : b.endCode ≠ none) (hcur : b.cur = none) :
    s.closing e b = s :=
  if_pos (by simp [Option.isSome_iff_ne_none, hcode, hcur])

/-- The statuses of R169 in the order of their tests. -/
theorem Booking.status_eq {b : Booking} (ha : b.aborted = false) : b.status =
    if (∃ r ∈ b.records, r.outcome = 0 ∨ r.outcome = 9) then 0 else if b.endByte = 5 then 0x23
    else if b.endByte = 2 ∨ b.endByte = 6 then 0x24 else if (∃ r ∈ b.records, r.outcome = 5) then 0x22
    else if (∃ r ∈ b.records, r.outcome = 4) then 0x21 else if (∃ r ∈ b.records, r.outcome = 0xA) then 0x31 else 0x20 := by
  have has : ∀ o : Nat, ((b.records.any fun r => r.outcome == o) = true) = ∃ r ∈ b.records, r.outcome = o := fun o => by simp
  have hopen : (∃ r ∈ b.records, r.outcome = 0 ∨ r.outcome = 9) =
      ((∃ r ∈ b.records, r.outcome = 0) ∨ ∃ r ∈ b.records, r.outcome = 9) := by
    rw [← exists_or]
    exact congrArg _ (funext fun r => propext and_or_left)
  simp only [Booking.status, ha, Bool.or_eq_true, decide_eq_true_eq, has, hopen, Bool.false_eq_true, if_false]

theorem Booking.status_aborted {b : Booking} (ha : b.aborted = true) : b.status = 0x30 := by simp [Booking.status, ha]

theorem Booking.exchangeResults_aborted {b : Booking} (ha : b.aborted = true) : b.exchangeResults = [] := by
  simp [Booking.exchangeResults, ha]

theorem Booking.exchangeResults_eq {b : Booking} (ha : b.aborted = false) : b.exchangeResults =
    leN 1 b.records.length ++ leN 1 b.endByte ++ leN 1 b.round ++ leN 1 b.purpose ++ leN 2 b.session ++
      b.records.flatMap fun r => if b.kind = .locate then r.locateBytes else r.bytes := by
  simp [Booking.exchangeResults, ha, Booking.header]

theorem Booking.inventoryReply_eq (b : Booking) : b.inventoryReply =
    (if b.endByte = 2 ∨ b.endByte = 6 then 0x24 else if b.found = [] then 0x20 else 0,
      leN 1 b.found.length ++ leN 1 b.endByte ++ leN 1 b.round ++
        b.found.flatMap fun k => leN 8 k.1.toNat ++ leN 1 (if k.2.1 then 1 else 0) ++ leN 2 (twos 16 k.2.2)) := by
  simp [Booking.inventoryReply, b2n]

/-- Whatever its kind, a booking that is over leaves the calendar and is answered. -/
theorem State.bookingEnds_released {s : State} {e : Nat} {b : Booking} (m : Measurement) (h : s.current e = some b)
    (hend : b.ended s.tick = true) : ∃ (u : State) (b' : Booking), s.bookingEnds e m = (u.release b').publishEnd b' m ∧
      b'.id = b.id ∧ b'.ticket = b.ticket := by
  by_cases hm : b.kind.measures = true
  · obtain ⟨steps, hb'⟩ := State.current_endStep h
    exact ⟨_, _, State.bookingEnds_measures m h hend hm hb', rfl, rfl⟩
  · by_cases hi : b.kind = .inventory
    · exact ⟨_, _, State.bookingEnds_inventory m h hend hi, rfl, rfl⟩
    · exact ⟨_, _, State.bookingEnds_exchange m h hend (by simpa using hm) hi, by simp, by simp⟩

theorem State.bookingEnds_pollEnd {s : State} {e i : Nat} {b : Booking} (m : Measurement) (h : s.current e = some b)
    (hend : b.ended s.tick = true) (hi : b.index = some i) (hr : b.reader = none) (ht : b.ticket = none)
    (hk : b.kind = .authenticate) (hlast : b.poll = s.field.lastPoll.getD i 0)
    (hleft : ∀ x ∈ s.field.bookings, x.id ≠ b.id → ¬ (x.index = some i ∧ x.poll = b.poll)) (h5 : b.endByte ≠ 5)
    (ha : b.again = false) : (s.bookingEnds e m).field.pollEnd = s.field.pollEnd.set i (some s.tick) := by
  have hview := State.closing_pollsView h (Booking.await_of_ended hend)
  simp only [State.pollsView, Prod.mk.injEq] at hview
  obtain ⟨htick, hpoll, hends, hothers⟩ := hview
  rw [State.bookingEnds_exchange m h hend (by simp [hk, Kind.measures]) (by simp [hk]),
    State.publishEnd_pollEnd _ m (by simp [ht]) (by simp [hr]) (by simp [h5]) (by simp [ha]),
    State.release_pollEnd (i := i) (by simp [hi]) (by simp [hpoll, hlast]), hends, htick]
  intro x hx
  simp only [Booking.closed_id, hothers, List.mem_filter, bne_iff_ne] at hx
  simpa using hleft x hx.1 hx.2

/-- PHASE_REF waits, where the exchange has calibrated it, and the clause is answered (R169, R193). -/
theorem State.bookingEnds_reply {s : State} {e : Nat} {b : Booking} {tk : Ticket} (m : Measurement) (h : s.current e = some b)
    (hend : b.ended s.tick = true) (ht : b.ticket = some tk) (hk : b.kind = .authenticate ∨ b.kind = .locate) :
    s.bookingEnds e m = (((s.closing e b).release b.closed).writePhaseRef tk b).reply tk b.closed.status
      b.closed.exchangeResults := by
  have hm : b.kind.measures = false := by rcases hk with hk | hk <;> rw [hk] <;> rfl
  have hi : b.kind ≠ .inventory := by rcases hk with hk | hk <;> rw [hk] <;> nofun
  rw [State.bookingEnds_exchange m h hend hm hi, State.publishEnd_exchange (tk := tk) _ m (by simp [ht]) (by simp [hm])
      (by simp [hi]), State.writePhaseRef_congr _ tk b.closed_calWrite b.closed_zones]

theorem execBookingEnd_over {s : State} {e : Nat} {b : Booking} (m : Measurement) (h : s.current e = some b) :
    exec (.bookingEnd e m) s =
      .next (if s.awake && b.ended s.tick then s.push (.bookingEnd e m) else s) := by
  change execBookingEnd e m s = _
  rw [execBookingEnd, h]

theorem bookingsEnd : Claim.BookingsEnd := by
  intro e m s b h
  refine ⟨fun hoff => ?_, fun ha hend => ⟨?_, fun i hi hr ht hk hlast h5 hagain => ?_,
    fun tk ht => ⟨?_, fun hk => ?_, fun hk => ⟨?_, fun hab => ?_, fun hab => ?_⟩, fun hm hcode => ?_⟩,
    fun ht hcur hcode => ⟨fun r hk hr => ?_, fun hk hr h5 hagain hdoor hrec => ?_⟩⟩⟩
  · have hwaits : (s.awake && b.ended s.tick) = false := by rcases hoff with h | h <;> simp [h]
    rw [execBookingEnd_over m h, hwaits]
    rfl
  · rw [execBookingEnd_over m h, ha, hend]
    rfl
  case refine_6 => exact State.current_closing h (Booking.await_of_ended hend)
  all_goals rw [State.act_bookingEnd ha]
  · exact State.bookingEnds_pollEnd m h hend hi hr ht hk hlast.1 hlast.2 h5 hagain
  · obtain ⟨u, b', heq, hid, htk⟩ := State.bookingEnds_released m h hend
    rw [← hid]
    exact State.ended_leaves (htk.trans ht) heq
  · rw [State.bookingEnds_inventory m h hend hk, State.publishEnd_inventory (b := b.listed s.dir) (tk := tk) _ m ht hk,
      Booking.inventoryReply_eq]
    rfl
  · rw [State.bookingEnds_reply m h hend ht hk, Booking.status_aborted (by simp [hab]),
      Booking.exchangeResults_aborted (by simp [hab])]
    rfl
  · rw [State.bookingEnds_reply m h hend ht hk, Booking.status_eq (by simp [hab]), Booking.exchangeResults_eq (by simp [hab]),
      b.closed_endByte, b.closed_round, b.closed_purpose, b.closed_session, b.closed_kind]
    rfl
  · obtain ⟨steps, hb'⟩ := State.current_endStep h
    refine ⟨_, hb', rfl, ?_⟩
    rw [State.bookingEnds_measures m h hend hm hb', State.publishEnd_measures (b := b.stepped steps) (tk := tk) _ m ht hm]
    exact if_pos (Option.isSome_iff_ne_none.mpr hcode)
  · rw [State.bookingEnds_exchange m h hend (by simp [hk, Kind.measures]) (by simp [hk]), State.closing_of_over s e hcode hcur,
      Booking.closed_of_over hcode hcur, State.publishEnd_reader _ m ht hr, State.release_readers]
  · rw [State.bookingEnds_exchange m h hend (by simp [hk, Kind.measures]) (by simp [hk]), State.closing_of_over s e hcode hcur,
      Booking.closed_of_over hcode hcur, State.publishEnd_poll _ m ht hr, State.rebook_of_over _ h5 hagain,
      State.checkEnds_of_plain _ hdoor hrec]

end Sys2Proof.Machine
end

section
/-! PROOF. PHASE_REF, and the results of FIELD_VECTOR and AERIAL_CAL (R50, R111, R114, R116 to R118, R193, Tables 04.12 and
04.14; O25). -/

namespace Sys2Proof.Machine

open Sys2Proof

/-! ### Changes with their reply's record, or with none -/

/-- A change that records nothing leaves the log alone. -/
theorem State.act_unrecorded {s : State} {a : Act} (ha : s.awake = true) (h : (s.apply a).log = s.log) : s.act a = s.apply a := by
  rw [State.act_awake ha, h, List.take_length, List.drop_length, List.map_nil, List.append_nil, ← h]

/-- A record that goes with the clause's reply already has its place (R39, R306). -/
theorem State.act_recordReply {s u : State} {a : Act} {tk : Ticket} {typ : Nat} {body : Bytes} (ha : s.awake = true)
    (hr : a.rank.1 = 3) (h : s.apply a = u.recordReply tk typ body) (hu : u.log = s.log) : s.act a = s.apply a := by
  cases hb : u.log.begun
  case false =>
    refine State.act_unrecorded ha ?_
    rw [h, State.recordReply, State.record_before _ _ _ _ _ hb, hu]
  case true =>
    refine State.act_of_replies ha hr
      (l := [{ cls := .reply, typ := typ, body := padTo 32 body, order := tk.order, rank := 3 }]) ?_ (by simp)
    rw [h, State.recordReply, State.record_waiting _ _ _ _ _ hb, hu]
    rfl

theorem phaseRefIsWritten : Claim.PhaseRefIsWritten := by
  intro tk z spread n i mean en s ha
  refine ⟨fun hv => ?_, fun hv => State.act_unchanged ha (by simp [State.apply, State.applyPhaseRef, hv])⟩
  have happly : s.apply (.phaseRef tk z i mean spread) =
      (s.writeEntry n { en with phaseRef := mean, flags := en.flags ||| 4#8 }).recordReply tk 0x15
        (leN 8 i.toNat ++ leN 2 (twos 16 en.phaseRef) ++ leN 2 (twos 16 mean) ++ leN 1 z ++ leN 1 8 ++ leN 1 spread) := by
    simp [State.apply, State.applyPhaseRef, hv]
  rw [State.act_recordReply ha rfl happly rfl, happly]

/-! ### Tables of fields of one length -/

theorem slice_append_left {a : Bytes} (b : Bytes) {off len : Nat} (h : off + len ≤ a.length) :
    slice (a ++ b) off len = slice a off len := by
  rw [slice, slice, List.drop_append_of_le_length (by omega), List.take_append_of_le_length (by simp; omega)]

theorem slice_append_right {a : Bytes} {k : Nat} (b : Bytes) (off len : Nat) (h : a.length = k) :
    slice (a ++ b) (k + off) len = slice b off len := by
  rw [slice, slice, ← h, List.drop_length_add_append]

theorem length_flatMap_const {α : Type} {f : α → Bytes} {k : Nat} (hf : ∀ x, (f x).length = k) (l : List α) :
    (l.flatMap f).length = k * l.length := by
  induction l with
  | nil => rfl
  | cons x l ih => rw [List.flatMap_cons, List.length_append, ih, hf, List.length_cons, Nat.mul_succ, Nat.add_comm]

theorem slice_flatMap_range {f : Nat → Bytes} {k : Nat} (hf : ∀ i, (f i).length = k) {n N : Nat} (h : n < N) :
    slice ((List.range N).flatMap f) (k * n) k = f n := by
  induction N with
  | zero => exact absurd h (Nat.not_lt_zero n)
  | succ N ih =>
    have hlen : ((List.range N).flatMap f).length = k * N := by rw [length_flatMap_const hf, List.length_range]
    rw [List.range_succ, List.flatMap_append, List.flatMap_singleton]
    rcases Nat.lt_or_eq_of_le (Nat.lt_succ_iff.mp h) with hn | rfl
    · rw [slice_append_left _ (by rw [hlen, ← Nat.mul_succ]; exact Nat.mul_le_mul_left k hn), ih hn]
    · rw [← Nat.add_zero (k * n), slice_append_right _ _ _ hlen, slice, List.drop_zero, List.take_of_length_le (hf n).le]

theorem length_pair16 (x : Int × Int) : (pair16 x).length = 4 := by simp [pair16, length_leN]

theorem length_gainBytes (g : Nat × Int) : (gainBytes g).length = 4 := by simp [gainBytes, length_leN]

/-! ### Two bits for each receiver -/

/-- The gains of the first `k` receivers, two bits each (Table 04.12). -/
def gainsOf (g : Nat → Nat) (k : Nat) : Nat := ((List.range k).map fun n => g n % 4 * 4 ^ n).foldl (· + ·) 0

theorem gainsOf_succ (g : Nat → Nat) (k : Nat) : gainsOf g (k + 1) = gainsOf g k + g k % 4 * 4 ^ k := by
  simp [gainsOf, List.range_succ]

theorem gainsOf_lt (g : Nat → Nat) (k : Nat) : gainsOf g k < 4 ^ k := by
  induction k with
  | zero => exact Nat.zero_lt_one
  | succ k ih =>
    have hdigit : g k % 4 * 4 ^ k ≤ 3 * 4 ^ k := Nat.mul_le_mul_right _ (by omega)
    rw [gainsOf_succ, Nat.pow_succ]
    omega

theorem gainsOf_digit (g : Nat → Nat) {n k : Nat} (h : n < k) : gainsOf g k / 4 ^ n % 4 = g n % 4 := by
  induction k with
  | zero => exact absurd h (Nat.not_lt_zero n)
  | succ k ih =>
    rw [gainsOf_succ]
    rcases Nat.lt_or_eq_of_le (Nat.lt_succ_iff.mp h) with hn | rfl
    · have hpow : g k % 4 * 4 ^ k = 4 ^ n * (4 * (g k % 4 * 4 ^ (k - n - 1))) := by
        rw [show 4 ^ k = 4 ^ n * 4 * 4 ^ (k - n - 1) by rw [← Nat.pow_succ, ← Nat.pow_add]; congr 1; omega]
        ring
      rw [hpow, Nat.add_mul_div_left _ _ (by positivity), Nat.add_mul_mod_self_left, ih hn]
    · rw [Nat.add_mul_div_right _ _ (by positivity), Nat.div_eq_of_lt (gainsOf_lt g n), Nat.zero_add, Nat.mod_mod]

/-! ### What channels keep -/

/-- What each change of a channel keeps, the channels keep. -/
theorem State.channel_of_map {α : Type} {s t : State} {g : Channel → α} (h : t.field.ch.map g = s.field.ch.map g) (n : Nat) :
    g (t.field.ch.getD n {}) = g (s.field.ch.getD n {}) := by
  rw [← List.getD_map (f := g), h, List.getD_map]

theorem State.onChannel_map {α : Type} {g : Channel → α} {f : Channel → Channel} (hf : ∀ c, g (f c) = g c) (s : State) (n : Nat) :
    (s.onChannel n f).field.ch.map g = s.field.ch.map g := by
  refine List.ext_getElem? fun i => ?_
  simp only [State.onChannel, List.getElem?_map, List.getElem?_modify]
  split <;> cases s.field.ch[i]? <;> simp [hf]

theorem State.foldl_onChannel_map {α β : Type} {g : Channel → α} {f : β → Channel → Channel} (hf : ∀ x c, g (f x c) = g c)
    (at_ : β → Nat) (l : List β) (s : State) :
    (l.foldl (fun s x => s.onChannel (at_ x) (f x)) s).field.ch.map g = s.field.ch.map g :=
  foldl_keeps (fun s : State => s.field.ch.map g) (f := fun s x => s.onChannel (at_ x) (f x))
    (fun s x => State.onChannel_map (hf x) s (at_ x)) l s

theorem State.onCurrent_channels (s : State) (e : Nat) (f : Booking → Booking) : (s.onCurrent e f).field.ch = s.field.ch := by
  unfold State.onCurrent
  split <;> rfl

theorem State.endStep_channels {α : Type} {g : Channel → α} (hg : ∀ c, g c.off = g c) (s : State) (b : Booking) :
    (s.endStep b).field.ch.map g = s.field.ch.map g := by
  unfold State.endStep
  dsimp only
  rw [State.onCurrent_channels]
  exact State.foldl_onChannel_map (fun _ => hg) (fun n => n) _ s

theorem State.undrive_channels {α : Type} {g : Channel → α} (hg : ∀ c, g c.off = g c) (s : State) (b : Booking) :
    (s.undrive b).field.ch.map g = s.field.ch.map g := by
  refine List.ext_getElem? fun i => ?_
  simp only [State.undrive, List.getElem?_map, List.getElem?_mapIdx]
  cases s.field.ch[i]? with
  | none => rfl
  | some c =>
    simp only [Option.map_some]
    split <;> simp [hg]

theorem State.release_channels {α : Type} {g : Channel → α} (hg : ∀ c, g c.off = g c) (s : State) (b : Booking) :
    (s.release b).field.ch.map g = s.field.ch.map g := by
  unfold State.release
  split
  · rfl
  · exact State.undrive_channels hg (s.dropRequest b.engine) b

/-- The state of a measurement's results has its channels' states and gains. -/
theorem State.measured_channel {α : Type} {g : Channel → α} (hg : ∀ c, g c.off = g c) (s : State) (b b' : Booking) (n : Nat) :
    g (((s.endStep b).release b').field.ch.getD n {}) = g (s.field.ch.getD n {}) :=
  State.channel_of_map ((State.release_channels hg _ b').trans (State.endStep_channels hg s b)) n

/-! ### FIELD_VECTOR -/

/-- Table 04.12 by its fields. -/
theorem State.fieldVectorResults_fields (s : State) (b : Booking) (m : Measurement) :
    (s.fieldVectorResults b m).length = 156 ∧ slice (s.fieldVectorResults b m) 0 4 = leN 4 b.measured ∧
      slice (s.fieldVectorResults b m) 4 4 = leN 4 (gainsOf (s.gainOn b) 16) ∧
      slice (s.fieldVectorResults b m) 8 2 = leN 2 b.scaleOf ∧ slice (s.fieldVectorResults b m) 10 2 = zeros 2 ∧
      ∀ n, n < 16 → slice (s.fieldVectorResults b m) (12 + n) 1 = [(s.field.ch.getD n {}).status] ∧
        slice (s.fieldVectorResults b m) (28 + 8 * n) 8 = if aeEnabled b.copied n then
          pair16 (m.currents.getD n (0, 0)) ++ pair16 (m.receivers.getD n (0, 0)) else zeros 8 := by
  have hvalues : ∀ n, (if aeEnabled b.copied n then
      pair16 (m.currents.getD n (0, 0)) ++ pair16 (m.receivers.getD n (0, 0)) else zeros 8).length = 8 := by
    intro n
    split <;> simp [length_pair16, zeros]
  refine ⟨?_, rfl, rfl, rfl, rfl, fun n hn => ⟨?_, ?_⟩⟩
  · rw [State.fieldVectorResults, List.length_append, length_flatMap_const hvalues]
    simp [length_leN, zeros]
  · rw [State.fieldVectorResults, slice_append_left _ (by simp [length_leN, zeros]; omega), slice_append_right,
      List.map_eq_flatMap]
    · simpa using slice_flatMap_range (k := 1) (f := fun i => [(s.field.ch.getD i {}).status]) (fun _ => rfl) hn
    · rfl
  · rw [State.fieldVectorResults, slice_append_right]
    · exact slice_flatMap_range hvalues hn
    · simp [length_leN, zeros]

theorem Booking.scaleOf_one {b : Booking} (hz : b.sz = 256) (ht : b.st = 256) (hs : b.ss = 256) : b.scaleOf = 256 := by
  simp [Booking.scaleOf, hz, ht, hs, b2n]

/-- A receiver's two bits of GAINS (Table 04.12). -/
theorem State.fieldVectorResults_gain (s : State) (b : Booking) (m : Measurement) {n : Nat} (h : n < 16) :
    ofLe (slice (s.fieldVectorResults b m) 4 4) / 4 ^ n % 4 = s.gainOn b n % 4 := by
  obtain ⟨-, -, hgains, -⟩ := s.fieldVectorResults_fields b m
  rw [hgains, ofLe_leN_of_lt (gainsOf_lt _ 16), gainsOf_digit _ h]

/-- The results of a FIELD_VECTOR once its step is over and its booking has left. -/
def State.vectorResults (s : State) (b b' : Booking) (m : Measurement) : Bytes :=
  ((s.endStep b).release b').fieldVectorResults b' m

theorem State.vectorResults_fields (s : State) (b : Booking) (steps : List Burst) (m : Measurement) :
    let r := s.vectorResults b (b.stepped steps) m
    r.length = 156 ∧ slice r 0 4 = leN 4 b.measured ∧
      (∀ n, n < 16 → ofLe (slice r 4 4) / 4 ^ n % 4 = s.gainOn b n % 4 ∧
        slice r (12 + n) 1 = [(s.field.ch.getD n {}).status] ∧
        slice r (28 + 8 * n) 8 = if aeEnabled b.copied n then
          pair16 (m.currents.getD n (0, 0)) ++ pair16 (m.receivers.getD n (0, 0)) else zeros 8) ∧
      (b.sz = 256 → b.st = 256 → b.ss = 256 → slice r 8 2 = leN 2 256) ∧ slice r 10 2 = zeros 2 := by
  obtain ⟨hlen, hmeasured, -, hscale, hzero, hchannels⟩ :=
    State.fieldVectorResults_fields ((s.endStep b).release (b.stepped steps)) (b.stepped steps) m
  refine ⟨hlen, hmeasured, fun n hn => ⟨?_, ?_, (hchannels n hn).2⟩, fun hz ht hs => ?_, hzero⟩
  · have hgain : ((s.endStep b).release (b.stepped steps)).gainOn (b.stepped steps) n = s.gainOn b n :=
      congrArg (b.gainOf n).getD (State.measured_channel (g := Channel.gain) (fun _ => rfl) s b _ n)
    rw [State.vectorResults, State.fieldVectorResults_gain _ _ _ hn, hgain]
  · rw [State.vectorResults, (hchannels n hn).1, State.measured_channel (g := Channel.status) (fun _ => rfl)]
  · rw [State.vectorResults, hscale, Booking.scaleOf_one (b := b.stepped steps) hz ht hs]

theorem State.endMeasure_vector {b : Booking} {mode a amp : Nat} (s : State) (tk : Ticket) (m : Measurement)
    (hc : b.endCode = none) (hk : b.kind = .fieldVector mode a amp) :
    s.endMeasure b tk m = s.done tk (s.fieldVectorResults b m) := by
  simp [State.endMeasure, hc, hk]

theorem State.endMeasure_cal {b : Booking} {mask options amp : Nat} (s : State) (tk : Ticket) (m : Measurement)
    (hc : b.endCode = none) (hk : b.kind = .aerialCal mask options amp) : s.endMeasure b tk m = s.push (.cal tk b m) := by
  simp [State.endMeasure, hc, hk]

/-- The first half of `MeasurementsAnswer`: FIELD_VECTOR is answered, AERIAL_CAL waits for its ledger. -/
theorem State.measurement_ends {s : State} {e : Nat} {b : Booking} {tk : Ticket} (m : Measurement) (h : s.current e = some b)
    (ha : s.awake = true) (hend : b.ended s.tick = true) (hc : b.endCode = none) (ht : b.ticket = some tk) :
    ∃ steps, (s.endStep b).current e = some (b.stepped steps) ∧
      (∀ mode a amp, b.kind = .fieldVector mode a amp → s.act (.bookingEnd e m) =
        ((s.endStep b).release (b.stepped steps)).done tk (s.vectorResults b (b.stepped steps) m)) ∧
      ∀ mask options amp, b.kind = .aerialCal mask options amp → s.act (.bookingEnd e m) =
        ((s.endStep b).release (b.stepped steps)).push (.cal tk (b.stepped steps) m) := by
  obtain ⟨steps, hb'⟩ := State.current_endStep h
  have hact : b.kind.measures = true → s.act (.bookingEnd e m) =
      ((s.endStep b).release (b.stepped steps)).endMeasure (b.stepped steps) tk m := fun hm => by
    rw [State.act_bookingEnd ha, State.bookingEnds_measures m h hend hm hb']
    exact State.publishEnd_measures (b := b.stepped steps) _ m ht hm
  refine ⟨steps, hb', fun mode a amp hk => ?_, fun mask options amp hk => ?_⟩
  · exact (hact (by rw [hk]; rfl)).trans (State.endMeasure_vector (b := b.stepped steps) _ tk m hc hk)
  · exact (hact (by rw [hk]; rfl)).trans (State.endMeasure_cal (b := b.stepped steps) _ tk m hc hk)

end Sys2Proof.Machine
end

section
/-! PROOF. The commit phase of AERIAL_CAL: channels, isolations, the stage and the reply (R50, R111, R116 to R118, Table 04.14;
O25). -/

namespace Sys2Proof.Machine

open Sys2Proof

/-! ### What a calibration leaves alone -/

/-- The state without the channels, the isolations and the stage. -/
def State.offCal (s : State) : State :=
  { s with field := { s.field with ch := [], isolation := [] }, cfg := { s.cfg with stage := none } }

theorem State.senseCal_offCal (s : State) (b : Booking) (mask : Nat) (m : Measurement) :
    (s.senseCal b mask m).offCal = s.offCal :=
  foldl_keeps State.offCal (f := fun x k => x.onChannel k fun c => c.sense (s.calSenseBad b mask m k)) (fun _ _ => rfl) _ s

/-- The channels that passed return to service (R111). -/
def State.passChannels (l : List Nat) (s : State) : State := l.foldl (fun x n => x.onChannel n Channel.passed) s

theorem State.passChannels_offCal (l : List Nat) (s : State) : (s.passChannels l).offCal = s.offCal :=
  foldl_keeps State.offCal (f := fun x n => x.onChannel n Channel.passed) (fun _ _ => rfl) l s

/-- The isolations are measured where the options ask for them (R117). -/
def State.measureIsolations (s t : State) (b : Booking) (mask options : Nat) (m : Measurement) : State :=
  if bit options 0 then { t with field := { t.field with isolation := zonePairs.map (s.measurePair b mask m) } } else t

theorem State.measureIsolations_offCal (s t : State) (b : Booking) (mask options : Nat) (m : Measurement) :
    (s.measureIsolations t b mask options m).offCal = t.offCal := by
  unfold State.measureIsolations
  split <;> rfl

/-- A calibration but for what it stages. -/
def State.calibrated (s : State) (b : Booking) (mask options : Nat) (m : Measurement) : State :=
  s.measureIsolations ((s.senseCal b mask m).passChannels ((bitsIn 16 mask).filter (s.calPasses b mask m))) b mask options m

theorem State.applyCal_eq (s : State) (b : Booking) (mask options : Nat) (m : Measurement) :
    s.applyCal b mask options m = (bitsIn 16 mask).foldl (State.stageCal b m mask options) (s.calibrated b mask options m) := rfl

theorem State.calibrated_offCal (s : State) (b : Booking) (mask options : Nat) (m : Measurement) :
    (s.calibrated b mask options m).offCal = s.offCal :=
  (State.measureIsolations_offCal ..).trans ((State.passChannels_offCal ..).trans (State.senseCal_offCal ..))

theorem State.calibrated_cfg (s : State) (b : Booking) (mask options : Nat) (m : Measurement) :
    (s.calibrated b mask options m).cfg = s.cfg := by
  have hkeep : ((s.senseCal b mask m).passChannels ((bitsIn 16 mask).filter (s.calPasses b mask m))).cfg = s.cfg :=
    (foldl_keeps State.cfg (f := fun x n => x.onChannel n Channel.passed) (fun _ _ => rfl) _ _).trans
      (foldl_keeps State.cfg (f := fun x k => x.onChannel k fun c => c.sense (s.calSenseBad b mask m k)) (fun _ _ => rfl) _ s)
  unfold State.calibrated State.measureIsolations
  split <;> exact hkeep

theorem State.calibrated_isolation (s : State) (b : Booking) (mask options : Nat) (m : Measurement) :
    (s.calibrated b mask options m).field.isolation =
      if bit options 0 then zonePairs.map (s.measurePair b mask m) else s.field.isolation := by
  have hkeep : ((s.senseCal b mask m).passChannels ((bitsIn 16 mask).filter (s.calPasses b mask m))).field.isolation =
      s.field.isolation :=
    (foldl_keeps (fun t : State => t.field.isolation) (f := fun x n => x.onChannel n Channel.passed) (fun _ _ => rfl) _ _).trans
      (foldl_keeps (fun t : State => t.field.isolation)
        (f := fun x k => x.onChannel k fun c => c.sense (s.calSenseBad b mask m k)) (fun _ _ => rfl) _ s)
  unfold State.calibrated State.measureIsolations
  split
  · rfl
  · exact hkeep

theorem State.calibrated_channels (s : State) (b : Booking) (mask options : Nat) (m : Measurement) :
    (s.calibrated b mask options m).field.ch =
      ((s.senseCal b mask m).passChannels ((bitsIn 16 mask).filter (s.calPasses b mask m))).field.ch := by
  unfold State.calibrated State.measureIsolations
  split <;> rfl

/-! ### Channels -/

theorem State.onChannel_getElem? (s : State) (k n : Nat) (f : Channel → Channel) :
    (s.onChannel k f).field.ch[n]? = if k = n then s.field.ch[n]?.map f else s.field.ch[n]? := by
  rw [State.onChannel, List.getElem?_modify]
  split <;> simp

/-- A channel whose own change is none stays. -/
theorem State.foldl_onChannel_stays {f : Nat → Channel → Channel} {n : Nat} (hf : ∀ c, f n c = c) (l : List Nat) (s : State) :
    (l.foldl (fun x k => x.onChannel k (f k)) s).field.ch[n]? = s.field.ch[n]? := by
  refine foldl_keeps (fun t : State => t.field.ch[n]?) (f := fun x k => x.onChannel k (f k)) (fun x k => ?_) l s
  rw [State.onChannel_getElem?]
  split
  · next hk => rw [hk, show f n = id from funext hf, Option.map_id_fun, id]
  · rfl

theorem Channel.passed_passed (c : Channel) : c.passed.passed = c.passed := by
  simp [Channel.passed, BitVec.and_assoc]

theorem State.passChannels_stays {n : Nat} {l : List Nat} (hn : n ∉ l) (s : State) :
    (s.passChannels l).field.ch[n]? = s.field.ch[n]? := by
  induction l generalizing s with
  | nil => rfl
  | cons k l ih =>
    rw [List.mem_cons, not_or] at hn
    exact (ih hn.2 (s.onChannel k Channel.passed)).trans
      ((State.onChannel_getElem? ..).trans (if_neg (Ne.symm hn.1)))

/-- A channel that passed is in service (R111). -/
theorem State.passChannels_getElem? {n : Nat} {l : List Nat} (hn : n ∈ l) (s : State) :
    (s.passChannels l).field.ch[n]? = s.field.ch[n]?.map Channel.passed := by
  induction l using List.reverseRecOn with
  | nil => exact absurd hn List.not_mem_nil
  | append_singleton l k ih =>
    rw [State.passChannels, List.foldl_append, List.foldl_cons, List.foldl_nil, State.onChannel_getElem?]
    by_cases hl : n ∈ l
    · have hpass : (l.foldl (fun x n => x.onChannel n Channel.passed) s).field.ch[n]? =
          s.field.ch[n]?.map Channel.passed := ih hl
      have htwice : Channel.passed ∘ Channel.passed = Channel.passed := funext Channel.passed_passed
      rw [hpass, Option.map_map, htwice, ite_self]
    · obtain rfl : n = k := by simpa [hl] using hn
      rw [if_pos rfl]
      exact congrArg _ (State.passChannels_stays hl s)

theorem mem_bitsIn {k n mask : Nat} : n ∈ bitsIn k mask ↔ n < k ∧ mask.testBit n = true := by
  simp [bitsIn]

theorem State.calibrated_passed {s : State} {b : Booking} {mask n : Nat} {m : Measurement} (options : Nat) (h : n < 16)
    (hm : mask.testBit n = true) (hp : s.calPasses b mask m n = true) :
    (s.calibrated b mask options m).field.ch[n]? = s.field.ch[n]?.map Channel.passed := by
  have hbad : s.calSenseBad b mask m n = false := by
    simp only [State.calPasses, Bool.and_eq_true, Bool.not_eq_true'] at hp
    exact hp.2
  rw [State.calibrated_channels, State.passChannels_getElem? (List.mem_filter.mpr ⟨mem_bitsIn.mpr ⟨h, hm⟩, hp⟩)]
  exact congrArg _ (State.foldl_onChannel_stays (f := fun k c => c.sense (s.calSenseBad b mask m k))
    (fun c => by rw [hbad]; rfl) _ s)

/-! ### Gains -/

theorem Channel.sense_gain (bad : Bool) (c : Channel) : (c.sense bad).gain = c.gain := by
  unfold Channel.sense
  split <;> rfl

theorem State.calibrated_gainOn (s : State) (b c : Booking) (mask options : Nat) (m : Measurement) (n : Nat) :
    (s.calibrated b mask options m).gainOn c n = s.gainOn c n := by
  have hmap : (s.calibrated b mask options m).field.ch.map Channel.gain = s.field.ch.map Channel.gain := by
    rw [State.calibrated_channels]
    exact (State.foldl_onChannel_map (f := fun _ => Channel.passed) (fun _ _ => rfl) (fun n => n) _ _).trans
      (State.foldl_onChannel_map (f := fun k c => c.sense (s.calSenseBad b mask m k)) (fun _ => Channel.sense_gain _)
        (fun n => n) _ s)
  exact congrArg (c.gainOf n).getD (State.channel_of_map hmap n)

/-- States that measure alike: open values and receiver gains are the same. -/
def State.Alike (b : Booking) (s t : State) : Prop := t.freeCtr = s.freeCtr ∧ ∀ n, t.gainOn b n = s.gainOn b n

theorem State.txGainOf_alike {s t : State} {b : Booking} (h : s.Alike b t) (m : Measurement) (n : Nat) :
    t.txGainOf b m n = s.txGainOf b m n := by
  simp only [State.txGainOf, State.free, h.1]

theorem State.inputAt_alike {s t : State} {b : Booking} (h : s.Alike b t) (m : Measurement) (n k : Nat) :
    t.inputAt b m n k = s.inputAt b m n k := by
  simp only [State.inputAt, h.2]

theorem State.rxRatio_alike {s t : State} {b : Booking} (h : s.Alike b t) (m : Measurement) (n : Nat) :
    t.rxRatio b m n = s.rxRatio b m n := by
  simp only [State.rxRatio, State.inputAt_alike h]

theorem State.rxGainOf_alike {s t : State} {b : Booking} (h : s.Alike b t) (m : Measurement) (mask n : Nat) :
    t.rxGainOf b m mask n = s.rxGainOf b m mask n := by
  simp only [State.rxGainOf, State.rxRatio_alike h, State.inputAt_alike h, State.free, h.1]

theorem State.calibrated_alike (s : State) (b : Booking) (mask options : Nat) (m : Measurement) :
    s.Alike b (s.calibrated b mask options m) :=
  ⟨congrArg (fun t => t.freeCtr) (s.calibrated_offCal b mask options m), s.calibrated_gainOn b b mask options m⟩

/-! ### The stage -/

/-- What a calibration writes into the stage for aerial `n` (R118). -/
def State.calImage (s : State) (b : Booking) (m : Measurement) (mask options : Nat) (img : Mem) (n : Nat) : Mem :=
  let trimmed := if bit options 1 then img.writeBytes (0x40 + 16 * n + 6) (sbyte (b.stepOf n).trim) else img
  if bit options 2 then
    trimmed.writeBytes (0x40 + 16 * n + 8) (gainBytes (s.txGainOf b m n) ++ gainBytes (s.rxGainOf b m mask n))
  else trimmed

theorem State.stageCal_field (b : Booking) (m : Measurement) (mask options : Nat) (t : State) (n : Nat) :
    (State.stageCal b m mask options t n).field = t.field := by
  unfold State.stageCal
  dsimp only
  split <;> split <;> rfl

theorem State.stageCal_offCal (b : Booking) (m : Measurement) (mask options : Nat) (t : State) (n : Nat) :
    (State.stageCal b m mask options t n).offCal = t.offCal := by
  unfold State.stageCal
  dsimp only
  split <;> split <;> rfl

theorem State.stageCal_stage {s t : State} {b : Booking} (h : s.Alike b t) (m : Measurement) (mask options n : Nat)
    (ho : (bit options 1 || bit options 2) = true) :
    (State.stageCal b m mask options t n).cfg.stage = some (s.calImage b m mask options t.cfgStage n) := by
  unfold State.stageCal State.calImage
  dsimp only
  rw [State.txGainOf_alike h, State.rxGainOf_alike h]
  split <;> split
  · rfl
  · rfl
  · rfl
  · next h2 h1 => simp [h1, h2] at ho

theorem State.stageCal_unstaged {options : Nat} (b : Booking) (m : Measurement) (mask : Nat) (t : State) (n : Nat)
    (h1 : bit options 1 = false) (h2 : bit options 2 = false) : State.stageCal b m mask options t n = t := by
  simp [State.stageCal, h1, h2]

theorem State.alike_of_stageCal {s t : State} {b : Booking} (h : s.Alike b t) (m : Measurement) (mask options n : Nat) :
    s.Alike b (State.stageCal b m mask options t n) :=
  ⟨(congrArg (fun u => u.freeCtr) (State.stageCal_offCal b m mask options t n)).trans h.1, fun k =>
    (congrArg (fun f : Field => (b.gainOf k).getD (f.ch.getD k {}).gain) (State.stageCal_field b m mask options t n)).trans
      (h.2 k)⟩

/-- With an option set the stage after the aerials of a list holds the present stage with what they write. -/
theorem State.foldl_stageCal_stage {s : State} {b : Booking} {m : Measurement} {mask options : Nat}
    (ho : (bit options 1 || bit options 2) = true) {l : List Nat} (hl : l ≠ []) {t : State} (h : s.Alike b t) :
    (l.foldl (State.stageCal b m mask options) t).cfg.stage =
      some (l.foldl (s.calImage b m mask options) t.cfgStage) := by
  induction l generalizing t with
  | nil => exact absurd rfl hl
  | cons n l ih =>
    have hstage := State.stageCal_stage h m mask options n ho
    have himage : (State.stageCal b m mask options t n).cfgStage = s.calImage b m mask options t.cfgStage n := by
      rw [State.cfgStage, hstage, Option.getD_some]
    rw [List.foldl_cons, List.foldl_cons]
    rcases eq_or_ne l [] with rfl | hne
    · exact hstage
    · rw [ih hne (State.alike_of_stageCal h m mask options n), himage]

theorem State.wf_calImage (s : State) (b : Booking) (m : Measurement) (mask options : Nat) {img : Mem} (n : Nat)
    (h : img.wf = true) : (s.calImage b m mask options img n).wf = true := by
  unfold State.calImage
  dsimp only
  split <;> split <;> simp only [Mem.wf_writeBytes, h]

theorem State.wf_foldl_calImage (s : State) (b : Booking) (m : Measurement) (mask options : Nat) (l : List Nat) {img : Mem}
    (h : img.wf = true) : (l.foldl (s.calImage b m mask options) img).wf = true := by
  induction l generalizing img with
  | nil => exact h
  | cons n l ih => exact ih (s.wf_calImage b m mask options n h)

/-- Each aerial writes within its own descriptor of 16 bytes (Table 14.2). -/
theorem State.readBytes_calImage_other (s : State) (b : Booking) (m : Measurement) (mask options : Nat) (img : Mem)
    {k n c len : Nat} (hk : k ≠ n) (hlo : 0x40 + 16 * n ≤ c) (hhi : c + len ≤ 0x50 + 16 * n) :
    (s.calImage b m mask options img k).readBytes c len = img.readBytes c len := by
  have htrim : ∀ i : Mem, (i.writeBytes (0x40 + 16 * k + 6) (sbyte (b.stepOf k).trim)).readBytes c len = i.readBytes c len :=
    fun i => Mem.readBytes_writeBytes_other _ (by rw [length_leN]; omega)
  have hgains : ∀ i : Mem, (i.writeBytes (0x40 + 16 * k + 8) (gainBytes (s.txGainOf b m k) ++
      gainBytes (s.rxGainOf b m mask k))).readBytes c len = i.readBytes c len :=
    fun i => Mem.readBytes_writeBytes_other _ (by rw [List.length_append, length_gainBytes, length_gainBytes]; omega)
  unfold State.calImage
  dsimp only
  split
  · rw [hgains]
    split
    · exact htrim img
    · rfl
  · split
    · exact htrim img
    · rfl

theorem State.readBytes_calImage_trim (s : State) (b : Booking) (m : Measurement) (mask : Nat) {options : Nat} {img : Mem}
    (n : Nat) (h : img.wf = true) (ho : bit options 1 = true) :
    (s.calImage b m mask options img n).readBytes (0x46 + 16 * n) 1 = sbyte (b.stepOf n).trim := by
  have hsame : (img.writeBytes (0x46 + 16 * n) (sbyte (b.stepOf n).trim)).readBytes (0x46 + 16 * n) 1 =
      sbyte (b.stepOf n).trim := Mem.readBytes_writeBytes_same _ (sbyte (b.stepOf n).trim) h
  unfold State.calImage
  dsimp only
  rw [if_pos ho, show 0x40 + 16 * n + 6 = 0x46 + 16 * n by omega]
  split
  · rw [Mem.readBytes_writeBytes_other _ (by omega), hsame]
  · exact hsame

theorem State.readBytes_calImage_gains (s : State) (b : Booking) (m : Measurement) (mask : Nat) {options : Nat} {img : Mem}
    (n : Nat) (h : img.wf = true) (ho : bit options 2 = true) : (s.calImage b m mask options img n).readBytes (0x48 + 16 * n) 8 =
      gainBytes (s.txGainOf b m n) ++ gainBytes (s.rxGainOf b m mask n) := by
  unfold State.calImage
  dsimp only
  rw [if_pos ho, show 0x40 + 16 * n + 8 = 0x48 + 16 * n by omega]
  refine Mem.readBytes_writeBytes_same _ (gainBytes (s.txGainOf b m n) ++ gainBytes (s.rxGainOf b m mask n)) ?_
  split
  · exact Mem.wf_writeBytes _ _ h
  · exact h

/-- What an aerial of the list writes into its descriptor stands in the stage behind them all. -/
theorem State.readBytes_foldl_calImage {s : State} {b : Booking} {m : Measurement} {mask options n c len : Nat} {v : Bytes}
    (hlo : 0x40 + 16 * n ≤ c) (hhi : c + len ≤ 0x50 + 16 * n)
    (hv : ∀ img : Mem, img.wf = true → (s.calImage b m mask options img n).readBytes c len = v) {l : List Nat} (hn : n ∈ l)
    {img : Mem} (hw : img.wf = true) : (l.foldl (s.calImage b m mask options) img).readBytes c len = v := by
  induction l using List.reverseRecOn with
  | nil => exact absurd hn List.not_mem_nil
  | append_singleton l k ih =>
    rw [List.foldl_append, List.foldl_cons, List.foldl_nil]
    rcases eq_or_ne k n with rfl | hk
    · exact hv _ (s.wf_foldl_calImage b m mask options l hw)
    · rw [s.readBytes_calImage_other b m mask options _ hk hlo hhi]
      exact ih (by simpa [Ne.symm hk] using hn)

/-! ### The calibration as a whole -/

theorem State.applyCal_offCal (s : State) (b : Booking) (mask options : Nat) (m : Measurement) :
    (s.applyCal b mask options m).offCal = s.offCal := by
  rw [State.applyCal_eq, foldl_keeps State.offCal (State.stageCal_offCal b m mask options), State.calibrated_offCal]

theorem State.applyCal_field (s : State) (b : Booking) (mask options : Nat) (m : Measurement) :
    (s.applyCal b mask options m).field = (s.calibrated b mask options m).field := by
  rw [State.applyCal_eq, foldl_keeps State.field (State.stageCal_field b m mask options)]

/-- A calibration changes channels, isolations and the stage alone (R118). -/
theorem State.applyCal_frame (s : State) (b : Booking) (mask options : Nat) (m : Measurement) :
    let t := s.applyCal b mask options m
    t = { s with field := t.field, cfg := { s.cfg with stage := t.cfg.stage } } ∧
      t.field = { s.field with ch := t.field.ch, isolation := t.field.isolation } :=
  have hoff := s.applyCal_offCal b mask options m
  ⟨congrArg (fun u : State => { u with
      field := (s.applyCal b mask options m).field
      cfg := { u.cfg with stage := (s.applyCal b mask options m).cfg.stage } }) hoff,
    congrArg (fun u : State => { u.field with
      ch := (s.applyCal b mask options m).field.ch, isolation := (s.applyCal b mask options m).field.isolation }) hoff⟩

theorem State.applyCal_alike (s : State) (b : Booking) (mask options : Nat) (m : Measurement) :
    s.Alike b (s.applyCal b mask options m) :=
  ⟨congrArg (fun u => u.freeCtr) (s.applyCal_offCal b mask options m), fun k =>
    (congrArg (fun f : Field => (b.gainOf k).getD (f.ch.getD k {}).gain) (s.applyCal_field b mask options m)).trans
      (s.calibrated_gainOn b b mask options m k)⟩

theorem State.applyCal_unstaged {s : State} {b : Booking} {mask options : Nat} {m : Measurement} (h1 : bit options 1 = false)
    (h2 : bit options 2 = false) : (s.applyCal b mask options m).cfg.stage = s.cfg.stage := by
  have hkeep := foldl_keeps (fun u : State => u.cfg.stage) (f := State.stageCal b m mask options)
    (fun u n => by rw [State.stageCal_unstaged b m mask u n h1 h2]) (bitsIn 16 mask) (s.calibrated b mask options m)
  rw [State.applyCal_eq, hkeep, State.calibrated_cfg]

theorem State.applyCal_stage {s : State} {b : Booking} {mask options n : Nat} {m : Measurement}
    (ho : (bit options 1 || bit options 2) = true) (h : n < 16) (hm : mask.testBit n = true) :
    (s.applyCal b mask options m).cfg.stage =
      some ((bitsIn 16 mask).foldl (s.calImage b m mask options) s.cfgStage) := by
  have hstage : (s.calibrated b mask options m).cfgStage = s.cfgStage := by
    rw [State.cfgStage, State.calibrated_cfg, State.cfgStage]
  rw [State.applyCal_eq, State.foldl_stageCal_stage ho (List.ne_nil_of_mem (mem_bitsIn.mpr ⟨h, hm⟩))
    (s.calibrated_alike b mask options m), hstage]

/-- What the reply says of aerial `n` (Table 04.14). -/
def State.calEntry (s : State) (b : Booking) (mask : Nat) (m : Measurement) (n : Nat) : Bytes :=
  if bit mask n then
    [(s.field.ch.getD n {}).status] ++ sbyte (b.stepOf n).trim ++ gainBytes (s.txGainOf b m n) ++
      gainBytes (s.rxGainOf b m mask n)
  else zeros 10

theorem State.length_calEntry (s : State) (b : Booking) (mask : Nat) (m : Measurement) (n : Nat) :
    (s.calEntry b mask m n).length = 10 := by
  unfold State.calEntry
  split
  · simp [length_leN, length_gainBytes]
  · rfl

/-- Table 04.14 by its fields. -/
theorem State.calResults_fields (s : State) (b : Booking) (mask : Nat) (m : Measurement) :
    (s.calResults b mask m).length = 196 ∧
      slice (s.calResults b mask m) 0 2 = leN 2 (maskOf ((List.range 16).filter s.inService)) ∧
      ∀ n, n < 16 → slice (s.calResults b mask m) (8 + 10 * n) 10 = s.calEntry b mask m n := by
  have hentries : ((List.range 16).flatMap (s.calEntry b mask m)).length = 160 :=
    length_flatMap_const (s.length_calEntry b mask m) _
  have hlast : ∀ f : Nat × Nat → Nat, (zonePairs.flatMap fun p => leN 1 (f p)).length = 28 := fun f =>
    length_flatMap_const (fun p => length_leN 1 (f p)) zonePairs
  unfold State.calResults
  dsimp only
  change (_ ++ (List.range 16).flatMap (s.calEntry b mask m) ++ _ : Bytes).length = 196 ∧ _ ∧
    ∀ n, n < 16 → slice (_ ++ (List.range 16).flatMap (s.calEntry b mask m) ++ _) (8 + 10 * n) 10 = _
  refine ⟨?_, rfl, fun n hn => ?_⟩
  · rw [List.length_append, List.length_append, hentries, hlast]
    simp [length_leN, zeros]
  · rw [slice_append_left _ (by rw [List.length_append, hentries]; simp [length_leN, zeros]; omega), slice_append_right]
    · exact slice_flatMap_range (s.length_calEntry b mask m) hn
    · rfl

theorem State.calEntry_alike {s t : State} {b : Booking} (h : s.Alike b t) (mask : Nat) (m : Measurement) (n : Nat) :
    t.calEntry b mask m n = if bit mask n then
      [(t.field.ch.getD n {}).status] ++ sbyte (b.stepOf n).trim ++ gainBytes (s.txGainOf b m n) ++
        gainBytes (s.rxGainOf b m mask n) else zeros 10 := by
  rw [State.calEntry, State.txGainOf_alike h, State.rxGainOf_alike h]

/-- While the ledger holds the clause's computation, its results wait (R50). -/
theorem State.act_cal_waits {s : State} {tk : Ticket} {b : Booking} {m : Measurement} {mask options amp : Nat}
    (ha : s.awake = true) (hk : b.kind = .aerialCal mask options amp) (hd : ∃ d ∈ s.ledger, d.order = tk.order) :
    s.act (.cal tk b m) = s.push (.cal tk b m) := by
  have hany : (s.ledger.any fun d => d.order == tk.order) = true := by simpa using hd
  have happly : s.apply (.cal tk b m) = s.push (.cal tk b m) := by
    change s.calEvent tk b m = _
    rw [State.calEvent, hk]
    dsimp only
    rw [hany]
    rfl
  rw [State.act_unrecorded ha (by rw [happly]; rfl), happly]

theorem State.act_cal {s : State} {tk : Ticket} {b : Booking} {m : Measurement} {mask options amp : Nat}
    (ha : s.awake = true) (hk : b.kind = .aerialCal mask options amp) (hd : ∀ d ∈ s.ledger, d.order ≠ tk.order) :
    s.act (.cal tk b m) =
      (s.applyCal b mask options m).drew.done tk ((s.applyCal b mask options m).calResults b mask m) := by
  have hany : (s.ledger.any fun d => d.order == tk.order) = false := by
    rw [List.any_eq_false]
    exact fun d hmem => by simpa using hd d hmem
  have happly : s.apply (.cal tk b m) =
      (s.applyCal b mask options m).drew.done tk ((s.applyCal b mask options m).calResults b mask m) := by
    change s.calEvent tk b m = _
    rw [State.calEvent, hk]
    dsimp only
    rw [hany]
    rfl
  rw [State.act_unrecorded ha ?_, happly]
  rw [happly]
  exact congrArg (fun u => u.log) (s.applyCal_offCal b mask options m)

theorem measurementsAnswer : Claim.MeasurementsAnswer := by
  refine ⟨fun e m s b tk h ha hend hc ht => ?_, fun tk b m s mask options amp ha hk =>
    ⟨State.act_cal_waits ha hk, fun hd => ?_⟩⟩
  · obtain ⟨steps, hb', hvector, hcal⟩ := State.measurement_ends m h ha hend hc ht
    exact ⟨_, hb', rfl, fun mode a amp hk => ⟨_, hvector mode a amp hk, s.vectorResults_fields b steps m⟩, hcal⟩
  · obtain ⟨hframe, hfield⟩ := s.applyCal_frame b mask options m
    obtain ⟨hlen, hservice, hentries⟩ := (s.applyCal b mask options m).calResults_fields b mask m
    have hchannels : ((s.applyCal b mask options m).field.ch) = (s.calibrated b mask options m).field.ch :=
      congrArg Field.ch (s.applyCal_field b mask options m)
    have hisolation := (congrArg Field.isolation (s.applyCal_field b mask options m)).trans
      (s.calibrated_isolation b mask options m)
    refine ⟨(s.applyCal b mask options m).drew, _, State.act_cal ha hk hd, ?_, hlen, hfield, hservice, fun n hn => ?_,
      fun n c hn hm hp hch => ?_, fun ho => ?_, fun ho => ?_, State.applyCal_unstaged, fun hw n hn hm ho => ?_,
      fun hw n hn hm ho => ?_⟩
    · exact congrArg State.drew hframe
    · exact (hentries n hn).trans (State.calEntry_alike (s.applyCal_alike b mask options m) mask m n)
    · change (s.applyCal b mask options m).field.ch[n]? = _
      rw [hchannels, State.calibrated_passed options hn hm hp, hch]
      rfl
    · exact hisolation.trans (if_neg (by simp [ho]))
    · exact hisolation.trans (if_pos ho)
    · change ((s.applyCal b mask options m).cfg.stage.getD []).readBytes _ _ = _
      rw [State.applyCal_stage (by simp [ho]) hn hm, Option.getD_some]
      exact State.readBytes_foldl_calImage (by omega) (by omega) (fun img h => s.readBytes_calImage_trim b m mask n h ho)
        (mem_bitsIn.mpr ⟨hn, hm⟩) hw
    · change ((s.applyCal b mask options m).cfg.stage.getD []).readBytes _ _ = _
      rw [State.applyCal_stage (by simp [ho]) hn hm, Option.getD_some]
      exact State.readBytes_foldl_calImage (by omega) (by omega) (fun img h => s.readBytes_calImage_gains b m mask n h ho)
        (mem_bitsIn.mpr ⟨hn, hm⟩) hw

/-- Settles O25: a booking that is over is released and answered by its kind, PHASE_REF goes with its record, and the results of
the measurements are their tables. -/
theorem bookingsAreAnswered : Obligations.BookingsAreAnswered := ⟨bookingsEnd, phaseRefIsWritten, measurementsAnswer⟩

end Sys2Proof.Machine
end

section
/-! PROOF. The detune ping, its confirmation and the VBAT samples asleep (R88, R112, R113, R198, R199, R414; O60). -/

namespace Sys2Proof.Machine

open Sys2Proof

/-! ### Channels that a ping reaches -/

/-- A change to one channel that the list of channels has. -/
theorem State.onChannel_eq_set {s : State} {n : Nat} {c : Channel} (hc : s.field.ch[n]? = some c) (f : Channel → Channel) :
    s.onChannel n f = { s with field := { s.field with ch := s.field.ch.set n (f c) } } := by
  rw [State.onChannel, List.modify_eq_set_getElem?, hc]
  rfl

theorem State.pingTrip_eq_set {s : State} {n : Nat} {c : Channel} (hc : s.field.ch[n]? = some c) :
    s.pingTrip n = { s with field := { s.field with ch := s.field.ch.set n { c with pingTripped := true } } } :=
  State.onChannel_eq_set hc fun c => { c with pingTripped := true }

theorem State.followPing_none {s : State} {r : PingResponse} {c : Channel} (hc : s.field.ch[r.aerial]? = some c)
    (hb : c.base = none) : s.followPing r =
      { s with field := { s.field with ch := s.field.ch.set r.aerial { c with base := some (r.i, r.q, 0) } } } :=
  (State.onChannel_eq_set hc _).trans (by rw [hb])

theorem State.followPing_some {s : State} {r : PingResponse} {c : Channel} {b : Int × Int × Nat}
    (hc : s.field.ch[r.aerial]? = some c) (hb : c.base = some b) : s.followPing r =
      { s with field := { s.field with ch := s.field.ch.set r.aerial { c with base := some (followBase r.i r.q b) } } } :=
  (State.onChannel_eq_set hc _).trans (by rw [hb])

theorem State.setBase_some {s : State} {r : PingResponse} {c : Channel} {b : Int × Int × Nat}
    (hc : s.field.ch[r.aerial]? = some c) (hb : c.base = some b) : s.setBase r = s := by
  simp [State.setBase, List.getD_eq_getElem?_getD, hc, hb]

theorem State.pingExceeds_none {s : State} {r : PingResponse} {c : Channel} (hc : s.field.ch[r.aerial]? = some c)
    (hb : c.base = none) : s.pingExceeds r = false := by
  simp [State.pingExceeds, List.getD_eq_getElem?_getD, hc, hb]

/-- The response is off its baseline, a value over 16^n, by more than the threshold in units of 0.1 % (R113). -/
theorem State.pingExceeds_iff {s : State} {r : PingResponse} {c : Channel} {i q : Int} {n : Nat}
    (hc : s.field.ch[r.aerial]? = some c) (hb : c.base = some (i, q, n)) : s.pingExceeds r = true ↔
      (detuneThresh s.cfg.cur ^ 2 : Int) * (i * i + q * q) <
        1000000 * ((r.i * 16 ^ n - i) * (r.i * 16 ^ n - i) + (r.q * 16 ^ n - q) * (r.q * 16 ^ n - q)) := by
  simp [State.pingExceeds, List.getD_eq_getElem?_getD, hc, hb, exceeds]

/-! ### What a ping leaves alone -/

/-- Only channels of the aerials listed may differ. -/
def State.Reaches (l : List Nat) (s t : State) : Prop :=
  t = { s with field := { s.field with ch := t.field.ch } } ∧ ∀ n, n ∉ l → t.field.ch[n]? = s.field.ch[n]?

theorem State.Reaches.refl (l : List Nat) (s : State) : State.Reaches l s s := ⟨rfl, fun _ _ => rfl⟩

theorem State.Reaches.trans {l : List Nat} {s t u : State} (h : State.Reaches l s t) (g : State.Reaches l t u) :
    State.Reaches l s u := by
  obtain ⟨hframe, hch⟩ := h
  obtain ⟨gframe, gch⟩ := g
  exact ⟨gframe.trans (by rw [hframe]), fun n hn => (gch n hn).trans (hch n hn)⟩

theorem State.reaches_onChannel {l : List Nat} {n : Nat} (hn : n ∈ l) (s : State) (f : Channel → Channel) :
    State.Reaches l s (s.onChannel n f) := by
  refine ⟨rfl, fun m hm => ?_⟩
  rw [State.onChannel_getElem?, if_neg (by rintro rfl; exact hm hn)]

theorem State.reaches_followPing {l : List Nat} {r : PingResponse} (hr : r.aerial ∈ l) (s : State) :
    State.Reaches l s (s.followPing r) := State.reaches_onChannel hr s _

theorem State.reaches_setBase {l : List Nat} {r : PingResponse} (hr : r.aerial ∈ l) (s : State) :
    State.Reaches l s (s.setBase r) := by
  unfold State.setBase
  split
  · exact s.reaches_followPing hr
  · exact .refl l s

/-- Responses of listed aerials, each of which reaches its own channel, reach listed channels together. -/
theorem State.reaches_foldl {l : List Nat} {f : State → PingResponse → State}
    (hf : ∀ (r : PingResponse), r.aerial ∈ l → ∀ s, State.Reaches l s (f s r)) (rs : List PingResponse)
    (hrs : ∀ r ∈ rs, r.aerial ∈ l) (s : State) : State.Reaches l s (rs.foldl f s) :=
  List.foldlRecOn rs f (.refl l s) fun t ht r hr => ht.trans (hf r (hrs r hr) t)

/-- The bursts of a ping are driven. -/
def State.pinged (s : State) (cycles : Nat) : State :=
  { s with field := { s.field with bursts := s.pingAerials.map s.pingBurst, lastPing := cycles } }

/-- A ping drives its bursts, and its responses change their aerials' channels and which exceeded. -/
theorem State.ping_frame (s : State) (r : List PingResponse) (cycles : Nat) : ∃ t e,
    State.Reaches s.pingAerials (s.pinged cycles) t ∧ s.ping r cycles = { t with field := { t.field with exceeded := e } } := by
  have mine : ∀ p : PingResponse → Bool, ∀ x ∈ (r.filter fun x => s.pingAerials.contains x.aerial).filter p,
      x.aerial ∈ s.pingAerials := fun p x hx => by
    simpa using (List.mem_filter.mp (List.mem_of_mem_filter hx)).2
  have trips := State.reaches_foldl (f := fun s x => s.pingTrip x.aerial) (fun x hx s => s.reaches_onChannel hx _) _
    (mine (·.trip)) (s.pinged cycles)
  rw [State.ping]
  dsimp only
  split
  · exact ⟨_, _, trips.trans (State.reaches_foldl (fun _ => State.reaches_followPing) _ (mine _) _), rfl⟩
  · exact ⟨_, _, trips.trans (State.reaches_foldl (fun _ => State.reaches_setBase) _ (mine _) _), rfl⟩

/-! ### A ping with one response -/

theorem State.ping_singleton {s : State} {r : PingResponse} (hr : r.aerial ∈ s.pingAerials) (cycles : Nat) :
    s.ping [r] cycles =
      if r.trip then (s.pinged cycles).pingTrip r.aerial
      else if s.pingExceeds r then
        { (s.pinged cycles).setBase r with field := { ((s.pinged cycles).setBase r).field with exceeded := [r.aerial] } }
      else (s.pinged cycles).followPing r := by
  rw [State.ping]
  cases ht : r.trip
  · cases he : s.pingExceeds r <;> simp [hr, ht, he, State.pinged]
  · simp [hr, ht, State.pinged]

/-! ### DETUNE_PING -/

theorem exec_detunePing_due {s : State} {cycles : Nat} (hd : s.pingDue cycles = true) (hv : s.field.vbatAt = some cycles)
    (r : List PingResponse) : exec (.detunePing r cycles) s = .next (s.ping r cycles) :=
  congrArg Host.Outcome.next (if_pos (by simp [hd, hv]))

theorem exec_detunePing_idle {s : State} {cycles : Nat} (h : s.pingDue cycles = false ∨ s.field.vbatAt ≠ some cycles)
    (r : List PingResponse) : exec (.detunePing r cycles) s = .next s :=
  congrArg Host.Outcome.next (if_neg (by simpa [imp_iff_not_or] using h))

theorem State.pings_eq_false {s : State} (h : s.power.life ≠ .asleep ∨ pingEn s.cfg.cur = false) : s.pings = false := by
  obtain h | h := h <;> simp [State.pings, State.pingsEnabled, h]

theorem State.pingDue_of_not_pings {s : State} (h : s.pings = false) (cycles : Nat) : s.pingDue cycles = false := by
  simp [State.pingDue, h]

theorem State.pingDue_iff (s : State) (cycles : Nat) : s.pingDue cycles = true ↔
    s.pings = true ∧ s.field.pingStopped = false ∧ s.field.lastPing + s.pingPeriod cycles ≤ cycles := by
  simp [State.pingDue, and_assoc]

theorem pingsFallDue : Claim.PingsFallDue := by
  refine fun s r cycles => ⟨fun h => exec_detunePing_idle ?_ r, fun hp hs ht hv => ?_, State.pings_eq_false⟩
  · by_contra hn
    obtain ⟨hd, hv⟩ := not_or.mp hn
    obtain ⟨hp, hs, ht⟩ := (s.pingDue_iff cycles).mp (by simpa using hd)
    obtain h | h | h | h := h
    · simp [h] at hp
    · simp [h] at hs
    · exact absurd ht (not_le.mpr h)
    · exact hv h
  · obtain ⟨t, e, ⟨hframe, hch⟩, hping⟩ := s.ping_frame r cycles
    refine ⟨_, exec_detunePing_due ((s.pingDue_iff cycles).mpr ⟨hp, hs, ht⟩) hv r, ?_⟩
    rw [hping]
    refine ⟨by rw [hframe]; rfl, ?_, by rw [hframe]; rfl, hch⟩
    rw [hframe]
    exact (List.map_map ..).trans (List.map_id _)

/-! ### PING_CONFIRM -/

/-- One aerial is driven alone, and its exceedance is taken up. -/
def State.pingedAlone (s : State) (n : Nat) : State :=
  { s with field := { s.field with exceeded := s.field.exceeded.filter (· != n), bursts := [s.pingBurst n] } }

theorem State.pingedAlone_eq {s : State} {n : Nat} (h : s.field.exceeded = [n]) : s.pingedAlone n =
    { s with field := { s.field with bursts := [s.pingBurst n], exceeded := [] } } := by
  simp [State.pingedAlone, h]

/-- The second response exceeds too: the aerial is confirmed. -/
def State.pingedConfirmed (s : State) (n : Nat) : State :=
  { s.pingedAlone n with field := { (s.pingedAlone n).field with confirmed := s.field.confirmed ||| 2 ^ n } }

theorem State.pingedConfirmed_ne (s : State) (n : Nat) : (s.pingedConfirmed n).field.confirmed ≠ 0 := by
  simp [State.pingedConfirmed, Nat.or_eq_zero_iff]

theorem State.pings_iff (s : State) : s.pings = true ↔ s.power.life = .asleep ∧ s.pingsEnabled = true := by
  simp [State.pings]

theorem State.pingBurst_target_ne {s : State} {n : Nat} (h : n ∈ s.pingAerials) : (s.pingBurst n).target ≠ 0 := by
  have := (List.mem_filter.mp h).2
  simp only [Bool.and_eq_true, bne_iff_ne] at this
  exact this.2

theorem exec_pingConfirm_idle {s : State} {r : PingResponse} {cycles : Nat} (h : s.wakesNow = false ∨
    pingEn s.cfg.cur = false ∨ r.aerial ∉ s.field.exceeded ∨ cycles < s.field.lastPing + 131) :
    exec (.pingConfirm r cycles) s = .next s := by
  refine congrArg Host.Outcome.next (if_neg ?_)
  obtain h | h | h | h := h
  · simp [h]
  · simp [State.pingsEnabled, h]
  · simp [h]
  · simp [Nat.not_le.mpr h]

theorem exec_pingConfirm_due {s : State} {r : PingResponse} {cycles : Nat} (hp : s.pings = true)
    (hr : r.aerial ∈ s.pingAerials) (he : r.aerial ∈ s.field.exceeded) (ht : s.field.lastPing + 131 ≤ cycles) :
    exec (.pingConfirm r cycles) s = .next
      (if r.trip then (s.pingedAlone r.aerial).pingTrip r.aerial
      else if s.pingExceeds r then
        (s.pingedConfirmed r.aerial).wakeBy .ping cycles
      else s.pingedAlone r.aerial) := by
  obtain ⟨hl, hen⟩ := s.pings_iff.mp hp
  refine congrArg Host.Outcome.next ((if_pos ?_).trans (if_neg (State.pingBurst_target_ne hr)))
  simp [State.wakesNow, hl, hen, he, ht]

/-- A confirmed ping wakes the sleeping device where entry 6 allows it. -/
theorem State.wakeBy_ping {s : State} (hl : s.power.life = .asleep) (hc : s.field.confirmed ≠ 0)
    (hw : trigWake s.cfg.cur 6 = true) (cycles : Nat) : s.wakeBy .ping cycles =
      { s with power := { s.power with wakeCycle := some cycles, life := .starting, nextCause := 0x27 } } := by
  simp [State.wakeBy, State.sourceWakes, State.wakeUp, wakeCause, hl, hc, hw]

/-! ### STANDBY_VBAT_SAMPLE -/

theorem exec_standbyVbatSample_idle {s : State} {v : VbatSample} (h : s.vbatDue v.cycles = false) :
    exec (.standbyVbatSample v) s = .next s :=
  congrArg Host.Outcome.next (if_neg (by simp [h]))

theorem State.vbatDue_iff (s : State) (cycles : Nat) : s.vbatDue cycles = true ↔ s.pings = true ∧
    (if s.field.pingStopped = true then s.field.vbatAt.getD 0 + 524288 ≤ cycles else s.pingDue cycles = true) := by
  rw [State.vbatDue, Bool.and_eq_true]
  split <;> simp

theorem pingsWatchTheHandles : Claim.PingsWatchTheHandles := by
  have above : ∀ {b m : Nat}, b + 400 ≤ m → ¬ m < b := by omega
  refine fun s r c cycles mv => ⟨fun h => exec_detunePing_idle (.inl ?_) _, exec_pingConfirm_idle,
    fun h => exec_standbyVbatSample_idle ?_, fun hp hc hr => ?_,
    fun h => ⟨_, congrArg Host.Outcome.next (if_pos ((s.vbatDue_iff cycles).mpr h)), fun hs => ?_, fun hs => ?_,
      fun hl => ?_, fun hl => ?_, rfl⟩⟩
  · exact State.pingDue_of_not_pings (State.pings_eq_false h) cycles
  · simpa using mt (s.vbatDue_iff cycles).mp h
  · have due := fun (hd : s.pingDue cycles = true) hv => (exec_detunePing_due hd hv [r]).trans
      (congrArg Host.Outcome.next (State.ping_singleton hr cycles))
    have confirm := fun (he : s.field.exceeded = [r.aerial]) (ht : s.field.lastPing + 131 ≤ cycles) =>
      exec_pingConfirm_due hp hr (he ▸ List.mem_singleton_self _) ht
    refine ⟨fun ht hd hv => ?_, fun ht he h131 => ?_, fun ht hb hd hv => ?_, fun i q n ht hb => ⟨fun hd hv hf => ?_,
      fun hd hv hf => ?_, fun hf he h131 hw => ?_, fun hf he h131 => ?_⟩⟩
    · rw [due hd hv, if_pos ht, State.pingTrip_eq_set (s := s.pinged cycles) hc]
      rfl
    · rw [confirm he h131, if_pos ht, State.pingTrip_eq_set (s := s.pingedAlone r.aerial) hc, State.pingedAlone_eq he]
    · rw [due hd hv, if_neg (Bool.eq_false_iff.mp ht), if_neg (Bool.eq_false_iff.mp (State.pingExceeds_none hc hb)),
        State.followPing_none (s := s.pinged cycles) hc hb]
      rfl
    · rw [due hd hv, if_neg (Bool.eq_false_iff.mp ht), if_neg (mt (State.pingExceeds_iff hc hb).mp hf),
        State.followPing_some (s := s.pinged cycles) hc hb]
      rfl
    · rw [due hd hv, if_neg (Bool.eq_false_iff.mp ht), if_pos ((State.pingExceeds_iff hc hb).mpr hf),
        State.setBase_some (s := s.pinged cycles) hc hb]
      rfl
    · rw [confirm he h131, if_neg (Bool.eq_false_iff.mp ht), if_pos ((State.pingExceeds_iff hc hb).mpr hf),
        State.wakeBy_ping (s := s.pingedConfirmed r.aerial) (s.pings_iff.mp hp).1 (s.pingedConfirmed_ne _) hw,
        State.pingedConfirmed, State.pingedAlone_eq he]
    · rw [confirm he h131, if_neg (Bool.eq_false_iff.mp ht), if_neg (mt (State.pingExceeds_iff hc hb).mp hf),
        State.pingedAlone_eq he]
  · simp [hs]
  · simp +contextual [above hs, hs]
  · simp [hl]
  · simp [above hl, hl]

end Sys2Proof.Machine
end

section
/-! PROOF. Edges and episodes that the moss domain counts asleep (R222, R223, R397), and O60 as a whole. -/

namespace Sys2Proof.Machine

open Sys2Proof

/-! ### Episodes -/

theorem Motion.endEpisode_eq {m : Motion} {last : Nat} (h : m.lastPulse = some last) : m.endEpisode =
    { m with
      openEpisode := false
      episodes := m.episodes.modify (m.episodes.length - 1) fun e => { e with fin := (last + 65536) / 32768 } } := by
  simp [Motion.endEpisode, h, mossSecond]

theorem openEpisodes_of_room {l : List Episode} (h : l.length < 16) (second : Bool) (cycle : Nat) :
    openEpisodes second cycle l = l ++ [Episode.count second ⟨cycle / 32768, 0, 0, 0, false⟩] := if_pos h

/-- The sixteenth episode absorbs what follows (R223). -/
theorem length_openEpisodes_of_full {l : List Episode} (h : l.length = 16) (second : Bool) (cycle : Nat) :
    (openEpisodes second cycle l).length = 16 := by
  rw [openEpisodes, if_neg (by omega), List.length_modify, h]

/-- An edge within 2 s of the last one goes into the episode that is open. -/
theorem Motion.sleepEdge_near {m : Motion} {cycle last : Nat} (ho : m.openEpisode = true) (hl : m.lastPulse = some last)
    (h : cycle < last + 65536) (second : Bool) :
    (m.sleepEdge second cycle).episodes = m.episodes.modify (m.episodes.length - 1) (Episode.count second) := by
  simp [Motion.sleepEdge, ho, hl, h, mossSecond]

/-- Where no episode is open an edge opens one. -/
theorem Motion.sleepEdge_opens {m : Motion} (ho : m.openEpisode = false) (second : Bool) (cycle : Nat) :
    (m.sleepEdge second cycle).episodes = openEpisodes second cycle m.episodes := by
  simp [Motion.sleepEdge, ho]

@[simp] theorem Motion.endEpisode_levels (m : Motion) :
    m.endEpisode.level0 = m.level0 ∧ m.endEpisode.level1 = m.level1 ∧ m.endEpisode.odoM = m.odoM := by
  unfold Motion.endEpisode
  split <;> simp

/-- The end of an episode that an edge comes too late for changes neither the levels nor the odometer. -/
theorem Motion.sleepEdge_levels (m : Motion) (second : Bool) (cycle : Nat) :
    (m.sleepEdge second cycle).level0 = m.level0 ∧ (m.sleepEdge second cycle).level1 = m.level1 ∧
      (m.sleepEdge second cycle).odoM = m.odoM := by
  unfold Motion.sleepEdge
  dsimp only
  split
  next => exact m.endEpisode_levels
  next => exact ⟨rfl, rfl, rfl⟩

/-! ### Levels -/

/-- A speed input shows a level. -/
def Motion.showing (m : Motion) (second level : Bool) : Motion :=
  { m with level0 := if second then m.level0 else level, level1 := if second then level else m.level1 }

theorem Motion.sleepLevel_same {m : Motion} {second level : Bool} (h : level = if second then m.level1 else m.level0)
    (falling : Bool) (cycle : Nat) : m.sleepLevel falling second level cycle = m := if_pos (by simpa using h)

theorem Motion.sleepLevel_uncounted {m : Motion} {falling second level : Bool}
    (h : level ≠ if second then m.level1 else m.level0) (hf : level ≠ !falling) (cycle : Nat) :
    m.sleepLevel falling second level cycle = m.showing second level :=
  (if_neg (by simpa using h)).trans (if_neg (by simpa using hf))

theorem Motion.sleepLevel_counted {m : Motion} {falling second level : Bool}
    (h : level ≠ if second then m.level1 else m.level0) (hf : level = !falling) (cycle : Nat) :
    m.sleepLevel falling second level cycle = (m.showing second level).sleepEdge second cycle :=
  (if_neg (by simpa using h)).trans (if_pos (by simpa using hf))

/-! ### SLEEP_PULSE_EDGE and EPISODE_END -/

theorem exec_sleepPulseEdge_idle {s : State} {x : SpeedSamples} (h : s.mossCounts = false ∨ x.count < 2) (second : Bool)
    (cycle : Nat) : exec (.sleepPulseEdge second cycle x) s = .next s := by
  refine congrArg Host.Outcome.next (if_neg ?_)
  obtain h | h := h
  · simp [h]
  · simp [Nat.not_le.mpr h]

theorem exec_sleepPulseEdge_counts {s : State} {samples : Nat} (h : s.mossCounts = true) (hx : 2 ≤ samples)
    (second level : Bool) (cycle : Nat) : exec (.sleepPulseEdge second cycle ⟨level, samples⟩) s = .next
      { s with motion :=
        s.motion.sleepLevel (edgeFalling s.thal.cur (if second then 1 else 0)) second level cycle } :=
  congrArg Host.Outcome.next (if_pos (by simp [h, hx]))

theorem exec_episodeEnd_idle {s : State} {cycle : Nat}
    (h : s.mossCounts = false ∨ ∀ last, s.motion.lastPulse = some last → cycle < last + 65536) :
    exec (.episodeEnd cycle) s = .next s := by
  refine congrArg Host.Outcome.next ?_
  split
  next last hl =>
    refine if_neg ?_
    obtain h | h := h
    · simp [h]
    · simp [mossSecond, h last hl]
  next => rfl

theorem exec_episodeEnd_ends {s : State} {cycle last : Nat} (hm : s.mossCounts = true) (ho : s.motion.openEpisode = true)
    (hl : s.motion.lastPulse = some last) (h : last + 65536 ≤ cycle) :
    exec (.episodeEnd cycle) s = .next { s with motion := s.motion.endEpisode } := by
  refine congrArg Host.Outcome.next ?_
  rw [hl]
  exact if_pos (by simp [mossSecond, hm, ho, h])

theorem sleepMotionIsCounted : Claim.SleepMotionIsCounted := by
  intro s second level cycle samples
  refine ⟨fun h => ?_, fun h => exec_episodeEnd_idle (.inl h), fun hm hx hs hn => ?_, fun hm hx ⟨hs, hf⟩ => ?_,
    fun last hm ho hl h => ⟨_, exec_episodeEnd_ends hm ho hl h, ?_⟩,
    fun last hl h => exec_episodeEnd_idle (.inr fun l hl' => ?_)⟩
  · by_cases hidle : s.mossCounts = false ∨ samples < 2
    · exact exec_sleepPulseEdge_idle hidle second cycle
    · obtain ⟨hm, hx⟩ := not_or.mp hidle
      have hsame := (or_assoc.mpr h).resolve_left hidle
      rw [exec_sleepPulseEdge_counts (by simpa using hm) (not_lt.mp hx), Motion.sleepLevel_same hsame]
  · rw [exec_sleepPulseEdge_counts hm hx, Motion.sleepLevel_uncounted hs fun hf => hn ⟨hs, hf⟩]
    rfl
  · obtain ⟨h0, h1, hodo⟩ := (s.motion.showing second level).sleepEdge_levels second cycle
    refine ⟨_, exec_sleepPulseEdge_counts hm hx second level cycle, rfl, ?_⟩
    rw [Motion.sleepLevel_counted hs hf]
    refine ⟨?_, ?_, ?_, rfl, rfl, hodo, fun last ho hl h => ?_, fun ho hroom => ?_, fun ho hfull => ?_⟩
    · dsimp only
      rw [h0, h1]
      cases second <;> rfl
    · rintro rfl
      exact ⟨rfl, rfl⟩
    · rintro rfl
      exact ⟨rfl, rfl⟩
    · rw [Motion.sleepEdge_near (m := s.motion.showing second level) ho hl h second]
      exact List.length_modify ..
    · refine ⟨_, (Motion.sleepEdge_opens (m := s.motion.showing second level) ho second cycle).trans
        (openEpisodes_of_room hroom second cycle), ?_⟩
      cases second <;> exact ⟨rfl, rfl, rfl⟩
    · rw [Motion.sleepEdge_opens (m := s.motion.showing second level) ho second cycle]
      exact length_openEpisodes_of_full hfull second cycle
  · rw [Motion.endEpisode_eq hl]
    refine ⟨rfl, rfl, List.length_modify .., fun e he => ?_⟩
    rw [List.getLast?_eq_getElem?] at he
    simp only [List.length_modify, List.getElem?_modify_eq, Option.map_eq_map, Option.map_eq_some_iff] at he
    obtain ⟨e', -, rfl⟩ := he
    rfl
  · obtain rfl := Option.some.inj (hl.symm.trans hl')
    exact h

/-- Settles O60: a ping reaches the channels of its own aerials alone, and one response decides by its trip, its baseline and
the threshold; an edge counted goes into the open episode, or opens one, or the sixteenth takes it. -/
theorem sleepWatchesHandlesAndWheels : Obligations.SleepWatchesHandlesAndWheels :=
  ⟨pingsFallDue, pingsWatchTheHandles, sleepMotionIsCounted⟩

end Sys2Proof.Machine
end

section
/-! PROOF. The state before any boot, and byte images (R56, R201, R335, R342, R407): O2 as a whole. -/

namespace Sys2Proof.Machine

open Sys2Proof

theorem defaultConfig_wf : defaultConfig.wf = true := by
  unfold defaultConfig
  iterate 6 refine Mem.wf_writeBytes _ _ ?_
  exact List.foldlRecOn (motive := fun m => Mem.wf m = true) _ _ rfl fun _ h _ _ => Mem.wf_writeBytes _ _ h

theorem factoryThallus_wf : factoryThallus.wf = true := by
  unfold factoryThallus
  iterate 6 refine Mem.wf_writeBytes _ _ ?_
  rfl

theorem windowReset_wf : windowReset.wf = true := by
  unfold windowReset
  exact List.foldlRecOn (motive := fun m => Mem.wf m = true) _ _ rfl fun _ h _ _ =>
    Mem.wf_writeBytes _ _ (Mem.wf_writeBytes _ _ h)

theorem resetIsAnUnpersonalisedDevice : Claim.ResetIsAnUnpersonalisedDevice := by
  refine ⟨rfl, rfl, rfl, rfl, rfl, rfl, rfl, rfl, rfl, rfl, rfl, fun p => ?_, by rw [State.reset], by rw [State.reset],
    rfl, rfl, rfl, rfl⟩
  cases p with
  | a => exact ⟨rfl, rfl, rfl, rfl⟩
  | b => exact ⟨rfl, rfl, rfl, rfl⟩

/-- Of the images at reset only the defaults, the factory thallus and the registers of the timer window are not empty. -/
theorem resetImagesAreCanonical : Claim.ResetImagesAreCanonical := by
  have hempty : Mem.wf [] = true := rfl
  simp [Claim.ResetImagesAreCanonical, State.imagesWf, State.reset, defaultConfig_wf, factoryThallus_wf, windowReset_wf, hempty]

theorem imagesReadWhatWasWritten : Claim.ImagesReadWhatWasWritten := fun _ a v h =>
  ⟨Mem.wf_write a v h, Mem.read_write_same a v h, fun _ hb => Mem.read_write_other v hb⟩

/-- Settles O2: the defaults and the factory thallus are written byte by byte into an empty image, and each write keeps the
canonical form. -/
theorem resetIsANewDevice : Obligations.ResetIsANewDevice :=
  ⟨resetIsAnUnpersonalisedDevice, resetImagesAreCanonical, imagesReadWhatWasWritten⟩

end Sys2Proof.Machine
end

section
/-! PROOF. What the supply monitors do to the device and the ceilings to its bridges (R104 to R106, R201, R354 to R356, R403
to R406, R419): O57 as a whole. -/

namespace Sys2Proof.Machine

open Sys2Proof

/-! ### Bridges held off -/

theorem Channel.scaled_driven (base ss : Nat) (c : Channel) : (c.scaled base ss).driven = c.driven := by
  unfold Channel.scaled
  split <;> rfl

theorem Channel.scaled_zero_target {c : Channel} (h : c.driven = true) (base : Nat) : (c.scaled base 0).target = 0 := by
  rw [Channel.scaled, if_pos h]
  exact Nat.mul_zero base

/-- A driven channel that one of the scalings by 0 reaches has the target 0 behind all of them: none gives it another. -/
theorem State.foldl_scaled_zero_target {n : Nat} (l : List (Nat × Nat)) {s : State} {c : Channel}
    (hc : s.field.ch[n]? = some c) (hd : c.driven = true) (h : c.target = 0 ∨ ∃ x ∈ l, x.1 = n) :
    ∃ c', (l.foldl (fun s x => s.onChannel x.1 (Channel.scaled x.2 0)) s).field.ch[n]? = some c' ∧ c'.target = 0 := by
  induction l generalizing s c with
  | nil => exact ⟨c, hc, h.resolve_right (by simp)⟩
  | cons x l ih =>
    have hstep := s.onChannel_getElem? x.1 n (Channel.scaled x.2 0)
    by_cases hx : x.1 = n
    · rw [if_pos hx, hc] at hstep
      exact ih hstep ((c.scaled_driven x.2 0).trans hd) (.inl (Channel.scaled_zero_target hd x.2))
    · rw [if_neg hx, hc] at hstep
      exact ih hstep hd (h.imp_right fun ⟨y, hy, hyn⟩ =>
        ⟨y, (List.mem_cons.mp hy).resolve_left fun e => hx (e ▸ hyn), hyn⟩)

/-- With a scale of 0 the bridge of every aerial that a chosen booking drives is off. -/
theorem State.rescale_zero_target {s : State} {p : Booking → Bool} {n : Nat} {c : Channel} (hc : s.field.ch[n]? = some c)
    (hd : c.driven = true) (h : ∃ b ∈ s.field.bookings, p b = true ∧ ∃ d ∈ b.base, d.1 = n) :
    ∃ c', (s.rescale 0 p).field.ch[n]? = some c' ∧ c'.target = 0 := by
  obtain ⟨b, hb, hp, d, hdb, hdn⟩ := h
  have hmem : d ∈ (s.field.bookings.filter p).flatMap Booking.base :=
    List.mem_flatMap.mpr ⟨b, List.mem_filter.mpr ⟨hb, hp⟩, hdb⟩
  have hfold := State.foldl_scaled_zero_target _ hc hd (.inr ⟨d, hmem, hdn⟩)
  rwa [List.foldl_flatMap] at hfold

/-- What a change of chosen bookings keeps of each, the bookings keep. -/
theorem State.onBookings_map {α : Type} {g : Booking → α} {f : Booking → Booking} (hf : ∀ b, g (f b) = g b) (s : State)
    (p : Booking → Bool) : (s.onBookings p f).field.bookings.map g = s.field.bookings.map g := by
  simp only [State.onBookings, List.map_map, Function.comp_def, apply_ite g, hf, ite_self]

/-- A new scale changes nothing of a booking but that scale. -/
theorem State.rescale_map {α : Type} {g : Booking → α} (hg : ∀ b ss, g { b with ss := ss } = g b) (s : State) (ss : Nat)
    (p : Booking → Bool) : (s.rescale ss p).field.bookings.map g = s.field.bookings.map g := by
  refine (State.onBookings_map (fun b => hg b ss) _ p).trans (congrArg (List.map g) ?_)
  exact foldl_keeps (fun t : State => t.field.bookings) (fun s (b : Booking) =>
    foldl_keeps (fun t : State => t.field.bookings) (f := fun s (x : Nat × Nat) => s.onChannel x.1 (Channel.scaled x.2 ss))
      (fun _ _ => rfl) b.base s) _ s

/-! ### The supply ceiling -/

theorem State.ceiling_of_off {s : State} (h : s.power.supplyOff = true ∨ s.power.thermalOff = true) : s.ceiling = 0 :=
  if_pos (by simpa using h)

theorem State.ceiling_of_critical {s : State} (hs : s.power.supplyOff = false) (ht : s.power.thermalOff = false)
    (hb : s.power.batteryCritical = true) : s.ceiling = min 1000000 s.power.thermalCeiling := by
  rw [State.ceiling, hs, ht, if_neg (by decide), if_pos hb]

theorem State.supplyScale_le (s : State) : s.supplyScale ≤ 256 := by
  unfold State.supplyScale
  extract_lets est
  split
  · exact Nat.zero_le _
  · split
    · exact le_refl _
    · exact min_le_left _ _

theorem State.driveOnly_supplyCut (s : State) : s.DriveOnly s.supplyCut :=
  ((s.driveOnly_rescale 0 _).trans (State.driveOnly_onBookings _ _ _)).trans rfl

theorem State.supplyCut_bookings {α : Type} {g : Booking → α} (hss : ∀ b ss, g { b with ss := ss } = g b)
    (hcut : ∀ b : Booking, g { b with cut := true } = g b) (s : State) :
    s.supplyCut.field.bookings.map g = s.field.bookings.map g :=
  (State.onBookings_map hcut _ _).trans (s.rescale_map hss 0 _)

theorem exec_supplyCut {c : Instr} (h : c = .vbatLowDrive ∨ c = .vdrvRange ∨ c = .vbatHigh) (s : State) :
    exec c s = .next s.supplyCut := by
  obtain rfl | rfl | rfl := h <;> rfl

theorem exec_supplyCeilingReturn_stays {s : State} (h : s.awake = false ∨ s.power.supplyOff = false) :
    exec .supplyCeilingReturn s = .next s :=
  congrArg Host.Outcome.next (if_neg (by simpa [← Bool.not_eq_true, imp_iff_not_or] using h))

theorem exec_supplyCeilingReturn_returns {s : State} (ha : s.awake = true) (ho : s.power.supplyOff = true) :
    exec .supplyCeilingReturn s = .next { s with
      power := { s.power with supplyOff := false }
      field := { s.field with scale := State.supplyScale { s with power := { s.power with supplyOff := false } } } } :=
  congrArg Host.Outcome.next (if_pos (by simp [ha, ho]))

theorem exec_battery_awake {s : State} (h : s.awake = true) :
    exec .batteryCritical s = .next { s with power := { s.power with batteryCritical := true } } ∧
      exec .batteryCriticalEnd s = .next { s with power := { s.power with batteryCritical := false } } :=
  ⟨congrArg Host.Outcome.next (if_pos h), congrArg Host.Outcome.next (if_pos h)⟩

theorem exec_battery_not_awake {s : State} (h : s.awake = false) :
    exec .batteryCritical s = .next s ∧ exec .batteryCriticalEnd s = .next s :=
  ⟨congrArg Host.Outcome.next (if_neg (by simp [h])), congrArg Host.Outcome.next (if_neg (by simp [h]))⟩

theorem ceilingsHoldTheBridges : Claim.CeilingsHoldTheBridges := by
  intro s
  refine ⟨fun c hc => ⟨s.supplyCut, exec_supplyCut hc s, rfl, State.ceiling_of_off (.inl rfl), rfl, fun ha => ?_,
      State.supplyCut_bookings (fun _ _ => rfl) (fun _ => rfl) s, fun n ch hch hd hb => ?_, s.driveOnly_supplyCut⟩,
    exec_supplyCeilingReturn_stays,
    fun ha ho => ⟨_, exec_supplyCeilingReturn_returns ha ho, rfl, rfl, State.supplyScale_le _⟩,
    exec_battery_awake, exec_battery_not_awake, State.ceiling_of_critical⟩
  · exact Bool.or_eq_true_iff.mpr (.inr ha)
  · obtain ⟨b, hb, hphase, hbase⟩ := hb
    exact State.rescale_zero_target hch hd ⟨b, hb, bne_iff_ne.mpr hphase, hbase⟩

/-! ### The thermal ceiling -/

theorem thermalAt_cool {t : Int} (h : t ≤ 161000) : thermalAt t = 3000000 := if_pos h

theorem thermalAt_falling {t : Int} (h : 161000 < t) (h' : t ≤ 165000) :
    (thermalAt t : Int) = 3000000 - 675 * (t - 161000) := by
  rw [thermalAt, if_neg (not_le.mpr h), if_pos h']
  omega

theorem thermalAt_floor {t : Int} (h : 165000 < t) : thermalAt t = 300000 := by
  rw [thermalAt, if_neg (by omega), if_neg (by omega)]

theorem State.thermal_off_iff (t : Int) (s : State) : (s.thermal t).power.thermalOff = true ↔
    170000 ≤ t ∨ (s.power.thermalOff = true ∧ 165000 ≤ t) := by
  simp [State.thermal]

/-- While the die is too hot the bridges have the scale 0. -/
theorem State.thermal_hot_scale {t : Int} {s : State} (h : (s.thermal t).power.thermalOff = true) :
    (s.thermal t).field.scale = 0 :=
  if_pos h

/-- While the die is not too hot the temperature sets the ceiling and nothing else. -/
theorem State.thermal_cool {t : Int} {s : State} (h : (s.thermal t).power.thermalOff = false) : s.thermal t =
    { s with power := { s.power with thermalOff := false, thermalCeiling := thermalAt t } } := by
  have hoff : (decide ((170000 : Int) ≤ t) || (s.power.thermalOff && decide ((165000 : Int) ≤ t))) = false := h
  simp [State.thermal, hoff]

theorem theDieLimitsTheBridges : Claim.TheDieLimitsTheBridges := by
  intro t s u off
  refine ⟨fun h => ?_, fun h => ?_, s.driveOnly_thermal t⟩
  · have hoff := (s.thermal_off_iff t).mpr h
    exact ⟨hoff, State.ceiling_of_off (.inr hoff), State.thermal_hot_scale hoff⟩
  · have hon : u.power.thermalOff = false := Bool.eq_false_iff.mpr (mt (s.thermal_off_iff t).mp h)
    have hu : u = _ := State.thermal_cool hon
    rw [hu]
    exact ⟨rfl, rfl, thermalAt_cool, thermalAt_falling, thermalAt_floor⟩

/-! ### The supply of the domains -/

theorem exec_vbatValid_powered {s : State} (h : s.power.life ≠ .unpowered) :
    exec .vbatValid s = .next { s with power := { s.power with vbatValid := true } } := by
  have hstays : s.mossOn = s := by
    unfold State.mossOn
    split
    · exact absurd ‹_› h
    · rfl
  rw [show exec .vbatValid s = execVbatValid s from rfl, execVbatValid, hstays]

theorem exec_vbatValid_unpowered {s : State} (h : s.power.life = .unpowered) : exec .vbatValid s = .next { s with
    power := { s.power with vbatValid := true, life := .starting, nextCause := 1, mossAnew := true } } := by
  rw [show exec .vbatValid s = execVbatValid s from rfl, execVbatValid, State.mossOn, h]

theorem exec_vbatReset (s : State) : exec .vbatReset s = execVbatReset s := rfl

theorem exec_vbatReset_running {s : State}
    (h : s.power.life = .awake ∨ s.power.life = .sleepPending ∨ s.power.life = .bootStopped) :
    exec .vbatReset s = .next (State.systemReset 2 { s with power := { s.power with vbatValid := false } }) := by
  rw [exec_vbatReset, execVbatReset]
  obtain h | h | h := h <;> rw [h]

theorem exec_vbatReset_booting {s : State} (h : s.power.life = .starting) (hv : s.power.vbatValid = true) :
    exec .vbatReset s = .next { s with power := { s.power with vbatValid := false, nextCause := 2 } } := by
  rw [exec_vbatReset, execVbatReset, h]
  exact congrArg Host.Outcome.next (if_pos hv)

theorem exec_vbatReset_idle {s : State}
    (h : s.power.life = .asleep ∨ s.power.life = .unpowered ∨ (s.power.life = .starting ∧ s.power.vbatValid = false)) :
    exec .vbatReset s = .next { s with power := { s.power with vbatValid := false } } := by
  rw [exec_vbatReset, execVbatReset]
  obtain h | h | ⟨h, hv⟩ := h
  · rw [h]
  · rw [h]
  · rw [h]
    exact congrArg Host.Outcome.next (if_neg (by simp [hv]))

theorem exec_vholdStop_supplied {s : State} (h : s.power.vbatValid = true) : exec .vholdStop s = .next s :=
  congrArg Host.Outcome.next (if_pos h)

theorem exec_vholdStop_unsupplied {s : State} (h : s.power.vbatValid = false) : exec .vholdStop s = .next s.mossStops :=
  congrArg Host.Outcome.next (if_neg (by simp [h]))

theorem supplyLossStopsTheDevice : Claim.SupplyLossStopsTheDevice := fun _ =>
  ⟨exec_vbatValid_powered, exec_vbatValid_unpowered, exec_vbatReset_running, exec_vbatReset_booting, exec_vbatReset_idle,
    rfl, rfl, exec_vholdStop_supplied, fun h => ⟨_, exec_vholdStop_unsupplied h, rfl, rfl, rfl, rfl, rfl, rfl, rfl, rfl, rfl,
      rfl, rfl, rfl, rfl, rfl, rfl, rfl, rfl, rfl⟩⟩

/-- Settles O57: a scale of 0 gives every driven aerial of a running exchange the target 0 and no later scaling another, and
leaves the exchange; in range again the scale is at most 1. -/
theorem supplyLimitsTheDevice : Obligations.SupplyLimitsTheDevice :=
  ⟨supplyLossStopsTheDevice, ceilingsHoldTheBridges, theDieLimitsTheBridges⟩

end Sys2Proof.Machine
end

section
/-! PROOF. The words of the timer window: what a read gives after the writes of a count, a start or a host (R228, Table 09.1). -/

namespace Sys2Proof.Machine

open Sys2Proof

/-! ### Words -/

theorem rword_lt (m : Mem) (a : Nat) : rword m a < 65536 := by
  have h := ofLe_lt (m.readBytes (2 * a) 2)
  simpa [rword, Mem.num, Mem.readBytes] using h

theorem wf_setRword {m : Mem} (h : m.wf = true) (a v : Nat) : (setRword a v m).wf = true := Mem.wf_writeBytes _ _ h

theorem rword_setRword_same {m : Mem} (h : m.wf = true) (a v : Nat) : rword (setRword a v m) a = v % 65536 := by
  have hread := Mem.readBytes_writeBytes_same (2 * a) (leN 2 v) h
  rw [length_leN] at hread
  rw [rword, setRword, Mem.num, hread, ofLe_leN, show (256 : Nat) ^ 2 = 65536 from rfl]

theorem rword_setRword_other (m : Mem) {a b : Nat} (v : Nat) (h : b ≠ a) : rword (setRword a v m) b = rword m b := by
  rw [rword, setRword, Mem.num, Mem.readBytes_writeBytes_other _ (by simp only [length_leN]; omega)]
  rfl

theorem wf_setRwords (l : List Nat) (v : Nat) {m : Mem} (h : m.wf = true) : (setRwords l v m).wf = true := by
  induction l generalizing v m with
  | nil => exact h
  | cons a l ih => exact ih (v / 65536) (wf_setRword h a (v % 65536))

theorem rword_setRwords_other {l : List Nat} {b : Nat} (v : Nat) (m : Mem) (h : b ∉ l) :
    rword (setRwords l v m) b = rword m b := by
  induction l generalizing v m with
  | nil => rfl
  | cons a l ih =>
    rw [setRwords, ih _ _ (List.not_mem_of_not_mem_cons h), rword_setRword_other _ _ (List.ne_of_not_mem_cons h)]

/-- A number reads the same where its words do. -/
theorem rwords_congr {m m' : Mem} {l : List Nat} (h : ∀ a ∈ l, rword m' a = rword m a) : rwords m' l = rwords m l := by
  induction l with
  | nil => rfl
  | cons a l ih =>
    rw [rwords, rwords, h a List.mem_cons_self, ih fun b hb => h b (List.mem_cons_of_mem a hb)]

theorem rwords_lt (m : Mem) (l : List Nat) : rwords m l < 65536 ^ l.length := by
  induction l with
  | nil => exact Nat.one_pos
  | cons a l ih =>
    have := rword_lt m a
    rw [rwords, List.length_cons, Nat.pow_succ]
    omega

theorem rwords_setRwords_same {l : List Nat} (hl : l.Nodup) (v : Nat) {m : Mem} (h : m.wf = true) :
    rwords (setRwords l v m) l = v % 65536 ^ l.length := by
  induction l generalizing v m with
  | nil => rw [rwords, List.length_nil, Nat.pow_zero, Nat.mod_one]
  | cons a l ih =>
    obtain ⟨ha, hl⟩ := List.nodup_cons.mp hl
    rw [rwords, setRwords, rword_setRwords_other _ _ ha, rword_setRword_same h, ih hl _ (wf_setRword h _ _), Nat.mod_mod,
      List.length_cons, Nat.pow_succ, Nat.mul_comm _ 65536, Nat.mod_mul]

theorem rwords_setRwords_other {l k : List Nat} (v : Nat) (m : Mem) (h : ∀ a ∈ k, a ∉ l) :
    rwords (setRwords l v m) k = rwords m k :=
  rwords_congr fun a ha => rword_setRwords_other v m (h a ha)

/-- A register of two words takes a number of 32 bits. -/
theorem rwords_setRwords_pair {a b : Nat} (hab : a ≠ b) (v : Nat) {m : Mem} (h : m.wf = true) :
    rwords (setRwords [a, b] v m) [a, b] = v % 2 ^ 32 :=
  (rwords_setRwords_same (by simpa using hab) v h).trans (by norm_num)

/-! ### Bits of a word -/

theorem testBit_ofNat_rword (m : Mem) (a i : Nat) : (BitVec.ofNat 16 (rword m a)).getLsbD i = (rword m a).testBit i := by
  rw [← BitVec.testBit_toNat, BitVec.toNat_ofNat, Nat.mod_eq_of_lt (rword_lt m a)]

theorem wf_mark {m : Mem} (h : m.wf = true) (a on off : Nat) : (mark a on off m).wf = true := wf_setRword h _ _

theorem rword_mark_other (m : Mem) {a b : Nat} (on off : Nat) (h : b ≠ a) : rword (mark a on off m) b = rword m b :=
  rword_setRword_other m _ h

theorem testBit_mark {m : Mem} (h : m.wf = true) (a on off : Nat) {i : Nat} (hi : i < 16) :
    (rword (mark a on off m) a).testBit i = (((rword m a).testBit i || on.testBit i) && !off.testBit i) := by
  rw [mark, rword_setRword_same h, Nat.mod_eq_of_lt (BitVec.isLt _), BitVec.testBit_toNat, BitVec.getLsbD_and,
    BitVec.getLsbD_or, BitVec.getLsbD_not, testBit_ofNat_rword, BitVec.getLsbD_ofNat, BitVec.getLsbD_ofNat]
  simp [hi]

theorem testBit_two_pow_eq (k i : Nat) : (2 ^ k).testBit i = (i == k) := by
  rw [Nat.testBit_two_pow]
  exact decide_eq_decide.mpr eq_comm

/-- Setting one bit of a word. -/
theorem testBit_mark_set {m : Mem} (h : m.wf = true) (a : Nat) {on k i : Nat} (hon : on = 2 ^ k) (hi : i < 16) :
    (rword (mark a on 0 m) a).testBit i = ((rword m a).testBit i || i == k) := by
  rw [testBit_mark h a on 0 hi, hon, testBit_two_pow_eq, Nat.zero_testBit, Bool.not_false, Bool.and_true]

/-- Clearing one bit of a word. -/
theorem testBit_mark_clear {m : Mem} (h : m.wf = true) (a : Nat) {off k i : Nat} (hoff : off = 2 ^ k) (hi : i < 16) :
    (rword (mark a 0 off m) a).testBit i = ((rword m a).testBit i && !(i == k)) := by
  rw [testBit_mark h a 0 off hi, hoff, testBit_two_pow_eq, Nat.zero_testBit, Bool.or_false]

/-! ### Timer registers -/

@[simp] theorem gtPaired_half (m : Mem) (n : Nat) : gtPaired m (n / 2 * 2) = gtPaired m n := by
  rw [gtPaired, gtPaired, Nat.mul_div_cancel _ two_pos]

/-- Chaining of timers stands while CHAIN of every timer does. -/
theorem gtPaired_congr {m m' : Mem} (h : ∀ k, (rword m' (gtBase k + 6)).testBit 14 = (rword m (gtBase k + 6)).testBit 14)
    (n : Nat) : gtPaired m' n = gtPaired m n := h _

theorem gtUpper_congr {m m' : Mem} (h : ∀ k, (rword m' (gtBase k + 6)).testBit 14 = (rword m (gtBase k + 6)).testBit 14)
    (n : Nat) : gtUpper m' n = gtUpper m n := by
  rw [gtUpper, gtUpper, gtPaired_congr h]

theorem gtWords_congr {m m' : Mem} (h : ∀ k, (rword m' (gtBase k + 6)).testBit 14 = (rword m (gtBase k + 6)).testBit 14)
    (n off : Nat) : gtWords m' n off = gtWords m n off := by
  rw [gtWords, gtWords, gtPaired_congr h]

theorem gtWords_unpaired {m : Mem} {n : Nat} (h : gtPaired m n = false) (off : Nat) :
    gtWords m n off = [gtBase n + off, gtBase n + off + 1] := by
  simp [gtWords, h]

theorem nodup_gtWords (m : Mem) (n off : Nat) : (gtWords m n off).Nodup := by
  unfold gtWords
  split
  · simp [gtBase]
    omega
  · simp

/-- CNT, PER and CMP of a timer are the first six words of its registers, or of those of its pair. -/
theorem mem_gtWords {m : Mem} {n off a : Nat} (h : a ∈ gtWords m n off) :
    ∃ k, a = gtBase k + off ∨ a = gtBase k + off + 1 := by
  unfold gtWords at h
  split at h
  · simp only [List.mem_cons, List.not_mem_nil, or_false] at h
    obtain h | h | h | h := h
    exacts [⟨_, .inl h⟩, ⟨_, .inr h⟩, ⟨_, .inl h⟩, ⟨_, .inr h⟩]
  · simp only [List.mem_cons, List.not_mem_nil, or_false] at h
    exact ⟨n, h⟩

/-- The words from CTL on are none of CNT, PER or CMP. -/
theorem gtBase_not_mem_gtWords (m : Mem) (n k : Nat) {off r : Nat} (hoff : off ≤ 4) (hr : 6 ≤ r) (hr' : r < 16) :
    gtBase k + r ∉ gtWords m n off := by
  intro h
  obtain ⟨j, hj⟩ := mem_gtWords h
  unfold gtBase at hj
  omega

end Sys2Proof.Machine
end

section
/-! PROOF. A count edge of a general timer, its actions and its outputs (R235 to R237, R240, R241, R244; O35). -/

namespace Sys2Proof.Machine

open Sys2Proof

/-! ### What one action leaves of the window -/

/-- From `m` to `m'` only CNT and STA of GTn change: the count stands or is cleared, and of STA only RUN, which may be cleared. -/
structure Acted (n : Nat) (m m' : Mem) (clears stop : Bool) : Prop where
  wf : m'.wf = true
  count : rwords m' (gtWords m n 0) = if clears then 0 else rwords m (gtWords m n 0)
  sta : ∀ i, i < 16 → (rword m' (gtBase n + 9)).testBit i = ((rword m (gtBase n + 9)).testBit i && !(stop && i == 15))
  other : ∀ a, a ∉ gtWords m n 0 → a ≠ gtBase n + 9 → rword m' a = rword m a

variable {n : Nat} {m m' m'' : Mem}

/-- The registers of a timer from CTL to PSC, and those below the timers, are no CNT and no STA. -/
theorem ctl_not_counted (m : Mem) (n k : Nat) {r : Nat} (hr : 6 ≤ r) (hr' : r < 9) :
    gtBase k + r ∉ gtWords m n 0 ∧ gtBase k + r ≠ gtBase n + 9 :=
  ⟨gtBase_not_mem_gtWords m n k (by omega) hr (by omega), by unfold gtBase; omega⟩

/-- What leaves all but CNT and STA of GTn alone leaves the chaining of timers. -/
theorem chain_of_other (h : ∀ a, a ∉ gtWords m n 0 → a ≠ gtBase n + 9 → rword m' a = rword m a) (k : Nat) :
    (rword m' (gtBase k + 6)).testBit 14 = (rword m (gtBase k + 6)).testBit 14 := by
  obtain ⟨hc, hs⟩ := ctl_not_counted m n k (r := 6) (by omega) (by omega)
  rw [h _ hc hs]

theorem Acted.words {c s : Bool} (h : Acted n m m' c s) (k off : Nat) : gtWords m' k off = gtWords m k off :=
  gtWords_congr (chain_of_other h.other) k off

theorem Acted.upper {c s : Bool} (h : Acted n m m' c s) (k : Nat) : gtUpper m' k = gtUpper m k :=
  gtUpper_congr (chain_of_other h.other) k

theorem Acted.refl (h : m.wf = true) : Acted n m m false false :=
  ⟨h, rfl, fun i _ => by simp, fun _ _ _ => rfl⟩

theorem Acted.trans {c c' s s' : Bool} (h : Acted n m m' c s) (h' : Acted n m' m'' c' s') :
    Acted n m m'' (c || c') (s || s') where
  wf := h'.wf
  count := by
    have hcount := h'.count
    rw [h.words, h.count] at hcount
    rw [hcount]
    cases c <;> cases c' <;> rfl
  sta i hi := by
    rw [h'.sta i hi, h.sta i hi]
    cases s <;> cases s' <;> simp
  other a hc hs := by
    rw [h'.other a (by rwa [h.words]) hs, h.other a hc hs]

/-- A step that is taken or not. -/
theorem Acted.cond {c s : Bool} (hm : m.wf = true) (h : Acted n m m' c s) (b : Bool) :
    Acted n m (if b then m' else m) (b && c) (b && s) := by
  cases b with
  | false => exact Acted.refl hm
  | true => simpa using h

theorem acted_stop (h : m.wf = true) : Acted n m (gtStop n m) false true where
  wf := wf_mark h _ _ _
  count := rwords_congr fun a ha => rword_mark_other _ _ _ fun he =>
    gtBase_not_mem_gtWords m n n (off := 0) (by omega) (r := 9) (by omega) (by omega) (he ▸ ha)
  sta i hi := by
    rw [gtStop, testBit_mark_clear h _ (off := 0x8000) (k := 15) rfl hi, Bool.true_and]
  other a _ hs := rword_mark_other _ _ _ hs

theorem acted_clear (h : m.wf = true) : Acted n m (setRwords (gtWords m n 0) 0 m) true false where
  wf := wf_setRwords _ _ h
  count := by rw [rwords_setRwords_same (nodup_gtWords m n 0) 0 h, Nat.zero_mod, if_pos rfl]
  sta i _ := by
    rw [rword_setRwords_other _ _ (gtBase_not_mem_gtWords m n n (r := 9) (by omega) (by omega) (by omega))]
    simp
  other a hc _ := rword_setRwords_other _ _ hc

/-- The registers after an action with code `code` of GTn. -/
def actedRegs (n code : Nat) (m : Mem) : Mem :=
  if code = 1 then gtStop n m else if code = 2 then setRwords (gtWords m n 0) 0 m else m

theorem acted_actedRegs (h : m.wf = true) (code : Nat) : Acted n m (actedRegs n code m) (code == 2) (code == 1) := by
  unfold actedRegs
  by_cases h1 : code = 1
  · subst h1
    exact acted_stop h
  · by_cases h2 : code = 2
    · subst h2
      exact acted_clear h
    · rw [if_neg h1, if_neg h2, beq_false_of_ne h1, beq_false_of_ne h2]
      exact Acted.refl h

/-- The linked action that an action with code `code` of GTn sends in a MOTION cycle. -/
def sentLink (n cycle code : Nat) (m : Mem) : List Linked :=
  if 3 ≤ code ∧ code ≤ 6 then [⟨cycle + 1, code, linkTarget m (rword m (gtBase n + 7) / 128 % 8), n⟩] else []

theorem Acted.sentLink {c s : Bool} (h : Acted n m m' c s) (cycle code : Nat) :
    sentLink n cycle code m' = sentLink n cycle code m := by
  obtain ⟨hc, hs⟩ := ctl_not_counted m n n (r := 7) (by omega) (by omega)
  rw [Machine.sentLink, Machine.sentLink, linkTarget, linkTarget, h.other _ hc hs, h.upper]

/-- An action changes the registers of its timer, or sends a linked action. -/
theorem Window.act_eq (n cycle code : Nat) (w : Window) : w.act n cycle code =
    { w with regs := actedRegs n code w.regs, linked := w.linked ++ sentLink n cycle code w.regs } := by
  unfold Window.act actedRegs sentLink
  split
  case h_1 => simp
  case h_2 => simp
  case h_7 h1 h2 h3 h4 h5 h6 =>
    rw [imp_false] at h1 h2 h3 h4 h5 h6
    rw [if_neg h1, if_neg h2, if_neg (by omega), List.append_nil]
  all_goals simp

theorem Window.acts_b2n (n cycle code : Nat) (b : Bool) (w : Window) : w.acts n cycle code (b2n b) =
    { w with
      regs := if b then actedRegs n code w.regs else w.regs
      linked := w.linked ++ if b then sentLink n cycle code w.regs else [] } := by
  cases b with
  | false => simp [Window.acts, b2n]
  | true => exact w.act_eq n cycle code

/-- An output toggles on a match of its timer in mode 3, and on a wrap in mode 4 (R244). -/
theorem spoToggle_b2n (m : Mem) (k n : Nat) (wrap hit level : Bool) : spoToggle m k n (b2n wrap) (b2n hit) level =
    if rword m (2 + k) / 1024 % 8 = n ∧ (rword m (2 + k) / 8192 = 3 ∧ hit = true ∨ rword m (2 + k) / 8192 = 4 ∧ wrap = true)
    then !level else level := by
  unfold spoToggle
  by_cases hn : rword m (2 + k) / 1024 % 8 = n
  · by_cases h3 : rword m (2 + k) / 8192 = 3
    · cases hit <;> cases level <;> simp [b2n, hn, h3]
    · by_cases h4 : rword m (2 + k) / 8192 = 4
      · cases wrap <;> cases level <;> simp [b2n, hn, h4]
      · simp [hn, h3, h4]
  · simp [hn]

/-! ### What follows a count edge -/

theorem b2n_ne_zero (b : Bool) : (b2n b != 0) = b := by cases b <;> rfl

/-- WRAP_ACT and MATCH_ACT of GTn. -/
def wrapAct (m : Mem) (n : Nat) : Nat := rword m (gtBase n + 7) / 1024 % 8
def matchAct (m : Mem) (n : Nat) : Nat := rword m (gtBase n + 7) / 8192

/-- ONESHOT of GTn. -/
def oneshot (m : Mem) (n : Nat) : Bool := bit (rword m (gtBase n + 6)) 12

/-- The registers after WRAP_ACT and ONESHOT. -/
def wrappedRegs (n : Nat) (wrap : Bool) (m : Mem) : Mem :=
  let acted := if wrap then actedRegs n (wrapAct m n) m else m
  if wrap && oneshot m n then gtStop n acted else acted

/-- The registers after MATCH_ACT too. -/
def afterRegs (n : Nat) (wrap hit : Bool) (m : Mem) : Mem :=
  if hit then actedRegs n (matchAct m n) (wrappedRegs n wrap m) else wrappedRegs n wrap m

theorem acted_wrappedRegs (h : m.wf = true) (wrap : Bool) :
    Acted n m (wrappedRegs n wrap m) (wrap && wrapAct m n == 2) (wrap && (oneshot m n || wrapAct m n == 1)) := by
  have hact := Acted.cond h (acted_actedRegs (n := n) h (wrapAct m n)) wrap
  have hstop := hact.trans (Acted.cond hact.wf (acted_stop hact.wf) (wrap && oneshot m n))
  rw [Bool.and_false, Bool.or_false, Bool.and_true, ← Bool.and_or_distrib_left, Bool.or_comm (wrapAct m n == 1)] at hstop
  exact hstop

/-- WRAP_ACT, ONESHOT and MATCH_ACT together stop or clear GTn (R241). -/
theorem acted_afterRegs (h : m.wf = true) (wrap hit : Bool) :
    Acted n m (afterRegs n wrap hit m) (wrap && wrapAct m n == 2 || hit && matchAct m n == 2)
      (wrap && (oneshot m n || wrapAct m n == 1) || hit && matchAct m n == 1) :=
  have hwrap := acted_wrappedRegs h wrap
  hwrap.trans (Acted.cond hwrap.wf (acted_actedRegs hwrap.wf (matchAct m n)) hit)

/-- They send its linked actions, WRAP_ACT's first, and its outputs toggle (R241, R244). -/
theorem Window.after_eq (n cycle : Nat) (wrap hit : Bool) {w : Window} (h : w.regs.wf = true) :
    w.after n cycle (b2n wrap) (b2n hit) = { w with
      regs := afterRegs n wrap hit w.regs
      linked := w.linked ++ (if wrap then sentLink n cycle (wrapAct w.regs n) w.regs else []) ++
        (if hit then sentLink n cycle (matchAct w.regs n) w.regs else [])
      spo0 := spoToggle w.regs 0 n (b2n wrap) (b2n hit) w.spo0
      spo1 := spoToggle w.regs 1 n (b2n wrap) (b2n hit) w.spo1 } := by
  rw [← (acted_wrappedRegs (n := n) h wrap).sentLink cycle (matchAct w.regs n), Window.after, Window.acts_b2n,
    Window.acts_b2n, b2n_ne_zero]
  obtain hstop | hstop := Bool.eq_false_or_eq_true (wrap && bit (rword w.regs (gtBase n + 6)) 12)
  · simp only [afterRegs, wrappedRegs, oneshot, hstop]
    rfl
  · simp only [afterRegs, wrappedRegs, oneshot, hstop]
    rfl

/-! ### A count edge -/

/-- The edge finds the count of GTn at or above PER (R236). -/
def Window.wraps (n : Nat) (w : Window) : Bool := decide (w.inForce n 2 ≤ rwords w.regs (gtWords w.regs n 0))

/-- The count of GTn after the edge. -/
def Window.nextCount (n : Nat) (w : Window) : Nat := if w.wraps n then 0 else rwords w.regs (gtWords w.regs n 0) + 1

/-- The count of GTn after the edge is CMP, which a wrap loads first (R236, R237). -/
def Window.hits (n : Nat) (w : Window) : Bool :=
  w.nextCount n == if w.wraps n then rwords w.regs (gtWords w.regs n 4) else w.inForce n 4

/-- The edge finds the count of GTn above PER (R237). -/
def Window.wrapsLate (n : Nat) (w : Window) : Bool := decide (w.inForce n 2 < rwords w.regs (gtWords w.regs n 0))

/-- What the edge sets in STA. -/
def Window.edgeFlags (n : Nat) (w : Window) : Nat :=
  0x4000 * b2n (w.hits n) + 0x2000 * b2n (w.wraps n) + 0x1000 * b2n (w.wrapsLate n)

/-- The registers once a wrap has loaded what waits: PEND clears (R237). -/
def Window.loadedRegs (n : Nat) (w : Window) : Mem :=
  if w.wraps n then mark (gtBase n + 9) 0 0x0800 w.regs else w.regs

/-- The registers after the count edge itself. -/
def Window.edgeRegs (n : Nat) (w : Window) : Mem :=
  mark (gtBase n + 9) (w.edgeFlags n) 0 (setRwords (gtWords w.regs n 0) (w.nextCount n) (w.loadedRegs n))

theorem Window.wf_loadedRegs (n : Nat) {w : Window} (h : w.regs.wf = true) : (w.loadedRegs n).wf = true := by
  unfold Window.loadedRegs
  split
  · exact wf_mark h _ _ _
  · exact h

theorem Window.loadedRegs_other (n : Nat) (w : Window) {a : Nat} (h : a ≠ gtBase n + 9) :
    rword (w.loadedRegs n) a = rword w.regs a := by
  unfold Window.loadedRegs
  split
  · exact rword_mark_other _ _ _ h
  · rfl

/-- A count edge leaves all but CNT and STA of its timer alone. -/
theorem Window.edgeRegs_other (n : Nat) (w : Window) (a : Nat) (hc : a ∉ gtWords w.regs n 0) (hs : a ≠ gtBase n + 9) :
    rword (w.edgeRegs n) a = rword w.regs a := by
  rw [Window.edgeRegs, rword_mark_other _ _ _ hs, rword_setRwords_other _ _ hc, w.loadedRegs_other n hs]

theorem Window.wf_edgeRegs (n : Nat) {w : Window} (h : w.regs.wf = true) : (w.edgeRegs n).wf = true :=
  wf_mark (wf_setRwords _ _ (w.wf_loadedRegs n h)) _ _ _

theorem sta_not_mem_count (m : Mem) (n : Nat) : gtBase n + 9 ∉ gtWords m n 0 :=
  gtBase_not_mem_gtWords m n n (by omega) (r := 9) (by omega) (by omega)

theorem Window.edgeRegs_count (n : Nat) {w : Window} (h : w.regs.wf = true)
    (hn : w.nextCount n < 65536 ^ (gtWords w.regs n 0).length) : rwords (w.edgeRegs n) (gtWords w.regs n 0) = w.nextCount n := by
  have hsta : rwords (w.edgeRegs n) (gtWords w.regs n 0) =
      rwords (setRwords (gtWords w.regs n 0) (w.nextCount n) (w.loadedRegs n)) (gtWords w.regs n 0) :=
    rwords_congr fun a ha => rword_mark_other _ _ _ fun he => sta_not_mem_count w.regs n (he ▸ ha)
  rw [hsta, rwords_setRwords_same (nodup_gtWords _ _ _) _ (w.wf_loadedRegs n h), Nat.mod_eq_of_lt hn]

theorem Window.loadedRegs_sta (n : Nat) {w : Window} (h : w.regs.wf = true) {i : Nat} (hi : i < 16) :
    (rword (w.loadedRegs n) (gtBase n + 9)).testBit i = ((rword w.regs (gtBase n + 9)).testBit i && !(w.wraps n && i == 11)) := by
  unfold Window.loadedRegs
  cases w.wraps n with
  | false => simp
  | true => rw [if_pos rfl, testBit_mark_clear h _ (off := 0x0800) (k := 11) rfl hi, Bool.true_and]

theorem Window.edgeRegs_sta (n : Nat) {w : Window} (h : w.regs.wf = true) {i : Nat} (hi : i < 16) :
    (rword (w.edgeRegs n) (gtBase n + 9)).testBit i =
      ((rword w.regs (gtBase n + 9)).testBit i && !(w.wraps n && i == 11) || (w.edgeFlags n).testBit i) := by
  rw [Window.edgeRegs, testBit_mark (wf_setRwords _ _ (w.wf_loadedRegs n h)) _ _ _ hi,
    rword_setRwords_other _ _ (sta_not_mem_count w.regs n), w.loadedRegs_sta n h hi, Nat.zero_testBit, Bool.not_false,
    Bool.and_true]

/-- Of STA an edge sets MATCH, WRAP and LATE_WRAP (Table 09.7). -/
theorem Window.testBit_edgeFlags (n : Nat) (w : Window) : (w.edgeFlags n).testBit 15 = false ∧
    (w.edgeFlags n).testBit 14 = w.hits n ∧ (w.edgeFlags n).testBit 13 = w.wraps n ∧
    (w.edgeFlags n).testBit 12 = w.wrapsLate n ∧ (w.edgeFlags n).testBit 11 = false := by
  unfold Window.edgeFlags
  cases w.hits n <;> cases w.wraps n <;> cases w.wrapsLate n <;> decide

theorem Window.inForce_per (w : Window) (n : Nat) :
    w.inForce n 2 = (w.forcePer.getD n none).getD (rwords w.regs (gtWords w.regs n 2)) := rfl

theorem Window.inForce_cmp (w : Window) (n : Nat) :
    w.inForce n 4 = (w.forceCmp.getD n none).getD (rwords w.regs (gtWords w.regs n 4)) := rfl

/-- What is set for a timer to stay in force is what then does. -/
theorem getD_set_timer {l : List (Option Nat)} {n : Nat} (hn : n < 8) (hl : l.length = 8) (x : Option Nat) :
    (l.set n x).getD n none = x := by
  simp [hn, hl]

/-- A wrap puts CMP as it stands in force (R237). -/
theorem Window.inForce_loaded {n : Nat} (hn : n < 8) {w : Window} (hcmp : w.forceCmp.length = 8) (per : List (Option Nat)) :
    ({ w with
        regs := mark (gtBase n + 9) 0 0x0800 w.regs, forcePer := per, forceCmp := w.forceCmp.set n none } : Window).inForce n 4 =
      rwords w.regs (gtWords w.regs n 4) := by
  rw [Window.inForce_cmp, getD_set_timer hn hcmp, Option.getD_none,
    gtWords_congr (chain_of_other fun a _ hs => rword_mark_other _ _ _ hs) n 4]
  exact rwords_congr fun a ha => rword_mark_other _ _ _ fun he =>
    gtBase_not_mem_gtWords w.regs n n (off := 4) (by omega) (r := 9) (by omega) (by omega) (he ▸ ha)

/-- The window after a count edge, with whether it wrapped and matched. -/
theorem Window.edge_eq {n : Nat} (hn : n < 8) {w : Window} (hcmp : w.forceCmp.length = 8) : w.edge n =
    ({ w with
        regs := w.edgeRegs n
        forcePer := if w.wraps n then w.forcePer.set n none else w.forcePer
        forceCmp := if w.wraps n then w.forceCmp.set n none else w.forceCmp }, w.wraps n, w.hits n) := by
  unfold Window.edge Window.edgeRegs Window.edgeFlags Window.loadedRegs Window.hits Window.nextCount Window.wrapsLate
  cases hw : w.wraps n with
  | false =>
    have hlt : ¬ w.inForce n 2 ≤ rwords w.regs (gtWords w.regs n 0) := of_decide_eq_false hw
    simp [hlt]
  | true =>
    have hle : w.inForce n 2 ≤ rwords w.regs (gtWords w.regs n 0) := of_decide_eq_true hw
    simp only [hle, decide_true, if_true, Window.inForce_loaded hn hcmp]

/-! ### GT_COUNT_EDGE -/

/-- The actions of the edge stop GTn. -/
def Window.edgeStops (n : Nat) (w : Window) : Bool :=
  w.wraps n && (oneshot w.regs n || wrapAct w.regs n == 1) || w.hits n && matchAct w.regs n == 1

/-- The actions of the edge clear GTn. -/
def Window.edgeClears (n : Nat) (w : Window) : Bool :=
  w.wraps n && wrapAct w.regs n == 2 || w.hits n && matchAct w.regs n == 2

/-- The window after a count edge of a running timer and all that follows it. -/
theorem Window.countEdge_eq {n : Nat} (cycle : Nat) {w : Window} (hn : n < 8) (hwf : w.regs.wf = true)
    (hcmp : w.forceCmp.length = 8) (hrun : gtRun w.regs n = true) (hup : gtUpper w.regs n = false) :
    ∃ regs, Acted n (w.edgeRegs n) regs (w.edgeClears n) (w.edgeStops n) ∧ w.countEdge n cycle = { w with
      regs := regs
      counted := w.counted.set n cycle
      spo0 := spoToggle w.regs 0 n (b2n (w.wraps n)) (b2n (w.hits n)) w.spo0
      spo1 := spoToggle w.regs 1 n (b2n (w.wraps n)) (b2n (w.hits n)) w.spo1
      forcePer := if w.wraps n then w.forcePer.set n none else w.forcePer
      forceCmp := if w.wraps n then w.forceCmp.set n none else w.forceCmp
      linked := w.linked ++ (if w.wraps n then sentLink n cycle (wrapAct w.regs n) w.regs else []) ++
        if w.hits n then sentLink n cycle (matchAct w.regs n) w.regs else [] } := by
  have hother := w.edgeRegs_other n
  have hctl : ∀ r, 6 ≤ r → r < 9 → rword (w.edgeRegs n) (gtBase n + r) = rword w.regs (gtBase n + r) := fun r hr hr' =>
    hother _ (ctl_not_counted w.regs n n hr hr').1 (ctl_not_counted w.regs n n hr hr').2
  have hspo : ∀ k, k < 2 → rword (w.edgeRegs n) (2 + k) = rword w.regs (2 + k) := fun k hk =>
    hother _ (fun h => by obtain ⟨j, hj⟩ := mem_gtWords h; unfold gtBase at hj; omega) (by unfold gtBase; omega)
  have hupper := gtUpper_congr (chain_of_other hother)
  have hlink : ∀ code, sentLink n cycle code (w.edgeRegs n) = sentLink n cycle code w.regs := fun code => by
    rw [sentLink, sentLink, linkTarget, linkTarget, hctl 7 (by omega) (by omega), hupper]
  have hact : wrapAct (w.edgeRegs n) n = wrapAct w.regs n ∧ matchAct (w.edgeRegs n) n = matchAct w.regs n ∧
      oneshot (w.edgeRegs n) n = oneshot w.regs n := by
    rw [wrapAct, matchAct, oneshot, hctl 7 (by omega) (by omega), hctl 6 (by omega) (by omega)]
    exact ⟨rfl, rfl, rfl⟩
  have hwf' := w.wf_edgeRegs n hwf
  refine ⟨afterRegs n (w.wraps n) (w.hits n) (w.edgeRegs n), ?_, ?_⟩
  · have hacted := acted_afterRegs (n := n) hwf' (w.wraps n) (w.hits n)
    rwa [hact.1, hact.2.1, hact.2.2] at hacted
  · rw [Window.countEdge, hrun, hup, Bool.not_false, Bool.and_true, if_pos rfl, Window.edge_eq hn hcmp]
    refine (Window.after_eq n cycle (w.wraps n) (w.hits n) hwf').trans ?_
    simp only [hlink, hact, spoToggle_b2n, hspo 0 (by omega), hspo 1 (by omega)]

/-- STA after a count edge and its actions (Table 09.7). -/
theorem Window.sta_counted {n : Nat} {w : Window} {regs : Mem} {clears stop : Bool} (hwf : w.regs.wf = true)
    (h : Acted n (w.edgeRegs n) regs clears stop) :
    let sta := rword regs (gtBase n + 9)
    let was := rword w.regs (gtBase n + 9)
    sta.testBit 15 = (was.testBit 15 && !stop) ∧ sta.testBit 14 = (was.testBit 14 || w.hits n) ∧
      sta.testBit 13 = (was.testBit 13 || w.wraps n) ∧ sta.testBit 12 = (was.testBit 12 || w.wrapsLate n) ∧
      (w.wraps n = true → sta.testBit 11 = false) := by
  intro sta was
  have hsta : ∀ i, i < 16 → sta.testBit i =
      ((was.testBit i && !(w.wraps n && i == 11) || (w.edgeFlags n).testBit i) && !(stop && i == 15)) := fun i hi => by
    rw [h.sta i hi, w.edgeRegs_sta n hwf hi]
  obtain ⟨h15, h14, h13, h12, h11⟩ := w.testBit_edgeFlags n
  refine ⟨?_, ?_, ?_, ?_, fun hw => ?_⟩
  · simp [hsta 15 (by omega), h15]
  · simp [hsta 14 (by omega), h14]
  · simp [hsta 13 (by omega), h13]
  · simp [hsta 12 (by omega), h12]
  · simp [hsta 11 (by omega), h11, hw]

theorem exec_gtCountEdge_stays {n cycle : Nat} {s : State}
    (h : s.awake = false ∨ gtSrc s.win.regs n ≠ 0 ∨
      ¬ s.win.counted.getD n 0 + rword s.win.regs (gtBase n + 8) + 1 ≤ cycle ∨ gtRun s.win.regs n = false ∨
        gtUpper s.win.regs n = true) :
    exec (.gtCountEdge n cycle) s = .next s := by
  refine congrArg Host.Outcome.next ?_
  unfold State.gtCount Window.prescaled Window.countEdge
  obtain h | h | h | h | h := h
  · rw [h]; rfl
  · simp [h]
  · simp only [h, decide_false, Bool.and_false]
    exact ite_self s
  · simp [h]
  · simp [h]

theorem exec_gtCountEdge_counts {n cycle : Nat} {s : State} (ha : s.awake = true) (hsrc : gtSrc s.win.regs n = 0)
    (hdue : s.win.counted.getD n 0 + rword s.win.regs (gtBase n + 8) + 1 ≤ cycle) :
    exec (.gtCountEdge n cycle) s = .next { s with win := s.win.countEdge n cycle } := by
  refine congrArg Host.Outcome.next ?_
  rw [if_pos ha, State.gtCount, Window.prescaled, hsrc, decide_eq_true hdue]
  rfl

theorem countEdgesAdvance : Claim.CountEdgesAdvance := by
  intro n cycle s hn hwf hper hcmp hcounted w m cnt c act wrap c1 hit stop clears far link toggles due
  refine ⟨exec_gtCountEdge_stays, fun ha hsrc hdue hrun hup hfits => ?_⟩
  obtain ⟨regs, hacted, hcount⟩ := Window.countEdge_eq cycle hn hwf hcmp hrun hup
  have hwords : gtWords (w.edgeRegs n) n 0 = cnt := gtWords_congr (chain_of_other (w.edgeRegs_other n)) n 0
  obtain ⟨hrun', h14, h13, h12, h11⟩ := Window.sta_counted hwf hacted
  have hlink : ∀ (on : Bool) (code : Nat), link on code = if on then sentLink n cycle code m else [] := fun on code => by
    cases on <;> simp [link, sentLink, linkTarget, far]
  rw [exec_gtCountEdge_counts ha hsrc hdue, hcount]
  refine ⟨_, rfl, ?_, ?_, ⟨h14, h13, h12, h11⟩, ?_, ?_, fun h => (spoToggle_b2n m 0 n _ _ w.spo0).trans (if_pos h),
    fun h => (spoToggle_b2n m 0 n _ _ w.spo0).trans (if_neg h), fun h => (spoToggle_b2n m 1 n _ _ w.spo1).trans (if_pos h),
    fun h => (spoToggle_b2n m 1 n _ _ w.spo1).trans (if_neg h)⟩
  · have h := hacted.count
    rw [hwords, Window.edgeRegs_count n hwf hfits] at h
    exact h
  · rwa [show (rword s.win.regs (gtBase n + 9)).testBit 15 = true from hrun, Bool.true_and] at hrun'
  · intro a hc hs
    rw [hacted.other a (by rwa [hwords]) hs, w.edgeRegs_other n a hc hs]
  · rw [hlink, hlink]
    rfl

end Sys2Proof.Machine
end

section
/-! PROOF. Speed counters (R233, R234; O35). -/

namespace Sys2Proof.Machine

open Sys2Proof

/-! ### Speed counters -/

/-- CNT of SCn and its capture as words. -/
abbrev scCount (n : Nat) : List Nat := [scBase n, scBase n + 1]
abbrev scCaptured (n : Nat) : List Nat := [scBase n + 2, scBase n + 3]

/-- The count of SCn. -/
def scValue (m : Mem) (n : Nat) : Nat := rword m (scBase n) + 65536 * rword m (scBase n + 1)

/-- It is at its top. -/
def scFull (m : Mem) (n : Nat) : Bool := scValue m n == 2 ^ 32 - 1

/-- SCn counts by one; at its top it wraps with CNT_OVF (R233). -/
def scBump (n : Nat) (m : Mem) : Mem :=
  let counted := setRwords [scBase n, scBase n + 1] (if scFull m n then 0 else scValue m n + 1) m
  if scFull m n then mark (scBase n + 4) 0x0400 0 counted else counted

theorem rwords_scCount (m : Mem) (n : Nat) : rwords m (scCount n) = scValue m n := by simp [rwords, scValue]

/-- SCn captures a MOTION cycle (R234). -/
def scCapture (n time : Nat) (ovr : Bool) (m : Mem) : Mem :=
  mark (scBase n + 4) (0x1000 + 0x0800 * b2n ovr) 0 (setRwords (scCaptured n) (time % 2 ^ 32) m)

theorem scBump_other (n : Nat) (m : Mem) {a : Nat} (hc : a ∉ scCount n) (hs : a ≠ scBase n + 4) :
    rword (scBump n m) a = rword m a := by
  unfold scBump
  split
  · rw [rword_mark_other _ _ _ hs, rword_setRwords_other _ _ hc]
  · exact rword_setRwords_other _ _ hc

theorem wf_scBump (n : Nat) {m : Mem} (h : m.wf = true) : (scBump n m).wf = true := by
  unfold scBump
  split
  · exact wf_mark (wf_setRwords _ _ h) _ _ _
  · exact wf_setRwords _ _ h

theorem ctl_not_mem_scCount (n : Nat) : scBase n + 4 ∉ scCount n := by simp

theorem scBump_ctl (n : Nat) {m : Mem} (h : m.wf = true) {i : Nat} (hi : i < 16) :
    (rword (scBump n m) (scBase n + 4)).testBit i = ((rword m (scBase n + 4)).testBit i || scFull m n && i == 10) := by
  unfold scBump
  cases scFull m n with
  | false => simp [rword_setRwords_other _ _ (ctl_not_mem_scCount n)]
  | true =>
    rw [if_pos rfl, testBit_mark_set (wf_setRwords _ _ h) _ (on := 0x0400) (k := 10) rfl hi,
      rword_setRwords_other _ _ (ctl_not_mem_scCount n), Bool.true_and]

theorem scBump_count (n : Nat) {m : Mem} (h : m.wf = true) :
    rwords (scBump n m) (scCount n) = (rwords m (scCount n) + 1) % 2 ^ 32 := by
  have hcount : rwords (scBump n m) (scCount n) = (if scFull m n then 0 else scValue m n + 1) % 2 ^ 32 := by
    refine Eq.trans ?_ (rwords_setRwords_pair (Nat.ne_add_one (scBase n)) _ h)
    unfold scBump
    split
    · exact rwords_congr fun a ha => rword_mark_other _ _ _ fun he => ctl_not_mem_scCount n (he ▸ ha)
    · rfl
  rw [hcount, rwords_scCount]
  cases hf : scFull m n with
  | false => rfl
  | true =>
    rw [show scValue m n = 2 ^ 32 - 1 from beq_iff_eq.mp hf, if_pos rfl, Nat.sub_add_cancel Nat.one_le_two_pow,
      Nat.zero_mod, Nat.mod_self]

theorem scCapture_other (n time : Nat) (ovr : Bool) (m : Mem) {a : Nat} (hc : a ∉ scCaptured n) (hs : a ≠ scBase n + 4) :
    rword (scCapture n time ovr m) a = rword m a := by
  rw [scCapture, rword_mark_other _ _ _ hs, rword_setRwords_other _ _ hc]

theorem scCapture_captured (n time : Nat) (ovr : Bool) {m : Mem} (h : m.wf = true) :
    rwords (scCapture n time ovr m) (scCaptured n) = time % 2 ^ 32 := by
  rw [← Nat.mod_mod time, ← rwords_setRwords_pair (Nat.ne_add_one (scBase n + 2)) (time % 2 ^ 32) h]
  exact rwords_congr fun a ha => rword_mark_other _ _ _ fun he => by simp [he] at ha

theorem scCapture_ctl (n time : Nat) (ovr : Bool) {m : Mem} (h : m.wf = true) :
    let now := rword (scCapture n time ovr m) (scBase n + 4)
    let ctl := rword m (scBase n + 4)
    now.testBit 12 = true ∧ now.testBit 11 = (ctl.testBit 11 || ovr) ∧ now.testBit 10 = ctl.testBit 10 := by
  intro now ctl
  have hbit : ∀ i, i < 16 → now.testBit i = (ctl.testBit i || (0x1000 + 0x0800 * b2n ovr).testBit i) := fun i hi => by
    refine (testBit_mark (wf_setRwords _ _ h) _ _ _ hi).trans ?_
    rw [rword_setRwords_other _ _ (by simp), Nat.zero_testBit, Bool.not_false, Bool.and_true]
  have hflags : ∀ b : Bool, (0x1000 + 0x0800 * b2n b).testBit 12 = true ∧ (0x1000 + 0x0800 * b2n b).testBit 11 = b ∧
      (0x1000 + 0x0800 * b2n b).testBit 10 = false := by decide
  obtain ⟨h12, h11, h10⟩ := hflags ovr
  rw [hbit 12 (by omega), hbit 11 (by omega), hbit 10 (by omega), h12, h11, h10, Bool.or_true, Bool.or_false]
  exact ⟨rfl, rfl, rfl⟩

/-- The registers once SCn has counted an edge, and at its top the upper half of its pair too (R233). -/
def scCounted (n : Nat) (m : Mem) : Mem :=
  if scFull m n && scPaired m n && (rword m (scBase (n + 1) + 4)).testBit 15 then scBump (n + 1) (scBump n m) else scBump n m

/-- An enabled counter that is no upper half counts and captures. -/
theorem Window.scEdge_eq {n : Nat} (time : Nat) {w : Window} (hen : (rword w.regs (scBase n + 4)).testBit 15 = true)
    (hup : ¬ (n % 2 = 1 ∧ scPaired w.regs n = true)) : w.scEdge n time =
      if (rword w.regs (scBase n + 4)).testBit 13 then { w with
        regs := scCapture n time ((rword w.regs (scBase n + 4)).testBit 12) (scCounted n w.regs)
        captures := w.captures.modify n (· + 1) }
      else { w with regs := scCounted n w.regs } := by
  have hgo : (!bit (rword w.regs (scBase n + 4)) 15 || (n % 2 == 1 && scPaired w.regs n)) = false := by
    simpa [hen] using hup
  have hupper : ∀ m : Mem, scBump (n + 1) m =
      (let counted := setRwords [scBase (n + 1), scBase (n + 1) + 1]
        (if scValue m (n + 1) = 2 ^ 32 - 1 then 0 else scValue m (n + 1) + 1) m
      if scValue m (n + 1) = 2 ^ 32 - 1 then mark (scBase (n + 1) + 4) 0x0400 0 counted else counted) := fun m => by
    simp only [scBump, scFull, beq_iff_eq]
  rw [Window.scEdge, hgo, scCounted, hupper]
  rfl

theorem wf_scCounted (n : Nat) {m : Mem} (h : m.wf = true) : (scCounted n m).wf = true := by
  unfold scCounted
  split
  · exact wf_scBump _ (wf_scBump _ h)
  · exact wf_scBump _ h

/-- Counting over into the upper half leaves the registers of the lower one. -/
theorem scCounted_eq_scBump (n : Nat) (m : Mem) {o : Nat} (ho : o < 8) :
    rword (scCounted n m) (scBase n + o) = rword (scBump n m) (scBase n + o) := by
  unfold scCounted
  split
  · exact scBump_other _ _ (by simp [scBase]; omega) (by unfold scBase; omega)
  · rfl

theorem scCounted_count (n : Nat) {m : Mem} (h : m.wf = true) :
    rwords (scCounted n m) (scCount n) = (rwords m (scCount n) + 1) % 2 ^ 32 := by
  rw [← scBump_count n h]
  refine rwords_congr fun a ha => ?_
  obtain rfl | rfl : a = scBase n + 0 ∨ a = scBase n + 1 := by simpa using ha
  · exact scCounted_eq_scBump n m (by omega)
  · exact scCounted_eq_scBump n m (by omega)

theorem scCounted_ctl (n : Nat) {m : Mem} (h : m.wf = true) {i : Nat} (hi : i < 16) :
    (rword (scCounted n m) (scBase n + 4)).testBit i = ((rword m (scBase n + 4)).testBit i || scFull m n && i == 10) := by
  rw [scCounted_eq_scBump n m (by omega), scBump_ctl n h hi]

theorem scCounted_captured (n : Nat) (m : Mem) :
    rwords (scCounted n m) (scCaptured n) = rwords m (scCaptured n) := by
  refine rwords_congr fun a ha => ?_
  obtain rfl | rfl : a = scBase n + 2 ∨ a = scBase n + 3 := by simpa using ha
  · exact (scCounted_eq_scBump n m (by omega)).trans (scBump_other _ _ (by simp) (by simp))
  · exact (scCounted_eq_scBump n m (by omega)).trans (scBump_other _ _ (by simp) (by simp))

/-- The enabled upper half of a pair counts the wraps of the lower one (R233). -/
theorem scCounted_upper (n : Nat) {m : Mem} (h : m.wf = true) (hp : scPaired m n = true)
    (hen : (rword m (scBase (n + 1) + 4)).testBit 15 = true) :
    rwords (scCounted n m) (scCount (n + 1)) = (rwords m (scCount (n + 1)) + if scFull m n then 1 else 0) % 2 ^ 32 := by
  have hbump : rwords (scBump n m) (scCount (n + 1)) = rwords m (scCount (n + 1)) :=
    rwords_congr fun a ha => by
      have hrange : a = scBase (n + 1) ∨ a = scBase (n + 1) + 1 := by simpa using ha
      unfold scBase at hrange
      exact scBump_other n m (by simp [scBase]; omega) (by unfold scBase; omega)
  have hlt : rwords m (scCount (n + 1)) < 2 ^ 32 := (rwords_lt m _).trans_eq (by norm_num)
  rw [scCounted, hp, hen, Bool.and_true, Bool.and_true]
  cases scFull m n with
  | false => rw [if_neg (by decide), if_neg (by decide), hbump]; exact (Nat.mod_eq_of_lt hlt).symm
  | true => rw [if_pos rfl, if_pos rfl, scBump_count _ (wf_scBump n h), hbump]

theorem Window.scEdge_stays {n time : Nat} {w : Window}
    (h : (rword w.regs (scBase n + 4)).testBit 15 = false ∨ (n % 2 = 1 ∧ scPaired w.regs n = true)) :
    w.scEdge n time = w := by
  unfold Window.scEdge
  exact if_pos (by simpa using h)

/-- What a capture leaves of the registers of its counter and of the other counters. -/
theorem scCapture_count (n k time : Nat) (ovr : Bool) (m : Mem) :
    rwords (scCapture n time ovr m) (scCount k) = rwords m (scCount k) :=
  rwords_congr fun a ha => by
    have hrange : a = scBase k ∨ a = scBase k + 1 := by simpa using ha
    unfold scBase at hrange
    exact scCapture_other n time ovr m (by simp [scBase]; omega) (by unfold scBase; omega)

theorem modify_succ_eq_set {l : List Nat} {n : Nat} (h : n < l.length) : l.modify n (· + 1) = l.set n (l.getD n 0 + 1) := by
  rw [List.modify_eq_set_getElem?, List.getElem?_eq_getElem h, List.getD_eq_getElem _ _ h]
  rfl

/-- A counter that counts and does not capture. -/
theorem Window.scEdge_counts {n time : Nat} {w : Window} (hen : (rword w.regs (scBase n + 4)).testBit 15 = true)
    (hup : ¬ (n % 2 = 1 ∧ scPaired w.regs n = true)) (hcap : (rword w.regs (scBase n + 4)).testBit 13 = false) :
    w.scEdge n time = { w with regs := scCounted n w.regs } := by
  rw [w.scEdge_eq time hen hup, hcap]
  rfl

theorem Window.scEdge_captures {n time : Nat} {w : Window} (hen : (rword w.regs (scBase n + 4)).testBit 15 = true)
    (hup : ¬ (n % 2 = 1 ∧ scPaired w.regs n = true)) (hcap : (rword w.regs (scBase n + 4)).testBit 13 = true)
    (hlen : n < w.captures.length) :
    w.scEdge n time = { w with
      regs := scCapture n time ((rword w.regs (scBase n + 4)).testBit 12) (scCounted n w.regs)
      captures := w.captures.set n (w.captures.getD n 0 + 1) } := by
  rw [w.scEdge_eq time hen hup, hcap, modify_succ_eq_set hlen]
  rfl

theorem speedCountersCount : Claim.SpeedCountersCount := by
  refine ⟨?_, ?_⟩
  · intro n time w hn hwf hlen m ctl t c upper now
    refine ⟨Window.scEdge_stays, fun hen hup => ?_⟩
    have hwf' := wf_scCounted n hwf
    have hfull : scFull m n = (c == 2 ^ 32 - 1) := by rw [scFull, ← rwords_scCount]
    have hcount := scCounted_count n hwf
    have hctl := fun i hi => scCounted_ctl n hwf (i := i) hi
    have hupper : _ → _ → rwords (scCounted n m) (scCount (n + 1)) = _ := scCounted_upper n hwf
    rw [hfull] at hupper
    simp only [beq_iff_eq] at hupper
    cases hcap : ctl.testBit 13 with
    | false =>
      have ht : t = _ := Window.scEdge_counts (time := time) hen hup hcap
      have hregs : t.regs = scCounted n m := congrArg Window.regs ht
      simp only [now, hregs]
      refine ⟨hcount, ?_, nofun, fun _ => ⟨?_, ?_, by rw [ht], scCounted_captured n m⟩, ?_, fun _ => hupper⟩
      · rw [hctl 10 (by omega), hfull]
        simp [ctl, m]
      · rw [hctl 12 (by omega)]
        simp [ctl, m]
      · rw [hctl 11 (by omega)]
        simp [ctl, m]
      · rw [ht]
    | true =>
      have ht : t = _ := Window.scEdge_captures (time := time) hen hup hcap (by omega)
      have hregs : t.regs = scCapture n time (ctl.testBit 12) (scCounted n m) := congrArg Window.regs ht
      obtain ⟨h12, h11, h10⟩ := scCapture_ctl n time (ctl.testBit 12) hwf'
      simp only [now, hregs]
      refine ⟨?_, ?_, fun _ => ⟨scCapture_captured n time _ hwf', h12, ?_, by rw [ht]⟩, nofun, ?_, fun _ hp he => ?_⟩
      · exact (scCapture_count n n _ _ _).trans hcount
      · rw [h10, hctl 10 (by omega), hfull]
        simp [ctl, m]
      · rw [h11, hctl 11 (by omega)]
        simp [ctl, m]
      · rw [ht]
      · exact (scCapture_count n (n + 1) _ _ _).trans (hupper hp he)
  · intro m captures r hwf hr now old since
    have hcap := fun i hi => testBit_mark_clear hwf (scBase r.counter + 4) (off := 0x1000) (k := 12) (i := i) rfl hi
    have hovr := fun i hi => testBit_mark_clear hwf (scBase r.counter + 4) (off := 0x0800) (k := 11) (i := i) rfl hi
    refine ⟨fun h0 => ?_, fun hpos => ?_⟩
    · have hnow : now = rword (mark (scBase r.counter + 4) 0 0x1000 m) (scBase r.counter + 4) := by
        simp only [now, Window.capTaken]
        rw [if_pos h0]
      rw [hnow, hcap 12 (by omega), hcap 11 (by omega)]
      simp [old]
    · have h0 : ¬ captures.getD r.counter 0 - r.captures = 0 := by omega
      by_cases h1 : (since == 1 && !r.ovr) = true
      · have hnow : now = rword (mark (scBase r.counter + 4) 0 0x0800 m) (scBase r.counter + 4) := by
          simp only [now, Window.capTaken]
          rw [if_neg h0]
          exact congrArg (rword · _) (if_pos h1)
        rw [hnow, hovr 12 (by omega), hovr 11 (by omega), h1]
        simp [old]
      · have hnow : now = old := by
          simp only [now, Window.capTaken]
          rw [if_neg h0]
          exact congrArg (rword · _) (if_neg h1)
        rw [hnow, Bool.eq_false_iff.mpr h1]
        simp

end Sys2Proof.Machine
end

section
/-! PROOF. Pulse outputs, linked actions and edges that are not counted (R212, R241, R242, R244; O35). -/

namespace Sys2Proof.Machine

open Sys2Proof

/-! ### Pulse outputs -/

theorem outputsFollowTheirMode : Claim.OutputsFollowTheirMode := by
  intro s k _ c n raw
  have hpin : s.spoPin k = (s.awake && (raw != c.testBit 6)) := by
    simp only [State.spoPin, raw]
    generalize rword s.win.regs (2 + k) / 8192 = mode
    match mode with
    | 0 | 1 | 2 | 3 | 4 | 5 | _ + 6 => rfl
  refine ⟨fun ha => ?_, fun ha => ?_⟩
  · rw [hpin, ha, Bool.false_and]
  · rw [hpin, ha, Bool.true_and]
    cases c.testBit 6 <;> simp

/-! ### Linked actions -/

theorem spoToggle_none (m : Mem) (k n : Nat) (level : Bool) : spoToggle m k n 0 0 level = level := by
  simp [spoToggle]

/-- A timer that has neither wrapped nor matched acts on nothing. -/
theorem Window.after_none (n cycle : Nat) (w : Window) : w.after n cycle 0 0 = w := by
  rw [Window.after, spoToggle_none, spoToggle_none]
  rfl

theorem Window.foldl_after_none (cycle : Nat) (w : Window) (l : List Nat) :
    l.foldl (fun w n => w.after n cycle 0 0) w = w := by
  induction l with
  | nil => rfl
  | cons n l ih => rw [List.foldl_cons, Window.after_none, ih]

/-- The targets of the actions with a code. -/
def targets (code : Nat) (acts : List Linked) : List Nat := (acts.filter fun a => a.code == code).map Linked.target

/-- A MOTION cycle in which no STEP is due: CLEARs, then STOPs, then STARTs (R242). -/
theorem Window.linkedCycle_eq {cycle : Nat} {w : Window}
    (h : ∀ a ∈ w.linked, a.due ≤ cycle → a.code ≠ 6) :
    let acts := w.linked.filter fun a => decide (a.due ≤ cycle)
    let stopped := (targets 4 acts).foldl (fun m n => gtStop n m)
      ((targets 5 acts).foldl (fun m n => setRwords (gtWords m n 0) 0 m) w.regs)
    w.linkedCycle cycle = ((targets 3 acts).filter fun n => !(targets 4 acts).contains n).foldl (fun w n => w.start n cycle)
      { w with regs := stopped, linked := w.linked.filter fun a => !decide (a.due ≤ cycle) } := by
  intro acts stopped
  have hsteps : ∀ sender, acts.filter (fun a => a.code == 6 && a.sender == sender) = [] := fun sender => by
    rw [List.filter_eq_nil_iff]
    intro a ha
    obtain ⟨ha, hdue⟩ := List.mem_filter.mp ha
    simp [h a ha (of_decide_eq_true hdue)]
  have horder : ((List.range 8).flatMap fun sender =>
      ((acts.filter fun a => a.code == 6 && a.sender == sender).map Linked.target).filter fun n =>
        !(targets 5 acts).contains n) = [] := by
    simp [hsteps]
  unfold Window.linkedCycle
  unfold targets at horder
  simp only [horder, acts, Window.steps, List.filter_nil, List.length_nil, Window.foldl_after_none]
  rfl

/-- A MOTION cycle in which nothing is due changes nothing. -/
theorem Window.linkedCycle_stays {cycle : Nat} {w : Window} (h : ∀ a ∈ w.linked, cycle < a.due) :
    w.linkedCycle cycle = w := by
  have hnone : w.linked.filter (fun a => decide (a.due ≤ cycle)) = [] :=
    List.filter_eq_nil_iff.mpr fun a ha => by simpa using h a ha
  have hall : w.linked.filter (fun a => !decide (a.due ≤ cycle)) = w.linked :=
    List.filter_eq_self.mpr fun a ha => by simpa using h a ha
  rw [Window.linkedCycle_eq fun a ha hle => absurd hle (not_le.mpr (h a ha)), hnone, hall]
  rfl

/-- One START, STOP or CLEAR that is due. -/
theorem Window.linkedCycle_one {cycle : Nat} {w : Window} {a : Linked} (hl : w.linked = [a]) (hdue : a.due ≤ cycle) :
    (a.code = 3 → w.linkedCycle cycle = Window.start a.target cycle { w with linked := [] }) ∧
    (a.code = 4 → w.linkedCycle cycle = { w with linked := [], regs := gtStop a.target w.regs }) ∧
    (a.code = 5 → w.linkedCycle cycle = { w with linked := [], regs := setRwords (gtWords w.regs a.target 0) 0 w.regs }) := by
  have hcycle : a.code ≠ 6 → _ := fun hc => w.linkedCycle_eq (cycle := cycle) (by simpa [hl] using fun _ => hc)
  simp only [hl, List.filter_cons, List.filter_nil, hdue, decide_true, if_true, Bool.not_true, Bool.false_eq_true, if_false,
    targets] at hcycle
  refine ⟨fun hc => ?_, fun hc => ?_, fun hc => ?_⟩
  · rw [hcycle (by omega), hc]
    rfl
  · rw [hcycle (by omega), hc]
    rfl
  · rw [hcycle (by omega), hc]
    rfl

theorem gtRun_gtStart {m : Mem} (h : m.wf = true) (n : Nat) : gtRun (gtStart n m) n = true := by
  rw [gtRun, gtStart, rword_mark_other _ _ _ (by omega)]
  exact (testBit_mark_set h _ (on := 0x8000) (k := 15) rfl (by omega)).trans (by simp)

theorem gtRun_gtStop {m : Mem} (h : m.wf = true) (n : Nat) : gtRun (gtStop n m) n = false :=
  (testBit_mark_clear h _ (off := 0x8000) (k := 15) rfl (by omega)).trans (by simp)

theorem execLinkedAction_awake {s : State} (h : s.awake = true) (cycle : Nat) :
    exec (.linkedAction cycle) s = .next { s with win := s.win.linkedCycle cycle } :=
  congrArg Host.Outcome.next (if_pos h)

theorem linkedActionsTakeEffect : Claim.LinkedActionsTakeEffect := by
  intro s cycle a _ _ ha hwf n
  rw [execLinkedAction_awake ha cycle]
  refine ⟨fun hl => ?_, fun hl hlt => ?_, fun hl hle hcode => ?_⟩
  · rw [Window.linkedCycle_stays (by simp [hl])]
  · rw [Window.linkedCycle_stays (by simpa [hl] using hlt)]
  · obtain ⟨hstart, hstop, hclear⟩ := Window.linkedCycle_one hl hle
    refine ⟨_, rfl, ?_⟩
    obtain hc | hc | hc := hcode
    · rw [hstart hc]
      refine ⟨rfl, fun _ => ⟨gtRun_gtStart hwf n, fun hrun => if_neg (by simpa using hrun)⟩, by omega, by omega⟩
    · rw [hstop hc]
      exact ⟨rfl, by omega, fun _ => gtRun_gtStop hwf n, by omega⟩
    · rw [hclear hc]
      exact ⟨rfl, by omega, by omega, fun _ => (rwords_setRwords_same (nodup_gtWords _ n 0) 0 hwf).trans (Nat.zero_mod _)⟩

/-! ### Changes of level that are not counted -/

theorem uncountedEdgesKeepTheLevel : Claim.UncountedEdgesKeepTheLevel := by
  intro n held level s
  refine congrArg Host.Outcome.next ?_
  unfold State.levelChange State.passes
  cases ha : s.awake with
  | false => rfl
  | true => simp

/-- Settles O35: a count edge writes CNT and STA of its timer alone, and of its actions only a stop and a clear reach them;
counters, outputs and linked actions follow from the words that they write. -/
theorem timersCount : Obligations.TimersCount :=
  ⟨countEdgesAdvance, speedCountersCount, outputsFollowTheirMode, linkedActionsTakeEffect, uncountedEdgesKeepTheLevel⟩

end Sys2Proof.Machine
end

section
/-! PROOF. The snapshot of a latch phase (R230, R240, Tables 09.1, 09.2; O34). -/

namespace Sys2Proof.Machine

open Sys2Proof

/-! ### The snapshot -/

theorem testBit_foldl_or (l : List Nat) (m i : Nat) :
    (l.foldl (fun m k => m ||| 2 ^ k) m).testBit i = (m.testBit i || l.contains i) := by
  induction l generalizing m with
  | nil => simp
  | cons k l ih =>
    rw [List.foldl_cons, ih, Nat.testBit_or, testBit_two_pow_eq, List.contains_cons, Bool.or_assoc]

/-- Bit `i` of a mask is set when `i` is listed. -/
theorem testBit_maskOf (l : List Nat) (i : Nat) : (maskOf l).testBit i = l.contains i := by
  rw [maskOf, testBit_foldl_or, Nat.zero_testBit, Bool.false_or]

theorem maskOf_lt {l : List Nat} {k : Nat} (h : ∀ i ∈ l, i < k) : maskOf l < 2 ^ k := by
  refine Nat.lt_pow_two_of_testBit _ fun i hi => ?_
  rw [testBit_maskOf, List.contains_eq_mem, decide_eq_false_iff_not]
  exact fun hm => absurd (h i hm) (not_lt.mpr hi)

/-- A mask of numbers below 8 that are chosen by `p`. -/
theorem testBit_maskOf_range (p : Nat → Bool) {n : Nat} (hn : n < 8) :
    (maskOf ((List.range 8).filter p)).testBit n = p n := by
  rw [testBit_maskOf, List.contains_eq_mem, Bool.eq_iff_iff]
  simp [hn]

theorem maskOf_range_lt (p : Nat → Bool) : maskOf ((List.range 8).filter p) < 256 :=
  maskOf_lt (k := 8) fun _ hi => List.mem_range.mp (List.mem_filter.mp hi).1

/-- The STA of chained odd timers is cleared and no other word. -/
theorem rword_clearUpper (l : List Nat) {m : Mem} (h : m.wf = true) (a : Nat) :
    rword (l.foldl (fun m n => if gtUpper m n then setRword (gtBase n + 9) 0 m else m) m) a =
      if ∃ n ∈ l, a = gtBase n + 9 ∧ gtUpper m n = true then 0 else rword m a := by
  induction l generalizing m with
  | nil => simp
  | cons n l ih =>
    have hupper : ∀ k, gtUpper (setRword (gtBase n + 9) 0 m) k = gtUpper m k :=
      gtUpper_congr fun j => by rw [rword_setRword_other _ _ (by unfold gtBase; omega)]
    rw [List.foldl_cons]
    by_cases hu : gtUpper m n = true
    · rw [if_pos hu, ih (wf_setRword h _ _)]
      simp only [hupper]
      by_cases ha : a = gtBase n + 9
      · have hzero : rword (setRword (gtBase n + 9) 0 m) a = 0 := by rw [ha, rword_setRword_same h]
        rw [hzero, ite_self, if_pos ⟨n, List.mem_cons_self, ha, hu⟩]
      · simp [rword_setRword_other _ _ ha, ha]
    · rw [if_neg hu, ih h]
      simp [hu]

/-- MOT_STAT of a snapshot (Table 09.2). -/
def motStat (m : Mem) : Nat :=
  256 * maskOf ((List.range 8).filter fun n => !gtUpper m n && rword m (gtBase n + 9) / 4096 % 8 != 0) +
    maskOf ((List.range 8).filter fun n => bit (rword m (scBase n + 4)) 12)

/-- What a snapshot computes: MOT_STAT and MOT_TIME. -/
def computedWords (m : Mem) (time : Nat) : Mem := setRwords [4, 5] (time % 2 ^ 32) (setRword 0 (motStat m) m)

theorem computedWords_other (m : Mem) (time : Nat) {a : Nat} (h0 : a ≠ 0) (h4 : a ≠ 4) (h5 : a ≠ 5) :
    rword (computedWords m time) a = rword m a := by
  rw [computedWords, rword_setRwords_other _ _ (by simp [h4, h5]), rword_setRword_other _ _ h0]

/-- A word of a snapshot: STA of a chained odd timer is 0, and any other is as computed. -/
theorem rword_windowImage {m : Mem} (h : m.wf = true) (time a : Nat) : rword (windowImage m time) a =
    if ∃ n ∈ List.range 8, a = gtBase n + 9 ∧ gtUpper m n = true then 0 else rword (computedWords m time) a := by
  have hupper : ∀ k, gtUpper (computedWords m time) k = gtUpper m k :=
    gtUpper_congr fun j => by rw [computedWords_other m time (by unfold gtBase; omega) (by unfold gtBase; omega)
      (by unfold gtBase; omega)]
  refine (rword_clearUpper (List.range 8) (m := computedWords m time) (wf_setRwords _ _ (wf_setRword h _ _)) a).trans ?_
  simp only [hupper]

/-- The words below the timers are as computed. -/
theorem rword_windowImage_low {m : Mem} (h : m.wf = true) (time : Nat) {a : Nat} (ha : a < 0x80) :
    rword (windowImage m time) a = rword (computedWords m time) a := by
  rw [rword_windowImage h, if_neg]
  rintro ⟨n, -, rfl, -⟩
  unfold gtBase at ha
  omega

theorem motStat_lt (m : Mem) : motStat m < 65536 := by
  have hev := maskOf_range_lt fun n => !gtUpper m n && rword m (gtBase n + 9) / 4096 % 8 != 0
  have hcap := maskOf_range_lt fun n => bit (rword m (scBase n + 4)) 12
  unfold motStat
  omega

theorem rword_motStat {m : Mem} (h : m.wf = true) (time : Nat) : rword (windowImage m time) 0 = motStat m := by
  rw [rword_windowImage_low h _ (by omega), computedWords, rword_setRwords_other _ _ (by simp), rword_setRword_same h,
    Nat.mod_eq_of_lt (motStat_lt m)]

theorem testBit_motStat (m : Mem) {n : Nat} (hn : n < 8) :
    (motStat m).testBit n = (rword m (scBase n + 4)).testBit 12 ∧
      (motStat m).testBit (8 + n) = (!gtUpper m n && rword m (gtBase n + 9) / 4096 % 8 != 0) := by
  have hcap := maskOf_range_lt fun n => bit (rword m (scBase n + 4)) 12
  rw [motStat, show (256 : Nat) = 2 ^ 8 from rfl, Nat.testBit_two_pow_mul_add _ hcap, Nat.testBit_two_pow_mul_add _ hcap,
    if_pos hn, if_neg (by omega), Nat.add_sub_cancel_left, testBit_maskOf_range _ hn, testBit_maskOf_range _ hn]
  exact ⟨rfl, rfl⟩

/-- An event of a timer is a bit of STA from LATE_WRAP to MATCH (Table 09.7). -/
theorem events_iff (v : Nat) : v / 4096 % 8 ≠ 0 ↔ BitVec.ofNat 16 v &&& 0x7000#16 ≠ 0 := by
  have hbit : ∀ i, (v / 2 ^ 12 % 2 ^ 3).testBit i = (decide (i < 3) && v.testBit (12 + i)) := fun i => by
    rw [Nat.testBit_mod_two_pow, Nat.testBit_div_two_pow, Nat.add_comm]
  have hmask : ∀ i, i < 16 → (0x7000#16).getLsbD i = (decide (12 ≤ i) && decide (i - 12 < 3)) := by decide
  have hnone : ∀ i, (0 : BitVec 16).getLsbD i = false := fun _ => BitVec.getLsbD_zero
  refine not_congr ⟨fun h => ?_, fun h => ?_⟩
  · refine BitVec.eq_of_getLsbD_eq fun i hi => ?_
    have hzero : (v / 2 ^ 12 % 2 ^ 3).testBit (i - 12) = false := h ▸ Nat.zero_testBit _
    rw [hbit] at hzero
    rw [BitVec.getLsbD_and, BitVec.getLsbD_ofNat, hmask i hi, hnone]
    by_cases h12 : 12 ≤ i
    · rw [Nat.add_sub_cancel' h12] at hzero
      simpa [h12, hi, Bool.and_comm] using hzero
    · simp [h12]
  · refine Nat.eq_of_testBit_eq fun i => ?_
    refine (hbit i).trans ?_
    rw [Nat.zero_testBit]
    by_cases h3 : i < 3
    · have hzero := congrArg (BitVec.getLsbD · (12 + i)) h
      simp only [BitVec.getLsbD_and, BitVec.getLsbD_ofNat, hmask (12 + i) (by omega), hnone] at hzero
      simpa [h3, show 12 + i < 16 by omega] using hzero
    · simp [h3]

theorem snapshotsShowTheWindow : Claim.SnapshotsShowTheWindow := by
  intro w time hwf t sta
  have hstat := rword_motStat hwf time
  refine ⟨rfl, ?_, fun n hn => ⟨?_, ?_, ?_⟩, fun a h0 h4 h5 hsta => ?_⟩
  · have htime : rwords (windowImage w.regs time) [4, 5] = rwords (computedWords w.regs time) [4, 5] :=
      rwords_congr fun a ha => rword_windowImage_low hwf time (by simp at ha; omega)
    refine htime.trans ((rwords_setRwords_pair (by decide) _ (wf_setRword hwf _ _)).trans (Nat.mod_mod _ _))
  · rw [show rword t.snap 0 = motStat w.regs from hstat, (testBit_motStat w.regs hn).1]
  · rw [show rword t.snap 0 = motStat w.regs from hstat, (testBit_motStat w.regs hn).2, Bool.and_eq_true, bne_iff_ne,
      events_iff, Bool.not_eq_true']
  · refine (rword_windowImage hwf time _).trans ?_
    rw [computedWords_other _ _ (by unfold gtBase; omega) (by unfold gtBase; omega) (by unfold gtBase; omega)]
    refine if_congr ⟨?_, fun hu => ⟨n, List.mem_range.mpr hn, rfl, hu⟩⟩ rfl rfl
    rintro ⟨k, -, hk, hu⟩
    obtain rfl : n = k := by unfold gtBase at hk; omega
    exact hu
  · refine (rword_windowImage hwf time a).trans ?_
    rw [if_neg, computedWords_other _ _ h0 h4 h5]
    rintro ⟨n, hn, ha, -⟩
    exact hsta n (List.mem_range.mp hn) ha

end Sys2Proof.Machine
end

section
/-! PROOF. Registers wider than 16 bits and PEEK (R230, R231, R234, R247; O34). -/

namespace Sys2Proof.Machine

open Sys2Proof

/-! ### Registers wider than 16 bits -/

theorem inRange_iff {lo hi x : Nat} : inRange lo hi x = true ↔ lo ≤ x ∧ x ≤ hi := by simp [inRange]

theorem wide_sc (m : Mem) {n o : Nat} (hn : n < 8) (ho : o < 8) : wide m (scBase n + o) =
    if o ≤ 1 then scWords m n else if o ≤ 3 then [scBase n + 2, scBase n + 3] else [] := by
  have hdiv : (scBase n + o - 0x10) / 8 = n := by unfold scBase; omega
  have hmod : (scBase n + o - 0x10) % 8 = o := by unfold scBase; omega
  have hrange : inRange 0x10 0x4F (scBase n + o) = true := inRange_iff.mpr (by unfold scBase; omega)
  rw [wide, if_neg (by unfold scBase; omega), if_pos hrange]
  simp only [hdiv, hmod]

theorem wide_gt (m : Mem) {n o : Nat} (hn : n < 8) (ho : o < 16) : wide m (gtBase n + o) =
    if o ≤ 5 then gtWords m n (o / 2 * 2) else [] := by
  have hdiv : (gtBase n + o - 0x80) / 16 = n := by unfold gtBase; omega
  have hmod : (gtBase n + o - 0x80) % 16 = o := by unfold gtBase; omega
  have hrange : inRange 0x80 0xFF (gtBase n + o) = true := inRange_iff.mpr (by unfold gtBase; omega)
  have hlow : ¬ inRange 0x10 0x4F (gtBase n + o) = true := mt inRange_iff.mp (by unfold gtBase; omega)
  rw [wide, if_neg (by unfold gtBase; omega), if_neg hlow, if_pos hrange]
  simp only [hdiv, hmod]

/-- The words that belong to a register wider than 16 bits (Table 09.1). -/
theorem wide_cases (m : Mem) (a : Nat) : a = 4 ∨ a = 5 ∨ (∃ n o, n < 8 ∧ o < 8 ∧ a = scBase n + o) ∨
    (∃ n o, n < 8 ∧ o < 16 ∧ a = gtBase n + o) ∨ wide m a = [] := by
  by_cases h4 : a = 4 ∨ a = 5
  · tauto
  by_cases hsc : inRange 0x10 0x4F a = true
  · have hrange : 0x10 ≤ a ∧ a ≤ 0x4F := inRange_iff.mp hsc
    exact .inr (.inr (.inl ⟨(a - 0x10) / 8, (a - 0x10) % 8, by omega, by omega, by unfold scBase; omega⟩))
  by_cases hgt : inRange 0x80 0xFF a = true
  · have hrange : 0x80 ≤ a ∧ a ≤ 0xFF := inRange_iff.mp hgt
    exact .inr (.inr (.inr (.inl ⟨(a - 0x80) / 16, (a - 0x80) % 16, by omega, by omega, by unfold gtBase; omega⟩)))
  · exact .inr (.inr (.inr (.inr (by rw [wide, if_neg h4, if_neg hsc, if_neg hgt]))))

@[simp] theorem scPaired_half (m : Mem) (n : Nat) : scPaired m (n / 2 * 2) = scPaired m n := by
  rw [scPaired, scPaired, Nat.mul_div_cancel _ two_pos]

/-- A count belongs to the lower of the timers or counters that it spans. -/
theorem gtWords_eq (m : Mem) (n off : Nat) : ∃ k ups, k ≤ n ∧ gtWords m n off = (gtBase k + off) :: ups ∧
    gtWords m k off = gtWords m n off := by
  cases hp : gtPaired m n with
  | false => exact ⟨n, _, le_refl n, by rw [gtWords_unpaired hp], rfl⟩
  | true => exact ⟨n / 2 * 2, _, by omega, by rw [gtWords, if_pos hp],
      by rw [gtWords, gtWords, gtPaired_half, Nat.mul_div_cancel _ two_pos, hp, if_pos rfl, if_pos rfl]⟩

theorem scWords_eq (m : Mem) (n : Nat) : ∃ k ups, k ≤ n ∧ scWords m n = scBase k :: ups ∧ scWords m k = scWords m n := by
  cases hp : scPaired m n with
  | false => exact ⟨n, _, le_refl n, by rw [scWords, hp, if_neg (by decide)], rfl⟩
  | true => exact ⟨n / 2 * 2, _, by omega, by rw [scWords, if_pos hp],
      by rw [scWords, scWords, scPaired_half, Nat.mul_div_cancel _ two_pos, hp, if_pos rfl, if_pos rfl]⟩

theorem mem_gtWords_self (m : Mem) (n o : Nat) : gtBase n + o ∈ gtWords m n (o / 2 * 2) := by
  unfold gtWords
  split
  · simp [gtBase]
    omega
  · simp
    omega

theorem mem_scWords_self (m : Mem) (n : Nat) {o : Nat} (ho : o ≤ 1) : scBase n + o ∈ scWords m n := by
  unfold scWords
  split
  · simp [scBase]
    omega
  · simp
    omega

/-- A register is the same from its first word, which is its lowest, and it holds the word asked for. -/
theorem wide_head {m : Mem} {a hd : Nat} {ups : List Nat} (h : wide m a = hd :: ups) :
    hd ≤ a ∧ wide m hd = hd :: ups ∧ a ∈ hd :: ups := by
  obtain rfl | rfl | ⟨n, o, hn, ho, rfl⟩ | ⟨n, o, hn, ho, rfl⟩ | hnone := wide_cases m a
  · cases h
    exact ⟨le_refl 4, rfl, by decide⟩
  · cases h
    exact ⟨by decide, rfl, by decide⟩
  · rw [wide_sc m hn ho] at h
    split at h
    next ho1 =>
      obtain ⟨k, ups', hk, hcons, hsame⟩ := scWords_eq m n
      have hmem := mem_scWords_self m n ho1
      rw [hcons] at h
      obtain ⟨rfl, rfl⟩ := List.cons.inj h
      refine ⟨by unfold scBase; omega, ?_, hcons ▸ hmem⟩
      have hw := wide_sc m (n := k) (o := 0) (by omega) (by omega)
      rw [Nat.add_zero] at hw
      rw [hw, if_pos (by omega), hsame, hcons]
    next ho1 =>
      split at h
      next ho3 =>
        cases h
        refine ⟨by omega, ?_, by simp; omega⟩
        rw [wide_sc m hn (o := 2) (by omega), if_neg (by omega), if_pos (by omega)]
      next => cases h
  · rw [wide_gt m hn ho] at h
    split at h
    next ho5 =>
      obtain ⟨k, ups', hk, hcons, hsame⟩ := gtWords_eq m n (o / 2 * 2)
      have hmem := mem_gtWords_self m n o
      rw [hcons] at h
      obtain ⟨rfl, rfl⟩ := List.cons.inj h
      refine ⟨by unfold gtBase; omega, ?_, hcons ▸ hmem⟩
      rw [wide_gt m (n := k) (o := o / 2 * 2) (by omega) (by omega), if_pos (by omega), Nat.mul_div_cancel _ two_pos,
        hsame, hcons]
    next => cases h
  · rw [hnone] at h
    cases h

/-! ### The fold of a PEEK -/

/-- What loads the read latch of a register: its words above the lowest (R231). -/
def upperBytes (m : Mem) (ups : List Nat) : Bytes := ups.flatMap fun x => leN 2 (rword m x)

/-- The bytes of the read latch of the register with head `h`; none where it was never loaded. -/
def latchOf (l : List (Nat × Bytes)) (h : Nat) : Bytes := ((l.find? fun x => x.1 == h).map (·.2)).getD []

/-- A word as a PEEK from `addr` reads it, whose port had the latches `l` (R231). -/
def peekedWord (m : Mem) (addr : Nat) (l : List (Nat × Bytes)) (a : Nat) : Bytes :=
  match wide m a with
  | [] => leN 2 (rword m a)
  | hd :: ups =>
    if addr ≤ hd then leN 2 (rword m a) else padTo 2 (slice (latchOf l hd) (2 * ups.findIdx (· == a)) 2)

/-- The read latch that reading a word loads: that of the register whose lowest word it is. -/
def peekLoad (m : Mem) (a : Nat) : Option (Nat × Bytes) :=
  match wide m a with
  | hd :: ups => if hd = a then some (hd, upperBytes m ups) else none
  | [] => none

theorem slice_upperBytes (m : Mem) {ups : List Nat} {a : Nat} (h : a ∈ ups) :
    slice (upperBytes m ups) (2 * ups.findIdx (· == a)) 2 = leN 2 (rword m a) := by
  induction ups with
  | nil => cases h
  | cons x ups ih =>
    rw [upperBytes, List.flatMap_cons, List.findIdx_cons]
    by_cases hx : x = a
    · subst hx
      rw [beq_self_eq_true, cond_true, Nat.mul_zero, slice_append_left _ (by simp), slice, List.drop_zero,
        List.take_of_length_le (by simp)]
    · rw [beq_false_of_ne hx, cond_false, Nat.mul_succ, Nat.add_comm, slice_append_right _ _ _ (length_leN 2 _)]
      exact ih ((List.mem_cons.mp h).resolve_left fun he => hx he.symm)

theorem padTo_leN (k v : Nat) : padTo k (leN k v) = leN k v := by
  rw [padTo, length_leN, Nat.sub_self, zeros, List.replicate_zero, List.append_nil, List.take_of_length_le (by simp)]

theorem length_peekedWord (m : Mem) (addr : Nat) (l : List (Nat × Bytes)) (a : Nat) : (peekedWord m addr l a).length = 2 := by
  unfold peekedWord
  split
  · exact length_leN 2 _
  · split
    · exact length_leN 2 _
    · exact length_padTo 2 _

/-- A latch loaded anew is the one that is read. -/
theorem latchOf_load (l : List (Nat × Bytes)) (x : Nat × Bytes) (h : Nat) :
    latchOf ((l.filter fun y => y.1 != x.1) ++ [x]) h = if h = x.1 then x.2 else latchOf l h := by
  unfold latchOf
  rw [List.find?_append]
  by_cases hx : h = x.1
  · have hnone : (l.filter fun y => y.1 != x.1).find? (fun y => y.1 == h) = none :=
      List.find?_eq_none.mpr fun y hy => by simpa [hx] using (List.mem_filter.mp hy).2
    rw [hnone]
    simp [hx]
  · have hsame : (l.filter fun y => y.1 != x.1).find? (fun y => y.1 == h) = l.find? fun y => y.1 == h := by
      rw [List.find?_filter]
      congr 1
      funext y
      by_cases hy : y.1 = h <;> simp [hy, hx]
    rw [hsame, if_neg hx]
    cases l.find? fun y => y.1 == h with
    | some y => rfl
    | none => simp [Ne.symm hx]

/-! The three cases of a word: of no wide register, the lowest of one, an upper one. -/

theorem peekWord_plain {m : Mem} {a : Nat} (hw : wide m a = []) (acc : List (Nat × Bytes) × Bytes × List (Nat × Bytes)) :
    peekWord m a acc = (acc.1, acc.2.1 ++ leN 2 (rword m a), acc.2.2) := by
  simp only [peekWord, hw]

theorem peekWord_lowest {m : Mem} {a : Nat} {ups : List Nat} (hw : wide m a = a :: ups)
    (acc : List (Nat × Bytes) × Bytes × List (Nat × Bytes)) :
    peekWord m a acc = ((acc.1.filter fun x => x.1 != a) ++ [(a, upperBytes m ups)], acc.2.1 ++ leN 2 (rword m a),
      acc.2.2 ++ [(a, upperBytes m ups)]) := by
  simp only [peekWord, hw, if_true]
  rfl

theorem peekWord_upper {m : Mem} {a hd : Nat} {ups : List Nat} (hw : wide m a = hd :: ups) (hne : a ≠ hd)
    (acc : List (Nat × Bytes) × Bytes × List (Nat × Bytes)) :
    peekWord m a acc = (acc.1, acc.2.1 ++ padTo 2 (slice (latchOf acc.1 hd) (2 * ups.findIdx (· == a)) 2), acc.2.2) := by
  simp only [peekWord, hw, hne, if_false]
  rfl

/-- The words of a PEEK so far, and the latches as it sees them. -/
structure Peeked (m : Mem) (addr count : Nat) (l : List (Nat × Bytes))
    (acc : List (Nat × Bytes) × Bytes × List (Nat × Bytes)) : Prop where
  bytes : acc.2.1 = (List.range count).flatMap fun i => peekedWord m addr l (addr + i)
  loads : acc.2.2 = (List.range count).filterMap fun i => peekLoad m (addr + i)
  latch : ∀ h ups, wide m h = h :: ups →
    latchOf acc.1 h = if addr ≤ h ∧ h < addr + count then upperBytes m ups else latchOf l h

theorem Peeked.next {m : Mem} {addr count : Nat} {l : List (Nat × Bytes)}
    {acc : List (Nat × Bytes) × Bytes × List (Nat × Bytes)} (p : Peeked m addr count l acc) :
    Peeked m addr (count + 1) l (peekWord m (addr + count) acc) := by
  generalize ha : addr + count = a
  have hbytes : ∀ b : Bytes, peekedWord m addr l a = b →
      acc.2.1 ++ b = (List.range (count + 1)).flatMap fun i => peekedWord m addr l (addr + i) := fun b hb => by
    rw [List.range_succ, List.flatMap_append, List.flatMap_singleton, ha, hb, p.bytes]
  have hloads : ∀ x : Option (Nat × Bytes), peekLoad m a = x →
      acc.2.2 ++ x.toList = (List.range (count + 1)).filterMap fun i => peekLoad m (addr + i) := fun x hx => by
    rw [List.range_succ, List.filterMap_append, p.loads]
    cases x <;> simp [ha, hx]
  have hlatch : ∀ h ups, wide m h = h :: ups → h ≠ a →
      latchOf acc.1 h = if addr ≤ h ∧ h < addr + (count + 1) then upperBytes m ups else latchOf l h := fun h ups hh hne => by
    rw [p.latch h ups hh]
    exact if_congr (by omega) rfl rfl
  cases hw : wide m a with
  | nil =>
    rw [peekWord_plain hw]
    refine ⟨hbytes _ (by simp only [peekedWord, hw]), ?_, fun h ups hh => hlatch h ups hh fun he => ?_⟩
    · simpa using hloads none (by simp only [peekLoad, hw])
    · rw [he, hw] at hh
      cases hh
  | cons hd ups =>
    obtain ⟨hle, hself, hmem⟩ := wide_head hw
    by_cases heq : a = hd
    · subst heq
      rw [peekWord_lowest hw]
      refine ⟨hbytes _ (by simp only [peekedWord, hw]; exact if_pos (by omega)),
        hloads (some _) (by simp only [peekLoad, hw, if_true]), fun h ups' hh => ?_⟩
      refine (latchOf_load acc.1 (a, upperBytes m ups) h).trans ?_
      by_cases hhd : h = a
      · subst hhd
        rw [if_pos rfl, if_pos (by omega), (List.cons.inj (hw.symm.trans hh)).2]
      · rw [if_neg hhd, hlatch h ups' hh hhd]
    · have hup : a ∈ ups := (List.mem_cons.mp hmem).resolve_left heq
      rw [peekWord_upper hw heq]
      refine ⟨hbytes _ ?_, ?_, fun h ups' hh => hlatch h ups' hh fun he => ?_⟩
      · simp only [peekedWord, hw]
        rw [p.latch hd ups hself]
        by_cases haddr : addr ≤ hd
        · rw [if_pos haddr, if_pos (by omega), slice_upperBytes m hup, padTo_leN]
        · rw [if_neg haddr, if_neg (by omega)]
      · simpa using hloads none (by simp only [peekLoad, hw]; exact if_neg (Ne.symm heq))
      · rw [he, hw] at hh
        exact heq (List.cons.inj hh).1.symm

theorem peeked_foldl (m : Mem) (addr : Nat) (l : List (Nat × Bytes)) (count : Nat) :
    Peeked m addr count l (((List.range count).map (addr + ·)).foldl (fun acc a => peekWord m a acc) (l, [], [])) := by
  induction count with
  | zero => exact ⟨rfl, rfl, fun h _ _ => by rw [if_neg (by omega)]; rfl⟩
  | succ count ih =>
    rw [List.range_succ, List.map_append, List.foldl_append]
    exact ih.next

/-! ### PEEK -/

theorem zero_of_byteAt {b : Bytes} {i : Nat} (h : byteAt b i = 0#8) : zero b i 1 = true := by
  rw [zero, slice, List.take_one, List.head?_drop]
  rw [byteAt, List.getD_eq_getElem?_getD] at h
  cases hb : b[i]? with
  | none => rfl
  | some x => simpa [hb] using h

/-- The test that PEEK and POKE share (R247, R248). -/
theorem rangeBad_false {tk : Ticket} {args : Bytes} (hlen : 4 ≤ args.length) (hz : byteAt args 3 = 0#8)
    (h1 : 1 ≤ oct args 2) (h118 : oct args 2 ≤ 118) (haddr : num args 0 2 + oct args 2 ≤ 0x1000)
    (hroom : tk.room (4 + 2 * oct args 2) = true) : rangeBad tk args = false := by
  rw [rangeBad, zero_of_byteAt hz, hroom, inRange_iff.mpr ⟨h1, h118⟩]
  simp [hlen, haddr]

theorem Supplied.image_window (s : State) (m : Mem) (captures : List Nat) :
    (Supplied.window m captures).image s = (m, captures) := rfl

theorem State.seenIn_tick (s : State) : s.seenIn s.tick = .window s.win.snap s.win.snapCaptures :=
  if_neg (lt_irrefl _)

/-- A PEEK from an address and a COUNT reads a captured word or does not. -/
theorem contains_range (addr count a : Nat) : ((List.range count).map (addr + ·)).contains a =
    (decide (addr ≤ a) && decide (a < addr + count)) := by
  rw [List.contains_eq_mem, Bool.eq_iff_iff, decide_eq_true_eq, List.mem_map, Bool.and_eq_true, decide_eq_true_eq,
    decide_eq_true_eq]
  constructor
  · rintro ⟨i, hi, rfl⟩
    have := List.mem_range.mp hi
    omega
  · rintro ⟨h, h'⟩
    exact ⟨a - addr, List.mem_range.mpr (by omega), by omega⟩

/-- The captures that a PEEK returns (R234). -/
def peekCaps (m : Mem) (captures : List Nat) (addr count : Nat) : List CapRead :=
  ((List.range 8).filter fun x => decide (addr ≤ scBase x + 2) && decide (scBase x + 2 < addr + count)).map fun x =>
    ⟨x, captures.getD x 0, (rword m (scBase x + 4)).testBit 11⟩

/-- What an admitted PEEK answers, and what it leaves for the commit phase (R230, R231, R234). -/
theorem peekWork_run (args : Bytes) (m : Mem) (captures : List Nat) (tk : Ticket) (b : State) :
    (peekWork args (.window m captures)).run tk b =
      let addr := num args 0 2
      let count := oct args 2
      ({ b with win := { b.win with
          capRead := b.win.capRead ++ peekCaps m captures addr count
          latchLoads := b.win.latchLoads ++
            (List.range count).filterMap fun i => (peekLoad m (addr + i)).map fun l => (tk.port, l) } } : State).done tk
        (args.take 3 ++ [0#8] ++ (List.range count).flatMap fun i => peekedWord m addr (b.port tk.port).latches (addr + i)) := by
  obtain ⟨hbytes, hloads, -⟩ := peeked_foldl m (num args 0 2) (b.port tk.port).latches (oct args 2)
  simp only [peekWork, Supplied.image_window, contains_range, hbytes, hloads, List.map_filterMap]
  rfl

/-- A load as the statement spells it. -/
theorem map_peekLoad (m : Mem) (p : PortId) (a : Nat) : (peekLoad m a).map (fun l => (p, l)) =
    match wide m a with
    | hd :: ups => if hd = a then some (p, hd, ups.flatMap fun x => leN 2 (rword m x)) else none
    | [] => none := by
  unfold peekLoad
  cases wide m a with
  | nil => rfl
  | cons hd ups => by_cases h : hd = a <;> simp [h, upperBytes]

theorem peekReadsTheSnapshot : Claim.PeekReadsTheSnapshot := by
  intro h args s k n addr count caps loads hc hlen hz h1 h118 haddr hroom
  refine ⟨fun b => (List.range count).flatMap fun i => peekedWord s.win.snap addr (b.port h.port).latches (addr + i), ?_,
    fun b => ⟨?_, fun i hi => ?_⟩⟩
  · have hcheck : (peekWork args (s.seenIn s.tick)).check (k.ticket s) (k.counted s) = {} := by
      change ({ arg := rangeBad (k.ticket s) args || args.length != 4 } : Checks) = _
      rw [rangeBad_false (by omega) hz h1 h118 haddr hroom, hlen]
      rfl
    have hexec := command_clear k (peekWork args (s.seenIn s.tick)) (s.seenIn s.tick) n s hc rfl rfl hcheck
    refine congrArg Host.Outcome.next (hexec.trans ?_)
    rw [s.seenIn_tick, Clause.goes, Clause.goes, Clause.goesFrom, Clause.goesFrom]
    refine if_congr Iff.rfl rfl ?_
    refine (peekWork_run args s.win.snap s.win.snapCaptures (k.ticket s) (k.begun n s)).trans ?_
    simp only [map_peekLoad]
    rfl
  · rw [length_flatMap_const fun i => length_peekedWord s.win.snap addr _ (addr + i), List.length_range]
  · rw [slice_flatMap_range (fun j => length_peekedWord s.win.snap addr _ (addr + j)) hi]
    rfl

end Sys2Proof.Machine
end

section
/-! PROOF. What waits for the write cycle: POKE and TIMER_CFG (R229, R248, R249; O34). -/

namespace Sys2Proof.Machine

open Sys2Proof

/-! ### POKE -/

/-- The number of words in byte 2, given back as that byte. -/
theorem slice_one {b : Bytes} {i : Nat} (h : i < b.length) : slice b i 1 = leN 1 (oct b i) := by
  rw [slice, List.drop_eq_getElem_cons h, List.take_succ_cons, List.take_zero, leN, leN, oct, byteAt,
    List.getD_eq_getElem _ _ h, BitVec.ofNat_toNat, BitVec.setWidth_eq]

theorem pokeWork_check {args : Bytes} {tk : Ticket} (hlen : args.length = 4 + 2 * oct args 2)
    (hbad : rangeBad tk args = false)
    (hok : ∀ i, i < oct args 2 → pokeOk (num args 0 2 + i) (num args (4 + 2 * i) 2) = true) (s : State) :
    (pokeWork args).check tk s = {} := by
  have hall : ((pokeWords args).zipIdx.all fun p => pokeOk (num args 0 2 + p.2) p.1) = true := by
    rw [List.all_eq_true]
    rintro ⟨v, i⟩ hm
    obtain ⟨hi, hv⟩ := List.mem_zipIdx' hm
    have hi' : i < oct args 2 := by simpa [pokeWords] using hi
    simpa [hv, pokeWords] using hok i hi'
  change ({ arg := rangeBad tk args || args.length != 4 + 2 * oct args 2 ||
    !((pokeWords args).zipIdx.all fun p => pokeOk (num args 0 2 + p.2) p.1) } : Checks) = {}
  rw [hbad, hall, hlen, bne_self_eq_false]
  rfl

/-! ### Registers of 16 bits -/

/-- A write of a 16-bit register writes its word or, for GSTART, nothing. -/
theorem setSingle_cases (a v : Nat) (m : Mem) : setSingle a v m = m ∨ ∃ x, setSingle a v m = setRword a x m := by
  unfold setSingle
  split_ifs
  · exact .inl rfl
  · exact .inr ⟨_, rfl⟩
  · exact .inr ⟨_, rfl⟩
  · exact .inr ⟨_, rfl⟩

theorem rword_setSingle_other (m : Mem) {a b : Nat} (v : Nat) (h : b ≠ a) : rword (setSingle a v m) b = rword m b := by
  obtain hs | ⟨x, hs⟩ := setSingle_cases a v m
  · rw [hs]
  · rw [hs, rword_setRword_other _ _ h]

/-- SCn_CTL after a write (Table 09.4). -/
def scCtlAfter (old new : BitVec 16) : BitVec 16 :=
  (new &&& 0xE000#16) ||| (old &&& 0x1000#16) ||| (old &&& 0x0C00#16 &&& ~~~ new)

/-- STA after a write (Table 09.7). -/
def staAfter (old new : BitVec 16) : BitVec 16 := (old &&& 0x8800#16) ||| (old &&& 0x7000#16 &&& ~~~ new)

theorem rword_setRword_bits {m : Mem} (h : m.wf = true) (a : Nat) (b : BitVec 16) :
    rword (setRword a b.toNat m) a = b.toNat := by
  rw [rword_setRword_same h, Nat.mod_eq_of_lt b.isLt]

theorem rword_setSingle_sc {m : Mem} (h : m.wf = true) {a : Nat} (ha : inRange 0x10 0x4F a = true) (v : Nat) :
    rword (setSingle a v m) a = (scCtlAfter (BitVec.ofNat 16 (rword m a)) (BitVec.ofNat 16 v)).toNat := by
  have hr := inRange_iff.mp ha
  rw [setSingle, if_neg (by omega), if_pos ha]
  exact rword_setRword_bits h a _

theorem rword_setSingle_sta {m : Mem} (h : m.wf = true) {n : Nat} (hn : n < 8) (v : Nat) :
    rword (setSingle (gtBase n + 9) v m) (gtBase n + 9) =
      (staAfter (BitVec.ofNat 16 (rword m (gtBase n + 9))) (BitVec.ofNat 16 v)).toNat := by
  have hlow : ¬ inRange 0x10 0x4F (gtBase n + 9) = true := mt inRange_iff.mp (by unfold gtBase; omega)
  have hsta : (inRange 0x80 0xFF (gtBase n + 9) && (gtBase n + 9 - 0x80) % 16 == 9) = true := by
    rw [Bool.and_eq_true, inRange_iff, beq_iff_eq]
    unfold gtBase
    omega
  rw [setSingle, if_neg (by unfold gtBase; omega), if_neg hlow, if_pos hsta]
  exact rword_setRword_bits h _ _

theorem setSingle_plain {a : Nat} (h1 : a ≠ 1) (hsc : inRange 0x10 0x4F a = false)
    (hsta : ∀ n, n < 8 → a ≠ gtBase n + 9) (v : Nat) (m : Mem) : setSingle a v m = setRword a v m := by
  have hno : ¬ (inRange 0x80 0xFF a && (a - 0x80) % 16 == 9) = true := by
    rw [Bool.and_eq_true, inRange_iff, beq_iff_eq]
    rintro ⟨hr, hm⟩
    exact hsta ((a - 0x80) / 16) (by omega) (by unfold gtBase; omega)
  rw [setSingle, if_neg h1, hsc, if_neg (by decide), if_neg hno]

/-! ### TIMER_CFG -/

/-- TIMER_CFG answers GTn_STA with PEND cleared, SCn_CTL as written, or SPOn_CTL (R240, R249). -/
theorem cfgAnswer_cases {m : Mem} (h : m.wf = true) (t ctl : Nat) :
    (t < 8 → cfgAnswer m t ctl = if t % 2 = 1 ∧ ctl.testBit 14 = true then 0
      else (BitVec.ofNat 16 (rword m (gtBase t + 9)) &&& 0xF7FF#16).toNat) ∧
    (0x10 ≤ t → t < 0x18 → cfgAnswer m t ctl =
      (scCtlAfter (BitVec.ofNat 16 (rword m (scBase (t - 0x10) + 4))) (BitVec.ofNat 16 ctl)).toNat) ∧
    (0x20 ≤ t → cfgAnswer m t ctl = ctl) := by
  refine ⟨fun ht => ?_, fun hlo hhi => ?_, fun hlo => ?_⟩
  · simp [cfgAnswer, ht]
  · rw [cfgAnswer, if_neg (by simp; omega), if_neg (by omega), if_pos hhi,
      rword_setSingle_sc h (inRange_iff.mpr (by unfold scBase; omega))]
  · rw [cfgAnswer, if_neg (by simp; omega), if_neg (by omega), if_neg (by omega)]

theorem timerWritesWait : Claim.TimerWritesWait := by
  intro h args s
  refine ⟨?_, ?_⟩
  · intro k n addr count words hc hlen hz h1 h118 haddr hroom hok
    have hlen4 : 4 ≤ args.length := by omega
    have hcheck := pokeWork_check hlen (rangeBad_false hlen4 hz h1 h118 haddr hroom) hok (k.counted s)
    have hexec := command_clear k (pokeWork args) .nothing n s hc rfl rfl hcheck
    refine congrArg Host.Outcome.next (hexec.trans ?_)
    have hcount : slice args 2 1 ++ zeros 3 = leN 1 count ++ [0#8, 0#8, 0#8] := by
      rw [slice_one (by omega)]
      rfl
    simp only [pokeWork, hcount]
    rfl
  · intro k n target ctl hc hbad hbusy
    have hcheck : (timerCfgWork args).check (k.ticket s) (k.counted s) = {} := by
      change ({ arg := timerCfgBad args, state := timerCfgBusy s.win.snap (oct args 0) } : Checks) = {}
      rw [hbad, hbusy]
    refine ⟨fun b => leN 2 (cfgAnswer b.win.snap target ctl) ++ zeros 2,
      congrArg Host.Outcome.next (command_clear k (timerCfgWork args) .nothing n s hc rfl rfl hcheck), fun b hb => ?_⟩
    obtain ⟨htimer, hcounter, hpulse⟩ := cfgAnswer_cases hb target ctl
    refine ⟨fun ht => ?_, fun hlo hhi => ?_, fun hlo => ?_⟩
    · refine (congrArg (fun v => leN 2 v ++ zeros 2) (htimer ht)).trans ?_
      by_cases hup : target % 2 = 1 ∧ ctl.testBit 14 = true
      · rw [if_pos hup, if_pos hup]
        rfl
      · rw [if_neg hup, if_neg hup]
        rfl
    · exact congrArg (fun v => leN 2 v ++ zeros 2) (hcounter hlo hhi)
    · exact congrArg (fun v => leN 2 v ++ zeros 2) (hpulse hlo)

end Sys2Proof.Machine
end

section
/-! PROOF. The write cycle (R229, R232, R237, R249; O34). -/

namespace Sys2Proof.Machine

open Sys2Proof

/-! ### The write cycle -/

/-- The state once a window write has landed, GSTART aside. -/
def State.landed (s : State) : WinWrite → State
  | .poke _ p addr words =>
    let r := (List.range words.length).foldl (fun acc i => Window.pokeWord addr words (addr + i) acc) (s.win, (s.port p).wbuf)
    State.onPort { s with win := r.1 } p fun q => { q with wbuf := r.2 }
  | .cfg _ t c a p per cmp cnt => { s with win := s.win.cfg t c a p per cmp cnt }

/-- The window once the GSTART of a write has acted. -/
def Window.groupActs (time : Nat) (w : Window) : WinWrite → Window
  | .poke _ _ addr words => (gstartOf addr words).elim w fun v => gstart v time w
  | .cfg _ _ _ _ _ _ _ _ => w

theorem State.writeCycle_eq (s : State) : s.writeCycle =
    let writes := sortBy (fun x y => decide (x.order ≤ y.order)) s.win.writes
    let t := writes.foldl State.landed s
    { t with win := { writes.foldl (Window.groupActs s.writeTime) t.win with writes := [] } } := by
  unfold State.writeCycle
  extract_lets writes s1 w
  have hs : s1 = writes.foldl State.landed s := List.foldl_ext _ _ _ fun t x _ => by cases x <;> rfl
  have hw : w = writes.foldl (Window.groupActs s.writeTime) s1.win := List.foldl_ext _ _ _ fun w x _ => by
    cases x with
    | poke o p addr ws => simp only [Window.groupActs]; cases gstartOf addr ws <;> rfl
    | cfg => rfl
  rw [hw, hs]

theorem State.writeCycle_one {s : State} {x : WinWrite} (h : s.win.writes = [x]) : s.writeCycle =
    { s.landed x with win := { (s.landed x).win.groupActs s.writeTime x with writes := [] } } := by
  rw [State.writeCycle_eq, h]
  rfl

/-- The window and the write buffer of the port after the words of a POKE. -/
def State.poked (s : State) (p : PortId) (addr : Nat) (words : List Nat) : Window × List (Nat × Nat) :=
  (List.range words.length).foldl (fun acc i => Window.pokeWord addr words (addr + i) acc) (s.win, (s.port p).wbuf)

theorem State.writeCycle_poke {s : State} {o addr : Nat} {p : PortId} {words : List Nat}
    (h : s.win.writes = [.poke o p addr words]) :
    s.writeCycle.win =
      { (gstartOf addr words).elim (s.poked p addr words).1 fun v => gstart v s.writeTime (s.poked p addr words).1 with
          writes := [] } ∧
    (∀ q, q ≠ p → s.writeCycle.port q = s.port q) ∧
    s.writeCycle.port p = { s.port p with wbuf := (s.poked p addr words).2 } := by
  rw [State.writeCycle_one h]
  refine ⟨rfl, fun q hq => ?_, ?_⟩
  · cases p with
    | a => cases q with
      | a => exact absurd rfl hq
      | b => rfl
    | b => cases q with
      | a => rfl
      | b => exact absurd rfl hq
  · cases p <;> rfl

/-- A POKE above GSTART starts nothing. -/
theorem gstartOf_none {addr : Nat} (h : 2 ≤ addr) (words : List Nat) : gstartOf addr words = none := if_neg (by omega)

theorem State.poked_one (s : State) (p : PortId) (addr v : Nat) :
    s.poked p addr [v] = Window.pokeWord addr [v] addr (s.win, (s.port p).wbuf) := rfl

theorem State.poked_two (s : State) (p : PortId) (addr lo hi : Nat) : s.poked p addr [lo, hi] =
    Window.pokeWord addr [lo, hi] (addr + 1) (Window.pokeWord addr [lo, hi] addr (s.win, (s.port p).wbuf)) := rfl

/-! ### The words of a POKE (R232) -/

theorem pokeWord_single {w : Window} {a : Nat} (h : wide w.regs a = []) (v : Nat) (buf : List (Nat × Nat)) :
    Window.pokeWord a [v] a (w, buf) = ({ w with regs := setSingle a v w.regs }, buf) := by
  simp [Window.pokeWord, h]

theorem pokeWord_both {w : Window} {a : Nat} (h : wide w.regs a = [a, a + 1]) (lo hi : Nat) (buf : List (Nat × Nat)) :
    Window.pokeWord a [lo, hi] a (w, buf) = (w.setWide [a, a + 1] (lo + 65536 * hi), buf) := by
  simp [Window.pokeWord, h]

theorem pokeWord_both_upper {w : Window} {a : Nat} (h : wide w.regs (a + 1) = [a, a + 1]) (lo hi : Nat)
    (buf : List (Nat × Nat)) : Window.pokeWord a [lo, hi] (a + 1) (w, buf) = (w, buf) := by
  simp [Window.pokeWord, h]

theorem pokeWord_upper {w : Window} {a : Nat} (h : wide w.regs (a + 1) = [a, a + 1]) (hi : Nat) (buf : List (Nat × Nat)) :
    Window.pokeWord (a + 1) [hi] (a + 1) (w, buf) = (w, (buf.filter fun x => x.1 != a + 1) ++ [(a + 1, hi)]) := by
  simp [Window.pokeWord, h]

theorem pokeWord_low {w : Window} {a : Nat} (h : wide w.regs a = [a, a + 1]) (lo : Nat) (buf : List (Nat × Nat)) :
    Window.pokeWord a [lo] a (w, buf) = (w.setWide [a, a + 1]
      (lo + 65536 * ((buf.find? fun x => x.1 == a + 1).map (·.2)).getD (rword w.regs (a + 1))),
      buf.filter fun x => x.1 != a + 1) := by
  simp [Window.pokeWord, h]
  rfl

/-! ### CNT, PER and CMP as they are written (R232, R237) -/

/-- A value for PER or CMP of GTn waits. -/
def Window.waiting (n : Nat) (w : Window) : Bool := (w.forcePer.getD n none).isSome || (w.forceCmp.getD n none).isSome

theorem Window.pend_regs (n : Nat) (w : Window) : (w.pend n).regs =
    if w.waiting n then mark (gtBase n + 9) 0x0800 0 w.regs else mark (gtBase n + 9) 0 0x0800 w.regs := rfl

theorem pend_other (n : Nat) (w : Window) {a : Nat} (h : a ≠ gtBase n + 9) : rword (w.pend n).regs a = rword w.regs a := by
  rw [Window.pend_regs]
  split
  · exact rword_mark_other _ _ _ h
  · exact rword_mark_other _ _ _ h

theorem wf_pend (n : Nat) {w : Window} (h : w.regs.wf = true) : (w.pend n).regs.wf = true := by
  rw [Window.pend_regs]
  split
  · exact wf_mark h _ _ _
  · exact wf_mark h _ _ _

/-- PEND is set while PER or CMP waits (Table 09.7). -/
theorem testBit_pend (n : Nat) {w : Window} (h : w.regs.wf = true) :
    (rword (w.pend n).regs (gtBase n + 9)).testBit 11 = w.waiting n := by
  rw [Window.pend_regs]
  cases w.waiting n with
  | false => exact (testBit_mark_clear h _ (off := 0x0800) (k := 11) rfl (by omega)).trans (by simp)
  | true => exact (testBit_mark_set h _ (on := 0x0800) (k := 11) rfl (by omega)).trans (by simp)

theorem timed_count {n : Nat} (hn : n < 8) : timed (gtBase n) = none := by
  have hmod : (gtBase n - 0x80) % 16 = 0 := by unfold gtBase; omega
  rw [timed, hmod, show inRange 2 5 0 = false from rfl, Bool.and_false, if_neg (by decide)]

theorem timed_register {n off : Nat} (hn : n < 8) (hoff : off = 2 ∨ off = 4) : timed (gtBase n + off) = some (n, off) := by
  have hdiv : (gtBase n + off - 0x80) / 16 = n := by unfold gtBase; omega
  have hmod : (gtBase n + off - 0x80) % 16 = off := by unfold gtBase; omega
  have hr : inRange 0x80 0xFF (gtBase n + off) = true := inRange_iff.mpr (by unfold gtBase; omega)
  have hr' : inRange 2 5 off = true := inRange_iff.mpr (by omega)
  rw [timed, hmod, hdiv, hr, hr', Bool.and_true, if_pos rfl]
  obtain rfl | rfl := hoff
  · rfl
  · rfl

/-- A value waits for the next wrap of GTn: it runs with PRELOAD (R237). -/
def Window.preloads (n : Nat) (w : Window) : Bool := gtRun w.regs n && bit (rword w.regs (gtBase n + 6)) 13

/-- What stays in force while the value written waits. -/
def Window.heldBack (n off : Nat) (w : Window) : Option Nat := if w.preloads n then some (w.inForce n off) else none

/-- What stays in force of PER and of CMP of every timer once one of them is written. -/
def Window.heldLists (n off : Nat) (w : Window) : List (Option Nat) × List (Option Nat) :=
  if off = 2 then (w.forcePer.set n (w.heldBack n off), w.forceCmp) else (w.forcePer, w.forceCmp.set n (w.heldBack n off))

theorem Window.setWide_count {n : Nat} (hn : n < 8) (v : Nat) (w : Window) :
    w.setWide [gtBase n, gtBase n + 1] v = { w with regs := setRwords [gtBase n, gtBase n + 1] v w.regs } := by
  simp only [Window.setWide, timed_count hn]

theorem Window.setWide_timed {n off : Nat} (hn : n < 8) (hoff : off = 2 ∨ off = 4) (v : Nat) (w : Window) :
    w.setWide [gtBase n + off, gtBase n + off + 1] v = Window.pend n { w with
      regs := setRwords [gtBase n + off, gtBase n + off + 1] v w.regs
      forcePer := (w.heldLists n off).1
      forceCmp := (w.heldLists n off).2 } := by
  simp only [Window.setWide, timed_register hn hoff]
  obtain rfl | rfl := hoff
  · rfl
  · rfl

/-- GTn has taken a value for CNT (0), PER (2) or CMP (4): its words hold it, no word but these and STA changes, and PER and CMP
of a running timer with PRELOAD wait for its wrap. -/
structure TimerTakes (n off v : Nat) (w t : Window) : Prop where
  wf : t.regs.wf = true
  value : rwords t.regs [gtBase n + off, gtBase n + off + 1] = v
  other : ∀ x, x ∉ [gtBase n + off, gtBase n + off + 1, gtBase n + 9] → rword t.regs x = rword w.regs x
  waits : off ≠ 0 → w.preloads n = true →
    t.inForce n off = w.inForce n off ∧ (rword t.regs (gtBase n + 9)).testBit 11 = true
  takes : off ≠ 0 → w.preloads n = false → t.inForce n off = v

/-- The registers of two words of a timer that is not chained. -/
theorem wide_unpaired {m : Mem} {n off : Nat} (hn : n < 8) (hp : gtPaired m n = false) (hoff : off = 0 ∨ off = 2 ∨ off = 4) :
    wide m (gtBase n + off) = [gtBase n + off, gtBase n + off + 1] ∧
      wide m (gtBase n + off + 1) = [gtBase n + off, gtBase n + off + 1] := by
  have h0 := wide_gt m hn (o := off) (by omega)
  have h1 := wide_gt m hn (o := off + 1) (by omega)
  rw [if_pos (by omega), gtWords_unpaired hp, show off / 2 * 2 = off by omega] at h0
  rw [if_pos (by omega), gtWords_unpaired hp, show (off + 1) / 2 * 2 = off by omega] at h1
  exact ⟨h0, h1⟩

theorem TimerTakes.paired {n off v : Nat} {w t : Window} (h : TimerTakes n off v w t) (hoff : off ≤ 4) (k : Nat) :
    gtPaired t.regs k = gtPaired w.regs k :=
  gtPaired_congr (fun j => by rw [h.other _ (by simp [gtBase]; omega)]) k

theorem timerTakes_count {n v : Nat} {w : Window} (hn : n < 8) (hwf : w.regs.wf = true) :
    TimerTakes n 0 (v % 2 ^ 32) w (w.setWide [gtBase n, gtBase n + 1] v) := by
  rw [Window.setWide_count hn]
  refine ⟨wf_setRwords _ _ hwf, ?_, fun x hx => ?_, nofun, nofun⟩
  · exact rwords_setRwords_pair (Nat.ne_add_one _) v hwf
  · exact rword_setRwords_other _ _ (by simp at hx ⊢; omega)

theorem timerTakes_timed {n off v : Nat} {w : Window} (hn : n < 8) (hoff : off = 2 ∨ off = 4) (hwf : w.regs.wf = true)
    (hp : gtPaired w.regs n = false) (hper : w.forcePer.length = 8) (hcmp : w.forceCmp.length = 8) :
    TimerTakes n off (v % 2 ^ 32) w (w.setWide [gtBase n + off, gtBase n + off + 1] v) := by
  rw [Window.setWide_timed hn hoff]
  generalize hw1 : ({ w with
      regs := setRwords [gtBase n + off, gtBase n + off + 1] v w.regs
      forcePer := (w.heldLists n off).1
      forceCmp := (w.heldLists n off).2 } : Window) = w1
  have hwf1 : w1.regs.wf = true := by rw [← hw1]; exact wf_setRwords _ _ hwf
  have hvalue : rwords (w1.pend n).regs [gtBase n + off, gtBase n + off + 1] = v % 2 ^ 32 := by
    have hpend : rwords (w1.pend n).regs [gtBase n + off, gtBase n + off + 1] =
        rwords w1.regs [gtBase n + off, gtBase n + off + 1] :=
      rwords_congr fun a ha => pend_other n w1 (by simp at ha; omega)
    rw [hpend, ← hw1]
    exact rwords_setRwords_pair (Nat.ne_add_one _) v hwf
  have hother : ∀ x, x ∉ [gtBase n + off, gtBase n + off + 1, gtBase n + 9] →
      rword (w1.pend n).regs x = rword w.regs x := fun x hx => by
    rw [pend_other n w1 (by simp at hx; omega), ← hw1]
    exact rword_setRwords_other _ _ (by simp at hx ⊢; omega)
  have hpaired : gtPaired (w1.pend n).regs n = false :=
    (gtPaired_congr (fun j => by rw [hother _ (by simp [gtBase]; omega)]) n).trans hp
  have hforce : (w1.pend n).inForce n off = (w.heldBack n off).getD (v % 2 ^ 32) := by
    rw [← hvalue, ← gtWords_unpaired hpaired]
    obtain rfl | rfl := hoff
    · rw [Window.inForce_per, ← getD_set_timer hn hper (w.heldBack n 2), ← hw1]
      rfl
    · rw [Window.inForce_cmp, ← getD_set_timer hn hcmp (w.heldBack n 4), ← hw1]
      rfl
  have hwaiting : (w.heldBack n off).isSome = true → w1.waiting n = true := fun hsome => by
    rw [Window.waiting, Bool.or_eq_true, ← hw1]
    obtain rfl | rfl := hoff
    · exact .inl ((congrArg Option.isSome (getD_set_timer hn hper _)).trans hsome)
    · exact .inr ((congrArg Option.isSome (getD_set_timer hn hcmp _)).trans hsome)
  refine ⟨wf_pend n hwf1, hvalue, hother, fun _ hw => ⟨?_, ?_⟩, fun _ hw => ?_⟩
  · rw [hforce, Window.heldBack, if_pos hw, Option.getD_some]
  · rw [testBit_pend n hwf1, hwaiting (by rw [Window.heldBack, if_pos hw]; rfl)]
  · rw [hforce, Window.heldBack, hw, if_neg (by decide), Option.getD_none]

theorem timerTakes {n off v : Nat} {w : Window} (hn : n < 8) (hoff : off = 0 ∨ off = 2 ∨ off = 4) (hwf : w.regs.wf = true)
    (hp : gtPaired w.regs n = false) (hper : w.forcePer.length = 8) (hcmp : w.forceCmp.length = 8) :
    TimerTakes n off (v % 2 ^ 32) w (w.setWide [gtBase n + off, gtBase n + off + 1] v) := by
  obtain rfl | hoff := hoff
  · exact timerTakes_count hn hwf
  · exact timerTakes_timed hn hoff hwf hp hper hcmp

/-! ### A POKE of one word of a 16-bit register -/

/-- A 16-bit register takes the word written, but for its RO and W1C bits (Tables 09.4, 09.7). -/
theorem rword_setSingle {m : Mem} (h : m.wf = true) {a v : Nat} (ha : 2 ≤ a) (hv : v < 65536) :
    let old := BitVec.ofNat 16 (rword m a)
    let new := BitVec.ofNat 16 v
    rword (setSingle a v m) a =
      if ∃ n, n < 8 ∧ a = scBase n + 4 then
        ((new &&& 0xE000#16) ||| (old &&& 0x1000#16) ||| (old &&& 0x0C00#16 &&& ~~~ new)).toNat
      else if ∃ n, n < 8 ∧ a = gtBase n + 9 then ((old &&& 0x8800#16) ||| (old &&& 0x7000#16 &&& ~~~ new)).toNat
      else if inRange 0x10 0x4F a then rword (setSingle a v m) a else v := by
  intro old new
  by_cases hsc : ∃ n, n < 8 ∧ a = scBase n + 4
  · rw [if_pos hsc]
    obtain ⟨n, hn, rfl⟩ := hsc
    exact rword_setSingle_sc h (inRange_iff.mpr (by unfold scBase; omega)) v
  by_cases hsta : ∃ n, n < 8 ∧ a = gtBase n + 9
  · rw [if_neg hsc, if_pos hsta]
    obtain ⟨n, hn, rfl⟩ := hsta
    exact rword_setSingle_sta h hn v
  rw [if_neg hsc, if_neg hsta]
  cases hr : inRange 0x10 0x4F a with
  | true => rfl
  | false =>
    rw [setSingle_plain (by omega) hr (fun n hn he => hsta ⟨n, hn, he⟩), rword_setRword_same h, Nat.mod_eq_of_lt hv]
    rfl

theorem writeCycle_poke_single {s : State} {o a v : Nat} {p : PortId} (h : s.win.writes = [.poke o p a [v]])
    (hw : wide s.win.regs a = []) (ha : 2 ≤ a) :
    s.writeCycle.win = { s.win with regs := setSingle a v s.win.regs, writes := [] } ∧
      (s.writeCycle.port p).wbuf = (s.port p).wbuf := by
  obtain ⟨hwin, -, hport⟩ := State.writeCycle_poke h
  rw [gstartOf_none ha, s.poked_one, pokeWord_single hw] at hwin
  rw [s.poked_one, pokeWord_single hw] at hport
  exact ⟨hwin, by rw [hport]⟩

/-! ### A POKE of a register of two words -/

/-- The registers that a write cycle gives a timer are those that it takes. -/
theorem writeCycle_takes {s t : State} {n off v : Nat} {w : Window} (h : TimerTakes n off v s.win w)
    (ht : t.win = { w with writes := [] }) :
    let m := s.win.regs
    let hd := gtBase n + off
    let waits := gtRun m n = true ∧ (rword m (gtBase n + 6)).testBit 13 = true
    rwords t.win.regs [hd, hd + 1] = v ∧ (∀ x, x ∉ [hd, hd + 1, gtBase n + 9] → rword t.win.regs x = rword m x) ∧
      (off ≠ 0 → waits → t.win.inForce n off = s.win.inForce n off ∧
        (rword t.win.regs (gtBase n + 9)).testBit 11 = true) ∧
      (off ≠ 0 → ¬ waits → t.win.inForce n off = v) := by
  rw [ht]
  exact ⟨h.value, h.other, fun h0 hw => h.waits h0 (Bool.and_eq_true_iff.mpr hw),
    fun h0 hw => h.takes h0 (Bool.eq_false_iff.mpr fun hp => hw (Bool.and_eq_true_iff.mp hp))⟩

theorem pokesLand (s : State) (o : Nat) (p : PortId) (a : Nat) (ws : List Nat) (h : s.win.writes = [.poke o p a ws])
    (hwf : s.win.regs.wf = true) (hv : ∀ v ∈ ws, v < 65536) {n off : Nat} (hn : n < 8)
    (hoff : off = 0 ∨ off = 2 ∨ off = 4)
    (hp : gtPaired s.win.regs n = false) (hper : s.win.forcePer.length = 8) (hcmp : s.win.forceCmp.length = 8) :
    let hd := gtBase n + off
    let buf := (s.port p).wbuf
    (∀ lo hi, a = hd → ws = [lo, hi] → ∃ w, TimerTakes n off (lo + 65536 * hi) s.win w ∧
      s.writeCycle.win = { w with writes := [] } ∧ (s.writeCycle.port p).wbuf = buf) ∧
    (∀ hi, a = hd + 1 → ws = [hi] → s.writeCycle.win = { s.win with writes := [] } ∧
      (s.writeCycle.port p).wbuf = (buf.filter fun x => x.1 != a) ++ [(a, hi)]) ∧
    (∀ lo, a = hd → ws = [lo] →
      let up := ((buf.find? fun x => x.1 == hd + 1).map (·.2)).getD (rword s.win.regs (hd + 1))
      ∃ w, TimerTakes n off (lo + 65536 * (up % 65536)) s.win w ∧ s.writeCycle.win = { w with writes := [] } ∧
        (s.writeCycle.port p).wbuf = buf.filter fun x => x.1 != hd + 1) := by
  intro hd buf
  obtain ⟨hwin, -, hport⟩ := State.writeCycle_poke h
  obtain ⟨hlow, hupper⟩ := wide_unpaired hn hp hoff
  have ha : ∀ x, hd ≤ x → 2 ≤ x := fun x hx => by simp only [hd, gtBase] at hx; omega
  refine ⟨fun lo hi he hws => ?_, fun hi he hws => ?_, fun lo he hws => ?_⟩
  · subst he hws
    have hvalue : (lo + 65536 * hi) % 2 ^ 32 = lo + 65536 * hi := by
      have := hv lo (by simp)
      have := hv hi (by simp)
      omega
    have htakes := timerTakes hn hoff hwf hp hper hcmp (v := lo + 65536 * hi)
    rw [hvalue] at htakes
    have hupper' := (wide_unpaired hn ((htakes.paired (by omega) n).trans hp) hoff).2
    have hpoked := s.poked_two p hd lo hi
    rw [pokeWord_both hlow, pokeWord_both_upper hupper'] at hpoked
    rw [hpoked] at hwin hport
    rw [gstartOf_none (ha _ (le_refl _))] at hwin
    exact ⟨_, htakes, hwin, by rw [hport]⟩
  · subst he hws
    have hpoked := s.poked_one p (hd + 1) hi
    rw [pokeWord_upper hupper] at hpoked
    rw [hpoked] at hwin hport
    rw [gstartOf_none (ha _ (by omega))] at hwin
    exact ⟨hwin, by rw [hport]⟩
  · subst he hws
    intro up
    have hvalue : (lo + 65536 * up) % 2 ^ 32 = lo + 65536 * (up % 65536) := by
      have := hv lo (by simp)
      omega
    have htakes := timerTakes hn hoff hwf hp hper hcmp (v := lo + 65536 * up)
    rw [hvalue] at htakes
    have hpoked := s.poked_one p hd lo
    rw [pokeWord_low hlow] at hpoked
    rw [hpoked] at hwin hport
    rw [gstartOf_none (ha _ (le_refl _))] at hwin
    exact ⟨_, htakes, hwin, by rw [hport]⟩

/-! ### Two writes of one register -/

theorem wide_psc (m : Mem) {n : Nat} (hn : n < 8) : wide m (gtBase n + 8) = [] := by
  rw [wide_gt m hn (o := 8) (by omega), if_neg (by omega)]

/-- PSC takes the word written. -/
theorem setSingle_psc {n : Nat} (hn : n < 8) (v : Nat) (m : Mem) :
    setSingle (gtBase n + 8) v m = setRword (gtBase n + 8) v m :=
  setSingle_plain (by unfold gtBase; omega) (Bool.eq_false_iff.mpr (mt inRange_iff.mp (by unfold gtBase; omega)))
    (fun k _ => by unfold gtBase; omega) v m

theorem landed_psc {n : Nat} (hn : n < 8) (s : State) (o v : Nat) (p : PortId) :
    (s.landed (.poke o p (gtBase n + 8) [v])).win = { s.win with regs := setRword (gtBase n + 8) v s.win.regs } := by
  have hpoked : s.poked p (gtBase n + 8) [v] = _ := pokeWord_single (wide_psc s.win.regs hn) v (s.port p).wbuf
  rw [setSingle_psc hn] at hpoked
  exact congrArg Prod.fst hpoked

theorem groupActs_psc (n time o v : Nat) (p : PortId) (w : Window) : w.groupActs time (.poke o p (gtBase n + 8) [v]) = w := by
  rw [Window.groupActs, gstartOf_none (by unfold gtBase; omega), Option.elim_none]

theorem rword_psc_two {n : Nat} (hn : n < 8) {s : State} (hwf : s.win.regs.wf = true) (o o' v v' : Nat) (p p' : PortId)
    (hsort : sortBy (fun x y => decide (x.order ≤ y.order)) s.win.writes =
      [.poke o p (gtBase n + 8) [v], .poke o' p' (gtBase n + 8) [v']]) (hv' : v' < 65536) :
    rword s.writeCycle.win.regs (gtBase n + 8) = v' := by
  rw [State.writeCycle_eq, hsort]
  simp only [List.foldl_cons, List.foldl_nil, landed_psc hn, groupActs_psc]
  rw [rword_setRword_same (wf_setRword hwf _ _), Nat.mod_eq_of_lt hv']

/-- Of two clauses the one admitted later lands last, whichever of them ran first. -/
theorem sortBy_two {o o' : Nat} (ho : o < o') (x y : WinWrite) (hx : x.order = o) (hy : y.order = o') :
    sortBy (fun x y => decide (x.order ≤ y.order)) [x, y] = [x, y] ∧
      sortBy (fun x y => decide (x.order ≤ y.order)) [y, x] = [x, y] := by
  have hxy : x.order ≤ y.order := by omega
  have hyx : ¬ y.order ≤ x.order := by omega
  simp [sortBy, insertBy, hxy, hyx]

/-! ### TIMER_CFG in the write cycle (R249) -/

/-- The registers that TIMER_CFG writes for GTn, CNT and PEND apart. -/
def cfgWritten (n ctl act psc per cmp : Nat) (m : Mem) : Mem :=
  let b := gtBase n
  setRwords [b + 4, b + 5] cmp (setRwords [b + 2, b + 3] per (setRword (b + 8) psc (setRword (b + 7) act
    (setRword (b + 6) ctl m))))

/-- The same with CNT where it is loaded. -/
def cfgRegs (n ctl act psc per cmp : Nat) (cnt : Option Nat) (m : Mem) : Mem :=
  cnt.elim (cfgWritten n ctl act psc per cmp m) fun c => setRwords [gtBase n, gtBase n + 1] c (cfgWritten n ctl act psc per cmp m)

theorem Window.cfg_timer {n : Nat} (hn : n < 8) (ctl act psc per cmp : Nat) (cnt : Option Nat) (w : Window) :
    w.cfg n ctl act psc per cmp cnt = Window.pend n { w with
      regs := cfgRegs n ctl act psc per cmp cnt w.regs
      forcePer := w.forcePer.set n none
      forceCmp := w.forceCmp.set n none } := by
  rw [Window.cfg, if_pos hn]
  cases cnt with
  | none => simp only [cfgRegs, cfgWritten, Option.elim_none]
  | some c => simp only [cfgRegs, cfgWritten, Option.elim_some]

theorem wf_cfgWritten (n ctl act psc per cmp : Nat) {m : Mem} (h : m.wf = true) :
    (cfgWritten n ctl act psc per cmp m).wf = true :=
  wf_setRwords _ _ (wf_setRwords _ _ (wf_setRword (wf_setRword (wf_setRword h _ _) _ _) _ _))

/-- No word but CTL, ACT, PSC, PER and CMP of the timer is written. -/
theorem cfgWritten_other (n ctl act psc per cmp : Nat) (m : Mem) {a : Nat} (h : a < gtBase n + 2 ∨ gtBase n + 8 < a) :
    rword (cfgWritten n ctl act psc per cmp m) a = rword m a := by
  rw [cfgWritten, rword_setRwords_other _ _ (by simp; omega), rword_setRwords_other _ _ (by simp; omega),
    rword_setRword_other _ _ (by omega), rword_setRword_other _ _ (by omega), rword_setRword_other _ _ (by omega)]

theorem cfgWritten_words (n ctl act psc per cmp : Nat) {m : Mem} (h : m.wf = true) :
    let t := cfgWritten n ctl act psc per cmp m
    rword t (gtBase n + 6) = ctl % 65536 ∧ rword t (gtBase n + 7) = act % 65536 ∧ rword t (gtBase n + 8) = psc % 65536 ∧
      rwords t [gtBase n + 2, gtBase n + 3] = per % 2 ^ 32 ∧ rwords t [gtBase n + 4, gtBase n + 5] = cmp % 2 ^ 32 := by
  have h6 := wf_setRword h (gtBase n + 6) ctl
  have h7 := wf_setRword h6 (gtBase n + 7) act
  have h8 := wf_setRword h7 (gtBase n + 8) psc
  have hper := wf_setRwords [gtBase n + 2, gtBase n + 3] per h8
  intro t
  have htail : ∀ r, 6 ≤ r → rword t (gtBase n + r) = rword (setRword (gtBase n + 8) psc (setRword (gtBase n + 7) act
      (setRword (gtBase n + 6) ctl m))) (gtBase n + r) := fun r hr =>
    (rword_setRwords_other _ _ (by simp; omega)).trans (rword_setRwords_other _ _ (by simp; omega))
  refine ⟨?_, ?_, ?_, ?_, ?_⟩
  · rw [htail 6 (by omega), rword_setRword_other _ _ (by omega), rword_setRword_other _ _ (by omega), rword_setRword_same h]
  · rw [htail 7 (by omega), rword_setRword_other _ _ (by omega), rword_setRword_same h6]
  · rw [htail 8 (by omega), rword_setRword_same h7]
  · exact (rwords_setRwords_other _ _ (by simp)).trans (rwords_setRwords_pair (by omega) per h8)
  · exact rwords_setRwords_pair (by omega) cmp hper

theorem cfgRegs_none (n ctl act psc per cmp : Nat) (m : Mem) :
    cfgRegs n ctl act psc per cmp none m = cfgWritten n ctl act psc per cmp m := rfl

theorem cfgRegs_some (n ctl act psc per cmp c : Nat) (m : Mem) : cfgRegs n ctl act psc per cmp (some c) m =
    setRwords [gtBase n, gtBase n + 1] c (cfgWritten n ctl act psc per cmp m) := by
  rw [cfgRegs, Option.elim_some]

/-- CNT of the timer, loaded or not. -/
theorem cfgRegs_count (n ctl act psc per cmp : Nat) (cnt : Option Nat) {m : Mem} (h : m.wf = true) :
    rwords (cfgRegs n ctl act psc per cmp cnt m) [gtBase n, gtBase n + 1] =
      cnt.elim (rwords m [gtBase n, gtBase n + 1]) (· % 2 ^ 32) := by
  cases cnt with
  | none =>
    rw [cfgRegs_none, Option.elim_none]
    exact rwords_congr fun a ha => cfgWritten_other n ctl act psc per cmp m (by simp at ha; omega)
  | some c =>
    rw [cfgRegs_some, Option.elim_some, rwords_setRwords_pair (Nat.ne_add_one _) c (wf_cfgWritten n ctl act psc per cmp h)]

theorem cfgRegs_other (n ctl act psc per cmp : Nat) (cnt : Option Nat) (m : Mem) {a : Nat} (h : a ∉ [gtBase n, gtBase n + 1]) :
    rword (cfgRegs n ctl act psc per cmp cnt m) a = rword (cfgWritten n ctl act psc per cmp m) a := by
  cases cnt with
  | none => rw [cfgRegs_none]
  | some c => rw [cfgRegs_some, rword_setRwords_other _ _ h]

theorem wf_cfgRegs (n ctl act psc per cmp : Nat) (cnt : Option Nat) {m : Mem} (h : m.wf = true) :
    (cfgRegs n ctl act psc per cmp cnt m).wf = true := by
  have hwf := wf_cfgWritten n ctl act psc per cmp h
  cases cnt with
  | none => rwa [cfgRegs_none]
  | some c =>
    rw [cfgRegs_some]
    exact wf_setRwords _ _ hwf

/-- A timer that is not chained, set by TIMER_CFG to be no upper half, is not chained after it. -/
theorem gtPaired_cfgRegs {n ctl : Nat} (act psc per cmp : Nat) (cnt : Option Nat) {m : Mem} (h : m.wf = true)
    (hp : gtPaired m n = false) (hc : ctl.testBit 14 = false) : gtPaired (cfgRegs n ctl act psc per cmp cnt m) n = false := by
  rw [gtPaired, cfgRegs_other _ _ _ _ _ _ _ _ (by simp [gtBase]; omega)]
  by_cases hodd : n / 2 * 2 + 1 = n
  · rw [hodd, (cfgWritten_words n ctl act psc per cmp h).1, show (65536 : Nat) = 2 ^ 16 from rfl]
    exact (Nat.testBit_mod_two_pow ctl 16 14).trans (by rw [hc, Bool.and_false])
  · rw [cfgWritten_other _ _ _ _ _ _ _ (by unfold gtBase; omega)]
    exact hp

theorem timerCfgLands {n ctl act psc per cmp : Nat} (cnt : Option Nat) {w : Window} (hn : n < 8) (hwf : w.regs.wf = true)
    (hper : w.forcePer.length = 8) (hcmp : w.forceCmp.length = 8) (hp : gtPaired w.regs n = false) (hc : ctl.testBit 14 = false) :
    let t := w.cfg n ctl act psc per cmp cnt
    rword t.regs (gtBase n + 6) = ctl % 65536 ∧ rword t.regs (gtBase n + 7) = act % 65536 ∧
      rword t.regs (gtBase n + 8) = psc % 65536 ∧ t.inForce n 2 = per % 2 ^ 32 ∧ t.inForce n 4 = cmp % 2 ^ 32 ∧
      (rword t.regs (gtBase n + 9)).testBit 11 = false ∧
      rwords t.regs [gtBase n, gtBase n + 1] = cnt.elim (rwords w.regs [gtBase n, gtBase n + 1]) (· % 2 ^ 32) := by
  rw [Window.cfg_timer hn]
  have hwf' := wf_cfgRegs n ctl act psc per cmp cnt hwf
  obtain ⟨hctl, hact, hpsc, hperv, hcmpv⟩ := cfgWritten_words n ctl act psc per cmp hwf
  generalize hw : ({ w with
      regs := cfgRegs n ctl act psc per cmp cnt w.regs
      forcePer := w.forcePer.set n none
      forceCmp := w.forceCmp.set n none } : Window) = w1
  have hregs : w1.regs = cfgRegs n ctl act psc per cmp cnt w.regs := hw ▸ rfl
  have hword : ∀ r, 2 ≤ r → r < 9 → rword (w1.pend n).regs (gtBase n + r) =
      rword (cfgWritten n ctl act psc per cmp w.regs) (gtBase n + r) := fun r hr hr' => by
    rw [pend_other n w1 (by omega), hregs, cfgRegs_other _ _ _ _ _ _ _ _ (by simp; omega)]
  have hpaired : gtPaired (w1.pend n).regs n = false := by
    rw [gtPaired_congr (m := w1.regs) (fun k => by rw [pend_other n w1 (by unfold gtBase; omega)]), hregs]
    exact gtPaired_cfgRegs act psc per cmp cnt hwf hp hc
  have hnone : w1.forcePer.getD n none = none ∧ w1.forceCmp.getD n none = none :=
    hw ▸ ⟨getD_set_timer hn hper none, getD_set_timer hn hcmp none⟩
  refine ⟨?_, ?_, ?_, ?_, ?_, ?_, ?_⟩
  · rw [hword 6 (by omega) (by omega), hctl]
  · rw [hword 7 (by omega) (by omega), hact]
  · rw [hword 8 (by omega) (by omega), hpsc]
  · rw [Window.inForce_per, show (w1.pend n).forcePer = w1.forcePer from rfl, hnone.1, Option.getD_none,
      gtWords_unpaired hpaired, ← hperv]
    exact rwords_congr fun a ha => by
      obtain rfl | rfl : a = gtBase n + 2 ∨ a = gtBase n + 3 := by simpa using ha
      · exact hword 2 (by omega) (by omega)
      · exact hword 3 (by omega) (by omega)
  · rw [Window.inForce_cmp, show (w1.pend n).forceCmp = w1.forceCmp from rfl, hnone.2, Option.getD_none,
      gtWords_unpaired hpaired, ← hcmpv]
    exact rwords_congr fun a ha => by
      obtain rfl | rfl : a = gtBase n + 4 ∨ a = gtBase n + 5 := by simpa using ha
      · exact hword 4 (by omega) (by omega)
      · exact hword 5 (by omega) (by omega)
  · rw [testBit_pend n (hregs ▸ hwf'), Window.waiting, hnone.1, hnone.2]
    rfl
  · rw [← cfgRegs_count n ctl act psc per cmp cnt hwf, ← hregs]
    exact rwords_congr fun a ha => pend_other n w1 (by simp at ha; omega)

theorem windowWritesLand : Claim.WindowWritesLand := by
  refine ⟨?_, ?_, ?_⟩
  · intro s o p a ws h hwf hv t m old same
    obtain ⟨hwin, hother, hport⟩ := State.writeCycle_poke h
    refine ⟨hother, ?_, by rw [show t.win = _ from hwin], ?_, ?_⟩
    · rw [show t.port p = _ from hport]
    · intro v hws hw ha
      subst hws
      obtain ⟨hone, hbuf⟩ := writeCycle_poke_single h hw ha
      have hregs : t.win.regs = setSingle a v m := congrArg Window.regs hone
      refine ⟨hbuf, fun x hx => ?_, ?_⟩
      · rw [hregs, rword_setSingle_other _ _ (by simpa using hx)]
      · rw [hregs]
        exact rword_setSingle hwf ha (hv v (by simp))
    · intro n off hn hoff hp hper hcmp hd waits takes
      obtain ⟨hboth, hup, hlow⟩ := pokesLand s o p a ws h hwf hv hn hoff hp hper hcmp
      refine ⟨fun lo hi he hws => ?_, fun hi he hws => hup hi he hws, fun lo he hws => ?_⟩
      · obtain ⟨w, htakes, hland, hbuf⟩ := hboth lo hi he hws
        exact ⟨writeCycle_takes htakes hland, hbuf⟩
      · obtain ⟨w, htakes, hland, hbuf⟩ := hlow lo he hws
        exact ⟨writeCycle_takes htakes hland, hbuf⟩
  · intro s n o o' v v' p p' hn ho hv hv' hwf hw
    obtain ⟨hsort, hsort'⟩ := sortBy_two ho (.poke o p (gtBase n + 8) [v]) (.poke o' p' (gtBase n + 8) [v']) rfl rfl
    refine rword_psc_two hn hwf o o' v v' p p' ?_ hv'
    obtain hw | hw := hw
    · rw [hw, hsort]
    · rw [hw, hsort']
  · intro s n o ctl act psc per cmp cnt hn hwf hper hcmp hctl hact hpsc hperv hcmpv hp hc hw w
    have hwin : w = { s.win.cfg n ctl act psc per cmp cnt with writes := [] } := by
      rw [show w = s.writeCycle.win from rfl, State.writeCycle_one hw]
      rfl
    have hlands := timerCfgLands (act := act) (psc := psc) (per := per) (cmp := cmp) cnt hn hwf hper hcmp hp hc
    rw [Nat.mod_eq_of_lt hctl, Nat.mod_eq_of_lt hact, Nat.mod_eq_of_lt hpsc, Nat.mod_eq_of_lt hperv,
      Nat.mod_eq_of_lt hcmpv] at hlands
    obtain ⟨h6, h7, h8, h2, h4, h11, hcnt⟩ := hlands
    rw [hwin]
    refine ⟨h6, h7, h8, h2, h4, h11, fun c hc hlt => ?_, fun hc => ?_⟩
    · subst hc
      exact hcnt.trans (Nat.mod_eq_of_lt hlt)
    · subst hc
      exact hcnt

end Sys2Proof.Machine
end

section
/-! PROOF. GSTART (R235, R243; O34). -/

namespace Sys2Proof.Machine

open Sys2Proof

/-! ### GSTART (R243) -/

/-- What GSTART does to one timer. -/
def Window.groupStep (v cycle : Nat) (w : Window) (n : Nat) : Window :=
  if bit v (8 + n) then { w with regs := gtStop n w.regs }
  else if bit v 0 && bit (rword w.regs (gtBase n + 6)) 15 && !gtUpper w.regs n then w.start n cycle
  else w

theorem gstart_eq (v cycle : Nat) (w : Window) : gstart v cycle w = (List.range 8).foldl (Window.groupStep v cycle) w := rfl

/-- It stops, starts or stands. -/
theorem Window.groupStep_cases (v cycle : Nat) (w : Window) (n : Nat) :
    w.groupStep v cycle n = { w with regs := gtStop n w.regs } ∨ w.groupStep v cycle n = w.start n cycle ∨
      w.groupStep v cycle n = w := by
  unfold Window.groupStep
  split_ifs
  · exact .inl rfl
  · exact .inr (.inl rfl)
  · exact .inr (.inr rfl)

/-- The window keeps its form and the chaining of its timers. -/
structure KeepsForm (w t : Window) : Prop where
  wf : t.regs.wf = true
  counted : t.counted.length = 8
  chain : ∀ k, (rword t.regs (gtBase k + 6)).testBit 14 = (rword w.regs (gtBase k + 6)).testBit 14

/-- GTn stands as it is. -/
structure SameTimer (n : Nat) (w t : Window) : Prop where
  sta : rword t.regs (gtBase n + 9) = rword w.regs (gtBase n + 9)
  ctl : rword t.regs (gtBase n + 6) = rword w.regs (gtBase n + 6)
  counted : t.counted.getD n 0 = w.counted.getD n 0

theorem gtStop_other (n : Nat) (m : Mem) {a : Nat} (h : a ≠ gtBase n + 9) : rword (gtStop n m) a = rword m a :=
  rword_mark_other _ _ _ h

theorem gtStart_other (n : Nat) (m : Mem) {a : Nat} (h6 : a ≠ gtBase n + 6) (h9 : a ≠ gtBase n + 9) :
    rword (gtStart n m) a = rword m a := by
  rw [gtStart, rword_mark_other _ _ _ h6, rword_mark_other _ _ _ h9]

theorem wf_gtStart (n : Nat) {m : Mem} (h : m.wf = true) : (gtStart n m).wf = true := wf_mark (wf_mark h _ _ _) _ _ _

/-- A start clears ARM and no other bit of CTL. -/
theorem gtStart_ctl (n : Nat) {m : Mem} (h : m.wf = true) {i : Nat} (hi : i < 16) :
    (rword (gtStart n m) (gtBase n + 6)).testBit i = ((rword m (gtBase n + 6)).testBit i && !(i == 15)) := by
  rw [gtStart, testBit_mark_clear (wf_mark h _ _ _) _ (off := 0x8000) (k := 15) rfl hi, rword_mark_other _ _ _ (by omega)]

variable {v cycle : Nat} {w t u : Window}

theorem KeepsForm.trans (h : KeepsForm w t) (h' : KeepsForm t u) : KeepsForm w u :=
  ⟨h'.wf, h'.counted, fun k => (h'.chain k).trans (h.chain k)⟩

theorem SameTimer.trans {n : Nat} (h : SameTimer n w t) (h' : SameTimer n t u) : SameTimer n w u :=
  ⟨h'.sta.trans h.sta, h'.ctl.trans h.ctl, h'.counted.trans h.counted⟩

theorem keepsForm_groupStep (hwf : w.regs.wf = true) (hlen : w.counted.length = 8) (k : Nat) :
    KeepsForm w (w.groupStep v cycle k) := by
  obtain hs | hs | hs := w.groupStep_cases v cycle k <;> rw [hs]
  · exact ⟨wf_mark hwf _ _ _, hlen, fun j => by rw [gtStop_other _ _ (by unfold gtBase; omega)]⟩
  · refine ⟨wf_gtStart k hwf, ?_, fun j => ?_⟩
    · unfold Window.start
      split
      · exact hlen
      · exact (List.length_set ..).trans hlen
    · by_cases hj : j = k
      · subst hj
        exact (gtStart_ctl j hwf (by omega)).trans (by simp)
      · exact congrArg (Nat.testBit · 14) (gtStart_other k w.regs (by unfold gtBase; omega) (by unfold gtBase; omega))
  · exact ⟨hwf, hlen, fun _ => rfl⟩

/-- GSTART acts on each timer by itself. -/
theorem sameTimer_groupStep {n k : Nat} (h : k ≠ n) : SameTimer n w (w.groupStep v cycle k) := by
  obtain hs | hs | hs := w.groupStep_cases v cycle k <;> rw [hs]
  · exact ⟨gtStop_other _ _ (by unfold gtBase; omega), gtStop_other _ _ (by unfold gtBase; omega), rfl⟩
  · refine ⟨gtStart_other _ _ (by unfold gtBase; omega) (by unfold gtBase; omega),
      gtStart_other _ _ (by unfold gtBase; omega) (by unfold gtBase; omega), ?_⟩
    unfold Window.start
    split
    · rfl
    · simp [List.getElem?_set_ne h]
  · exact ⟨rfl, rfl, rfl⟩

theorem keepsForm_foldl (hwf : w.regs.wf = true) (hlen : w.counted.length = 8) (l : List Nat) :
    KeepsForm w (l.foldl (Window.groupStep v cycle) w) := by
  induction l generalizing w with
  | nil => exact ⟨hwf, hlen, fun _ => rfl⟩
  | cons k l ih =>
    have h := keepsForm_groupStep (v := v) (cycle := cycle) hwf hlen k
    exact h.trans (ih h.wf h.counted)

theorem sameTimer_foldl {n : Nat} {l : List Nat} (h : n ∉ l) : SameTimer n w (l.foldl (Window.groupStep v cycle) w) := by
  induction l generalizing w with
  | nil => exact ⟨rfl, rfl, rfl⟩
  | cons k l ih =>
    exact (sameTimer_groupStep (List.ne_of_not_mem_cons h).symm).trans (ih (List.not_mem_of_not_mem_cons h))

/-- What GSTART makes of GTn is what its one step makes of it. -/
theorem gstart_timer {n : Nat} (hn : n < 8) (hwf : w.regs.wf = true) (hlen : w.counted.length = 8) :
    ∃ t, KeepsForm w t ∧ SameTimer n w t ∧ SameTimer n (t.groupStep v cycle n) (gstart v cycle w) := by
  obtain ⟨before, later, hsplit⟩ := List.append_of_mem (List.mem_range.mpr hn)
  obtain ⟨-, hrest, hapart⟩ := List.nodup_append.mp (hsplit ▸ List.nodup_range (n := 8))
  have hbefore : n ∉ before := fun hm => hapart n hm n List.mem_cons_self rfl
  have hlater : n ∉ later := (List.nodup_cons.mp hrest).1
  refine ⟨before.foldl (Window.groupStep v cycle) w, keepsForm_foldl hwf hlen before, sameTimer_foldl hbefore, ?_⟩
  rw [gstart_eq, hsplit, List.foldl_append, List.foldl_cons]
  exact sameTimer_foldl hlater

theorem groupStep_other {k a : Nat} (h6 : a ≠ gtBase k + 6) (h9 : a ≠ gtBase k + 9) :
    rword (w.groupStep v cycle k).regs a = rword w.regs a := by
  obtain hs | hs | hs := w.groupStep_cases v cycle k
  · rw [hs, gtStop_other _ _ h9]
  · rw [hs]
    exact gtStart_other _ _ h6 h9
  · rw [hs]

/-- GSTART writes CTL and STA of the timers alone. -/
theorem gstart_other {a : Nat} (h : ∀ k, k < 8 → a ≠ gtBase k + 6 ∧ a ≠ gtBase k + 9) :
    rword (gstart v cycle w).regs a = rword w.regs a := by
  have hfold : ∀ l : List Nat, (∀ k ∈ l, k < 8) → ∀ w : Window,
      rword (l.foldl (Window.groupStep v cycle) w).regs a = rword w.regs a := fun l => by
    induction l with
    | nil => exact fun _ _ => rfl
    | cons k l ih =>
      intro hl w
      obtain ⟨h6, h9⟩ := h k (hl k List.mem_cons_self)
      rw [List.foldl_cons, ih (fun j hj => hl j (List.mem_cons_of_mem k hj)), groupStep_other h6 h9]
  exact hfold _ (fun k hk => List.mem_range.mp hk) w

/-- A POKE of GSTART changes no register by itself; it acts after the writes of the cycle. -/
theorem writeCycle_gstart {s : State} {o v : Nat} {p : PortId} (h : s.win.writes = [.poke o p 1 [v]]) :
    s.writeCycle.win = { gstart v s.writeTime s.win with writes := [] } := by
  have hwide : wide s.win.regs 1 = [] := rfl
  have hpoked : s.poked p 1 [v] = (s.win, (s.port p).wbuf) := (s.poked_one p 1 v).trans (pokeWord_single hwide v _)
  obtain ⟨hwin, -⟩ := State.writeCycle_poke h
  rw [hpoked] at hwin
  exact hwin

theorem groupStartsAndStops : Claim.GroupStartsAndStops := by
  intro s o v n p h hwf hn hlen m t stops starts
  have hwin : t = _ := writeCycle_gstart h
  obtain ⟨w, hform, hsame, hdone⟩ := gstart_timer (v := v) (cycle := s.writeTime) hn hwf hlen
  rw [hwin]
  have hupper : gtUpper w.regs n = gtUpper m n := gtUpper_congr hform.chain n
  refine ⟨fun hs => ?_, fun hs => ?_, fun hns hna => ?_, fun a ha => gstart_other ha⟩
  · have hstep : w.groupStep v s.writeTime n = { w with regs := gtStop n w.regs } := if_pos hs
    rw [hstep] at hdone
    refine ⟨?_, hdone.counted.trans hsame.counted, hdone.ctl.trans ((gtStop_other _ _ (by omega)).trans hsame.ctl)⟩
    exact (congrArg (Nat.testBit · 15) hdone.sta).trans (gtRun_gtStop hform.wf n)
  · obtain ⟨hns, h0, harm, hup⟩ := hs
    have hstep : w.groupStep v s.writeTime n = w.start n s.writeTime := by
      rw [Window.groupStep, if_neg hns, if_pos]
      rw [hupper, hsame.ctl, hup, Bool.not_false, Bool.and_true, Bool.and_eq_true]
      exact ⟨h0, harm⟩
    rw [hstep] at hdone
    have hrun : gtRun w.regs n = gtRun m n := congrArg (Nat.testBit · 15) hsame.sta
    refine ⟨(congrArg (Nat.testBit · 15) hdone.sta).trans (gtRun_gtStart hform.wf n),
      (congrArg (Nat.testBit · 15) hdone.ctl).trans ((gtStart_ctl n hform.wf (by omega)).trans (by simp)), ?_⟩
    refine hdone.counted.trans ?_
    simp only [Window.start, hrun]
    cases gtRun m n with
    | true => exact hsame.counted
    | false => simp [hform.counted, hn]
  · have hstep : w.groupStep v s.writeTime n = w := by
      rw [Window.groupStep, if_neg hns, if_neg]
      rw [hupper, hsame.ctl]
      intro hgo
      simp only [Bool.and_eq_true, Bool.not_eq_true'] at hgo
      exact hna ⟨hns, hgo.1.1, hgo.1.2, hgo.2⟩
    rw [hstep] at hdone
    exact ⟨hdone.sta.trans hsame.sta, hdone.ctl.trans hsame.ctl, hdone.counted.trans hsame.counted⟩

/-- Settles O34: a PEEK is a fold that keeps what it has read and loaded; a POKE lands word by word, of which only the lowest of a
register, or all of it, reach the register; GSTART acts on each timer by itself. -/
theorem windowReadsAndWritesWait : Obligations.WindowReadsAndWritesWait :=
  ⟨peekReadsTheSnapshot, snapshotsShowTheWindow, timerWritesWait, windowWritesLand, groupStartsAndStops⟩

end Sys2Proof.Machine
end
